-- ==== Sys2Proof/Word.lean ====
section
/-! DEFINITION. The word type of the part: bytes. Everything wider is built from bytes or is a number. -/

namespace Sys2Proof

/-- A byte on a serial line, of a FIFO, of a message body (R178, R180). -/
abbrev Byte := BitVec 8

end Sys2Proof
end

