-- ==== Sys2Proof/Syntax.lean ====
section
/-! DEFINITION. The commands of the part: one constructor for each row of spec/opcode_table.json. -/

namespace Sys2Proof

/-- The three ports (00_scope.md, Stations and links). -/
inductive Port where
  | a | b | c
deriving DecidableEq, Repr

/-- Where a request message comes from: a port, or the broadcast address on port C (R179, R188). -/
inductive Source where
  | a | b | c | cBroadcast
deriving DecidableEq, Repr

/-- Direction of film motion (R22). -/
inductive Dir where
  | forward | reverse
deriving DecidableEq, Repr

/-- The two tension arms (00_scope.md, Dedicated lines). -/
inductive Arm where
  | arm1 | arm2
deriving DecidableEq, Repr

/-- What a request row carries: its source, its TAG and its message body (R180, R209). -/
structure Request where
  source : Source
  tag : Byte
  body : List Byte
deriving DecidableEq, Repr

/-- What is read at an encoder count beside its direction: the levels of both mark tracks, the measured speed in
counts/s (R46, R22) and the LEADER line (R16). -/
structure Sample where
  track0 : Byte
  track1 : Byte
  speed : Nat
  leader : Bool
deriving DecidableEq, Repr

/-- The commands and events of spec/opcode_table.json. A CORRECT row carries the operands AFTER the form byte of R212. -/
inductive Instr where
  | resetPinHeld
  | fullReset (straps : BitVec 7)
  | load (r : Request)
  | unload (r : Request)
  | present (r : Request)
  | run (r : Request)
  | jog (r : Request)
  | barrier (r : Request)
  | cancel (r : Request)
  | cancelAll (r : Request)
  | take (r : Request)
  | release (r : Request)
  | watch (r : Request)
  | expose (r : Request)
  | gateStatus (r : Request)
  | halt (r : Request)
  | resume (r : Request)
  | clearFault (r : Request)
  | correctMerge (r : Request)
  | correctSplit (r : Request)
  | correctMove (r : Request)
  | correctClearTaken (r : Request)
  | readIndex (r : Request)
  | indexStatus (r : Request)
  | focusLock (r : Request)
  | focusUnlock (r : Request)
  | focusFree (r : Request)
  | focusSet (r : Request)
  | focusRead (r : Request)
  | configureLink (r : Request)
  | linkStatus (r : Request)
  | resetLink (r : Request)
  | setNotices (r : Request)
  | readEvents (r : Request)
  | clearEvents (r : Request)
  | ackAttn (r : Request)
  | setStation (r : Request)
  | unknownKind (kind : BitVec 7) (r : Request)
  | receiveByte (p : Port) (byte : Byte)
  | stopBitAtSpace (p : Port)
  | lineBreak (p : Port)
  | byteTimeout (p : Port)
  | resyncEnd (p : Port)
  | outboxMessageMove (p : Port)
  | transmitCharacter (p : Port)
  | ctsChange (p : Port) (active : Bool)
  | tensionArmReading (arm : Arm) (reading : Byte)
  | threadingSuccess (track0 : Byte) (track1 : Byte)
  | threadingTimeout
  | retensionSuccess
  | retensionFail
  | tensionPersistenceExpiry
  | stallTimerExpiry
  | leaderTimerExpiry
  | encoderCount (d : Dir) (sample : Sample)
  | leaderFall
  | endRising
  | spliceRising
  | travelLegRest
  | creepRest
  | stopRampRest
  | boundRest
  | settleTimerExpiry
  | settleLimitExpiry
  | parkTimerExpiry
  | wakeTimerExpiry
  | lensMoveComplete
  | lensHomingComplete
  | focusLineArrival (late : Bool) (line : List (BitVec 10))
  | focusSampleTimeout
  | holdTimerExpiry
  | expdoneRising
  | exposureTimerExpiry
  | lineReturnsToMark (p : Port)
deriving DecidableEq, Repr

/-- The request a command carries, for the rows that are requests. -/
def Instr.request? : Instr → Option Request
  | .load r | .unload r | .present r | .run r | .jog r | .barrier r | .cancel r | .cancelAll r | .take r | .release r
  | .watch r | .expose r | .gateStatus r | .halt r | .resume r | .clearFault r | .correctMerge r | .correctSplit r
  | .correctMove r | .correctClearTaken r | .readIndex r | .indexStatus r | .focusLock r | .focusUnlock r | .focusFree r
  | .focusSet r | .focusRead r | .configureLink r | .linkStatus r | .resetLink r | .setNotices r | .readEvents r
  | .clearEvents r | .ackAttn r | .setStation r | .unknownKind _ r => some r
  | .resetPinHeld | .fullReset _ | .receiveByte _ _ | .stopBitAtSpace _ | .lineBreak _ | .byteTimeout _ | .resyncEnd _
  | .outboxMessageMove _ | .transmitCharacter _ | .ctsChange _ _ | .tensionArmReading _ _ | .threadingSuccess _ _
  | .threadingTimeout | .retensionSuccess | .retensionFail | .tensionPersistenceExpiry | .stallTimerExpiry
  | .leaderTimerExpiry | .encoderCount _ _ | .leaderFall | .endRising | .spliceRising | .travelLegRest | .creepRest
  | .stopRampRest | .boundRest | .settleTimerExpiry | .settleLimitExpiry | .parkTimerExpiry | .wakeTimerExpiry
  | .lensMoveComplete | .lensHomingComplete | .focusLineArrival _ _ | .focusSampleTimeout | .holdTimerExpiry
  | .expdoneRising | .exposureTimerExpiry | .lineReturnsToMark _ => none

end Sys2Proof
end

