-- ==== Sys2Proof/Decode.lean ====
section
/-! DEFINITION. The part has no instruction words: spec/opcode_table.json gives bits to none of its rows. The bytes of
its request messages are framed and decoded by Machine/Link.lean and Machine/Operands.lean. -/

namespace Sys2Proof

/-- The command that a word spells by the table's bits: none, because no row of the table has bits. -/
def decodeTableWord (_nbits _w : Nat) : Option Instr := none

end Sys2Proof
end

