-- ==== Sys2Proof/Config.lean ====
section
/-! DEFINITION. The constants the spec fixes for the part, and its one free value. -/

namespace Sys2Proof.Config

/-- The highest film position (00_scope.md, Position). -/
def maxPosition : Nat := 4194303
/-- The highest frame number (00_scope.md, Frame number). -/
def maxFrame : Nat := 16383
/-- The most entries the frame index holds (R51). -/
def maxEntries : Nat := 16384
/-- Approach margin M (R2). -/
def approachMargin : Nat := 40
/-- CREEP speed in counts/s (R2). -/
def creepSpeed : Nat := 100
/-- SHUTTLE speed in counts/s (R2). -/
def shuttleSpeed : Nat := 80000
/-- Receive and transmit FIFO size in bytes (R178). -/
def fifoBytes : Nat := 256
/-- Outbox places of a port (R189). -/
def outboxPlaces : Nat := 24
/-- Request records in the table (R114). -/
def maxRecords : Nat := 32
/-- Request records of one port (R114). -/
def maxPortRecords : Nat := 16
/-- The QUEUE-ALMOST-FULL level (R118). -/
def almostFull : Nat := 28
/-- Focus table lines that may be locked (R93, R104). -/
def maxLocked : Nat := 12
/-- Body bytes of one frame (R180). -/
def frameBody : Nat := 57
/-- The most body bytes of one message, four frames (R181). -/
def messageBody : Nat := 228
/-- The broadcast address (R179). -/
def broadcastAddress : BitVec 7 := 127

/-- Threading timer, ms (R9, R39). -/
def threadingMs : Nat := 5000
/-- In-window timer, ms (R9, R39). -/
def inWindowMs : Nat := 100
/-- Tension persistence timer, ms (R35). -/
def persistenceMs : Nat := 50
/-- Stall timer, ms (R36). -/
def stallMs : Nat := 200
/-- Leader timer, ms (R16). -/
def leaderMs : Nat := 5000
/-- Settle timer, ms (R27). -/
def settleMs : Nat := 20
/-- Settle limit, ms (R28). -/
def settleLimitMs : Nat := 500
/-- Exposure timer, ms (R154). -/
def exposureMs : Nat := 200
/-- Focus sample limit, ms (R91). -/
def sampleMs : Nat := 100
/-- Byte timer and RESYNC quiet time: more than 5 ms (R183, R184). -/
def byteMs : Nat := 6
/-- Film-break arm reading (R35). -/
def filmBreak : Nat := 16
/-- Default park delay in seconds (R43). -/
def parkDelay : Nat := 120
/-- Default wake delay in ms (R43). -/
def wakeDelay : Nat := 300

/-- FREE VALUE: how far along its way the lens stands while the stage is MOVING. R90 says only that the lens position
follows each quarter-step, and gives the stepper no speed. Arguments: the start, the target, the number of the reading
(State.freeCount). No body, so that no proof can see it (notes/assumptions/9.md). -/
opaque lensInFlight : Nat → Nat → Nat → Nat

end Sys2Proof.Config
end

