-- ==== Sys2Proof/Machine/State.lean ====
section
/-! DEFINITION. The state of the part, block by block, as plain data, and the state after a full reset. -/

namespace Sys2Proof.Machine

/-! ### Containers -/

/-- One copy for each port. -/
structure PerPort (α : Type) where
  a : α
  b : α
  c : α
deriving DecidableEq, Repr

/-- The twelve event sources, numbered 0 to 11 in this order (R197, R198). -/
inductive EventSource where
  | fault | halted | unverified | presented | lapsed | rollState | slip | focusDefaulted | indexClosed | indexGrown
  | queueAlmostFull | linkError
deriving DecidableEq, Repr

/-- One copy for each event source (R198). -/
structure PerSource (α : Type) where
  fault : α
  halted : α
  unverified : α
  presented : α
  lapsed : α
  rollState : α
  slip : α
  focusDefaulted : α
  indexClosed : α
  indexGrown : α
  queueAlmostFull : α
  linkError : α
deriving DecidableEq, Repr

/-! ### LNK: ports and links (R178 to R195, R213) -/

/-- RDY mode (R178, R187). -/
inductive RdyMode where
  | auto | forcedAsserted | forcedDeasserted
deriving DecidableEq, Repr

/-- Causes of a link error (R183 to R186), coded 0 to 4 in this order (R198). -/
inductive LinkCause where
  | parity | check | timeout | frame | overrun
deriving DecidableEq, Repr

/-- The latched link flags (R178, R194). -/
structure LinkFlags where
  parity : Bool
  check : Bool
  timeout : Bool
  frame : Bool
  overrun : Bool
  noticesMissed : Bool
deriving DecidableEq, Repr

/-- The frame the receiver is in (R182, R183). -/
structure RxFrame where
  /-- stored, or counted only -/
  stored : Bool
  /-- the address byte carried 127 on port C -/
  broadcast : Bool
  /-- begun in AWAIT-NEXT -/
  continuing : Bool
  /-- bytes of the frame that have arrived -/
  seen : Nat
  /-- the count of LEN, 0 until LEN has arrived -/
  len : Nat
  /-- the bytes of a stored frame, as seen on the line -/
  bytes : List Byte
  /-- how many of them are in the receive FIFO -/
  inFifo : Nat
  /-- a byte was lost (R185) -/
  overrun : Bool
deriving DecidableEq, Repr

/-- Receiver state (R182). -/
inductive RxState where
  | idle
  | inFrame (f : RxFrame)
  | awaitNext
  | resync
deriving DecidableEq, Repr

/-- The message in progress between two of its frames (R182, R183). -/
structure Partial where
  broadcast : Bool
  tag : Byte
  kind : Byte
  body : List Byte
  frames : Nat
  inFifo : Nat
deriving DecidableEq, Repr

/-- A complete message of the receive FIFO, with the bytes it holds there (R183, R188). -/
structure InMsg where
  broadcast : Bool
  tag : Byte
  kind : Byte
  body : List Byte
  size : Nat
deriving DecidableEq, Repr

/-- A message waiting in an outbox, not yet framed (R180, R189). -/
structure OutMsg where
  tag : Byte
  kind : Byte
  body : List Byte
deriving DecidableEq, Repr

/-- The timed requests that are no records (R213). -/
inductive TimedKind where
  | load | unload | expose | clearFault
deriving DecidableEq, Repr

/-- The link state of one port (R178), with the port's outstanding timed requests (R213). -/
structure Link where
  rx : RxState
  part : Option Partial
  inbox : List InMsg
  awaitMark : Bool
  byteTimer : Option Nat
  resyncTimer : Option Nat
  outbox : List OutMsg
  reserved : Nat
  released : Nat
  txFifo : List Byte
  txLine : Option Byte
  driving : Bool
  rdyMode : RdyMode
  threshold : Nat
  ctsGating : Bool
  gap : Nat
  flags : LinkFlags
  cts : Bool
  outstanding : List (Byte × TimedKind)
deriving DecidableEq, Repr

/-! ### RQT: the request table and the run slot (R111 to R136, R162 to R177) -/

/-- Focus mode of a PRESENT (R112). -/
inductive FocusMode where
  | normal | hold
deriving DecidableEq, Repr

/-- What a request record asks for (R112). -/
inductive Work where
  | present (frame : Nat) (mode : FocusMode) (hold : Option Nat)
  | jog (delta : Int)
  | barrier
deriving DecidableEq, Repr

/-- State of a request record (R116). -/
inductive RecState where
  | waiting | granted | atGate
deriving DecidableEq, Repr

/-- A request record (R112). -/
structure Record where
  port : Port
  tag : Byte
  work : Work
  cls : Nat
  passes : Nat
  arrival : BitVec 32
  state : RecState
deriving DecidableEq, Repr

/-- State of a run (R163). -/
inductive RunState where
  | ready | granted | atGate | suspended
deriving DecidableEq, Repr

/-- The run record (R163); `remaining = none` is UNLIMITED. -/
structure Run where
  tag : Byte
  cls : Nat
  arrival : BitVec 32
  next : Nat
  remaining : Option Nat
  presented : Nat
  last : Option Nat
  skipTaken : Bool
  hold : Option Nat
  state : RunState
deriving DecidableEq, Repr

/-- Which holder is granted (R111). -/
inductive Grant where
  | none
  | record (port : Port) (tag : Byte)
  | run
  | verify
deriving DecidableEq, Repr

/-- Stop reason (R111). -/
inductive StopReason where
  | none | halt | unverified | correction | preempted | matched | limit
deriving DecidableEq, Repr

/-- The state of RQT (R111). The records stand in arrival order. -/
structure Rqt where
  records : List Record
  run : Option Run
  arrival : BitVec 32
  halted : Bool
  grant : Grant
  stopReason : StopReason
deriving DecidableEq, Repr

/-! ### TRC: the transport (R3 to R44) -/

/-- Roll state (R3). -/
inductive Roll where
  | empty | threading | loaded | rewinding
deriving DecidableEq, Repr

/-- Rounding mode (R1). -/
inductive Rounding where
  | halfUp | halfEven
deriving DecidableEq, Repr

/-- The roll profile (R5), fields 0 to 22 in order. -/
structure Profile where
  label : List Byte
  track : Nat
  pitchNominal : Nat
  pitchMin : Nat
  pitchMax : Nat
  markOn : Nat
  markOff : Nat
  markStrong : Nat
  widthMin : Nat
  widthMax : Nat
  gateOffset : Nat
  tolerance : Nat
  scanSpeed : Nat
  indexSpeed : Nat
  window : Nat
  rounding : Rounding
  defaultFocus : Nat
  sweepSpan : Nat
  coarseStep : Nat
  contrastFloor : Nat
  holdTime : Nat
  tensionLow : Nat
  tensionHigh : Nat
deriving DecidableEq, Repr

/-- Motion state with the sub-phases of MOVING, coded 0 to 9 in this order (R22, R196). -/
inductive Motion where
  | off | idle | accel | cruise | decel | creepIn | settling | parked | waking | faulted
deriving DecidableEq, Repr

/-- Speed class (R2). -/
inductive SpeedClass where
  | creep | scan | index | shuttle
deriving DecidableEq, Repr

/-- What a move is for. present and returnL are APPROACH moves, jog is DIRECT, forward and verify are OPEN, rewind is
REWIND (R23, R127). -/
inductive Job where
  | present | returnL | jog | forward | verify | rewind
deriving DecidableEq, Repr

/-- Whether a move in flight is ramping to rest, and what follows the rest: none; stop (a stop order, R31); replan (an
overshoot or END: a new travel leg, R19, R30; for a rewind: the rewind itself, R15); bound (R24). -/
inductive Ramp where
  | none | stop | replan | bound
deriving DecidableEq, Repr

/-- The move in flight, or ordered and waiting for the wake (R23, R42). -/
structure Move where
  job : Job
  /-- the target T of an APPROACH or DIRECT move -/
  target : Nat
  /-- direction of the present leg -/
  dir : Dir
  /-- speed class carried by the order -/
  speed : SpeedClass
  /-- speed class of the present leg -/
  legSpeed : SpeedClass
  /-- change position and second speed class of an OPEN move, until the change is made -/
  change : Option (Nat × SpeedClass)
  ramp : Ramp
  /-- the settle retry has been used (R28) -/
  retried : Bool
  /-- the present leg is CREEP-IN, whose last count runs in the sub-phase DECEL (R26) -/
  creepIn : Bool
deriving DecidableEq, Repr

/-- Fault cause (R38). -/
inductive Cause where
  | none | tension | stall | verifyFail
deriving DecidableEq, Repr

/-- The timers of TRC: none is stopped, some n has run n ms (R44). -/
structure Timers where
  threading : Option Nat
  inWindow : Option Nat
  persistence : Option Nat
  stall : Option Nat
  leader : Option Nat
  settle : Option Nat
  settleLimit : Option Nat
  park : Option Nat
  wake : Option Nat
deriving DecidableEq, Repr

/-- The state of TRC (R3, R20 to R44). -/
structure Trc where
  roll : Roll
  profile : Option Profile
  counter : Nat
  endPos : Option Nat
  overrun : Nat
  motion : Motion
  travelDir : Dir
  speed : Nat
  move : Option Move
  epoch : BitVec 16
  verified : Bool
  slip : Nat
  cause : Cause
  retension : Bool
  parkDelay : Nat
  wakeDelay : Nat
  wakeFor : Nat
  timers : Timers
deriving DecidableEq, Repr

/-! ### MKD and FIT: marks and the frame index (R45 to R89) -/

/-- The mark-in-progress record (R47). -/
structure Mark where
  first : Nat
  dir : Dir
  peak : Nat
  fast : Bool
  untallied : Bool
  building : Bool
deriving DecidableEq, Repr

/-- Detector state (R45). -/
inductive Detector where
  | off
  | armed
  | inMark (m : Mark)
  | blocked
deriving DecidableEq, Repr

/-- Kind of an index entry (R50), coded 0 to 2 in this order (R196). -/
inductive EntryKind where
  | observed | filled | manual
deriving DecidableEq, Repr

/-- An index entry; its frame number is its place in the index (R50). -/
structure Entry where
  pos : Nat
  kind : EntryKind
  weak : Bool
  extraFollows : Bool
  spliceBefore : Bool
  breakBefore : Bool
  taken : Bool
deriving DecidableEq, Repr

/-- Index state (R52), coded 0 to 3 in this order (R196). -/
inductive IndexState where
  | empty | opened | full | closed
deriving DecidableEq, Repr

/-- Limit kind of a VERIFY move (R76). -/
inductive LimitKind where
  | frontier | zero
deriving DecidableEq, Repr

/-- The verify record (R76). -/
structure Verify where
  dir : Dir
  limit : LimitKind
  hit : Bool
deriving DecidableEq, Repr

/-- The state of FIT (R50 to R89). -/
structure Fit where
  entries : List Entry
  index : IndexState
  building : Bool
  p256 : Nat
  splice : Bool
  verify : Option Verify
deriving DecidableEq, Repr

/-! ### FCC: focus (R90 to R110) -/

/-- Holder of a grant, a presentation or a sweep (R97, R137): a record, or the run (port A). -/
inductive Holder where
  | record (port : Port) (tag : Byte)
  | run (tag : Byte)
deriving DecidableEq, Repr

/-- Focus source (R141, R142), coded 1 to 4 in this order (R196). -/
inductive FocusSource where
  | table | sweep | default | held
deriving DecidableEq, Repr

/-- Why a lens move was ordered (R90): a sample of a sweep, the move whose completion makes focus ready, or nothing any
more (the lookup has ended, R103). -/
inductive LensPurpose where
  | sample
  | final (source : FocusSource)
  | dropped
deriving DecidableEq, Repr

/-- A lens move, in quarter-steps (R90). -/
structure LensMove where
  target : Nat
  purpose : LensPurpose
deriving DecidableEq, Repr

/-- Stage state (R90), coded 0 to 2 in this order. -/
inductive Stage where
  | homing | idle | moving
deriving DecidableEq, Repr

/-- How a focus value was obtained (R93). -/
inductive LineSource where
  | sweep | set
deriving DecidableEq, Repr

/-- A focus table line (R93); `pending` is the state PENDING. -/
structure FocusLine where
  valid : Bool
  sector : Nat
  pending : Bool
  value : Nat
  source : LineSource
  locked : Bool
deriving DecidableEq, Repr

/-- Pass of a sweep (R97). -/
inductive Pass where
  | coarse | fine
deriving DecidableEq, Repr

/-- The sweep-in-progress record (R97). `next` begins with the position being taken; `span`, `step` and `floor` are the
profile's fields as read when the sweep began. -/
structure Sweep where
  owner : Holder
  frame : Nat
  sector : Nat
  centre : Nat
  pass : Pass
  positions : List Nat
  next : List Nat
  samples : List (Nat × Nat)
  best : Option (Nat × Nat)
  repeatUsed : Bool
  span : Nat
  step : Nat
  floor : Nat
deriving DecidableEq, Repr

/-- The state of FCC (R90 to R110). -/
structure Fcc where
  lens : Nat
  stage : Stage
  running : Option LensMove
  held : Option LensMove
  lines : List FocusLine
  lru : List Nat
  sweep : Option Sweep
  sampleTimer : Option Nat
deriving DecidableEq, Repr

/-! ### GTU: the gate (R137 to R161) -/

/-- Gate phase (R137), coded 0 to 5 in this order. -/
inductive Phase where
  | idle | positioning | settling | focusing | presented | exposing
deriving DecidableEq, Repr

/-- The grant in hand (R137). -/
structure InHand where
  holder : Holder
  frame : Nat
  mode : FocusMode
  hold : Option Nat
  speed : SpeedClass
deriving DecidableEq, Repr

/-- Deferred end (R150), coded 0 to 4 in this order (R196). -/
inductive Deferred where
  | none | taken | released | cancelled | renumbered
deriving DecidableEq, Repr

/-- The presentation record (R137). -/
structure Presentation where
  holder : Holder
  frame : Nat
  epoch : BitVec 16
  source : FocusSource
  hold : Nat
  deferred : Deferred
deriving DecidableEq, Repr

/-- The exposure record (R154); `ms` is the time its timer has run. -/
structure Exposure where
  port : Port
  tag : Byte
  frame : Option Nat
  epoch : BitVec 16
  withPresentation : Bool
  ms : Nat
deriving DecidableEq, Repr

/-- The state of GTU (R137). `hold` is the hold timer: none is stopped, some n has n ms left. -/
structure Gtu where
  phase : Phase
  inHand : Option InHand
  presentation : Option Presentation
  hold : Option Nat
  exposure : Option Exposure
  trig : Bool
  route : Option Port
  watches : PerPort Bool
  heldReport : Option FocusSource
deriving DecidableEq, Repr

/-! ### NTU: notices (R197 to R208) -/

/-- A latch with its eight data bytes and its occurrence count (R197, R198). -/
structure Latch where
  data : List Byte
  count : Nat
deriving DecidableEq, Repr

/-- One source of one port; `falling` is the polarity FALLING (R197). -/
structure EventSlot where
  enabled : Bool
  falling : Bool
  latch : Option Latch
deriving DecidableEq, Repr

/-- The levels of the five level sources (R197). -/
structure Levels where
  fault : Bool
  halted : Bool
  unverified : Bool
  rollState : Bool
  queueAlmostFull : Bool
deriving DecidableEq, Repr

/-- The state of NTU (R197). -/
structure Ntu where
  levels : Levels
  ports : PerPort (PerSource EventSlot)
deriving DecidableEq, Repr

/-! ### The whole part -/

/-- Input levels that the part reads (00_scope.md, Dedicated lines). -/
structure Pins where
  arm1 : Byte
  arm2 : Byte
  leader : Bool
  track0 : Byte
  track1 : Byte
deriving DecidableEq, Repr

/-- The state of the ILC740. -/
structure State where
  /-- the model's own field: the commands that are waiting, first in first out -/
  pending : List Instr
  /-- the model's own field: counts the readings of the free value Config.lensInFlight -/
  freeCount : Nat
  /-- the model's own field: the lens position last read during the lens move in progress (log entry 9) -/
  lensRead : Option Nat
  /-- the RESET pin is held (R178) -/
  resetHeld : Bool
  /-- the unit address as read from the straps (R179) -/
  unitAddress : BitVec 7
  pins : Pins
  lnk : PerPort Link
  rqt : Rqt
  trc : Trc
  mkd : Detector
  fit : Fit
  fcc : Fcc
  gtu : Gtu
  ntu : Ntu
deriving DecidableEq, Repr

/-- No command of this part stops the machine: the spec's own faults (R37) are states of the transport, so no meaning
raises a fault and there is no constructor (safe: nothing is cut short). -/
inductive Fault where
deriving DecidableEq, Repr

/-- Reasons for which a command has no meaning. -/
inductive Refusal where
  /-- Raised by an arm of `exec` for a row of the table that has no meaning yet (safe: the machine stops). No arm
  raises it. -/
  | notModelled (mnemonic : String)
deriving DecidableEq, Repr

/-! ### Reset values -/

/-- The same value for every port. -/
def PerPort.all {α : Type} (x : α) : PerPort α := ⟨x, x, x⟩

/-- The same value for every source. -/
def PerSource.all {α : Type} (x : α) : PerSource α := ⟨x, x, x, x, x, x, x, x, x, x, x, x⟩

/-- All link flags clear (R178). -/
def LinkFlags.clear : LinkFlags := ⟨false, false, false, false, false, false⟩

/-- The link state after a full reset (R178). The CTS level is an input: DESIGN CHOICE active (log entry 3). -/
def Link.reset : Link where
  rx := .idle
  part := none
  inbox := []
  awaitMark := false
  byteTimer := none
  resyncTimer := none
  outbox := []
  reserved := 0
  released := 0
  txFifo := []
  txLine := none
  driving := false
  rdyMode := .auto
  threshold := 32
  ctsGating := false
  gap := 0
  flags := LinkFlags.clear
  cts := true
  outstanding := []

/-- RQT after a full reset (R111). -/
def Rqt.reset : Rqt := ⟨[], none, 0, false, .none, .none⟩

/-- Every timer of TRC stopped (R44). -/
def Timers.stopped : Timers := ⟨none, none, none, none, none, none, none, none, none⟩

/-- TRC after a full reset (R3, R18, R20, R22, R32, R38, R43, R44). -/
def Trc.reset : Trc where
  roll := .empty
  profile := none
  counter := 0
  endPos := none
  overrun := 0
  motion := .off
  travelDir := .forward
  speed := 0
  move := none
  epoch := 0
  verified := true
  slip := 0
  cause := .none
  retension := false
  parkDelay := Config.parkDelay
  wakeDelay := Config.wakeDelay
  wakeFor := Config.wakeDelay
  timers := Timers.stopped

/-- FIT after a full reset (R68, R89). -/
def Fit.reset : Fit := ⟨[], .empty, false, 0, false, none⟩

/-- An invalid focus table line (R93). -/
def FocusLine.invalid : FocusLine := ⟨false, 0, true, 0, .sweep, false⟩

/-- The LRU order after a full reset: line 15 most recent, line 0 least (R94). -/
def lruReset : List Nat := [15, 14, 13, 12, 11, 10, 9, 8, 7, 6, 5, 4, 3, 2, 1, 0]

/-- FCC after a full reset (R90, R110). -/
def Fcc.reset : Fcc := ⟨0, .homing, none, none, List.replicate 16 FocusLine.invalid, lruReset, none, none⟩

/-- GTU after a full reset (R137). -/
def Gtu.reset : Gtu := ⟨.idle, none, none, none, none, false, none, PerPort.all false, none⟩

/-- A source after a reset of its port (R197). -/
def EventSlot.reset : EventSlot := ⟨true, false, none⟩

/-- NTU after a full reset (R197). -/
def Ntu.reset : Ntu := ⟨⟨false, false, false, false, false⟩, PerPort.all (PerSource.all EventSlot.reset)⟩

/-- The part right after a full reset. The input levels and the straps are not the part's: DESIGN CHOICE (log entry 3). -/
def State.reset : State where
  pending := []
  freeCount := 0
  lensRead := none
  resetHeld := false
  unitAddress := 0
  pins := ⟨128, 128, true, 0, 0⟩
  lnk := PerPort.all Link.reset
  rqt := Rqt.reset
  trc := Trc.reset
  mkd := .off
  fit := Fit.reset
  fcc := Fcc.reset
  gtu := Gtu.reset
  ntu := Ntu.reset

end Sys2Proof.Machine
end

