-- ==== Sys2Proof/Machine/Ops.lean ====
section
/-! DEFINITION. The operations that every block uses: per-port and per-source access, numbers and bytes, rounding,
positions, and the questions that one block asks of another's state. -/

namespace Sys2Proof.Machine

/-! ### Access -/

def PerPort.get {α : Type} (x : PerPort α) : Port → α
  | .a => x.a
  | .b => x.b
  | .c => x.c

def PerPort.set {α : Type} (x : PerPort α) (p : Port) (v : α) : PerPort α :=
  match p with
  | .a => { x with a := v }
  | .b => { x with b := v }
  | .c => { x with c := v }

def PerSource.get {α : Type} (x : PerSource α) : EventSource → α
  | .fault => x.fault
  | .halted => x.halted
  | .unverified => x.unverified
  | .presented => x.presented
  | .lapsed => x.lapsed
  | .rollState => x.rollState
  | .slip => x.slip
  | .focusDefaulted => x.focusDefaulted
  | .indexClosed => x.indexClosed
  | .indexGrown => x.indexGrown
  | .queueAlmostFull => x.queueAlmostFull
  | .linkError => x.linkError

def PerSource.set {α : Type} (x : PerSource α) (k : EventSource) (v : α) : PerSource α :=
  match k with
  | .fault => { x with fault := v }
  | .halted => { x with halted := v }
  | .unverified => { x with unverified := v }
  | .presented => { x with presented := v }
  | .lapsed => { x with lapsed := v }
  | .rollState => { x with rollState := v }
  | .slip => { x with slip := v }
  | .focusDefaulted => { x with focusDefaulted := v }
  | .indexClosed => { x with indexClosed := v }
  | .indexGrown => { x with indexGrown := v }
  | .queueAlmostFull => { x with queueAlmostFull := v }
  | .linkError => { x with linkError := v }

/-- The sources in the order of their numbers, which is the order of urgency (R197). -/
def allSources : List EventSource :=
  [.fault, .halted, .unverified, .presented, .lapsed, .rollState, .slip, .focusDefaulted, .indexClosed, .indexGrown,
   .queueAlmostFull, .linkError]

/-- The number of a source (R198). -/
def EventSource.num : EventSource → Nat
  | .fault => 0
  | .halted => 1
  | .unverified => 2
  | .presented => 3
  | .lapsed => 4
  | .rollState => 5
  | .slip => 6
  | .focusDefaulted => 7
  | .indexClosed => 8
  | .indexGrown => 9
  | .queueAlmostFull => 10
  | .linkError => 11

/-- The port that a request comes from (R188). -/
def sourcePort : Source → Port
  | .a => .a
  | .b => .b
  | .c | .cBroadcast => .c

/-- The request was addressed to 127 (R179). -/
def sourceBroadcast : Source → Bool
  | .cBroadcast => true
  | .a | .b | .c => false

/-- The link of a port. -/
def State.link (s : State) (p : Port) : Link := s.lnk.get p

/-- Replace the link of a port. -/
def State.setLink (s : State) (p : Port) (l : Link) : State := { s with lnk := s.lnk.set p l }

/-- The port of a holder; the run's port is A (R163). -/
def Holder.port : Holder → Port
  | .record p _ => p
  | .run _ => .a

/-- The tag of a holder (R137). -/
def Holder.tag : Holder → Byte
  | .record _ t => t
  | .run t => t

/-! ### Numbers and bytes -/

/-- `n` in `w` bytes, most significant byte first (R180). -/
def be : Nat → Nat → List Byte
  | 0, _ => []
  | w + 1, n => BitVec.ofNat 8 (n / 256 ^ w) :: be w n

/-- The number that bytes carry, most significant byte first (R180). -/
def beNum (l : List Byte) : Nat := l.foldl (fun n b => n * 256 + b.toNat) 0

/-- A signed number in `w` bytes, in two's complement (R196). -/
def beInt (w : Nat) (n : Int) : List Byte := be w (n % (256 ^ w : Int)).toNat

/-- The signed number that three bytes carry in two's complement (R209). -/
def signed24 (n : Nat) : Int := if n < 8388608 then (n : Int) else (n : Int) - 16777216

/-- A frame number that may be none, in two bytes (00_scope.md, Frame number). -/
def beFrame (f : Option Nat) : List Byte := be 2 (f.getD 65535)

/-- A position that may be none, in three bytes (R196). -/
def bePos (x : Option Nat) : List Byte := be 3 (x.getD 16777215)

/-- A two-valued setting or flag (R196). -/
def flagByte (b : Bool) : Byte := if b then 1 else 0

/-- Numbered flags as one number, item 0 in bit 0 (R196). -/
def flagsNum : List Bool → Nat
  | [] => 0
  | b :: rest => (if b then 1 else 0) + 2 * flagsNum rest

/-- Replace a value below the range by its lower end and one above by its upper end (00_scope.md, Clamping). -/
def clampNat (lo hi n : Nat) : Nat := if n < lo then lo else if hi < n then hi else n

/-- |a - b|. -/
def absDiff (a b : Nat) : Nat := (a - b) + (b - a)

/-! ### Rounding (R1) -/

/-- round(num/den) for a positive denominator: HALF-UP sends a tie toward +∞. -/
def roundHalfUp (num den : Int) : Int := (2 * num + den) / (2 * den)

/-- round(num/den) for a positive denominator: HALF-EVEN sends a tie to the even neighbour. -/
def roundHalfEven (num den : Int) : Int :=
  let q := num / den
  let r := num % den
  if 2 * r < den then q else if den < 2 * r then q + 1 else if q % 2 = 0 then q else q + 1

/-- round(num/den) of the exact quotient in a rounding mode (R1). -/
def roundQuot (mode : Rounding) (num den : Int) : Int :=
  let n := if den < 0 then -num else num
  let d := if den < 0 then -den else den
  match mode with
  | .halfUp => roundHalfUp n d
  | .halfEven => roundHalfEven n d

/-- v squared over 400,000, rounded up: the stopping distance from speed v (R2). -/
def stopDistance (v : Nat) : Nat := (v * v + 399999) / 400000

/-- The distance over which speed v falls to w, rounded up (R24). -/
def slowDistance (v w : Nat) : Nat := (v * v - w * w + 399999) / 400000

/-! ### Motion states -/

/-- MOVING, in any sub-phase (R22). -/
def Motion.moving : Motion → Bool
  | .accel | .cruise | .decel | .creepIn => true
  | .off | .idle | .settling | .parked | .waking | .faulted => false

/-- The film is stationary under the part's control and free for an order: IDLE or PARKED (R23). -/
def Motion.free : Motion → Bool
  | .idle | .parked => true
  | .off | .accel | .cruise | .decel | .creepIn | .settling | .waking | .faulted => false

/-- The kinds of move (R23): an OPEN move has no target of its own. -/
def Job.isOpen : Job → Bool
  | .forward | .verify => true
  | .present | .returnL | .jog | .rewind => false

/-! ### Questions asked of the state -/

/-- A profile with every field 0, standing in where no profile is held (R8); no rule reads a profile then. -/
def Profile.blank : Profile :=
  ⟨[], 0, 0, 0, 0, 0, 0, 0, 0, 0, 0, 0, 0, 0, 0, .halfUp, 0, 0, 0, 0, 0, 0, 0⟩

/-- The profile in effect (R8). -/
def State.profile (s : State) : Profile := s.trc.profile.getD Profile.blank

/-- The selected track is the profile's mark track, and track 0 while no profile is held (R45). -/
def State.selectedTrack (s : State) : Nat := s.profile.track

/-- The speed of a class (R2). -/
def State.classSpeed (s : State) : SpeedClass → Nat
  | .creep => Config.creepSpeed
  | .scan => s.profile.scanSpeed
  | .index => s.profile.indexSpeed
  | .shuttle => Config.shuttleSpeed

/-- The upper position bound: E once known, 4,194,303 before (R20). -/
def State.posBound (s : State) : Nat := s.trc.endPos.getD Config.maxPosition

/-- Clamp a position into the bounds of R20. -/
def State.clampPos (s : State) (x : Int) : Nat := min x.toNat s.posBound

/-- The frontier frame number F, or none (R51). -/
def State.frontier (s : State) : Option Nat :=
  if s.fit.entries.length = 0 then none else some (s.fit.entries.length - 1)

/-- The frontier position L, or none (R51). -/
def State.frontierPos (s : State) : Option Nat := s.fit.entries.getLast?.map (·.pos)

/-- Frame N is indexed: N ≤ F (R51). -/
def State.indexed (s : State) (n : Nat) : Bool := decide (n < s.fit.entries.length)

/-- A FULL index is ended once E is known (R52). -/
def State.indexEnded (s : State) : Bool := decide (s.fit.index = .full) && s.trc.endPos.isSome

/-- The index is CLOSED or FULL (R65, R120). -/
def State.indexShut (s : State) : Bool := decide (s.fit.index = .closed ∨ s.fit.index = .full)

/-- The gate target of an entry's position: pos + G, clamped (R66). -/
def State.gateTargetOf (s : State) (pos : Nat) : Nat := s.clampPos ((pos + s.profile.gateOffset : Nat) : Int)

/-- The gate target T_N of an indexed frame (R66). -/
def State.gateTarget (s : State) (n : Nat) : Option Nat := s.fit.entries[n]?.map fun e => s.gateTargetOf e.pos

/-- The estimated mark position e(N) of a frame beyond the frontier of an OPEN or EMPTY index (R65). -/
def State.estimate (s : State) (n : Nat) : Option Int :=
  let p := s.profile.rounding
  match s.fit.index, s.frontier, s.frontierPos with
  | .opened, some f, some l => some ((l : Int) + roundQuot p (((n : Int) - (f : Int)) * (s.fit.p256 : Int)) 256)
  | .empty, _, _ => some (roundQuot p ((n : Int) * (s.fit.p256 : Int)) 256)
  | _, _, _ => none

/-- The entry nearest by `dist` among those that `ok` admits, with its distance; the lower number on a tie. -/
def nearestEntry (ok : Entry → Bool) (dist : Entry → Nat) : List Entry → Nat → Option (Nat × Nat) → Option (Nat × Nat)
  | [], _, best => best
  | e :: es, i, best =>
    nearestEntry ok dist es (i + 1)
      (if ok e then
        match best with
        | some (j, d) => if dist e < d then some (i, dist e) else some (j, d)
        | none => some (i, dist e)
      else best)

/-- The frame at the gate, or none (R67). -/
def State.frameAtGate (s : State) : Option Nat :=
  if s.trc.roll ≠ .loaded ∨ s.trc.verified = false ∨ 0 < s.trc.overrun then none
  else
    match nearestEntry (fun _ => true) (fun e => absDiff s.trc.counter (s.gateTargetOf e.pos)) s.fit.entries 0 none with
    | some (n, d) => if 512 * d ≤ s.fit.p256 then some n else none
    | none => none

/-- The entry of an OBSERVED or MANUAL kind anchors a VERIFY move (R76). -/
def Entry.isAnchor (e : Entry) : Bool := decide (e.kind ≠ .filled)

/-- Both arm readings lie within the tension window (R9, R35). -/
def State.armsInWindow (s : State) : Bool :=
  let ok (r : Byte) : Bool := decide (s.profile.tensionLow ≤ r.toNat ∧ r.toNat ≤ s.profile.tensionHigh)
  ok s.pins.arm1 && ok s.pins.arm2

/-- Either arm reads below 16 (R35). -/
def State.filmBroken (s : State) : Bool :=
  decide (s.pins.arm1.toNat < Config.filmBreak ∨ s.pins.arm2.toNat < Config.filmBreak)

/-- The settle band of the move in flight holds the counter (R27). -/
def State.inBand (s : State) (target : Nat) : Bool := decide (absDiff s.trc.counter target ≤ s.profile.tolerance)

/-- Arrival number a is older than b: (b - a) modulo 2^32 lies between 1 and 2,147,483,647 (R115). -/
def older (a b : BitVec 32) : Bool := decide (1 ≤ (b - a).toNat ∧ (b - a).toNat ≤ 2147483647)

/-- The record of a port with a tag. -/
def State.findRecord (s : State) (p : Port) (t : Byte) : Option Record :=
  s.rqt.records.find? fun r => decide (r.port = p ∧ r.tag = t)

/-- Outbox places that are free (R189). -/
def Link.free (l : Link) : Nat := Config.outboxPlaces - l.outbox.length - l.reserved

/-- Bytes of the message in progress that stand in the receive FIFO (R182). -/
def Link.partBytes (l : Link) : Nat :=
  (match l.part with | some m => m.inFifo | none => 0) + (match l.rx with | .inFrame f => f.inFifo | _ => 0)

/-- Bytes held in the receive FIFO (R178). -/
def Link.rxBytes (l : Link) : Nat := (l.inbox.map (·.size)).sum + l.partBytes

/-- The RDY output of a port: deasserted while the RESET pin is held (R178), else as R187 states. -/
def State.rdy (s : State) (p : Port) : Bool :=
  let l := s.link p
  if s.resetHeld then false
  else
    match l.rdyMode with
    | .forcedAsserted => true
    | .forcedDeasserted => false
    | .auto => !(decide (Config.fifoBytes - l.threshold ≤ l.rxBytes) && !l.inbox.isEmpty)

/-- The ATTN output: pulled while a source of port C is enabled and latched (R203), released while RESET is held (R197). -/
def State.attn (s : State) : Bool :=
  !s.resetHeld && allSources.any fun k =>
    let e := s.ntu.ports.c.get k
    e.enabled && e.latch.isSome

/-- The output line ROUTE1, high where it names port B or C (R155). -/
def State.route1 (s : State) : Bool :=
  match s.gtu.route with
  | none | some .a => false
  | some .b | some .c => true

/-- The output line ROUTE0, high where it names port A or C (R155). -/
def State.route0 (s : State) : Bool :=
  match s.gtu.route with
  | none | some .b => false
  | some .a | some .c => true

/-- The capstan brake is applied (R22): OFF, threading included (R9), PARKED, WAKING and FAULTED; during re-tensioning the
capstan stays braked (R39). -/
def State.capstanBrake (s : State) : Bool :=
  match s.trc.motion with
  | .off | .parked | .waking | .faulted => true
  | .idle | .accel | .cruise | .decel | .creepIn | .settling => false

/-- The reel brakes are applied (R22): as the capstan's, but they are released while the reel motors build tension, in
threading (R9) and in re-tensioning, which runs as threading does and applies the brakes again when it fails (R39). -/
def State.reelBrakes (s : State) : Bool :=
  s.capstanBrake && !(decide (s.trc.roll = .threading) || s.trc.retension)

/-- What the reel motors do (R9, R22, R39). -/
inductive ReelDrive where
  | released | building | working | reduced | restoring
deriving DecidableEq, Repr

/-- The reel drive of R22's table; during threading and re-tensioning the reels build tension (R9, R39). -/
def State.reelDrive (s : State) : ReelDrive :=
  if s.trc.roll = .threading ∨ s.trc.retension then .building
  else
    match s.trc.motion with
    | .off | .faulted => .released
    | .idle | .accel | .cruise | .decel | .creepIn | .settling => .working
    | .parked => .reduced
    | .waking => .restoring

/-- What the capstan does (R22). -/
inductive CapstanDrive where
  | braked | holding | driven | released
deriving DecidableEq, Repr

/-- The capstan column of R22's table; the capstan stays braked during re-tensioning (R39). -/
def State.capstanDrive (s : State) : CapstanDrive :=
  match s.trc.motion with
  | .off | .parked | .waking => .braked
  | .idle | .settling => .holding
  | .accel | .cruise | .decel | .creepIn => .driven
  | .faulted => if s.trc.retension then .braked else .released

/-! ### Codes (R196, R198, R210) -/

def Motion.code : Motion → Byte
  | .off => 0
  | .idle => 1
  | .accel => 2
  | .cruise => 3
  | .decel => 4
  | .creepIn => 5
  | .settling => 6
  | .parked => 7
  | .waking => 8
  | .faulted => 9

def Phase.code : Phase → Byte
  | .idle => 0
  | .positioning => 1
  | .settling => 2
  | .focusing => 3
  | .presented => 4
  | .exposing => 5

def portCode : Port → Byte
  | .a => 1
  | .b => 2
  | .c => 3

def FocusSource.code : FocusSource → Byte
  | .table => 1
  | .sweep => 2
  | .default => 3
  | .held => 4

def Deferred.code : Deferred → Byte
  | .none => 0
  | .taken => 1
  | .released => 2
  | .cancelled => 3
  | .renumbered => 4

/-- The fault causes in the order of R198 and R217, NONE 0; R38, the owning rule, lists NONE last. MODEL'S CHOICE (log entry 30):
one coding, that of R198, wherever a cause is carried. -/
def Cause.code : Cause → Byte
  | .none => 0
  | .tension => 1
  | .stall => 2
  | .verifyFail => 3

def Roll.code : Roll → Byte
  | .empty => 0
  | .threading => 1
  | .loaded => 2
  | .rewinding => 3

def LinkCause.code : LinkCause → Byte
  | .parity => 0
  | .check => 1
  | .timeout => 2
  | .frame => 3
  | .overrun => 4

def RdyMode.code : RdyMode → Byte
  | .auto => 0
  | .forcedAsserted => 1
  | .forcedDeasserted => 2

def Stage.code : Stage → Byte
  | .homing => 0
  | .idle => 1
  | .moving => 2

/-- The index state byte: bit 7 is set for a FULL index that is ended (R196). -/
def State.indexByte (s : State) : Byte :=
  match s.fit.index with
  | .empty => 0
  | .opened => 1
  | .full => if s.indexEnded then 130 else 2
  | .closed => 3

/-- The flags byte of an entry (R196). -/
def Entry.flagByte (e : Entry) : Byte :=
  BitVec.ofNat 8
    ((match e.kind with | .observed => 0 | .filled => 1 | .manual => 2)
      + 4 * flagsNum [e.weak, e.extraFollows, e.spliceBefore, e.breakBefore, e.taken])

/-- An index entry as it is reported, 6 bytes (R196). -/
def entryBytes (n : Nat) (e : Entry) : List Byte := be 2 n ++ be 3 e.pos ++ [e.flagByte]

/-- Status codes of immediate replies (R210). -/
inductive Status where
  | accepted | done | length | unknownKind | notPermitted | badParam | tagInUse | portLimit | tableFull | runActive
  | noRoll | rollLoaded | outOfRange | indexBusy | indexFull | lockLimit | notPresented | notOwner | noWatch | busy
  | notFaulted | notFoundTag | notVerified
deriving DecidableEq, Repr

def Status.code : Status → Byte
  | .accepted => 0
  | .done => 1
  | .length => 2
  | .unknownKind => 3
  | .notPermitted => 4
  | .badParam => 5
  | .tagInUse => 6
  | .portLimit => 7
  | .tableFull => 8
  | .runActive => 9
  | .noRoll => 10
  | .rollLoaded => 11
  | .outOfRange => 12
  | .indexBusy => 13
  | .indexFull => 14
  | .lockLimit => 15
  | .notPresented => 16
  | .notOwner => 17
  | .noWatch => 18
  | .busy => 19
  | .notFaulted => 20
  | .notFoundTag => 21
  | .notVerified => 22

/-- Outcome codes of completions (R210). -/
inductive OutcomeCode where
  | taken | released | lapsed | cancelled | notFound | outOfIndex | positionFail | fault | unloaded | complete | settled
  | loaded | threadFail | exposeTimeout | done
deriving DecidableEq, Repr

def OutcomeCode.code : OutcomeCode → Byte
  | .taken => 64
  | .released => 65
  | .lapsed => 66
  | .cancelled => 67
  | .notFound => 68
  | .outOfIndex => 69
  | .positionFail => 70
  | .fault => 71
  | .unloaded => 72
  | .complete => 73
  | .settled => 74
  | .loaded => 75
  | .threadFail => 76
  | .exposeTimeout => 77
  | .done => 78

/-! ### The working context of one command -/

/-- An occurrence of a source on a port, to be latched when the command's messages are queued (R201, R202). -/
structure Occ where
  source : EventSource
  port : Port
  data : List Byte
deriving DecidableEq, Repr

/-- What one command works on: the state, the completions it has produced in order, the occurrences it has produced in
order. R202 and R216 give the order in which they reach the outboxes: the reply, the completions, the notices. -/
structure Ctx where
  st : State
  sends : List (Port × OutMsg)
  occs : List Occ
deriving DecidableEq, Repr

/-- A command begins with nothing to send. -/
def Ctx.start (s : State) : Ctx := ⟨s, [], []⟩

/-- Change the state of the context. -/
def Ctx.upd (w : Ctx) (f : State → State) : Ctx := { w with st := f w.st }

end Sys2Proof.Machine
end

