-- ==== Sys2Proof/Machine/Flags.lean ====
section
/-! DEFINITION. The Notice Unit (R197 to R203): levels, occurrences, latches and notice messages; the latched link
flags; the end of a command, at which its messages and notices enter the outboxes. -/

namespace Sys2Proof.Machine

/-! ### Levels and occurrences (R199, R200) -/

/-- The level of a level source (R197); a pulse source has none (R200). -/
def Levels.get (l : Levels) : EventSource → Bool
  | .fault => l.fault
  | .halted => l.halted
  | .unverified => l.unverified
  | .rollState => l.rollState
  | .queueAlmostFull => l.queueAlmostFull
  | .presented | .lapsed | .slip | .focusDefaulted | .indexClosed | .indexGrown | .linkError => false

def Levels.set (l : Levels) (k : EventSource) (v : Bool) : Levels :=
  match k with
  | .fault => { l with fault := v }
  | .halted => { l with halted := v }
  | .unverified => { l with unverified := v }
  | .rollState => { l with rollState := v }
  | .queueAlmostFull => { l with queueAlmostFull := v }
  | .presented | .lapsed | .slip | .focusDefaulted | .indexClosed | .indexGrown | .linkError => l

/-- The slot of a source on a port. -/
def State.slot (s : State) (p : Port) (k : EventSource) : EventSlot := (s.ntu.ports.get p).get k

/-- Replace the slot of a source on a port. -/
def State.setSlot (s : State) (p : Port) (k : EventSource) (e : EventSlot) : State :=
  { s with ntu.ports := s.ntu.ports.set p ((s.ntu.ports.get p).set k e) }

/-- Data is carried as eight bytes, unused bytes 0 (R198). -/
def pad8 (l : List Byte) : List Byte := (l ++ List.replicate 8 0).take 8

/-- An occurrence of a pulse source on one port (R200). -/
def pulse (k : EventSource) (p : Port) (data : List Byte) (w : Ctx) : Ctx :=
  { w with occs := w.occs ++ [⟨k, p, pad8 data⟩] }

/-- An occurrence of a pulse source on every port (R198, R200). -/
def pulseAll (k : EventSource) (data : List Byte) (w : Ctx) : Ctx :=
  pulse k .c data (pulse k .b data (pulse k .a data w))

/-- A transition of a level is an occurrence on a port whose polarity selects it (R199). -/
def transitionOn (k : EventSource) (high : Bool) (data : List Byte) (p : Port) (w : Ctx) : Ctx :=
  if (w.st.slot p k).falling = !high then pulse k p data w else w

/-- The owning block puts a level source to `high`. Only a change is a transition (R199); the data begins with the level
after the transition (R198). -/
def setLevel (k : EventSource) (high : Bool) (data : List Byte) (w : Ctx) : Ctx :=
  if w.st.ntu.levels.get k = high then w
  else
    let d := flagByte high :: data
    transitionOn k high d .c (transitionOn k high d .b (transitionOn k high d .a
      (w.upd fun s => { s with ntu.levels := s.ntu.levels.set k high })))

/-- The fault cause changes while the FAULT level stands: the data of a latched FAULT takes the new cause (R199). -/
def faultCauseChanged (c : Cause) (s : State) : State :=
  let on (p : Port) (s : State) : State :=
    let e := s.slot p .fault
    s.setSlot p .fault { e with latch := e.latch.map fun l => { l with data := l.data.set 1 c.code } }
  on .c (on .b (on .a s))

/-! ### Latching and notices (R201, R202) -/

/-- The latch after one more occurrence (R201). -/
def EventSlot.latched (e : EventSlot) (data : List Byte) : EventSlot :=
  { e with latch := some ⟨data, match e.latch with | some l => min (l.count + 1) 255 | none => 1⟩ }

/-- The notice of an occurrence: TAG 0, KIND 255, the source number and its data (R180, R202). -/
def noticeMsg (o : Occ) : OutMsg := ⟨0, 255, BitVec.ofNat 8 o.source.num :: o.data⟩

/-- Offer a notice to a port's outbox: it needs a free place, or else NOTICES-MISSED latches (R190, R202). No notice is
queued on port C. -/
def offerNotice (p : Port) (m : OutMsg) (s : State) : State :=
  match p with
  | .c => s
  | .a | .b =>
    let l := s.link p
    if l.free = 0 then s.setLink p { l with flags := { l.flags with noticesMissed := true } }
    else s.setLink p { l with outbox := l.outbox ++ [m] }

/-- One occurrence reaches its port (R201). -/
def latchOne (o : Occ) (s : State) : State :=
  let e := s.slot o.port o.source
  if e.enabled then offerNotice o.port (noticeMsg o) (s.setSlot o.port o.source (e.latched o.data)) else s

/-- The occurrences of one event, in increasing source number (R202). -/
def sortOccs (l : List Occ) : List Occ := allSources.flatMap fun k => l.filter fun o => decide (o.source = k)

/-- Latch the occurrences of one event (R201, R202). -/
def latchAll (l : List Occ) (s : State) : State := (sortOccs l).foldl (fun s o => latchOne o s) s

/-- A message joins the tail of its port's outbox (R189). -/
def queueMsg (p : Port) (m : OutMsg) (s : State) : State :=
  s.setLink p { s.link p with outbox := (s.link p).outbox ++ [m] }

/-- Messages join their outboxes in order (R189). -/
def queueAll (l : List (Port × OutMsg)) (s : State) : State := l.foldl (fun s x => queueMsg x.1 x.2 s) s

/-! ### Clearing latches (R201) -/

/-- Clear the latch of a source on a port, with its data and its occurrence count. -/
def clearLatch (p : Port) (k : EventSource) (s : State) : State := s.setSlot p k { s.slot p k with latch := none }

/-- A port reset restores the port's sources to their defaults (R197). -/
def resetSources (p : Port) (s : State) : State :=
  { s with ntu.ports := s.ntu.ports.set p (PerSource.all EventSlot.reset) }

/-- The twelve flags of a port, by a property of its sources (R196, R206). -/
def State.sourceFlags (s : State) (p : Port) (f : EventSlot → Bool) : Nat :=
  flagsNum (allSources.map fun k => f (s.slot p k))

/-- Level sources have a polarity; a pulse source has none (R200). -/
def EventSource.isLevel : EventSource → Bool
  | .fault | .halted | .unverified | .rollState | .queueAlmostFull => true
  | .presented | .lapsed | .slip | .focusDefaulted | .indexClosed | .indexGrown | .linkError => false

/-! ### Link flags (R178, R183) -/

def LinkFlags.latch (f : LinkFlags) : LinkCause → LinkFlags
  | .parity => { f with parity := true }
  | .check => { f with check := true }
  | .timeout => { f with timeout := true }
  | .frame => { f with frame := true }
  | .overrun => { f with overrun := true }

/-- The flags as one byte, PARITY in bit 0 (R194). R196 gives the bit field for flags over numbered items, and these are named:
MODEL'S CHOICE (log entry 28). -/
def LinkFlags.byte (f : LinkFlags) : Byte :=
  BitVec.ofNat 8 (flagsNum [f.parity, f.check, f.timeout, f.frame, f.overrun, f.noticesMissed])

end Sys2Proof.Machine
end

