-- ==== Sys2Proof/Machine/Records.lean ====
section
/-! DEFINITION. Completions and the request table: completing and returning records and the run, barriers, the level
QUEUE-ALMOST-FULL (R114 to R118, R134, R173, R213, R217). -/

namespace Sys2Proof.Machine

/-- The kind code of a timed request that is no record (R209). -/
def TimedKind.code : TimedKind → Nat
  | .load => 1
  | .unload => 2
  | .expose => 12
  | .clearFault => 16

/-- The kind code of a record (R209). -/
def Work.code : Work → Nat
  | .present _ _ _ => 3
  | .jog _ => 5
  | .barrier => 6

/-- A reply or completion message: KIND of the request + 128 (R180). -/
def replyMsg (tag : Byte) (kind : Nat) (body : List Byte) : OutMsg := ⟨tag, BitVec.ofNat 8 (kind + 128), body⟩

/-- A completion turns a reservation of its port into a message (R189, R217). -/
def complete (p : Port) (tag : Byte) (kind : Nat) (o : OutcomeCode) (results : List Byte) (w : Ctx) : Ctx :=
  { w with
    st := w.st.setLink p { w.st.link p with reserved := (w.st.link p).reserved - 1 }
    sends := w.sends ++ [(p, replyMsg tag kind (o.code :: results))] }

/-- The tag of a port's outstanding request of a kind (R213). -/
def State.outstandingTag (s : State) (p : Port) (k : TimedKind) : Option Byte :=
  ((s.link p).outstanding.find? fun e => decide (e.2 = k)).map (·.1)

/-- Complete a port's outstanding request of a kind, if it still has one: a port reset drops it with its reservation
(R12, R16, R39, R213). -/
def completeTimedOn (k : TimedKind) (o : OutcomeCode) (results : List Byte) (p : Port) (w : Ctx) : Ctx :=
  match w.st.outstandingTag p k with
  | none => w
  | some t =>
    complete p t k.code o results
      (w.upd fun s => s.setLink p { s.link p with outstanding := (s.link p).outstanding.filter fun e => decide (e ≠ (t, k)) })

/-- Complete the LOAD, UNLOAD or CLEAR-FAULT that is outstanding, on whichever port sent it (R217). -/
def completeTimed (k : TimedKind) (o : OutcomeCode) (results : List Byte) (w : Ctx) : Ctx :=
  completeTimedOn k o results .c (completeTimedOn k o results .b (completeTimedOn k o results .a w))

/-- QUEUE-ALMOST-FULL is the level "the table holds 28 or more records"; its data is the count (R118). -/
def examineAlmostFull (w : Ctx) : Ctx :=
  let n := w.st.rqt.records.length
  setLevel .queueAlmostFull (decide (Config.almostFull ≤ n)) (be 2 n) w

/-- The results that a record's completion carries (R217). -/
def State.recordResults (s : State) (r : Record) : List Byte :=
  match r.work with
  | .present frame _ _ => be 2 frame ++ be 2 s.trc.epoch.toNat
  | .jog _ => be 3 s.trc.counter ++ be 2 s.trc.epoch.toNat
  | .barrier => []

/-- Take a record out of the table; the grant becomes none when it was this record (R117). -/
def removeRecord (p : Port) (t : Byte) (s : State) : State :=
  { s with
    rqt.records := s.rqt.records.filter fun r => !decide (r.port = p ∧ r.tag = t)
    rqt.grant := if s.rqt.grant = .record p t then .none else s.rqt.grant }

/-- Complete a record into its reservation and remove it, without examining the barriers (R117). -/
def completeRecordOnly (r : Record) (o : OutcomeCode) (w : Ctx) : Ctx :=
  examineAlmostFull ((complete r.port r.tag r.work.code o (w.st.recordResults r) w).upd (removeRecord r.port r.tag))

/-- A BARRIER whose port has no older record and no older run (R134). -/
def State.barrierFree (s : State) (p : Port) (r : Record) : Bool :=
  decide (r.port = p) && decide (r.work = .barrier)
    && !(s.rqt.records.any fun x => decide (x.port = p) && older x.arrival r.arrival)
    && !(decide (p = .a) && (match s.rqt.run with | some x => older x.arrival r.arrival | none => false))

/-- Complete the barriers of a port that have become free, oldest first (R134). -/
def examineBarriersN : Nat → Port → Ctx → Ctx
  | 0, _, w => w
  | n + 1, p, w =>
    match w.st.rqt.records.find? (w.st.barrierFree p) with
    | some r => examineBarriersN n p (completeRecordOnly r .done w)
    | none => w

def examineBarriers (p : Port) (w : Ctx) : Ctx := examineBarriersN w.st.rqt.records.length p w

/-- Complete a record (R117): completion, removal, almost-full level, barriers, grant. -/
def completeRecord (r : Record) (o : OutcomeCode) (w : Ctx) : Ctx := examineBarriers r.port (completeRecordOnly r o w)

/-- Complete the record of a port with a tag, if it is in the table. -/
def completeTag (p : Port) (t : Byte) (o : OutcomeCode) (w : Ctx) : Ctx :=
  match w.st.findRecord p t with
  | some r => completeRecord r o w
  | none => w

/-- The results of a run's completion (R173). -/
def runResults (r : Run) : List Byte :=
  be 2 r.presented ++ beFrame r.last ++ be 2 r.next ++ be 3 (r.remaining.getD 16777215)

/-- Empty the run slot; the grant becomes none when the run held it (R173). -/
def removeRun (s : State) : State :=
  { s with rqt.run := none, rqt.grant := if s.rqt.grant = .run then .none else s.rqt.grant }

/-- Complete the run without examining the barriers. -/
def completeRunOnly (o : OutcomeCode) (w : Ctx) : Ctx :=
  match w.st.rqt.run with
  | none => w
  | some r => (complete .a r.tag 4 o (runResults r) w).upd removeRun

/-- Complete the run (R173). -/
def completeRun (o : OutcomeCode) (w : Ctx) : Ctx := examineBarriers .a (completeRunOnly o w)

/-- Put a record of the table into a state. -/
def setRecState (p : Port) (t : Byte) (x : RecState) (s : State) : State :=
  { s with rqt.records := s.rqt.records.map fun r => if r.port = p ∧ r.tag = t then { r with state := x } else r }

/-- Put the run into a state. -/
def setRunState (x : RunState) (s : State) : State :=
  { s with rqt.run := s.rqt.run.map fun r => { r with state := x } }

/-- The granted or presented record returns to WAITING, or the run to READY; the grant becomes none (R116, R175). -/
def returnGrant (s : State) : State :=
  match s.rqt.grant with
  | .record p t =>
    let u := setRecState p t .waiting s
    { u with rqt.grant := .none }
  | .run =>
    let u := setRunState .ready s
    { u with rqt.grant := .none }
  | .verify | .none => { s with rqt.grant := .none }

/-- Leading taken frames of the index from frame n on (R165). -/
def skipTaken (l : List Entry) (n : Nat) : Nat := n + ((l.drop n).takeWhile (·.taken)).length

/-- Step 1 of the frame choice: pass over taken frames when skip-taken is set (R165). -/
def chooseRunFrame (s : State) : State :=
  { s with rqt.run := s.rqt.run.map fun r => if r.skipTaken then { r with next := skipTaken s.fit.entries r.next } else r }

/-- Step 2 of the frame choice: the run can go no further (R165). -/
def State.runExhausted (s : State) : Bool :=
  match s.rqt.run with
  | some r => decide (r.next = Config.maxEntries) || (!s.indexed r.next && s.indexShut)
  | none => false

/-- The advance of a run whose frame N ended TAKEN or RELEASED (R171). -/
def runAdvance (n : Nat) (w : Ctx) : Ctx :=
  match w.st.rqt.run with
  | none => w
  | some r =>
    let left := r.remaining.map (· - 1)
    let u := w.upd fun s => { s with rqt.run := some { r with next := n + 1, remaining := left } }
    if left = some 0 then completeRun .complete u
    else
      let v := u.upd chooseRunFrame
      if v.st.runExhausted then completeRun .complete v
      else v.upd fun s =>
        let x := setRunState .ready s
        { x with rqt.grant := .none, trc.timers.park := none }

end Sys2Proof.Machine
end

