-- ==== Sys2Proof/Machine/Transport.lean ====
section
/-! DEFINITION. The transport's motions (R20 to R32): counting, motion starts, travel legs, CREEP-IN, SETTLING,
retargeting, position corrections, the rewind. -/

namespace Sys2Proof.Machine

/-- Enter a motion state; the building flag is cleared when the motion state leaves MOVING (R53). -/
def setMotion (m : Motion) (s : State) : State :=
  { s with trc.motion := m, fit.building := s.fit.building && m.moving }

/-- A motion start: the epoch advances and every watch is cleared (R32). -/
def motionStart (s : State) : State :=
  { s with trc.epoch := s.trc.epoch + 1, gtu.watches := PerPort.all false }

/-- The approach point A = max(T - M, 0) (R25). -/
def approachPoint (t : Nat) : Nat := t - Config.approachMargin

/-! ### Legs -/

/-- Begin a travel leg of non-zero length (R24, R25); a settle retry does not set the travel direction (R22, R28). -/
def travelLeg (m : Move) (d : Dir) (cls : SpeedClass) (setDir : Bool) (s : State) : State :=
  let u := setMotion .accel s
  { u with
    trc.move := some { m with dir := d, legSpeed := cls, ramp := .none, creepIn := false }
    trc.travelDir := if setDir then d else s.trc.travelDir }

/-- Enter SETTLING; the settle limit runs from here (R26, R28, R29). -/
def enterSettling (m : Move) (s : State) : State :=
  let u := setMotion .settling s
  { u with
    trc.move := some { m with ramp := .none, creepIn := false }
    trc.speed := 0
    trc.timers.settle := none
    trc.timers.settleLimit := some 0 }

/-- The sub-phase of a creep toward T: DECEL when the remaining distance is at most 1 count, else CREEP-IN (R26). -/
def creepPhase (t : Nat) (s : State) : State := setMotion (if t - s.trc.counter ≤ 1 then .decel else .creepIn) s

/-- CREEP-IN from rest toward T; a creep of zero length enters SETTLING at once (R26). -/
def startCreep (m : Move) (s : State) : State :=
  if m.target ≤ s.trc.counter then enterSettling m s
  else
    let u := creepPhase m.target s
    { u with trc.move := some { m with dir := .forward, legSpeed := .creep, ramp := .none, creepIn := true } }

/-- The leg of an APPROACH move from the counter to its approach point (R25). -/
def approachLeg (cls : SpeedClass) (setDir : Bool) (m : Move) (s : State) : State :=
  let a := approachPoint m.target
  if s.trc.counter = a then startCreep m s
  else if s.trc.counter < a then travelLeg m .forward cls setDir s
  else travelLeg m .reverse cls setDir s

/-- The leg of a DIRECT move from the counter straight to its target (R29). A JOG whose target has become E rests at the counter E
with an overrun: R29 gives it no approach point, R19 lets a target equal to E begin with a reverse motion to E - M. MODEL'S CHOICE
(log entry 31): it settles at once. -/
def directLeg (cls : SpeedClass) (setDir : Bool) (m : Move) (s : State) : State :=
  if s.trc.counter = m.target then enterSettling m s
  else if s.trc.counter < m.target then travelLeg m .forward cls setDir s
  else travelLeg m .reverse cls setDir s

/-- The next leg of a move with a target (R25, R29, R30). -/
def nextLeg (cls : SpeedClass) (setDir : Bool) (m : Move) (s : State) : State :=
  match m.job with
  | .jog => directLeg cls setDir m s
  | .present | .returnL | .forward | .verify | .rewind => approachLeg cls setDir m s

/-! ### Progress along a leg, at each count (R24) -/

/-- Distance left to an end point in the direction of the leg. -/
def remainingTo (d : Dir) (c e : Nat) : Nat :=
  match d with
  | .forward => e - c
  | .reverse => c - e

/-- A leg with an end point: ACCEL, CRUISE, then DECEL within the stopping distance (R24). -/
def progressTo (m : Move) (e : Nat) (s : State) : State :=
  if s.trc.motion = .decel then s
  else if remainingTo m.dir s.trc.counter e ≤ stopDistance s.trc.speed then setMotion .decel s
  else if s.trc.motion = .accel ∧ s.classSpeed m.legSpeed ≤ s.trc.speed then setMotion .cruise s
  else s

/-- The change of speed of an OPEN move that carries a change position (R24). Which of its two classes is the move's speed class
of R30 the rules do not say: MODEL'S CHOICE (log entry 39), the class in force, the first before the change position and the second
from there on. -/
def progressChange (m : Move) (cp : Nat) (second : SpeedClass) (s : State) : State :=
  let v := s.trc.speed
  let w := s.classSpeed second
  if remainingTo m.dir s.trc.counter cp = 0 then
    let u := setMotion (if v < w then .accel else .cruise) s
    { u with trc.move := some { m with change := none, speed := second, legSpeed := second } }
  else if w < v ∧ remainingTo m.dir s.trc.counter cp ≤ slowDistance v w then setMotion .decel s
  else if s.trc.motion = .accel ∧ s.classSpeed m.legSpeed ≤ v then setMotion .cruise s
  else s

/-- An OPEN move: within the stopping distance of a bound it begins DECEL to end BOUND (R24). -/
def progressOpen (m : Move) (s : State) : State :=
  let room := match m.dir with
    | .forward => s.posBound - s.trc.counter
    | .reverse => s.trc.counter
  if room ≤ stopDistance s.trc.speed then
    let u := setMotion .decel s
    { u with trc.move := some { m with ramp := .bound } }
  else
    match m.change with
    | some (cp, second) => progressChange m cp second s
    | none => if s.trc.motion = .accel ∧ s.classSpeed m.legSpeed ≤ s.trc.speed then setMotion .cruise s else s

/-- The sub-phase of the move in flight after a count (R24); CREEP-IN begins DECEL at its last count (R26). -/
def progress (s : State) : State :=
  match s.trc.move with
  | none => s
  | some m =>
    if m.ramp ≠ .none ∨ s.trc.motion.moving = false then s
    else if m.creepIn then (if m.target - s.trc.counter ≤ 1 then setMotion .decel s else s)
    else
      match m.job with
      | .present | .returnL => progressTo m (approachPoint m.target) s
      | .jog => progressTo m m.target s
      | .forward | .verify => progressOpen m s
      | .rewind =>
        if s.trc.motion = .accel ∧ Config.shuttleSpeed ≤ s.trc.speed then setMotion .cruise s else s

/-- A leg that has room again returns from DECEL to CRUISE, or to ACCEL below its class speed; in ACCEL and CRUISE it goes on as it
is (R21, R24). -/
def leaveDecel (cls : SpeedClass) (s : State) : State :=
  if s.trc.motion = .decel then setMotion (if s.classSpeed cls ≤ s.trc.speed then .cruise else .accel) s else s

/-- The sub-phase of a leg whose remaining distance has changed by a correction or a retarget (R21, R30). -/
def rephase (m : Move) (e : Nat) (s : State) : State :=
  if stopDistance s.trc.speed < remainingTo m.dir s.trc.counter e then leaveDecel m.legSpeed s else setMotion .decel s

/-! ### Starting a move -/

/-- Start an ordered move: a motion start, the target clamped, the first leg (R23 to R25, R29, R32). -/
def startMove (m : Move) (s : State) : State :=
  let u := motionStart s
  if m.job.isOpen then
    let room := match m.dir with
      | .forward => u.posBound - u.trc.counter
      | .reverse => u.trc.counter
    let v := setMotion .accel u
    progress
      { v with
        trc.move := some { m with legSpeed := m.speed, ramp := .none }
        trc.travelDir := if room = 0 then u.trc.travelDir else m.dir
        trc.speed := 0 }
  else
    nextLeg m.speed true { m with target := min m.target u.posBound } { u with trc.speed := 0 }

/-- An order is taken in IDLE, where the motion begins at once, or in PARKED, where waking begins (R23, R41, R42). -/
def orderMove (m : Move) (s : State) : State :=
  if s.trc.motion = .parked then
    let u := setMotion .waking s
    { u with trc.move := some m, trc.wakeFor := s.trc.wakeDelay, trc.timers.wake := some 0 }
  else startMove m s

/-- An order with a target. -/
def targetMove (job : Job) (target : Nat) (speed : SpeedClass) : Move :=
  ⟨job, target, .forward, speed, speed, none, .none, false, false⟩

/-- An OPEN order (R23). -/
def openMove (job : Job) (d : Dir) (speed : SpeedClass) (change : Option (Nat × SpeedClass)) : Move :=
  ⟨job, 0, d, speed, speed, change, .none, false, false⟩

/-! ### Retargeting (R30) -/

/-- A retarget while the film travels: the leg continues to A', or the film overshoots and a new leg follows at the speed class of
the move (R30), for an OPEN move of two classes the one in force: MODEL'S CHOICE (log entry 39). -/
def retargetTravel (m : Move) (s : State) : State :=
  let a := approachPoint m.target
  let c := s.trc.counter
  let ahead : Bool := match m.dir with
    | .forward => decide (c ≤ a ∧ stopDistance s.trc.speed ≤ a - c)
    | .reverse => decide (a ≤ c ∧ stopDistance s.trc.speed ≤ c - a)
  if ahead then
    let n := { m with ramp := .none }
    rephase n a { s with trc.move := some n }
  else
    let u := setMotion .decel s
    { u with trc.move := some { m with ramp := .replan, legSpeed := m.speed } }

/-- A retarget during CREEP-IN: the creep continues to T', or it ramps to rest, and a travel leg to A' at CREEP speed
follows (R30). -/
def retargetCreep (m : Move) (s : State) : State :=
  if approachPoint m.target ≤ s.trc.counter ∧ s.trc.counter < m.target then creepPhase m.target { s with trc.move := some m }
  else
    let u := setMotion .decel s
    { u with trc.move := some { m with ramp := .replan, legSpeed := .creep, creepIn := false } }

/-- Retarget the move in flight to T' (R30); it becomes a `job` move, which is an APPROACH. A move under a stop order is
not retargeted, and a T' equal to the present target changes no motion. R30's table has no row for a move that already ramps
to rest for an overshoot or for END: MODEL'S CHOICE (log entry 22), it takes T' as its target, and the ramp goes on to rest, also
where A' lies ahead beyond the stopping distance. -/
def retarget (job : Job) (t : Nat) (s : State) : State :=
  match s.trc.move with
  | none => s
  | some m =>
    let t' := min t s.posBound
    if m.ramp = .stop then s
    else if m.job.isOpen = false ∧ m.target = t' then { s with trc.move := some { m with job := job } }
    else
      let n : Move := { m with job := job, target := t', change := none, retried := false }
      match s.trc.motion with
      | .settling =>
        if s.inBand t' then { s with trc.move := some n, trc.timers.settle := some 0 }
        else approachLeg n.speed true n (motionStart s)
      | .accel | .cruise | .decel | .creepIn =>
        if m.ramp = .replan then { s with trc.move := some n }
        else if m.creepIn then retargetCreep n s
        else retargetTravel n s
      | .off | .idle | .parked | .waking | .faulted => { s with trc.move := some n }

/-! ### Position corrections (R21) -/

/-- An OPEN move after a correction: its distances to a bound and to its change position are measured anew, so that a DECEL to
a bound that again has room returns to CRUISE or ACCEL (R21, R24). -/
def rephaseOpen (m : Move) (s : State) : State :=
  let n : Move := { m with ramp := .none }
  let u := leaveDecel n.legSpeed s
  progressOpen n { u with trc.move := some n }

/-- CREEP-IN after a correction: it goes on toward T, or, where a correction has raised the counter to T or past it, ramps to
rest as an overshoot, and a travel leg to A at CREEP speed follows (R21, R26, R30; log entry 12). -/
def rephaseCreep (raised : Bool) (m : Move) (s : State) : State :=
  if raised && decide (m.target ≤ s.trc.counter) then retargetCreep m s else creepPhase m.target s

/-- After a correction a move in flight measures its distance from the corrected counter (R21). A move that ramps to rest for a
stop order, an overshoot or END has no distance left to measure. -/
def rephaseLeg (raised : Bool) (s : State) : State :=
  match s.trc.move with
  | none => s
  | some m =>
    if m.ramp = .stop ∨ m.ramp = .replan ∨ s.trc.motion.moving = false then s
    else if m.creepIn then rephaseCreep raised m s
    else
      match m.job with
      | .present | .returnL => rephase m (approachPoint m.target) s
      | .jog => rephase m m.target s
      | .forward | .verify => rephaseOpen m s
      | .rewind => s

/-- Add a signed correction to the counter within its bounds; a mark in progress is shifted by the amount applied
(R21, R48). -/
def applyCorrection (d : Int) (s : State) : State :=
  let c := s.clampPos ((s.trc.counter : Int) + d)
  let applied : Int := (c : Int) - (s.trc.counter : Int)
  rephaseLeg (decide (0 < applied))
    { s with
      trc.counter := c
      mkd := match s.mkd with
        | .inMark m => .inMark { m with first := ((m.first : Int) + applied).toNat }
        | .off => .off
        | .armed => .armed
        | .blocked => .blocked }

/-! ### Counting (R20) -/

/-- What one encoder count does to the counter. -/
structure Counted where
  /-- the count was tallied into the counter -/
  tallied : Bool
  /-- the count was lost at a bound that makes the position unverified with the roll LOADED -/
  lost : Bool
deriving DecidableEq, Repr

/-- The position counter, the overrun count and the count's fate (R18, R20). -/
def countStep (d : Dir) (s : State) : State × Counted :=
  match d with
  | .forward =>
    match s.trc.endPos with
    | some e =>
      if s.trc.counter < e then ({ s with trc.counter := s.trc.counter + 1 }, ⟨true, false⟩)
      else ({ s with trc.overrun := s.trc.overrun + 1 }, ⟨false, false⟩)
    | none =>
      if s.trc.counter < Config.maxPosition then ({ s with trc.counter := s.trc.counter + 1 }, ⟨true, false⟩)
      else (s, ⟨false, true⟩)
  | .reverse =>
    if 0 < s.trc.overrun then ({ s with trc.overrun := s.trc.overrun - 1 }, ⟨false, false⟩)
    else if 0 < s.trc.counter then ({ s with trc.counter := s.trc.counter - 1 }, ⟨true, false⟩)
    else (s, ⟨false, true⟩)

/-! ### The rewind (R15, R16) -/

/-- The rewind runs: it has begun and the film is MOVING (R15). -/
def State.rewindRuns (s : State) : Bool :=
  match s.trc.move with
  | some m => decide (m.job = .rewind) && decide (m.ramp ≠ .replan) && s.trc.motion.moving
  | none => false

/-- The end of the rewind (R16). -/
def rewindEnd (w : Ctx) : Ctx :=
  let u := w.upd fun s =>
    let x := setMotion .off s
    { x with
      trc.counter := 0, trc.verified := true, trc.profile := none, trc.endPos := none, trc.roll := .empty
      trc.move := none, trc.speed := 0, fit.p256 := 0 }
  completeTimed .unload .done [] (setLevel .unverified false ([5] ++ be 3 0) u)

/-- With the counter at 0 and LEADER low a running rewind ends (R16). -/
def checkRewindEnd (w : Ctx) : Ctx :=
  if w.st.trc.roll = .rewinding ∧ w.st.rewindRuns = true ∧ w.st.trc.counter = 0 ∧ w.st.pins.leader = false then rewindEnd w
  else w

/-- The rewind begins: a motion start, then reverse at SHUTTLE (R15, R32). While HALTED is set it waits (R15). -/
def beginRewind (w : Ctx) : Ctx :=
  if w.st.rqt.halted then w.upd fun s => { setMotion .idle s with trc.move := none, trc.speed := 0 }
  else
    checkRewindEnd (w.upd fun s =>
      travelLeg (openMove .rewind .reverse .shuttle none) .reverse .shuttle true (motionStart s))

/-- An accepted UNLOAD finds the transport in a motion state (R15). A forward motion ramps to a stop before the rewind;
so does any motion while HALTED makes the rewind wait. -/
def rewindFrom (w : Ctx) : Ctx :=
  match w.st.trc.motion with
  | .idle | .settling => beginRewind w
  | .accel | .cruise | .decel | .creepIn =>
    let d := match w.st.trc.move with | some m => m.dir | none => .forward
    if d = .forward ∨ w.st.rqt.halted = true then
      w.upd fun s =>
        let u := setMotion .decel s
        { u with trc.move := some { openMove .rewind d .shuttle none with ramp := .replan } }
    else beginRewind w
  | .parked => w.upd fun s =>
    let u := setMotion .waking s
    { u with trc.move := none, trc.wakeFor := s.trc.wakeDelay, trc.timers.wake := some 0 }
  | .waking => w.upd fun s => { s with trc.move := none }
  | .faulted | .off => w.upd fun s => { s with trc.move := none }

end Sys2Proof.Machine
end

