-- ==== Sys2Proof/Machine/Focus.lean ====
section
/-! DEFINITION. Presenting a frame (R142, R144, R170) and the Focus Controller: the lens stage, sharpness, the focus
table, lookups and sweeps (R90 to R109). -/

namespace Sys2Proof.Machine

/-! ### The presentation (R144) -/

/-- A presented run frame is counted (R170). -/
def presentRun (n : Nat) (s : State) : State :=
  { s with rqt.run := s.rqt.run.map fun r =>
      { r with state := .atGate, presented := min (r.presented + 1) 65535, last := some n } }

/-- Make the presentation of the grant in hand (R144). -/
def makePresentation (src : FocusSource) (w : Ctx) : Ctx :=
  match w.st.gtu.inHand with
  | none => w
  | some g =>
    let hold := g.hold.getD w.st.profile.holdTime
    let u := w.upd fun s =>
      let x := match g.holder with
        | .record p t => setRecState p t .atGate s
        | .run _ => presentRun g.frame s
      { x with
        gtu.presentation := some ⟨g.holder, g.frame, s.trc.epoch, src, hold, .none⟩
        gtu.phase := .presented
        gtu.watches := x.gtu.watches.set g.holder.port true
        gtu.hold := some hold
        gtu.inHand := none
        gtu.heldReport := none }
    pulse .presented g.holder.port
      ([g.holder.tag] ++ be 2 g.frame ++ [src.code] ++ be 2 w.st.trc.epoch.toNat) u

/-- Focus is ready: the presentation is made at once, or the report is held while an exposure is in progress (R142). A
report that finds no grant in FOCUSING is discarded (R143). -/
def focusReady (src : FocusSource) (w : Ctx) : Ctx :=
  if w.st.gtu.phase = .focusing ∧ w.st.gtu.inHand.isSome = true then
    if w.st.gtu.exposure.isSome then w.upd fun s => { s with gtu.heldReport := some src } else makePresentation src w
  else w

/-! ### The lens stage (R90) -/

/-- What the completion of a lens move lets proceed: a sample requests its focus line (R91), a last move makes focus
ready (R96, R99, R102), a dropped one nothing. -/
def lensDone (p : LensPurpose) (w : Ctx) : Ctx :=
  match p with
  | .sample => if w.st.fcc.sweep.isSome then w.upd fun s => { s with fcc.sampleTimer := some 0 } else w
  | .final src => focusReady src w
  | .dropped => w

/-- Order a lens move: held while the stage is HOMING or MOVING, done at once when the lens stands there, held while an
exposure is in progress, else begun (R90). -/
def orderLens (mv : LensMove) (w : Ctx) : Ctx :=
  if w.st.fcc.stage ≠ .idle then w.upd fun s => { s with fcc.held := some mv }
  else if mv.target = w.st.fcc.lens then lensDone mv.purpose w
  else if w.st.gtu.exposure.isSome then w.upd fun s => { s with fcc.held := some mv }
  else w.upd fun s => { s with fcc.running := some mv, fcc.stage := .moving }

/-- Begin the held lens move when the stage is IDLE; an exposure holds it again unless it needs no motion (R90). -/
def beginHeld (w : Ctx) : Ctx :=
  match w.st.fcc.held with
  | none => w
  | some mv =>
    if w.st.fcc.stage = .idle then orderLens mv (w.upd fun s => { s with fcc.held := none }) else w

/-- The lookup of a grant that has ended is abandoned: its sweep and its sample are discarded, its held lens move is
dropped, its running lens move runs on for nobody (R90, R103). -/
def abandonLookup (s : State) : State :=
  { s with
    fcc.sweep := none
    fcc.sampleTimer := none
    fcc.held := none
    fcc.running := s.fcc.running.map fun m => { m with purpose := .dropped }
    gtu.heldReport := none }

/-! ### The focus table (R93 to R95) -/

/-- Line `n` of the focus table. -/
def State.focusLine (s : State) (n : Nat) : FocusLine := s.fcc.lines.getD n FocusLine.invalid

/-- Make a line most recent (R94). -/
def touchLine (n : Nat) (s : State) : State := { s with fcc.lru := n :: s.fcc.lru.filter fun x => decide (x ≠ n) }

/-- The number of the valid line tagged with a sector (R96). -/
def State.lineOf (s : State) (x : Nat) : Option Nat :=
  s.fcc.lines.findIdx? fun l => l.valid && decide (l.sector = x)

/-- The number of locked lines (R104). -/
def State.lockedCount (s : State) : Nat := s.fcc.lines.countP (·.locked)

/-- The victim: the least recent invalid line, else the least recent unlocked line (R95). -/
def State.victim (s : State) : Nat :=
  let back := s.fcc.lru.reverse
  match back.find? fun n => !(s.focusLine n).valid with
  | some n => n
  | none => (back.find? fun n => !(s.focusLine n).locked).getD 0

/-- Write a line of the table. -/
def setFocusLine (n : Nat) (l : FocusLine) (s : State) : State := { s with fcc.lines := s.fcc.lines.set n l }

/-- Write the line of a sector and make it most recent (R94): `f` of the line tagged with it, or `fresh` in the victim. -/
def putSector (x : Nat) (f : FocusLine → FocusLine) (fresh : FocusLine) (s : State) : State :=
  match s.lineOf x with
  | some n => touchLine n (setFocusLine n (f (s.focusLine n)) s)
  | none => touchLine s.victim (setFocusLine s.victim fresh s)

/-- A splice was taken by an entry of sector x: its line returns to PENDING, and its value is discarded (R109). What source
FOCUS-READ then reports the rules do not say: MODEL'S CHOICE (log entry 26), SWEEP. -/
def splicePending (x : Nat) (s : State) : State :=
  match s.lineOf x with
  | some n => setFocusLine n { s.focusLine n with pending := true, value := 0, source := .sweep } s
  | none => s

/-! ### Sharpness and sweeps (R92, R97 to R102) -/

/-- The sharpness of a focus line: the sum of the squared differences of neighbouring pixels (R92). -/
def sharpness : List (BitVec 10) → Nat
  | p :: q :: rest => (absDiff p.toNat q.toNat) ^ 2 + sharpness (q :: rest)
  | _ => 0

/-- The positions start, start + step, ... of a pass that lie in 0..1,023, in increasing order (R98, R100). -/
def passPositions (start : Int) (step count : Nat) : List Nat :=
  (List.range count).filterMap fun i =>
    let x : Int := start + (i : Int) * (step : Int)
    if 0 ≤ x ∧ x ≤ 1023 then some x.toNat else none

/-- The coarse positions around centre c (R98). -/
def coarsePositions (c s q : Nat) : List Nat := passPositions ((c : Int) - (s : Int)) q (2 * s / q + 1)

/-- The fine positions around the coarse peak j (R100). -/
def finePositions (j q : Nat) : List Nat := passPositions ((j : Int) - (q : Int) + 1) 1 (2 * q - 1)

/-- Nearest of two VALUE lines to sector x; the lower tag on a tie (R97). -/
def nearerLine (x : Nat) (best : Option FocusLine) (l : FocusLine) : Option FocusLine :=
  if l.valid && !l.pending then
    match best with
    | none => some l
    | some b =>
      let dl := absDiff l.sector x
      let db := absDiff b.sector x
      if dl < db ∨ (dl = db ∧ l.sector < b.sector) then some l else some b
  else best

/-- The value that a sweep for sector x starts from: that of the nearest VALUE line, or the default focus (R97). -/
def State.sweepValue (s : State) (x : Nat) : Nat :=
  match s.fcc.lines.foldl (nearerLine x) none with
  | some l => l.value
  | none => s.profile.defaultFocus

/-- The centre of a sweep in whole steps (R97). -/
def State.sweepCentre (s : State) (x : Nat) : Nat :=
  clampNat 0 1023 (roundQuot s.profile.rounding (s.sweepValue x : Int) 4).toNat

/-- Take the sample at the head of the sweep's list: a lens move to 4 times the position (R98). -/
def takeSample (w : Ctx) : Ctx :=
  match w.st.fcc.sweep with
  | some sw =>
    match sw.next with
    | j :: _ => orderLens ⟨4 * j, .sample⟩ w
    | [] => w
  | none => w

/-- A sweep begins (R97). -/
def beginSweep (owner : Holder) (n x : Nat) (w : Ctx) : Ctx :=
  let p := w.st.profile
  let c := w.st.sweepCentre x
  let l := coarsePositions c p.sweepSpan p.coarseStep
  let sw : Sweep := ⟨owner, n, x, c, .coarse, l, l, [], none, false, p.sweepSpan, p.coarseStep, p.contrastFloor⟩
  takeSample (w.upd fun s => { s with fcc.sweep := some sw })

/-- The sweep gives no focus value: the lens goes to the default focus and FOCUS-DEFAULTED latches (R99). Reason 0 is
LOW-CONTRAST, 1 is NO-LINE (R198). -/
def sweepDefault (sw : Sweep) (reason : Byte) (w : Ctx) : Ctx :=
  orderLens ⟨w.st.profile.defaultFocus, .final .default⟩
    (pulseAll .focusDefaulted ([BitVec.ofNat 8 sw.sector] ++ be 2 sw.frame ++ [reason])
      (w.upd fun s => { s with fcc.sweep := none, fcc.sampleTimer := none }))

/-- The sharpness sampled at a position of the present pass. -/
def sampleAt (l : List (Nat × Nat)) (j : Nat) : Option Nat := (l.find? fun x => decide (x.1 = j)).map (·.2)

/-- The refined focus value around the fine peak j0 (R101). -/
def refineFocus (mode : Rounding) (l : List (Nat × Nat)) (j0 s0 : Nat) : Nat :=
  match (if j0 = 0 then none else sampleAt l (j0 - 1)), sampleAt l (j0 + 1) with
  | some a, some b =>
    let d : Int := (a : Int) - 2 * (s0 : Int) + (b : Int)
    if d = 0 then 4 * j0 else (4 * (j0 : Int) + roundQuot mode (2 * ((a : Int) - (b : Int))) d).toNat
  | _, _ => 4 * j0

/-- The sweep has succeeded with focus value f (R102). -/
def sweepSuccess (sw : Sweep) (f : Nat) (w : Ctx) : Ctx :=
  orderLens ⟨f, .final .sweep⟩
    (w.upd fun s =>
      putSector sw.sector
        (fun l => if l.pending then { l with pending := false, value := f, source := .sweep } else l)
        ⟨true, sw.sector, false, f, .sweep, false⟩
        { s with fcc.sweep := none, fcc.sampleTimer := none })

/-- The end of a pass (R98 to R102). -/
def passEnd (sw : Sweep) (w : Ctx) : Ctx :=
  match sw.best with
  | none => sweepDefault sw 0 w
  | some (j, top) =>
    match sw.pass with
    | .coarse =>
      if top < sw.floor then sweepDefault sw 0 w
      else
        let l := finePositions j sw.step
        takeSample (w.upd fun s =>
          { s with fcc.sweep := some { sw with pass := .fine, positions := l, next := l, samples := [], best := none } })
    | .fine => sweepSuccess sw (refineFocus w.st.profile.rounding sw.samples j top) w

/-- The best of a pass is the first position of largest S (R98). -/
def betterSample (best : Option (Nat × Nat)) (j s : Nat) : Option (Nat × Nat) :=
  match best with
  | some (i, t) => if t < s then some (j, s) else some (i, t)
  | none => some (j, s)

/-- A focus line of sharpness `s` answers the sample of a sweep (R92, R98). -/
def addSample (sw : Sweep) (s : Nat) (w : Ctx) : Ctx :=
  match sw.next with
  | [] => w
  | j :: rest =>
    let n : Sweep :=
      { sw with samples := sw.samples ++ [(j, s)], best := betterSample sw.best j s, next := rest, repeatUsed := false }
    let u := w.upd fun x => { x with fcc.sweep := some n, fcc.sampleTimer := none }
    match rest with
    | [] => passEnd n u
    | _ :: _ => takeSample u

/-- GTU asks for focus for frame n (R96). -/
def focusLookup (owner : Holder) (n : Nat) (w : Ctx) : Ctx :=
  let x := n / 256
  match w.st.lineOf x with
  | some i =>
    if (w.st.focusLine i).pending then beginSweep owner n x w
    else orderLens ⟨(w.st.focusLine i).value, .final .table⟩ (w.upd (touchLine i))
  | none => beginSweep owner n x w

end Sys2Proof.Machine
end

