-- ==== Sys2Proof/Machine/Gate.lean ====
section
/-! DEFINITION. The Gate Unit and what ends a grant: ends of presentations and exposures, taking a fault, stop orders,
the unverified position, and the disposal of move ends (R23, R31, R37, R74, R75, R121, R131, R140 to R159, R169). -/

namespace Sys2Proof.Machine

/-! ### Grant in hand, presentation, exposure -/

/-- Drop the grant in hand; the gate phase becomes IDLE when it served that grant (R140, R143). -/
def dropInHand (s : State) : State :=
  { s with
    gtu.inHand := none
    gtu.heldReport := none
    gtu.phase := match s.gtu.phase with
      | .positioning | .settling | .focusing | .idle => .idle
      | .presented => .presented
      | .exposing => .exposing }

/-- How a presentation ends by itself (R151); FAULT, UNLOADED and the silent end are part of their events. -/
inductive PresEnd where
  | taken | released | lapsed | cancelled | renumbered
deriving DecidableEq, Repr

/-- The presentation record goes, the hold timer stops, the gate phase becomes IDLE (R151). -/
def clearPresentation (s : State) : State :=
  { s with gtu.presentation := none, gtu.hold := none, gtu.phase := .idle }

/-- A presentation ends (R151). -/
def endPresentation (o : PresEnd) (w : Ctx) : Ctx :=
  match w.st.gtu.presentation with
  | none => w
  | some x =>
    let u := w.upd clearPresentation
    match o, x.holder with
    | .renumbered, _ => u.upd returnGrant
    | .taken, .record p t => completeTag p t .taken u
    | .released, .record p t => completeTag p t .released u
    | .lapsed, .record p t => completeTag p t .lapsed u
    | .cancelled, .record p t => completeTag p t .cancelled u
    | .taken, .run _ => runAdvance x.frame u
    | .released, .run _ => runAdvance x.frame u
    | .lapsed, .run _ => completeRun .lapsed u
    | .cancelled, .run _ => completeRun .cancelled u

/-- Set TAKEN on an entry (R147). -/
def markTaken (n : Nat) (s : State) : State :=
  { s with fit.entries := s.fit.entries.modify n fun e => { e with taken := true } }

/-- The EXPOSE completes with the frame at the gate and the epoch of its record (R156, R217). -/
def completeExpose (e : Exposure) (o : OutcomeCode) (w : Ctx) : Ctx :=
  complete e.port e.tag TimedKind.expose.code o (beFrame e.frame ++ be 2 e.epoch.toNat)
    (w.upd fun s => s.setLink e.port
      { s.link e.port with outstanding := (s.link e.port).outstanding.filter fun x => decide (x ≠ (e.tag, TimedKind.expose)) })

/-- TRIG drops and the exposure record is discarded (R156 to R158). -/
def dropExposure (s : State) : State := { s with gtu.exposure := none, gtu.trig := false }

/-- An exposure is abandoned with a completion (R158). -/
def abandonExposure (o : OutcomeCode) (w : Ctx) : Ctx :=
  match w.st.gtu.exposure with
  | none => w
  | some e => (completeExpose e o w).upd dropExposure

/-- After an exposure with a presentation: the deferred end, or PRESENTED again with the full hold (R150, R156). -/
def afterExposure (w : Ctx) : Ctx :=
  match w.st.gtu.presentation with
  | none => w
  | some x =>
    match x.deferred with
    | .taken => endPresentation .taken w
    | .released => endPresentation .released w
    | .cancelled => endPresentation .cancelled w
    | .renumbered => endPresentation .renumbered w
    | .none => w.upd fun s => { s with gtu.phase := .presented, gtu.hold := some x.hold }

/-- An exposure ends by EXPDONE or by timeout (R156, R157): completion, deferred end, held report, held lens move. -/
def endExposure (o : OutcomeCode) (w : Ctx) : Ctx :=
  match w.st.gtu.exposure with
  | none => w
  | some e =>
    let u := (completeExpose e o w).upd dropExposure
    let v := if e.withPresentation then afterExposure u else u
    let x := match v.st.gtu.heldReport with
      | some src => focusReady src (v.upd fun s => { s with gtu.heldReport := none })
      | none => v
    beginHeld x

/-! ### Faults (R37) -/

/-- What a fault does to the transport, to FIT's flag and verify record, and to the watches (R37, R68, R89). -/
def faultState (c : Cause) (s : State) : State :=
  let u := setMotion .faulted s
  { u with
    trc.cause := c
    trc.verified := false
    trc.slip := 0
    trc.move := none
    trc.retension := false
    fit.verify := none
    gtu.watches := PerPort.all false }

/-- A READY, GRANTED or AT-GATE run becomes SUSPENDED (R175). -/
def suspendRun (s : State) : State := setRunState .suspended s

/-- The grant's holder meets a fault: a record completes FAULT (R37). -/
def faultGrant (w : Ctx) : Ctx :=
  match w.st.rqt.grant with
  | .record p t => completeTag p t .fault w
  | .run | .verify | .none => w

/-- A fault is taken (R37). -/
def takeFault (c : Cause) (w : Ctx) : Ctx :=
  let was := w.st.trc.verified
  let a := faultGrant (w.upd (faultState c))
  let b := a.upd fun s =>
    let x := suspendRun s
    { x with rqt.grant := .none, rqt.stopReason := .none }
  let d := (abandonExposure .fault b).upd fun s => abandonLookup (dropInHand (clearPresentation s))
  let e := setLevel .fault true [c.code] d
  if was then setLevel .unverified true ([0] ++ be 3 e.st.trc.counter) e else e

/-! ### Move ends and stop orders (R23, R31, R121, R131) -/

/-- The film is at rest and the motion state is IDLE; the move is over. -/
def moveOver (s : State) : State :=
  let u := setMotion .idle s
  { u with trc.move := none, trc.speed := 0 }

/-- RQT disposes of a STOPPED end (R121, R131, R140, R169). -/
def disposeStopped (w : Ctx) : Ctx :=
  match w.st.rqt.grant with
  | .none => w.upd fun s => { s with rqt.stopReason := .none }
  | .record _ _ | .run => w.upd fun s => dropInHand { returnGrant s with rqt.stopReason := .none }
  | .verify =>
    let hit : Bool := match w.st.fit.verify with | some v => v.hit | none => false
    let halted : Bool := decide (w.st.rqt.stopReason = .halt)
    let u := w.upd fun s => { s with rqt.grant := .none, rqt.stopReason := .none, fit.verify := none }
    if hit || halted then u else takeFault .verifyFail u

/-- A stop order for the move in flight (R31). -/
def orderStop (r : StopReason) (w : Ctx) : Ctx :=
  match w.st.trc.move with
  | none => w
  | some m =>
    if m.ramp = .stop then w
    else
      match w.st.trc.motion with
      | .accel | .cruise | .decel | .creepIn =>
        w.upd fun s =>
          let u := setMotion .decel s
          { u with trc.move := some { m with ramp := .stop }, rqt.stopReason := r }
      | .settling => disposeStopped (w.upd fun s => { moveOver s with rqt.stopReason := r })
      | .waking => disposeStopped (w.upd fun s => { s with trc.move := none, rqt.stopReason := r })
      | .off | .idle | .parked | .faulted => w

/-! ### Verified and unverified (R74, R75) -/

/-- The position is set verified (R74). Reasons 3 MATCH, 4 NO-ANCHOR, 5 REWIND (R198). -/
def setVerified (reason : Byte) (w : Ctx) : Ctx :=
  setLevel .unverified false (reason :: be 3 w.st.trc.counter) (w.upd fun s => { s with trc.verified := true })

/-- The granted work can no longer be trusted to reach its frame (R75, R143). -/
def unverifiedGrant (w : Ctx) : Ctx :=
  match w.st.rqt.grant with
  | .none | .verify => w
  | .record _ _ | .run =>
    if w.st.gtu.phase = .focusing then w.upd fun s => dropInHand (returnGrant (abandonLookup s))
    else
      match w.st.trc.move with
      | some m =>
        match m.job with
        | .present | .returnL | .forward => orderStop .unverified w
        | .jog | .verify | .rewind => w
      | none => w

/-- The position becomes unverified (R73 to R75). Reasons 0 FAULT, 1 SLIPS, 2 BOUND (R198). -/
def becomeUnverified (reason : Byte) (w : Ctx) : Ctx :=
  if w.st.trc.verified then
    unverifiedGrant (setLevel .unverified true (reason :: be 3 w.st.trc.counter)
      (w.upd fun s => { s with trc.verified := false, trc.slip := 0, fit.building := false }))
  else w

/-! ### The other move ends -/

/-- A record or run ends POSITION-FAIL without presentation (R28, R131, R169). -/
def positionFail (w : Ctx) : Ctx :=
  let u := w.upd dropInHand
  match u.st.rqt.grant with
  | .record p t => completeTag p t .positionFail u
  | .run => completeRun .positionFail u
  | .verify | .none => u

/-- The frame of the grant in hand cannot stand under the gate (R141, R169). -/
def gateUnreachable (n : Nat) (w : Ctx) : Ctx :=
  let u := w.upd dropInHand
  match u.st.rqt.grant with
  | .record p t => completeTag p t .positionFail u
  | .run =>
    let beyond : Bool := match u.st.fit.entries[n]?, u.st.trc.endPos with
      | some e, some b => decide (b < e.pos + u.st.profile.gateOffset)
      | _, _ => false
    completeRun (if beyond then .complete else .positionFail) u
  | .verify | .none => u

/-- SETTLED on the approach to the granted target (R141). -/
def gateSettled (w : Ctx) : Ctx :=
  match w.st.gtu.inHand with
  | none => w
  | some g =>
    if w.st.frameAtGate = some g.frame then
      let u := w.upd fun s => { s with gtu.phase := .focusing }
      match g.mode with
      | .normal => focusLookup g.holder g.frame u
      | .hold => focusReady .held u
    else gateUnreachable g.frame w

/-- The move ends SETTLED (R27, R127, R131). -/
def moveSettled (w : Ctx) : Ctx :=
  match w.st.trc.move with
  | none => w
  | some m =>
    let u := w.upd moveOver
    match m.job with
    | .present => gateSettled u
    | .returnL =>
      if u.st.gtu.inHand.isSome then u.upd (orderMove (openMove .forward .forward .index none)) else u
    | .jog =>
      match u.st.rqt.grant with
      | .record p t => completeTag p t .settled u
      | .run | .verify | .none => u
    | .forward | .verify | .rewind => u

/-- An OPEN move ends BOUND (R121, R130, R168). -/
def moveBound (w : Ctx) : Ctx :=
  let u := w.upd moveOver
  match u.st.rqt.grant with
  | .record p t => completeTag p t .notFound (u.upd dropInHand)
  | .run => completeRun .complete (u.upd dropInHand)
  | .verify =>
    let hit : Bool := match u.st.fit.verify with | some v => v.hit | none => false
    let v := u.upd fun s => { s with rqt.grant := .none, rqt.stopReason := .none, fit.verify := none }
    if hit then v else takeFault .verifyFail v
  | .none => u

end Sys2Proof.Machine
end

