-- ==== Sys2Proof/Machine/Index.lean ====
section
/-! DEFINITION. The Mark Detector and the Frame Index: sampling, sightings, building, re-sync, verify sightings and the
corrections of CORRECT (R45 to R64, R69 to R86). -/

namespace Sys2Proof.Machine

/-! ### The mark detector (R46 to R49) -/

/-- A mark sighting handed to FIT (R49). -/
structure Sighting where
  centre : Nat
  width : Nat
  peak : Nat
  weak : Bool
  dir : Dir
  building : Bool
deriving DecidableEq, Repr

/-- The mark in progress ends at counter value `c`; it is a sighting when it is usable (R49). -/
def endMark (p : Profile) (m : Mark) (c : Nat) : Option Sighting :=
  let a := min m.first c
  let b := max m.first c
  let w := b - a
  if p.widthMin ≤ w ∧ w ≤ p.widthMax ∧ m.fast = false ∧ m.untallied = false then
    some ⟨(roundQuot p.rounding ((a + b : Nat) : Int) 2).toNat, w, m.peak, decide (m.peak < p.markStrong), m.dir, m.building⟩
  else none

/-- One sample of the selected track, taken after a count (R46 to R49). -/
def sampleMark (d : Dir) (level : Nat) (tallied : Bool) (s : State) : State × Option Sighting :=
  let p := s.profile
  let fast := decide (p.indexSpeed < s.trc.speed)
  match s.mkd with
  | .off => (s, none)
  | .armed =>
    if p.markOn ≤ level then
      ({ s with mkd := .inMark ⟨s.trc.counter, d, level, fast, !tallied, s.fit.building⟩ }, none)
    else (s, none)
  | .inMark m =>
    if d ≠ m.dir then ({ s with mkd := if p.markOff ≤ level then .blocked else .armed }, none)
    else if p.markOff ≤ level then
      let n : Mark := { m with peak := max m.peak level, fast := m.fast || fast, untallied := m.untallied || !tallied }
      ({ s with mkd := .inMark n }, none)
    else ({ s with mkd := .armed }, endMark p m s.trc.counter)
  | .blocked => if level < p.markOff then ({ s with mkd := .armed }, none) else (s, none)

/-- The building flag after a count (R53). -/
def countBuilding (d : Dir) (tallied : Bool) (s : State) : State :=
  match d with
  | .reverse => { s with fit.building := false }
  | .forward =>
    let past : Bool := match s.fit.index with
      | .empty => true
      | .opened =>
        match s.frontierPos with
        | some l => decide ((s.fit.p256 : Int) < 512 * ((s.trc.counter : Int) - (l : Int)))
        | none => false
      | .full | .closed => false
    if tallied && s.trc.motion.moving && s.trc.verified && past then { s with fit.building := true } else s

/-! ### Announcements (R63, R128 to R130, R168) -/

/-- The move in flight is an index-forward move, not retargeted (R127). -/
def State.forwardMove (s : State) : Option Move :=
  match s.trc.move with
  | some m => if m.job = .forward then some m else none
  | none => none

/-- A WAITING PRESENT or JOG of a class above `c` exists (R122, R129). -/
def State.outclassed (s : State) (c : Nat) : Bool :=
  s.rqt.records.any fun r => decide (r.state = .waiting) && decide (r.work ≠ .barrier) && decide (c < r.cls)

/-- A granted record is preempted at an announcement when a waiting record outclasses it (R129). The run is not (R168). -/
def preempt (w : Ctx) : Ctx :=
  match w.st.rqt.grant with
  | .record p t =>
    match w.st.findRecord p t with
    | some r => if w.st.outclassed r.cls then orderStop .preempted w else w
    | none => w
  | .none | .run | .verify => w

/-- FIT announces the entries of one sighting, frames lo to hi (R63, R128, R129). -/
def announce (lo hi : Nat) (w : Ctx) : Ctx :=
  match w.st.forwardMove, w.st.gtu.inHand with
  | some m, some g =>
    if m.ramp = .stop then w
    else if lo ≤ g.frame ∧ g.frame ≤ hi then
      match w.st.gateTarget g.frame with
      | some t => w.upd (retarget .present t)
      | none => w
    else preempt w
  | _, _ => w

/-- An index-forward move can no longer reach its frame, by END or by FULL: its record or run completes and the film ramps
to rest (R130, R168). The run's move must not be under a stop order (R168). -/
def forwardLost (o : OutcomeCode) (w : Ctx) : Ctx :=
  match w.st.forwardMove, w.st.gtu.inHand with
  | some m, some g =>
    if w.st.indexed g.frame then w
    else
      match w.st.rqt.grant with
      | .record p t => orderStop .none (completeTag p t o (w.upd dropInHand))
      | .run => if m.ramp = .stop then w else orderStop .none (completeRun .complete (w.upd dropInHand))
      | .none | .verify => w
  | _, _ => w

/-! ### Building (R54 to R64) -/

/-- The new entry of a mark at position m (R50). -/
def observedEntry (m : Nat) (weak brk : Bool) : Entry := ⟨m, .observed, weak, false, false, brk, false⟩

/-- The new entry of a missed mark (R59). -/
def filledEntry (m : Nat) : Entry := ⟨m, .filled, false, false, false, false, false⟩

/-- P256 after an update, clamped (R61). -/
def clampP256 (p : Profile) (x : Int) : Nat := clampNat (256 * p.pitchMin) (256 * p.pitchMax) x.toNat

/-- Give the pending splice to the first entry made (R64). -/
def spliceFirst (pending : Bool) : List Entry → List Entry
  | [] => []
  | e :: rest => (if pending then { e with spliceBefore := true } else e) :: rest

/-- Make the entries of one sighting as far as the capacity goes, and update P256 when all of them are made (R62). -/
def makeEntries (new : List Entry) (p256 : Nat) (s : State) : State :=
  let n := s.fit.entries.length
  let made := new.take (Config.maxEntries - n)
  let entries := s.fit.entries ++ spliceFirst s.fit.splice made
  let full := decide (Config.maxEntries ≤ entries.length)
  let taken := s.fit.splice && !made.isEmpty
  let u : State :=
    { s with fit :=
      { s.fit with
        entries := entries
        index := if full then .full else .opened
        building := s.fit.building && !full
        p256 := if made.length = new.length then p256 else s.fit.p256
        splice := s.fit.splice && made.isEmpty } }
  if taken then splicePending (n / 256) u else u

/-- A frame number between lo and hi that is a non-zero multiple of 256 (R63). -/
def sectorEntered (lo hi : Nat) : Bool := decide (0 < hi ∧ lo ≤ 256 * (hi / 256) ∧ 0 < hi / 256)

/-- Make entries, announce them, and latch INDEX-GROWN and INDEX-CLOSED (R62, R63). -/
def buildEntries (new : List Entry) (p256 : Nat) (w : Ctx) : Ctx :=
  let lo := w.st.fit.entries.length
  let u := w.upd (makeEntries new p256)
  let count := u.st.fit.entries.length
  if count = lo then u
  else
    let hi := count - 1
    let v := announce lo hi u
    let x := if sectorEntered lo hi then pulseAll .indexGrown (be 2 hi) v else v
    if u.st.fit.index = .full then forwardLost .outOfIndex (pulseAll .indexClosed ([1] ++ be 2 hi) x) else x

/-- Build from a sighting (R55 to R60). -/
def buildSighting (g : Sighting) (w : Ctx) : Ctx :=
  let s := w.st
  let p := s.profile
  let est : Int := s.fit.p256
  match s.frontierPos with
  | none => buildEntries [observedEntry g.centre g.weak false] s.fit.p256 w
  | some l =>
    let i : Int := (g.centre : Int) - (l : Int)
    if 512 * i < est then
      w.upd fun s =>
        { s with fit.entries := s.fit.entries.modify (s.fit.entries.length - 1) fun e => { e with extraFollows := true } }
    else if 512 * i ≤ 3 * est then
      buildEntries [observedEntry g.centre g.weak false] (clampP256 p (est + roundQuot p.rounding (256 * i - est) 8)) w
    else
      let k := (roundQuot p.rounding (256 * i) est).toNat
      if k ≤ 16 then
        let fills := (List.range (k - 1)).map fun j =>
          filledEntry ((l : Int) + roundQuot p.rounding (((j : Int) + 1) * i) (k : Int)).toNat
        buildEntries (fills ++ [observedEntry g.centre g.weak false])
          (clampP256 p (est + roundQuot p.rounding (256 * i - (k : Int) * est) (8 * (k : Int)))) w
      else buildEntries [observedEntry g.centre g.weak true] s.fit.p256 w

/-! ### Re-sync (R69 to R73, R78) -/

/-- D = ceil(pitch_min/2) (R72, R80). -/
def State.minGap (s : State) : Nat := (s.profile.pitchMin + 1) / 2

/-- m lies at least D above the entry before place n (R72, R83). -/
def State.clearBelow (s : State) (n m : Nat) : Bool :=
  match n with
  | 0 => true
  | k + 1 => match s.fit.entries[k]? with | some e => decide (e.pos + s.minGap ≤ m) | none => true

/-- m lies at least D below the entry at place n (R72, R82, R83). -/
def State.clearAbove (s : State) (n m : Nat) : Bool :=
  match s.fit.entries[n]? with
  | some e => decide (m + s.minGap ≤ e.pos)
  | none => true

/-- A confirmed entry that a granted move aims at retargets it (R72). R72 speaks of the target T_N alone; for the frontier entry
that a return APPROACH to L aims at MODEL'S CHOICE (log entry 35): the return is retargeted to the new L. -/
def retargetConfirmed (n : Nat) (s : State) : State :=
  match s.trc.move, s.gtu.inHand, s.gateTarget n with
  | some m, some g, some t =>
    if m.job = .present ∧ g.frame = n then retarget .present t s
    else if m.job = .returnL ∧ s.frontier = some n then
      match s.frontierPos with | some l => retarget .returnL l s | none => s
    else s
  | _, _, _ => s

/-- A MATCH against a FILLED entry confirms it (R72). -/
def confirmEntry (n : Nat) (g : Sighting) (s : State) : State :=
  if s.clearBelow n g.centre && s.clearAbove (n + 1) g.centre then
    retargetConfirmed n
      { s with fit.entries := s.fit.entries.modify n fun e => { e with pos := g.centre, kind := .observed, weak := g.weak } }
  else s

/-- A slip (R73): at a count of 3 the position becomes unverified. -/
def slipAt (n : Nat) (d : Int) (w : Ctx) : Ctx :=
  let k := w.st.trc.slip + 1
  let u := pulseAll .slip (be 2 n ++ beInt 2 d ++ be 2 k) (w.upd fun s => { s with trc.slip := k })
  if 3 ≤ k then becomeUnverified 1 u else u

/-- A sighting compared with its nearest entry (R70 to R73). -/
def resync (g : Sighting) (w : Ctx) : Ctx :=
  match nearestEntry (fun _ => true) (fun e => absDiff g.centre e.pos) w.st.fit.entries 0 none with
  | none => w
  | some (n, a) =>
    match w.st.fit.entries[n]? with
    | none => w
    | some e =>
      let d : Int := (g.centre : Int) - (e.pos : Int)
      if a ≤ w.st.profile.window then
        if e.isAnchor then
          w.upd fun s =>
            let u := applyCorrection (-d) s
            { u with trc.slip := 0 }
        else w.upd (confirmEntry n g)
      else if 512 * a < w.st.fit.p256 then slipAt n d w
      else w

/-- A verify sighting compared with its nearest anchor (R78). -/
def verifySighting (v : Verify) (g : Sighting) (w : Ctx) : Ctx :=
  match nearestEntry Entry.isAnchor (fun e => absDiff g.centre e.pos) w.st.fit.entries 0 none with
  | none => w
  | some (n, a) =>
    match w.st.fit.entries[n]? with
    | none => w
    | some e =>
      if 512 * a < w.st.fit.p256 then
        let u := w.upd fun s =>
          let x := applyCorrection ((e.pos : Int) - (g.centre : Int)) s
          { x with trc.slip := 0, fit.verify := some { v with hit := true } }
        orderStop .matched (setVerified 3 u)
      else w

/-- FIT takes a sighting (R54, R69, R78). R69's table has no row for a sighting while a matched VERIFY move still ramps and the
position has become unverified again: MODEL'S CHOICE (log entry 24), it is discarded. -/
def takeSighting (g : Sighting) (w : Ctx) : Ctx :=
  let s := w.st
  let plain : Ctx :=
    if s.fit.building && g.building && decide (g.dir = .forward) && !s.indexShut then buildSighting g w
    else if s.trc.verified then resync g w
    else w
  match s.fit.verify with
  | some v => if v.hit then plain else verifySighting v g w
  | none => plain

/-! ### The frontier limit of a VERIFY move (R77) -/

/-- A tallied forward count beyond two pitches past L + G gives the stop order LIMIT (R77). -/
def frontierLimit (d : Dir) (tallied : Bool) (w : Ctx) : Ctx :=
  let s := w.st
  match s.fit.verify, s.frontierPos with
  | some v, some l =>
    if d = .forward ∧ tallied = true ∧ v.limit = .frontier ∧ v.hit = false
        ∧ (s.fit.p256 : Int) < 128 * ((s.trc.counter : Int) - (l : Int) - (s.profile.gateOffset : Int)) then
      orderStop .limit w
    else w
  | _, _ => w

/-! ### CORRECT (R81 to R86) -/

/-- The index no longer holds an anchor (R76, R79). -/
def State.noAnchor (s : State) : Bool := !(s.fit.entries.any Entry.isAnchor)

/-- The presentation or the focusing frame that a correction affects (R85). -/
def correctGate (affected : Nat → Bool) (w : Ctx) : Ctx :=
  match w.st.gtu.presentation with
  | some x =>
    if affected x.frame then
      if w.st.gtu.phase = .exposing then
        w.upd fun s =>
          { s with gtu.presentation := some { x with deferred := if x.deferred = .none then .renumbered else x.deferred } }
      else endPresentation .renumbered w
    else w
  | none =>
    match w.st.gtu.inHand with
    | some g =>
      if w.st.gtu.phase = .focusing ∧ affected g.frame = true then
        w.upd fun s => dropInHand (returnGrant (abandonLookup s))
      else w
    | none => w

/-- The granted move that is in flight when a correction is accepted (R86). -/
def correctMoveInFlight (w : Ctx) : Ctx :=
  match w.st.trc.move, w.st.gtu.inHand with
  | some m, some g =>
    let lost (x : Ctx) : Ctx := match m.job with
      | .present => orderStop .correction x
      | .returnL => match x.st.frontierPos with
        | some l => x.upd (retarget .returnL l)
        | none => orderStop .correction x
      | .forward | .jog | .verify | .rewind => x
    match m.job with
    | .present | .returnL | .forward =>
      match w.st.gateTarget g.frame with
      | some t => w.upd (retarget .present t)
      | none => lost w
    | .jog | .verify | .rewind => w
  | _, _ => w

/-- A VERIFY move whose corrected index holds no anchor is over: the position is verified (R79). -/
def correctVerify (w : Ctx) : Ctx :=
  match w.st.fit.verify with
  | some v =>
    if v.hit = false ∧ w.st.noAnchor = true then
      orderStop .matched (setVerified 4 (w.upd fun s => { s with fit.verify := some { v with hit := true } }))
    else w
  | none => w

/-- What a MERGE, SPLIT or MOVE does to work in flight (R85, R86). -/
def afterCorrection (affected : Nat → Bool) (w : Ctx) : Ctx :=
  correctVerify (correctMoveInFlight (correctGate affected (w.upd fun s => { s with gtu.watches := PerPort.all false })))

/-- MERGE n removes entry n (R81). -/
def mergeEntries (n : Nat) (s : State) : State :=
  let l := s.fit.entries.eraseIdx n
  { s with fit.entries := l, fit.index := if l.isEmpty then .empty else s.fit.index }

/-- SPLIT n, p inserts a MANUAL entry at frame n + 1 (R82). -/
def splitEntries (n p : Nat) (s : State) : State :=
  let l := s.fit.entries.insertIdx (n + 1) ⟨p, .manual, false, false, false, false, false⟩
  { s with
    fit.entries := l
    fit.index := if s.fit.index = .opened ∧ Config.maxEntries ≤ l.length then .full else s.fit.index }

/-- MOVE n, p (R83). -/
def moveEntry (n p : Nat) (s : State) : State :=
  { s with fit.entries := s.fit.entries.modify n fun e => { e with pos := p, kind := .manual, weak := false } }

/-- CLEAR-TAKEN n1..n2 (R84). -/
def clearTakenEntries (a b : Nat) (s : State) : State :=
  { s with fit.entries := s.fit.entries.mapIdx fun i e => if a ≤ i ∧ i ≤ b then { e with taken := false } else e }

end Sys2Proof.Machine
end

