-- ==== Sys2Proof/Machine/Arbiter.lean ====
section
/-! DEFINITION. The grant opportunity of RQT and the orders that a grant gives (R119 to R127, R164 to R167, R76, R77). -/

namespace Sys2Proof.Machine

/-! ### The opportunity (R119, R120, R165) -/

/-- The conditions of a grant opportunity (R119). -/
def State.opportunity (s : State) : Bool :=
  decide (s.trc.roll = .loaded) && s.trc.motion.free && decide (s.gtu.phase = .idle) && s.gtu.exposure.isNone
    && !s.rqt.halted && decide (s.rqt.grant = .none)

/-- The run waits for a grant: READY or SUSPENDED (R165). -/
def State.runWaits (s : State) : Bool :=
  match s.rqt.run with
  | some r => decide (r.state = .ready ∨ r.state = .suspended)
  | none => false

/-- A WAITING PRESENT whose frame can no longer be indexed in this session (R120). -/
def State.unreachable (s : State) (r : Record) : Bool :=
  match r.work with
  | .present n _ _ => decide (r.state = .waiting) && !s.indexed n && s.indexShut
  | .jog _ | .barrier => false

/-- Complete records one after another with one outcome. -/
def completeEach (o : OutcomeCode) (l : List Record) (w : Ctx) : Ctx := l.foldl (fun w r => completeRecord r o w) w

/-- The first stage of an opportunity: unreachable records complete, and a run that can go no further, in increasing
arrival number (R120, R165). -/
def clearUnreachable (w : Ctx) : Ctx :=
  let u := if w.st.runWaits then w.upd chooseRunFrame else w
  let o : OutcomeCode := if u.st.fit.index = .closed then .notFound else .outOfIndex
  let l := u.st.rqt.records.filter u.st.unreachable
  match u.st.rqt.run with
  | some r =>
    if u.st.runWaits && u.st.runExhausted then
      completeEach o (l.filter fun x => !older x.arrival r.arrival)
        (completeRun .complete (completeEach o (l.filter fun x => older x.arrival r.arrival) u))
    else completeEach o l u
  | none => completeEach o l u

/-! ### Orders (R77, R127, R139) -/

/-- GTU orders the move of a grant in hand from the index as it stands: an APPROACH to an indexed frame, else the
index-forward move (R127, R139). -/
def orderFrame (g : InHand) (s : State) : State :=
  match s.gateTarget g.frame with
  | some t => orderMove (targetMove .present t g.speed) s
  | none =>
    match s.frontierPos with
    | none => orderMove (openMove .forward .forward .index none) s
    | some l =>
      if s.trc.counter < l then orderMove (openMove .forward .forward .shuttle (some (l, .index))) s
      else orderMove (targetMove .returnL l .shuttle) s

/-- GTU takes a grant in hand and orders its move (R139). -/
def handToGate (g : InHand) (s : State) : State :=
  orderFrame g { s with gtu.inHand := some g, gtu.phase := .positioning, gtu.heldReport := none }

/-- The VERIFY move is granted: forward up to the frontier limit when c ≤ L + G, else in reverse to 0 (R76, R77). -/
def grantVerify (s : State) : State :=
  let forward : Bool := match s.frontierPos with
    | some l => decide (s.trc.counter ≤ l + s.profile.gateOffset)
    | none => false
  let d : Dir := if forward then .forward else .reverse
  orderMove (openMove .verify d .index none)
    { s with
      rqt.grant := .verify
      rqt.stopReason := .none
      fit.verify := some ⟨d, if forward then .frontier else .zero, false⟩ }

/-! ### Choosing among the records (R123 to R125) -/

/-- The target of a record in the seek order (R123). -/
def State.seekTarget (s : State) (r : Record) : Nat :=
  match r.work with
  | .present n _ _ =>
    match s.gateTarget n, s.estimate n with
    | some t, _ => t
    | none, some e => s.clampPos (e + (s.profile.gateOffset : Int))
    | none, none => s.trc.counter
  | .jog d => s.clampPos ((s.trc.counter : Int) + d)
  | .barrier => s.trc.counter

/-- A target is ahead in the travel direction; the counter itself is ahead in either (R124). -/
def State.ahead (s : State) (t : Nat) : Bool :=
  match s.trc.travelDir with
  | .forward => decide (s.trc.counter ≤ t)
  | .reverse => decide (t ≤ s.trc.counter)

/-- Record r is preferred to record b: ahead before behind, then nearer, then older (R124). -/
def State.prefers (s : State) (r b : Record) : Bool :=
  let tr := s.seekTarget r
  let tb := s.seekTarget b
  let dr := absDiff tr s.trc.counter
  let db := absDiff tb s.trc.counter
  if s.ahead tr = s.ahead tb then decide (dr < db) || (decide (dr = db) && older r.arrival b.arrival) else s.ahead tr

/-- A candidate: a WAITING PRESENT or JOG (R122, R124). -/
def Record.candidate (r : Record) : Bool := decide (r.state = .waiting) && decide (r.work ≠ .barrier)

/-- The highest effective class among the candidates (R124). -/
def State.topClass (s : State) : Nat := ((s.rqt.records.filter Record.candidate).map (·.cls)).foldl max 0

/-- The record that R124 grants. -/
def State.chosen (s : State) : Option Record :=
  (s.rqt.records.filter fun r => r.candidate && decide (r.cls = s.topClass)).foldl
    (fun best r => match best with
      | none => some r
      | some b => if s.prefers r b then some r else some b)
    none

/-- A record that was passed over gains a pass; at 8 it is promoted below class 3, and begins again at 0 (R125). -/
def passOver (c : Nat) (r : Record) : Record :=
  if r.candidate && decide (r.cls = c) then
    if r.passes + 1 < 8 then { r with passes := r.passes + 1 }
    else if r.cls < 3 then { r with cls := r.cls + 1, passes := 0 }
    else { r with passes := 0 }
  else r

/-- The passes of one opportunity, after the grant of a holder of class c (R125). -/
def addPasses (c : Nat) (s : State) : State := { s with rqt.records := s.rqt.records.map (passOver c) }

/-! ### Grants (R126, R166, R167) -/

/-- A record is granted and handed on (R126). -/
def grantRecord (r : Record) (s : State) : State :=
  let u := setRecState r.port r.tag .granted s
  let v : State := { u with rqt.grant := .record r.port r.tag, rqt.stopReason := .none }
  match r.work with
  | .present n mode hold => handToGate ⟨.record r.port r.tag, n, mode, hold, .shuttle⟩ v
  | .jog d => orderMove (targetMove .jog (v.clampPos ((v.trc.counter : Int) + d)) .scan) v
  | .barrier => v

/-- The run is granted and handed to GTU (R166, R167). -/
def grantRun (r : Run) (s : State) : State :=
  let u := setRunState .granted s
  handToGate ⟨.run r.tag, r.next, .normal, r.hold, .scan⟩ { u with rqt.grant := .run, rqt.stopReason := .none }

/-- The choice among the records, with its passes (R124, R125). -/
def chooseRecord (s : State) : State :=
  match s.chosen with
  | some r => addPasses r.cls (grantRecord r s)
  | none => s

/-- A READY run that is outclassed becomes SUSPENDED (R166). -/
def outclassRun (s : State) : State :=
  { s with rqt.run := s.rqt.run.map fun r => if r.state = .ready then { r with state := .suspended } else r }

/-- The choice of an opportunity with the position verified: the run, or a record (R122, R124, R166). -/
def chooseWork (s : State) : State :=
  match s.rqt.run with
  | some r =>
    if s.runWaits then
      if s.outclassed r.cls then chooseRecord (outclassRun s) else addPasses r.cls (grantRun r s)
    else chooseRecord s
  | none => chooseRecord s

/-- RQT examines the grant opportunity and takes it when its conditions hold (R119 to R125). Where R76 verifies without
motion, the opportunity is taken again at once. -/
def examine (w : Ctx) : Ctx :=
  if w.st.opportunity then
    let u := clearUnreachable w
    if u.st.trc.verified then u.upd chooseWork
    else if u.st.noAnchor then (setVerified 4 u).upd chooseWork
    else u.upd grantVerify
  else w

/-! ### The end of a command -/

/-- The gate phase follows the transport while a move of the grant in hand runs (R140). Where a SPLIT retargets the return
APPROACH to L in SETTLING to the granted target, inside the new band, R140 both leaves the phase as it stands and makes it
SETTLING: MODEL'S CHOICE (log entry 36), SETTLING. -/
def syncPhase (s : State) : State :=
  match s.gtu.inHand with
  | none => s
  | some _ =>
    match s.gtu.phase with
    | .positioning | .settling =>
      let on : Bool := decide (s.trc.motion = .settling) &&
        (match s.trc.move with | some m => decide (m.job = .present) | none => false)
      { s with gtu.phase := if on then .settling else .positioning }
    | .idle | .focusing | .presented | .exposing => s

/-- A timer runs on while its condition holds and starts anew from 0 when the condition comes to hold. -/
def runWhile (c : Bool) (t : Option Nat) : Option Nat := if c then some (t.getD 0) else none

/-- The fault condition of tension supervision (R35). -/
def State.tensionBad (s : State) : Bool :=
  decide (s.trc.roll = .loaded) &&
    (match s.trc.motion with
    | .idle | .accel | .cruise | .decel | .creepIn | .settling => !s.armsInWindow
    | .parked | .waking => s.filmBroken
    | .off | .faulted => false)

/-- The conditions of the park timer (R40). -/
def State.mayPark (s : State) : Bool :=
  decide (s.trc.roll = .loaded) && decide (s.trc.motion = .idle)
    && !(s.rqt.records.any fun r => decide (r.work ≠ .barrier) && decide (r.state = .waiting ∨ r.state = .granted))
    && !(match s.rqt.run with | some r => decide (r.state = .ready ∨ r.state = .granted) | none => false)
    && s.gtu.presentation.isNone && decide (s.trc.parkDelay ≠ 0)

/-- The conditions of the leader timer (R16). -/
def State.leaderAwaited (s : State) : Bool :=
  decide (s.trc.roll = .rewinding) && s.rewindRuns && decide (s.trc.counter = 0) && s.pins.leader

/-- The settle timer runs while the counter lies within the band (R27). -/
def State.settled (s : State) : Bool :=
  decide (s.trc.motion = .settling) && (match s.trc.move with | some m => s.inBand m.target | none => false)

/-- Threading or re-tensioning is in progress (R9, R39). -/
def State.tensioning (s : State) : Bool := decide (s.trc.roll = .threading) || s.trc.retension

/-- Every timer of TRC starts and stops with its condition (R9, R16, R27, R28, R35, R36, R39, R40, R42). The conditions are
examined at the end of a command. R36 does not say whether the 200 ms begin anew where one command ends a motion and starts the
next: MODEL'S CHOICE (log entry 33), the stall timer runs on. -/
def syncTimers (s : State) : State :=
  let t := s.trc.timers
  { s with trc.timers :=
    { threading := if s.tensioning then t.threading else none
      inWindow := runWhile (s.tensioning && s.armsInWindow) t.inWindow
      persistence := runWhile s.tensionBad t.persistence
      stall := runWhile s.trc.motion.moving t.stall
      leader := runWhile s.leaderAwaited t.leader
      settle := runWhile s.settled t.settle
      settleLimit := if s.trc.motion = .settling then t.settleLimit else none
      park := runWhile s.mayPark t.park
      wake := if s.trc.motion = .waking then t.wake else none } }

/-- An addressed request stands at the head of the receive FIFO of port C while fewer than 2 outbox places are free: every
message then queued is released (R192, second event). -/
def releaseWaiting (s : State) : State :=
  match s.lnk.c.inbox with
  | m :: _ =>
    if m.broadcast = false ∧ s.lnk.c.free < 2 then
      { s with lnk.c := { s.lnk.c with released := s.lnk.c.outbox.length } }
    else s
  | [] => s

/-- The end of a command: its messages join the outboxes, then its occurrences latch (R202), then phase, timers and the
released mark follow. -/
def finish (w : Ctx) : State :=
  releaseWaiting (syncTimers (syncPhase (latchAll w.occs (queueAll w.sends w.st))))

end Sys2Proof.Machine
end

