-- ==== Sys2Proof/Machine/Operands.lean ====
section
/-! DEFINITION. The request catalogue: kinds, ports, lengths, and the parameters of a request body (R5 to R7, R209, R212,
R214, R219). -/

namespace Sys2Proof.Machine

/-! ### Kinds (R209) -/

/-- The thirty-two request kinds, codes 1 to 32 in this order (R209). -/
inductive Kind where
  | load | unload | present | run | jog | barrier | cancel | cancelAll | take | release | watch | expose | gateStatus
  | halt | resume | clearFault | correct | readIndex | indexStatus | focusLock | focusUnlock | focusFree | focusSet
  | focusRead | configureLink | linkStatus | resetLink | setNotices | readEvents | clearEvents | ackAttn | setStation
deriving DecidableEq, Repr

def Kind.code : Kind → Nat
  | .load => 1
  | .unload => 2
  | .present => 3
  | .run => 4
  | .jog => 5
  | .barrier => 6
  | .cancel => 7
  | .cancelAll => 8
  | .take => 9
  | .release => 10
  | .watch => 11
  | .expose => 12
  | .gateStatus => 13
  | .halt => 14
  | .resume => 15
  | .clearFault => 16
  | .correct => 17
  | .readIndex => 18
  | .indexStatus => 19
  | .focusLock => 20
  | .focusUnlock => 21
  | .focusFree => 22
  | .focusSet => 23
  | .focusRead => 24
  | .configureLink => 25
  | .linkStatus => 26
  | .resetLink => 27
  | .setNotices => 28
  | .readEvents => 29
  | .clearEvents => 30
  | .ackAttn => 31
  | .setStation => 32

/-- The kinds in the order of their codes. -/
def allKinds : List Kind :=
  [.load, .unload, .present, .run, .jog, .barrier, .cancel, .cancelAll, .take, .release, .watch, .expose, .gateStatus,
   .halt, .resume, .clearFault, .correct, .readIndex, .indexStatus, .focusLock, .focusUnlock, .focusFree, .focusSet,
   .focusRead, .configureLink, .linkStatus, .resetLink, .setNotices, .readEvents, .clearEvents, .ackAttn, .setStation]

/-- The kind of a code; codes 0 and 33..127 are of no known kind (R209). -/
def Kind.ofCode (n : Nat) : Option Kind := allKinds.find? fun k => decide (k.code = n)

/-- The Ports column of R209. -/
def Kind.permitted : Kind → Port → Bool
  | .load, p | .unload, p | .correct, p | .focusLock, p | .focusUnlock, p | .focusFree, p => decide (p ≠ .b)
  | .run, p => decide (p = .a)
  | .jog, p | .halt, p | .resume, p | .clearFault, p | .focusSet, p | .setStation, p => decide (p = .c)
  | .present, _ | .barrier, _ | .cancel, _ | .cancelAll, _ | .take, _ | .release, _ | .watch, _ | .expose, _
  | .gateStatus, _ | .readIndex, _ | .indexStatus, _ | .focusRead, _ | .configureLink, _ | .linkStatus, _
  | .resetLink, _ | .setNotices, _ | .readEvents, _ | .clearEvents, _ | .ackAttn, _ => true

/-- The Timed column of R209. -/
def Kind.timed : Kind → Bool
  | .load | .unload | .present | .run | .jog | .barrier | .expose | .clearFault => true
  | .cancel | .cancelAll | .take | .release | .watch | .gateStatus | .halt | .resume | .correct | .readIndex
  | .indexStatus | .focusLock | .focusUnlock | .focusFree | .focusSet | .focusRead | .configureLink | .linkStatus
  | .resetLink | .setNotices | .readEvents | .clearEvents | .ackAttn | .setStation => false

/-- The Roll column of R209: the request needs the roll LOADED (R4). -/
def Kind.needsRoll : Kind → Bool
  | .unload | .present | .run | .jog | .expose | .correct | .focusLock | .focusUnlock | .focusFree | .focusSet => true
  | .load | .barrier | .cancel | .cancelAll | .take | .release | .watch | .gateStatus | .halt | .resume | .clearFault
  | .readIndex | .indexStatus | .focusRead | .configureLink | .linkStatus | .resetLink | .setNotices | .readEvents
  | .clearEvents | .ackAttn | .setStation => false

/-! ### The field list of a LOAD (R219) -/

/-- The bytes of a field's value, the label apart (R219). A number above 22 is read as a one-byte field, by "every other
field in one byte" (log entry 7). -/
def fieldWidth (n : Nat) : Nat :=
  if n = 19 then 4
  else if n = 2 ∨ n = 3 ∨ n = 4 ∨ n = 8 ∨ n = 9 ∨ n = 10 ∨ n = 12 ∨ n = 13 ∨ n = 14 ∨ n = 16 ∨ n = 17 ∨ n = 20 then 2
  else 1

/-- Cut a body into field entries; none when the last entry is cut short (R212, R219). -/
def fieldEntries : Nat → List Byte → Option (List (Nat × List Byte))
  | _, [] => some []
  | 0, _ :: _ => none
  | k + 1, f :: rest =>
    if f = 0 then
      match rest with
      | [] => none
      | c :: more =>
        if more.length < c.toNat then none
        else (fieldEntries k (more.drop c.toNat)).map fun l => (0, more.take c.toNat) :: l
    else
      let n := f.toNat
      if rest.length < fieldWidth n then none
      else (fieldEntries k (rest.drop (fieldWidth n))).map fun l => (n, rest.take (fieldWidth n)) :: l

/-- The field entries of a LOAD body. -/
def loadFields (body : List Byte) : Option (List (Nat × List Byte)) := fieldEntries body.length body

/-- The value bytes of a field, when it was given. -/
def fieldBytes (l : List (Nat × List Byte)) (n : Nat) : Option (List Byte) :=
  (l.find? fun x => decide (x.1 = n)).map (·.2)

/-- The number of a field as given, or its default (R5). -/
def fieldRaw (l : List (Nat × List Byte)) (n default : Nat) : Nat :=
  match fieldBytes l n with
  | some b => beNum b
  | none => default

/-- A label character: any byte value 32 to 126, another is stored as 63 (R5). -/
def labelChar (b : Byte) : Byte := if 32 ≤ b.toNat ∧ b.toNat ≤ 126 then b else 63

/-- The profile of a field list after the clamps of R6. -/
def loadProfile (l : List (Nat × List Byte)) : Profile :=
  let v (n d lo hi : Nat) : Nat := clampNat lo hi (fieldRaw l n d)
  let pitchMin := v 3 0 64 4000
  let span := v 17 64 8 256
  let low := v 21 80 0 255
  { label := (((fieldBytes l 0).getD []).take 32).map labelChar
    track := v 1 0 0 1
    pitchNominal := v 2 0 64 4000
    pitchMin := pitchMin
    pitchMax := v 4 0 64 4000
    markOn := v 5 0 1 255
    markOff := v 6 0 1 255
    markStrong := v 7 0 0 255
    widthMin := v 8 0 1 1000
    widthMax := v 9 0 1 1000
    gateOffset := v 10 0 0 8000
    tolerance := v 11 4 1 20
    scanSpeed := v 12 4000 500 8000
    indexSpeed := v 13 12000 2000 20000
    window := v 14 8 0 (pitchMin / 4)
    rounding := if v 15 0 0 1 = 0 then .halfUp else .halfEven
    defaultFocus := v 16 2048 0 4095
    sweepSpan := span
    coarseStep := v 18 8 1 (min 32 span)
    contrastFloor := v 19 20000 0 134217728
    holdTime := v 20 5000 100 60000
    tensionLow := low
    tensionHigh := v 22 176 low 255 }

/-- The clamped list: the fields whose stored value is neither the one given nor the default, in increasing number (R6). -/
def clampedList (l : List (Nat × List Byte)) (p : Profile) : List Nat :=
  let d (n raw stored : Nat) : List Nat := if fieldRaw l n raw = stored then [] else [n]
  (if 32 < ((fieldBytes l 0).getD []).length then [0] else [])
    ++ d 1 0 p.track ++ d 2 0 p.pitchNominal ++ d 3 0 p.pitchMin ++ d 4 0 p.pitchMax ++ d 5 0 p.markOn
    ++ d 6 0 p.markOff ++ d 7 0 p.markStrong ++ d 8 0 p.widthMin ++ d 9 0 p.widthMax ++ d 10 0 p.gateOffset
    ++ d 11 4 p.tolerance ++ d 12 4000 p.scanSpeed ++ d 13 12000 p.indexSpeed ++ d 14 8 p.window
    ++ d 15 0 (match p.rounding with | .halfUp => 0 | .halfEven => 1) ++ d 16 2048 p.defaultFocus
    ++ d 17 64 p.sweepSpan ++ d 18 8 p.coarseStep ++ d 19 20000 p.contrastFloor ++ d 20 5000 p.holdTime
    ++ d 21 80 p.tensionLow ++ d 22 176 p.tensionHigh

/-! ### Parameters (R214) -/

/-- The four forms of CORRECT with their operands (R212). -/
inductive Correction where
  | merge (n : Nat)
  | split (n p : Nat)
  | move (n p : Nat)
  | clearTaken (a b : Nat)
deriving DecidableEq, Repr

/-- A request whose parameters have passed check 5, with its clamps applied (R214). -/
inductive Action where
  | load (p : Profile) (clamped : List Nat)
  | unload
  | present (frame : Nat) (cls : Option Nat) (mode : FocusMode) (hold : Option Nat)
  | run (first count cls : Nat) (skip : Bool) (hold : Option Nat)
  | jog (delta : Int)
  | barrier
  | cancel (t : Byte)
  | cancelAll
  | take (t : Byte)
  | release (t : Byte)
  | watch
  | expose
  | gateStatus
  | halt
  | resume
  | clearFault
  | correct (c : Correction)
  | readIndex (first count : Nat)
  | indexStatus
  | focusLock (x : Nat)
  | focusUnlock (x : Nat)
  | focusFree
  | focusSet (x v : Nat)
  | focusRead
  | configureLink (mode : Option RdyMode) (threshold : Option Nat) (gating : Option Bool) (gap : Option Nat)
  | linkStatus
  | resetLink
  | setNotices (enables polarities : Option Nat)
  | readEvents
  | clearEvents (flags : Nat)
  | ackAttn
  | setStation (park wake : Option Nat)
deriving DecidableEq, Repr

/-- A refusal at check 5: the status, and the reason and number that follow it (R214). -/
structure ParamError where
  status : Status
  reason : Byte
  number : Byte
deriving DecidableEq, Repr

/-- Reason 0 PARAMETER, with the place of the parameter (R214). -/
def badPlace (n : Nat) : Except ParamError Action := .error ⟨.badParam, 0, BitVec.ofNat 8 n⟩

/-- A frame of a PRESENT or RUN above 16,383 (R214). -/
def badFrame : Except ParamError Action := .error ⟨.outOfRange, 0, 0⟩

/-- The number in the bytes of a body from place `i` on, `w` bytes long. -/
def numAt (body : List Byte) (i w : Nat) : Nat := beNum ((body.drop i).take w)

/-- One byte of a body, when it is there. -/
def byteAt (body : List Byte) (i : Nat) : Option Nat := body[i]?.map (·.toNat)

/-- The hold override in the two bytes from place `i` on, clamped; absent when the body stops before (R112, R162). -/
def holdAt (body : List Byte) (i : Nat) : Option Nat :=
  if body.length = i + 2 then some (clampNat 100 60000 (numAt body i 2)) else none

/-- Bit `n` of a presence set (R209). -/
def given (body : List Byte) (n : Nat) : Bool := (((byteAt body 0).getD 0) / 2 ^ n) % 2 = 1

/-- A parameter marked in the presence set. -/
def ifGiven {α : Type} (body : List Byte) (n : Nat) (v : α) : Option α := if given body n then some v else none

/-- The first field number that stands a second time in the list. -/
def firstRepeat : List Nat → List Nat → Option Nat
  | _, [] => none
  | seen, n :: rest => if n ∈ seen then some n else firstRepeat (n :: seen) rest

/-- The lowest of the fields 2 to 10 that was left out (R5). -/
def missingField (l : List (Nat × List Byte)) : Option Nat :=
  [2, 3, 4, 5, 6, 7, 8, 9, 10].find? fun n => (fieldBytes l n).isNone

/-- The consistency checks of R7 on the clamped values: the first that fails. -/
def inconsistent (p : Profile) : Option Nat :=
  if p.pitchNominal < p.pitchMin ∨ p.pitchMax < p.pitchNominal then some 0
  else if p.markOn ≤ p.markOff then some 1
  else if p.widthMax < p.widthMin then some 2
  else none

/-- Check 5 of a LOAD (R5 to R7, R219). -/
def parseLoad (body : List Byte) : Except ParamError Action :=
  let l := (loadFields body).getD []
  match (l.map (·.1)).find? fun n => decide (22 < n) with
  | some n => .error ⟨.badParam, 3, BitVec.ofNat 8 n⟩
  | none =>
    match firstRepeat [] (l.map (·.1)) with
    | some n => .error ⟨.badParam, 2, BitVec.ofNat 8 n⟩
    | none =>
      match missingField l with
      | some n => .error ⟨.badParam, 1, BitVec.ofNat 8 n⟩
      | none =>
        match inconsistent (loadProfile l) with
        | some c => .error ⟨.badParam, 4, BitVec.ofNat 8 c⟩
        | none => .ok (.load (loadProfile l) (clampedList l (loadProfile l)))

/-- The focus mode of a PRESENT: 0 NORMAL, 1 HOLD (R214). -/
def focusMode : Nat → Option FocusMode
  | 0 => some .normal
  | 1 => some .hold
  | _ => none

def parsePresent (body : List Byte) : Except ParamError Action :=
  if Config.maxFrame < numAt body 0 2 then badFrame
  else
    match focusMode ((byteAt body 3).getD 0) with
    | none => badPlace 2
    | some m => .ok (.present (numAt body 0 2) (byteAt body 2) m (holdAt body 4))

def parseRun (body : List Byte) : Except ParamError Action :=
  if Config.maxFrame < numAt body 0 2 then badFrame
  else if 1 < (byteAt body 5).getD 0 then badPlace 3
  else
    .ok (.run (numAt body 0 2) (numAt body 2 2) (min ((byteAt body 4).getD 1) 1) (decide ((byteAt body 5).getD 0 = 1))
      (holdAt body 6))

/-- The delta of a JOG, clamped (R29). -/
def jogDelta (n : Nat) : Int := max (-4194303) (min 4194303 (signed24 n))

/-- The operands of CORRECT (R80, R212, R214). A CLEAR-TAKEN range whose first frame exceeds its last names the place of
n2, the parameter at which it fails (log entry 7). -/
def parseCorrect (body : List Byte) : Except ParamError Action :=
  let n := numAt body 1 2
  let p := numAt body 3 3
  let b := numAt body 3 2
  match (byteAt body 0).getD 0 with
  | 0 => if Config.maxFrame < n then badPlace 1 else .ok (.correct (.merge n))
  | 1 =>
    if Config.maxFrame < n then badPlace 1
    else if Config.maxPosition < p then badPlace 2
    else .ok (.correct (.split n p))
  | 2 =>
    if Config.maxFrame < n then badPlace 1
    else if Config.maxPosition < p then badPlace 2
    else .ok (.correct (.move n p))
  | 3 =>
    if Config.maxFrame < n then badPlace 1
    else if Config.maxFrame < b ∨ b < n then badPlace 2
    else .ok (.correct (.clearTaken n b))
  | _ => badPlace 0

def parseReadIndex (body : List Byte) : Except ParamError Action :=
  if Config.maxFrame < numAt body 0 2 then badPlace 0
  else .ok (.readIndex (numAt body 0 2) (clampNat 1 32 ((byteAt body 2).getD 32)))

/-- A sector parameter (R214). -/
def parseSector (body : List Byte) (f : Nat → Action) : Except ParamError Action :=
  if 63 < (byteAt body 0).getD 0 then badPlace 0 else .ok (f ((byteAt body 0).getD 0))

/-- RDY modes in the order of R193. -/
def rdyMode : Nat → Option RdyMode
  | 0 => some .auto
  | 1 => some .forcedAsserted
  | 2 => some .forcedDeasserted
  | _ => none

def parseConfigureLink (body : List Byte) : Except ParamError Action :=
  if given body 0 && decide (2 < (byteAt body 1).getD 0) then badPlace 1
  else if given body 2 && decide (1 < (byteAt body 3).getD 0) then badPlace 3
  else
    .ok (.configureLink (if given body 0 then rdyMode ((byteAt body 1).getD 0) else none)
      (ifGiven body 1 (max 1 ((byteAt body 2).getD 0)))
      (ifGiven body 2 (decide ((byteAt body 3).getD 0 = 1)))
      (ifGiven body 3 ((byteAt body 4).getD 0)))

/-- Twelve flags; bits 12 to 15 are ignored (R214). -/
def twelve (n : Nat) : Nat := n % 4096

/-- Check 5 of every kind (R214). -/
def Kind.parse (k : Kind) (body : List Byte) : Except ParamError Action :=
  match k with
  | .load => parseLoad body
  | .unload => .ok .unload
  | .present => parsePresent body
  | .run => parseRun body
  | .jog => .ok (.jog (jogDelta (numAt body 0 3)))
  | .barrier => .ok .barrier
  | .cancel => .ok (.cancel (body.headD 0))
  | .cancelAll => .ok .cancelAll
  | .take => .ok (.take (body.headD 0))
  | .release => .ok (.release (body.headD 0))
  | .watch => .ok .watch
  | .expose => .ok .expose
  | .gateStatus => .ok .gateStatus
  | .halt => .ok .halt
  | .resume => .ok .resume
  | .clearFault => .ok .clearFault
  | .correct => parseCorrect body
  | .readIndex => parseReadIndex body
  | .indexStatus => .ok .indexStatus
  | .focusLock => parseSector body .focusLock
  | .focusUnlock => parseSector body .focusUnlock
  | .focusFree => .ok .focusFree
  | .focusSet => parseSector body fun x => .focusSet x (min 4095 (numAt body 1 2))
  | .focusRead => .ok .focusRead
  | .configureLink => parseConfigureLink body
  | .linkStatus => .ok .linkStatus
  | .resetLink => .ok .resetLink
  | .setNotices => .ok (.setNotices (ifGiven body 0 (twelve (numAt body 1 2))) (ifGiven body 1 (twelve (numAt body 3 2))))
  | .readEvents => .ok .readEvents
  | .clearEvents => .ok (.clearEvents (twelve (numAt body 0 2)))
  | .ackAttn => .ok .ackAttn
  | .setStation => .ok (.setStation (ifGiven body 0 (numAt body 1 2)) (ifGiven body 1 (numAt body 3 2)))

/-! ### Body lengths (R209, R212) -/

/-- The length of a CORRECT body by its form (R212). -/
def correctLength (body : List Byte) : Bool :=
  match byteAt body 0 with
  | none => false
  | some 0 => decide (body.length = 3)
  | some 1 => decide (body.length = 6)
  | some 2 => decide (body.length = 6)
  | some 3 => decide (body.length = 5)
  | some _ => decide (body.length = 3 ∨ body.length = 5 ∨ body.length = 6)

/-- Check 1: the body has a length that the kind allows (R209, R212). -/
def Kind.lengthOk (k : Kind) (body : List Byte) : Bool :=
  let n := body.length
  match k with
  | .load => decide (n ≤ Config.messageBody) && (loadFields body).isSome
  | .present => decide (n = 2 ∨ n = 3 ∨ n = 4 ∨ n = 6)
  | .run => decide (n = 4 ∨ n = 5 ∨ n = 6 ∨ n = 8)
  | .jog | .focusSet => decide (n = 3)
  | .cancel | .take | .release | .focusLock | .focusUnlock => decide (n = 1)
  | .correct => correctLength body
  | .readIndex => decide (n = 2 ∨ n = 3)
  | .configureLink | .setNotices | .setStation => decide (n = 5)
  | .clearEvents => decide (n = 2)
  | .unload | .barrier | .cancelAll | .watch | .expose | .gateStatus | .halt | .resume | .clearFault | .indexStatus
  | .focusFree | .focusRead | .linkStatus | .resetLink | .readEvents | .ackAttn => decide (n = 0)

end Sys2Proof.Machine
end

