-- ==== Sys2Proof/Machine/Requests.lean ====
section
/-! DEFINITION. What each accepted request does, one definition for each kind, and the port reset that RESET-LINK and a
break share (R216 and the rules of the owners). Each definition makes the owner's checks of order 8 (R211) first. -/

namespace Sys2Proof.Machine

/-- How a request came: its port, whether it was a broadcast, its tag and kind code (R188). -/
structure Env where
  port : Port
  bc : Bool
  tag : Byte
  code : Nat
deriving DecidableEq, Repr

/-- An immediate reply; a broadcast gets none (R188, R216). -/
def Env.reply (e : Env) (st : Status) (results : List Byte) (w : Ctx) : Ctx :=
  if e.bc then w else { w with sends := w.sends ++ [(e.port, replyMsg e.tag e.code (st.code :: results))] }

/-- The end of a command that moves no film and changes nothing that a timer or the gate phase follows. -/
def finishQuiet (w : Ctx) : State := releaseWaiting (latchAll w.occs (queueAll w.sends w.st))

/-- A refusal is answered once and changes no state (R211). -/
def refuse (e : Env) (st : Status) (results : List Byte) (s : State) : State :=
  finishQuiet (e.reply st results (Ctx.start s))

/-- A request that only reports, or whose effect is `f` and whose reply is DONE. -/
def doneQuiet (e : Env) (results : List Byte) (f : State → State) (s : State) : State :=
  finishQuiet ((e.reply .done results (Ctx.start s)).upd f)

/-- A timed request takes a reservation (R189, R216). -/
def reserve (p : Port) (s : State) : State := s.setLink p { s.link p with reserved := (s.link p).reserved + 1 }

/-- A LOAD, UNLOAD, EXPOSE or CLEAR-FAULT also joins the port's outstanding set (R213). -/
def reserveTimed (e : Env) (k : TimedKind) (s : State) : State :=
  let u := reserve e.port s
  u.setLink e.port { u.link e.port with outstanding := (u.link e.port).outstanding ++ [(e.tag, k)] }

/-! ### LOAD and UNLOAD (R9, R13 to R15) -/

/-- LOAD is accepted: threading begins (R9). -/
def doLoad (e : Env) (p : Profile) (clamped : List Nat) (s : State) : State :=
  let w := e.reply .accepted (clamped.map (BitVec.ofNat 8)) ((Ctx.start s).upd (reserveTimed e .load))
  finish (w.upd fun s =>
    { s with
      trc.roll := .threading
      trc.profile := some p
      trc.timers.threading := some 0
      trc.timers.inWindow := none })

/-- Complete records without examining the barriers, in the order of the list. -/
def completeEachOnly (o : OutcomeCode) (l : List Record) (w : Ctx) : Ctx :=
  l.foldl (fun w r => completeRecordOnly r o w) w

/-- Every record and the run complete UNLOADED, in increasing arrival number (R13, R14). -/
def unloadWork (w : Ctx) : Ctx :=
  let l := w.st.rqt.records
  match w.st.rqt.run with
  | some r =>
    completeEachOnly .unloaded (l.filter fun x => !older x.arrival r.arrival)
      (completeRunOnly .unloaded (completeEachOnly .unloaded (l.filter fun x => older x.arrival r.arrival) w))
  | none => completeEachOnly .unloaded l w

/-- What UNLOAD acceptance clears in GTU, FCC, FIT, MKD and TRC (R13, R68, R89, R110, R161). -/
def unloadClear (s : State) : State :=
  let u := abandonLookup (dropInHand (clearPresentation s))
  { u with
    gtu.watches := PerPort.all false
    fcc.lines := List.replicate 16 FocusLine.invalid
    fcc.lru := lruReset
    fit.entries := []
    fit.index := .empty
    fit.building := false
    fit.splice := false
    fit.verify := none
    mkd := .off
    trc.slip := 0
    trc.roll := .rewinding
    rqt.grant := .none
    rqt.stopReason := .none }

/-- UNLOAD (R13 to R15). -/
def doUnload (e : Env) (s : State) : State :=
  let w := e.reply .accepted [] ((Ctx.start s).upd (reserveTimed e .unload))
  let u := (unloadWork (abandonExposure .unloaded w)).upd unloadClear
  finish (rewindFrom (setLevel .rollState false [Roll.code .rewinding] u))

/-! ### Records and the run (R113, R134, R162) -/

/-- The default class of a port (R113). -/
def defaultClass : Port → Nat
  | .a => 1
  | .b => 2
  | .c => 3

/-- A record joins the table (R113, R115, R118). -/
def makeRecord (e : Env) (work : Work) (cls : Nat) (w : Ctx) : Ctx :=
  examineAlmostFull (w.upd fun s =>
    { s with
      rqt.records := s.rqt.records ++ [⟨e.port, e.tag, work, cls, 0, s.rqt.arrival, .waiting⟩]
      rqt.arrival := s.rqt.arrival + 1
      trc.timers.park := if work = .barrier then s.trc.timers.park else none })

/-- PRESENT (R113, R126). -/
def doPresent (e : Env) (frame : Nat) (cls : Option Nat) (mode : FocusMode) (hold : Option Nat) (s : State) : State :=
  let c := min (cls.getD (defaultClass e.port)) (defaultClass e.port)
  let w := e.reply .accepted ([BitVec.ofNat 8 c] ++ be 2 (hold.getD 0)) ((Ctx.start s).upd (reserve e.port))
  finish (examine (makeRecord e (.present frame mode hold) c w))

/-- JOG (R29, R113). -/
def doJog (e : Env) (delta : Int) (s : State) : State :=
  let w := e.reply .accepted (beInt 3 delta) ((Ctx.start s).upd (reserve e.port))
  finish (examine (makeRecord e (.jog delta) 3 w))

/-- BARRIER (R134). -/
def doBarrier (e : Env) (s : State) : State :=
  let w := e.reply .accepted [] ((Ctx.start s).upd (reserve e.port))
  finish (examineBarriers e.port (makeRecord e .barrier (defaultClass e.port) w))

/-- RUN (R162, R163). -/
def doRun (e : Env) (first count cls : Nat) (skip : Bool) (hold : Option Nat) (s : State) : State :=
  let w := e.reply .accepted ([BitVec.ofNat 8 cls] ++ be 2 (hold.getD 0)) ((Ctx.start s).upd (reserve e.port))
  finish (examine (w.upd fun s =>
    { s with
      rqt.run := some
        { tag := e.tag, cls := cls, arrival := s.rqt.arrival, next := first
          remaining := if count = 0 then none else some count
          presented := 0, last := none, skipTaken := skip, hold := hold, state := .ready }
      rqt.arrival := s.rqt.arrival + 1
      trc.timers.park := none }))

/-! ### CANCEL and CANCEL-ALL (R132, R133, R174) -/

/-- A cancel that finds its presentation EXPOSING (R150). -/
def deferCancel (s : State) : State :=
  { s with gtu.presentation := s.gtu.presentation.map fun x =>
      if x.deferred = .none ∨ x.deferred = .renumbered then { x with deferred := .cancelled } else x }

/-- The work of a grant whose holder has completed: the grant in hand is dropped, a sweep is abandoned, a move gets a stop
order (R103, R117, R132, R140, R143). -/
def endGrantWork (w : Ctx) : Ctx :=
  let focusing : Bool := decide (w.st.gtu.phase = .focusing)
  if focusing then w.upd fun s => abandonLookup (dropInHand s) else orderStop .none (w.upd dropInHand)

/-- Cancel a record in the state in which the cancel finds it (R132); `done` completes it. -/
def cancelRecord (done : Record → OutcomeCode → Ctx → Ctx) (r : Record) (w : Ctx) : Ctx :=
  match r.state with
  | .waiting => done r .cancelled w
  | .granted => endGrantWork (done r .cancelled w)
  | .atGate =>
    if w.st.gtu.phase = .exposing then w.upd deferCancel else done r .cancelled (w.upd clearPresentation)

/-- Cancel the run (R174); `done` completes it. -/
def cancelRun (done : OutcomeCode → Ctx → Ctx) (r : Run) (w : Ctx) : Ctx :=
  match r.state with
  | .ready | .suspended => done .cancelled w
  | .granted => endGrantWork (done .cancelled w)
  | .atGate => if w.st.gtu.phase = .exposing then w.upd deferCancel else done .cancelled (w.upd clearPresentation)

/-- The run, when it is the port's and has the tag. -/
def State.runTagged (s : State) (p : Port) (t : Byte) : Option Run :=
  match s.rqt.run with
  | some r => if p = .a ∧ r.tag = t then some r else none
  | none => none

/-- CANCEL t (R132). -/
def doCancel (e : Env) (t : Byte) (s : State) : State :=
  let w := e.reply .done [] (Ctx.start s)
  match s.findRecord e.port t, s.runTagged e.port t with
  | some r, _ => finish (examine (cancelRecord completeRecord r w))
  | none, some r => finish (examine (cancelRun completeRun r w))
  | none, none => refuse e .notFoundTag [] s

/-- Cancel a list of records in order. -/
def cancelEach (l : List Record) (w : Ctx) : Ctx := l.foldl (fun w r => cancelRecord completeRecordOnly r w) w

/-- CANCEL-ALL (R133). -/
def doCancelAll (e : Env) (s : State) : State :=
  let l := s.rqt.records.filter fun r => decide (r.port = e.port)
  match (if e.port = .a then s.rqt.run else none) with
  | some r =>
    let w := e.reply .done [BitVec.ofNat 8 (l.length + 1)] (Ctx.start s)
    finish (examine (cancelEach (l.filter fun x => !older x.arrival r.arrival)
      (cancelRun completeRunOnly r (cancelEach (l.filter fun x => older x.arrival r.arrival) w))))
  | none => finish (examine (cancelEach l (e.reply .done [BitVec.ofNat 8 l.length] (Ctx.start s))))

/-! ### TAKE, RELEASE, WATCH, EXPOSE (R147 to R155) -/

/-- The presentation that a TAKE or RELEASE may end: the sender's, with its tag, PRESENTED, or EXPOSING without a
deferred end (R149, R150). -/
def State.endable (s : State) (p : Port) (t : Byte) : Option Presentation :=
  match s.gtu.presentation with
  | some x =>
    if x.holder.port = p ∧ x.holder.tag = t ∧
        (s.gtu.phase = .presented ∨ (s.gtu.phase = .exposing ∧ x.deferred = .none)) then some x
    else none
  | none => none

/-- Record a deferred end (R150). -/
def setDeferred (x : Presentation) (d : Deferred) (s : State) : State :=
  { s with gtu.presentation := some { x with deferred := d } }

/-- TAKE t (R147, R149, R150). -/
def doTake (e : Env) (t : Byte) (s : State) : State :=
  match s.endable e.port t with
  | none => refuse e .notPresented [] s
  | some x =>
    let w := (e.reply .done [] (Ctx.start s)).upd (markTaken x.frame)
    if s.gtu.phase = .exposing then finish (w.upd (setDeferred x .taken))
    else finish (examine (endPresentation .taken w))

/-- RELEASE t (R148 to R150). -/
def doRelease (e : Env) (t : Byte) (s : State) : State :=
  match s.endable e.port t with
  | none => refuse e .notPresented [] s
  | some x =>
    let w := e.reply .done [] (Ctx.start s)
    if s.gtu.phase = .exposing then finish (w.upd (setDeferred x .released))
    else finish (examine (endPresentation .released w))

/-- WATCH (R152). -/
def doWatch (e : Env) (s : State) : State :=
  doneQuiet e
    (beFrame s.frameAtGate ++ be 3 s.trc.counter ++ [flagByte s.trc.verified] ++ be 2 s.trc.epoch.toNat
      ++ [s.trc.motion.code, s.gtu.phase.code])
    (fun s => { s with gtu.watches := s.gtu.watches.set e.port true }) s

/-- A presentation exists for another port (R154). -/
def State.presentedElsewhere (s : State) (p : Port) : Bool :=
  match s.gtu.presentation with
  | some x => decide (x.holder.port ≠ p)
  | none => false

/-- EXPOSE (R154, R155). It has no immediate reply. -/
def doExpose (e : Env) (s : State) : State :=
  if s.gtu.watches.get e.port = false then refuse e .noWatch [] s
  else if s.presentedElsewhere e.port then refuse e .notOwner [] s
  else if s.gtu.exposure.isSome then refuse e .busy [] s
  else
    let u := reserveTimed e .expose s
    let shown := s.gtu.presentation.isSome
    finish (Ctx.start { u with
      gtu.exposure := some ⟨e.port, e.tag, s.frameAtGate, s.trc.epoch, shown, 0⟩
      gtu.route := some e.port
      gtu.trig := true
      gtu.phase := if shown then .exposing else s.gtu.phase
      gtu.hold := if shown then none else s.gtu.hold })

/-- The holder of the presentation or of the grant in hand (R160). -/
def State.gateHolder (s : State) : Option (Holder × Nat) :=
  match s.gtu.presentation with
  | some x => some (x.holder, x.frame)
  | none => s.gtu.inHand.map fun g => (g.holder, g.frame)

/-- Hold as GATE-STATUS reports it (R160). -/
def State.reportedHold (s : State) : Nat :=
  match s.gtu.phase with
  | .presented => s.gtu.hold.getD 0
  | .exposing => match s.gtu.presentation with | some x => x.hold | none => 0
  | .idle | .positioning | .settling | .focusing => 0

/-- The body of a GATE-STATUS reply after its STATUS (R160, R196). -/
def gateStatusBytes (p : Port) (s : State) : List Byte :=
  [s.gtu.phase.code]
    ++ (match s.gateHolder with
      | some (h, n) => [portCode h.port, h.tag] ++ be 2 n
      | none => [0, 0] ++ be 2 65535)
    ++ beFrame s.frameAtGate
    ++ be 3 (s.trc.counter + if s.trc.verified then 8388608 else 0)
    ++ be 2 s.trc.epoch.toNat
    ++ [s.trc.motion.code]
    ++ [match s.gtu.presentation with | some x => x.source.code | none => 0]
    ++ be 2 s.reportedHold
    ++ [match s.gtu.presentation with | some x => x.deferred.code | none => 0]
    ++ [BitVec.ofNat 8 ((match s.gtu.exposure with | some x => (portCode x.port).toNat | none => 0)
          + if s.gtu.watches.get p then 128 else 0)]
    ++ [0]

/-- GATE-STATUS (R160). -/
def doGateStatus (e : Env) (s : State) : State := doneQuiet e (gateStatusBytes e.port s) id s

/-! ### HALT, RESUME, CLEAR-FAULT, SET-STATION (R33, R34, R39, R43) -/

/-- The effect of HALT on the transport (R16, R33). -/
def haltTransport (w : Ctx) : Ctx :=
  match w.st.trc.move with
  | none => w
  | some m =>
    if m.job = .rewind then
      if m.ramp = .none ∧ w.st.trc.motion.moving = true then
        w.upd fun s =>
          let u := setMotion .decel s
          { u with trc.move := some { m with ramp := .stop } }
      else w
    else orderStop .halt w

/-- HALT (R33). -/
def doHalt (e : Env) (s : State) : State :=
  finish (haltTransport (setLevel .halted true []
    ((e.reply .done [] (Ctx.start s)).upd fun s => { s with rqt.halted := true })))

/-- A rewind that waited on HALTED begins (R15, R34). The rules give a RESUME once the halted rewind is IDLE; for one that finds
it still ramping MODEL'S CHOICE (log entry 32): the ramp goes on to rest, and the rewind begins anew there. -/
def resumeRewind (w : Ctx) : Ctx :=
  if w.st.trc.roll = .rewinding ∧ w.st.trc.motion = .idle then beginRewind w else w

/-- RESUME (R34). -/
def doResume (e : Env) (s : State) : State :=
  finish (examine (resumeRewind (setLevel .halted false []
    ((e.reply .done [] (Ctx.start s)).upd fun s => { s with rqt.halted := false }))))

/-- CLEAR-FAULT (R39). -/
def doClearFault (e : Env) (s : State) : State :=
  if s.trc.motion ≠ .faulted then refuse e .notFaulted [] s
  else if s.trc.retension then refuse e .busy [] s
  else
    finish ((e.reply .accepted [] ((Ctx.start s).upd (reserveTimed e .clearFault))).upd fun s =>
      { s with trc.retension := true, trc.timers.threading := some 0, trc.timers.inWindow := none })

/-- The transport parks (R40). -/
def parkNow (s : State) : State := setMotion .parked s

/-- A running park timer that has already run the park delay parks the transport at once (R43). -/
def parkIfDue (s : State) : State :=
  match s.trc.timers.park with
  | some n => if s.mayPark && decide (1000 * s.trc.parkDelay ≤ n) then parkNow s else s
  | none => s

/-- SET-STATION (R43, R220). -/
def doSetStation (e : Env) (park wake : Option Nat) (s : State) : State :=
  let pd := match park with | some v => min v 3600 | none => s.trc.parkDelay
  let wd := match wake with | some v => clampNat 50 2000 v | none => s.trc.wakeDelay
  let clamped := flagsNum [park.any fun v => decide (v ≠ pd), wake.any fun v => decide (v ≠ wd)]
  finish ((e.reply .done (be 2 pd ++ be 2 wd ++ [BitVec.ofNat 8 clamped]) (Ctx.start s)).upd fun s =>
    let u : State := { s with trc.parkDelay := pd, trc.wakeDelay := wd }
    if park.isSome then parkIfDue u else u)

/-! ### CORRECT, READ-INDEX, INDEX-STATUS (R80 to R88) -/

/-- The reply of CORRECT: the index state and F after the correction (R80). -/
def correctReply (e : Env) (w : Ctx) : Ctx := e.reply .done ([w.st.indexByte] ++ beFrame w.st.frontier) w

/-- CORRECT MERGE (R80, R81, R85, R86). -/
def doMerge (e : Env) (n : Nat) (s : State) : State :=
  if s.fit.building then refuse e .indexBusy [] s
  else if !s.indexed n then refuse e .outOfRange [] s
  else
    let w := correctReply e ((Ctx.start s).upd (mergeEntries n))
    finish (examine (afterCorrection (fun m => decide (n ≤ m)) w))

/-- The distance test of SPLIT (R82). -/
def State.splitFits (s : State) (n p : Nat) : Bool := s.clearBelow (n + 1) p && s.clearAbove (n + 1) p

/-- CORRECT SPLIT (R80, R82, R85, R86). -/
def doSplit (e : Env) (n p : Nat) (s : State) : State :=
  if s.fit.building then refuse e .indexBusy [] s
  else if !s.indexed n then refuse e .outOfRange [] s
  else if s.fit.index = .full ∨ Config.maxEntries ≤ s.fit.entries.length then refuse e .indexFull [] s
  else if !s.splitFits n p then refuse e .outOfRange [] s
  else if !s.trc.verified then refuse e .notVerified [] s
  else
    let w := correctReply e ((Ctx.start s).upd (splitEntries n p))
    let u := if w.st.fit.index = .full then pulseAll .indexClosed ([1] ++ beFrame w.st.frontier) w else w
    finish (examine (afterCorrection (fun m => decide (n < m)) u))

/-- The distance test of MOVE (R83). -/
def State.moveFits (s : State) (n p : Nat) : Bool := s.clearBelow n p && s.clearAbove (n + 1) p

/-- CORRECT MOVE (R80, R83, R85, R86). -/
def doMove (e : Env) (n p : Nat) (s : State) : State :=
  if s.fit.building then refuse e .indexBusy [] s
  else if !s.indexed n then refuse e .outOfRange [] s
  else if !s.moveFits n p then refuse e .outOfRange [] s
  else
    let w := correctReply e ((Ctx.start s).upd (moveEntry n p))
    finish (examine (afterCorrection (fun m => decide (n = m)) w))

/-- CORRECT CLEAR-TAKEN (R80, R84). -/
def doClearTaken (e : Env) (a b : Nat) (s : State) : State :=
  if s.fit.building then refuse e .indexBusy [] s
  else if !(s.indexed a && s.indexed b) then refuse e .outOfRange [] s
  else finishQuiet (correctReply e ((Ctx.start s).upd (clearTakenEntries a b)))

/-- The entries that READ-INDEX reports (R87). -/
def readEntries (f c : Nat) (l : List Entry) : List Byte :=
  ((l.drop f).take c).zipIdx.flatMap fun x => entryBytes (f + x.2) x.1

/-- READ-INDEX (R87, R196). Bytes 4 and 5 are the first frame of the entries that follow; what they carry when none follows the
rules do not say: MODEL'S CHOICE (log entry 25), the frame asked for. -/
def doReadIndex (e : Env) (f c : Nat) (s : State) : State :=
  doneQuiet e ([s.indexByte] ++ beFrame s.frontier ++ be 2 f ++ readEntries f c s.fit.entries) id s

/-- INDEX-STATUS (R88). -/
def doIndexStatus (e : Env) (s : State) : State :=
  doneQuiet e
    ([s.indexByte] ++ beFrame s.frontier ++ bePos s.frontierPos ++ be 2 s.fit.entries.length ++ be 3 s.fit.p256
      ++ bePos s.trc.endPos ++ be 3 s.trc.overrun ++ [flagByte s.fit.building, flagByte s.fit.splice]
      ++ be 3 s.trc.counter ++ [flagByte s.trc.verified, BitVec.ofNat 8 s.trc.slip, flagByte s.fit.verify.isSome])
    id s

/-! ### The focus requests (R104 to R108) -/

/-- Line number, state (VALUE 0, PENDING 1) and locked count after a request (R104, R105). -/
def focusReply (x : Nat) (s : State) : List Byte :=
  match s.lineOf x with
  | some n => [BitVec.ofNat 8 n, flagByte (s.focusLine n).pending, BitVec.ofNat 8 s.lockedCount]
  | none => [255, 1, BitVec.ofNat 8 s.lockedCount]

/-- FOCUS-LOCK x (R104). The source that FOCUS-READ reports for a line it allocates PENDING the rules do not give: MODEL'S CHOICE
(log entry 38), SWEEP. -/
def doFocusLock (e : Env) (x : Nat) (s : State) : State :=
  let locked : Bool := match s.lineOf x with | some n => (s.focusLine n).locked | none => false
  if !locked && decide (Config.maxLocked ≤ s.lockedCount) then refuse e .lockLimit [] s
  else
    let u := putSector x (fun l => { l with locked := true }) ⟨true, x, true, 0, .sweep, true⟩ s
    finishQuiet (e.reply .done (focusReply x u) (Ctx.start u))

/-- FOCUS-UNLOCK x (R105). A line it allocates PENDING has the source SWEEP: MODEL'S CHOICE (log entry 38). -/
def doFocusUnlock (e : Env) (x : Nat) (s : State) : State :=
  let u := putSector x (fun l => { l with locked := false }) ⟨true, x, true, 0, .sweep, false⟩ s
  finishQuiet (e.reply .done (focusReply x u) (Ctx.start u))

/-- FOCUS-FREE (R106). -/
def doFocusFree (e : Env) (s : State) : State :=
  doneQuiet e [BitVec.ofNat 8 s.lockedCount]
    (fun s => { s with fcc.lines := s.fcc.lines.map fun l => { l with locked := false } }) s

/-- FOCUS-SET x, v (R107). -/
def doFocusSet (e : Env) (x v : Nat) (s : State) : State :=
  let u := putSector x (fun l => { l with pending := false, value := v, source := .set }) ⟨true, x, false, v, .set, false⟩ s
  let line : Byte := match u.lineOf x with | some n => BitVec.ofNat 8 n | none => 255
  finishQuiet (e.reply .done ([line] ++ be 2 v) (Ctx.start u))

/-- The lens position as it is read: while the stage is MOVING the stepper stands somewhere on its way to the target, and R90
does not say where (FREE VALUE, log entry 9); the reading lies between the position last read during this move, at first its
start, and the target, because the stepper is driven toward the target. -/
def State.lensReading (s : State) : Nat :=
  match s.fcc.stage, s.fcc.running with
  | .moving, some mv =>
    let last := s.lensRead.getD s.fcc.lens
    clampNat (min last mv.target) (max last mv.target) (Config.lensInFlight s.fcc.lens mv.target s.freeCount)
  | _, _ => s.fcc.lens

/-- A reading of the lens is counted, and kept as long as the stage is MOVING (log entry 9). -/
def noteReading (s : State) : State :=
  { s with
    freeCount := s.freeCount + 1
    lensRead := if s.fcc.stage = .moving then some s.lensReading else s.lensRead }

/-- A line as FOCUS-READ reports it: line, valid, tag, state, value, source, locked (R108). -/
def focusLineBytes (n : Nat) (l : FocusLine) : List Byte :=
  if l.valid then
    [BitVec.ofNat 8 n, 1, BitVec.ofNat 8 l.sector, flagByte l.pending] ++ be 2 (if l.pending then 0 else l.value)
      ++ [match l.source with | .sweep => 0 | .set => 1, flagByte l.locked]
  else [BitVec.ofNat 8 n, 0, 0, 1, 0, 0, 0, flagByte l.locked]

/-- FOCUS-READ (R108). -/
def doFocusRead (e : Env) (s : State) : State :=
  doneQuiet e
    (be 2 s.lensReading ++ [s.fcc.stage.code]
      ++ (match s.fcc.sweep with
        | some w => [BitVec.ofNat 8 w.sector, match w.pass with | .coarse => 0 | .fine => 1] ++ be 2 w.samples.length
        | none => [255, 255, 255, 255])
      ++ [BitVec.ofNat 8 s.lockedCount] ++ s.fcc.lru.flatMap fun n => focusLineBytes n (s.focusLine n))
    noteReading s

/-! ### The link requests (R193 to R195) -/

/-- CONFIGURE-LINK (R193). -/
def doConfigureLink (e : Env) (mode : Option RdyMode) (threshold : Option Nat) (gating : Option Bool) (gap : Option Nat)
    (s : State) : State :=
  let l := s.link e.port
  let n : Link :=
    { l with
      rdyMode := mode.getD l.rdyMode
      threshold := threshold.getD l.threshold
      ctsGating := gating.getD l.ctsGating
      gap := gap.getD l.gap }
  doneQuiet e [n.rdyMode.code, BitVec.ofNat 8 n.threshold, flagByte n.ctsGating, BitVec.ofNat 8 n.gap]
    (fun s => s.setLink e.port n) s

/-- The body of a LINK-STATUS reply after its STATUS (R194). -/
def linkStatusBytes (p : Port) (s : State) : List Byte :=
  let l := s.link p
  [l.flags.byte] ++ be 2 l.rxBytes ++ be 2 l.txFifo.length
    ++ [BitVec.ofNat 8 l.outbox.length, BitVec.ofNat 8 l.reserved, BitVec.ofNat 8 l.free]
    ++ (if p = .c then [BitVec.ofNat 8 l.released] else [])
    ++ [flagByte (s.rdy p), flagByte l.cts, l.rdyMode.code, BitVec.ofNat 8 l.threshold, flagByte l.ctsGating,
        BitVec.ofNat 8 l.gap, BitVec.ofNat 8 s.unitAddress.toNat]

/-- LINK-STATUS (R194). -/
def doLinkStatus (e : Env) (s : State) : State :=
  doneQuiet e (linkStatusBytes e.port s)
    (fun s => s.setLink e.port { s.link e.port with flags := LinkFlags.clear }) s

/-- The link of a port after its reset. CTS is an input; a character on the line is completed (R195). -/
def resetLinkState (l : Link) : Link := { Link.reset with cts := l.cts, txLine := l.txLine }

/-- The exposure of a port is abandoned with no completion (R158, R161); what an exposure held up then goes on. -/
def resetExposure (p : Port) (w : Ctx) : Ctx :=
  match w.st.gtu.exposure with
  | some x =>
    if x.port = p then
      let u := w.upd dropExposure
      let y := match u.st.gtu.heldReport with
        | some src => focusReady src (u.upd fun s => { s with gtu.heldReport := none })
        | none => u
      beginHeld y
    else w
  | none => w

/-- The presentation of a port ends silently (R161). -/
def resetPresentation (p : Port) (s : State) : State :=
  match s.gtu.presentation with
  | some x => if x.holder.port = p then clearPresentation s else s
  | none => s

/-- The grant belongs to a port. -/
def State.grantOf (s : State) (p : Port) : Bool :=
  match s.rqt.grant with
  | .record q _ => decide (q = p)
  | .run => decide (p = .a)
  | .verify | .none => false

/-- The records of a port leave the table, and its run the slot, with no completion (R135, R176). -/
def removePortWork (p : Port) (s : State) : State :=
  { s with
    rqt.records := s.rqt.records.filter fun r => decide (r.port ≠ p)
    rqt.run := if p = .a then none else s.rqt.run
    rqt.grant := if s.grantOf p then .none else s.rqt.grant }

/-- QUEUE-ALMOST-FULL after a port reset. R118 says that the reset lowers the level, R197 that a port reset takes no transition of
any level and latches nothing: MODEL'S CHOICE (log entry 21), the level is examined once, after every record of the port has
left, and falls without an occurrence on any port. -/
def settleAlmostFull (s : State) : State :=
  { s with ntu.levels.queueAlmostFull := decide (Config.almostFull ≤ s.rqt.records.length) }

/-- A port reset (R118, R135, R161, R195, R197). -/
def portReset (p : Port) (w : Ctx) : Ctx :=
  let held := w.st.grantOf p
  let a := w.upd fun s => resetSources p (s.setLink p (resetLinkState (s.link p)))
  let b := a.upd fun s => { resetPresentation p (removePortWork p s) with gtu.watches := s.gtu.watches.set p false }
  let c := if held then endGrantWork b else b
  examine (resetExposure p (c.upd settleAlmostFull))

/-- RESET-LINK: its DONE is the first message of the emptied outbox (R195). -/
def doResetLink (e : Env) (s : State) : State := finish (portReset e.port (e.reply .done [] (Ctx.start s)))

/-! ### The notice requests (R204 to R207) -/

/-- Put a property into every source of a port from twelve flags. -/
def mapSources (f : EventSource → EventSlot → EventSlot) (p : Port) (s : State) : State :=
  allSources.foldl (fun s k => s.setSlot p k (f k (s.slot p k))) s

/-- Flag `k` of a set of twelve (R196). -/
def flagOf (n : Nat) (k : EventSource) : Bool := (n / 2 ^ k.num) % 2 = 1

/-- A new enable: a source that is no longer enabled loses its latch (R205). -/
def EventSlot.withEnable (e : EventSlot) (on : Bool) : EventSlot :=
  { e with enabled := on, latch := if e.enabled && !on then none else e.latch }

/-- SET-NOTICES (R205). -/
def setNotices (enables polarities : Option Nat) (p : Port) (s : State) : State :=
  mapSources
    (fun k e =>
      let x := match polarities with
        | some n => if k.isLevel then { e with falling := flagOf n k } else e
        | none => e
      match enables with
      | some n => x.withEnable (flagOf n k)
      | none => x)
    p s

/-- Enables, polarities and latches of a port, two bytes each (R205, R206). A pulse source is reported RISING (R200). -/
def sourceSets (p : Port) (s : State) : List Byte :=
  be 2 (s.sourceFlags p (·.enabled))
    ++ be 2 (flagsNum (allSources.map fun k => k.isLevel && (s.slot p k).falling))
    ++ be 2 (s.sourceFlags p (·.latch.isSome))

def doSetNotices (e : Env) (enables polarities : Option Nat) (s : State) : State :=
  let u := setNotices enables polarities e.port s
  finishQuiet (e.reply .done (sourceSets e.port u) (Ctx.start u))

/-- The latched sources of a port: number, count and data (R206). -/
def latchedBytes (p : Port) (s : State) : List Byte :=
  allSources.flatMap fun k =>
    match (s.slot p k).latch with
    | some l => [BitVec.ofNat 8 k.num, BitVec.ofNat 8 l.count] ++ l.data
    | none => []

/-- READ-EVENTS (R206): STATUS, three sets of two bytes, five levels and the cause of one byte each (R196, R198), and ten bytes
for each latched source. R206's own count of the body, 5 + 6 + 120, has the levels and the sets and leaves STATUS and the cause
out, which its table and R196 put in; DEDUCED (log entry 7), every item of the table is carried. -/
def doReadEvents (e : Env) (s : State) : State :=
  let v := s.ntu.levels
  doneQuiet e
    (sourceSets e.port s
      ++ [flagByte v.fault, flagByte v.halted, flagByte v.unverified, flagByte v.rollState, flagByte v.queueAlmostFull]
      ++ [s.trc.cause.code] ++ latchedBytes e.port s)
    id s

/-- CLEAR-EVENTS (R207). -/
def doClearEvents (e : Env) (flags : Nat) (s : State) : State :=
  let u := mapSources (fun k x => if flagOf flags k then { x with latch := none } else x) e.port s
  finishQuiet (e.reply .done (be 2 (u.sourceFlags e.port (·.latch.isSome))) (Ctx.start u))

/-- Enabled and latched (R203, R204). -/
def EventSlot.active (e : EventSlot) : Bool := e.enabled && e.latch.isSome

/-- The most urgent active source of a port (R204). -/
def State.mostUrgent (s : State) (p : Port) : Option EventSource := allSources.find? fun k => (s.slot p k).active

/-- The number of active sources of a port (R204). -/
def State.activeCount (s : State) (p : Port) : Nat := allSources.countP fun k => (s.slot p k).active

/-- ACK-ATTN (R204): source, data, occurrence count, remaining count. A broadcast changes nothing. -/
def doAckAttn (e : Env) (s : State) : State :=
  match s.mostUrgent e.port with
  | none => doneQuiet e ([255] ++ List.replicate 8 0 ++ [0, 0]) id s
  | some k =>
    if e.bc then s
    else
      let l : Latch := (s.slot e.port k).latch.getD ⟨List.replicate 8 0, 0⟩
      let u := clearLatch e.port k s
      finishQuiet (e.reply .done
        ([BitVec.ofNat 8 k.num] ++ l.data ++ [BitVec.ofNat 8 l.count, BitVec.ofNat 8 (u.activeCount e.port)])
        (Ctx.start u))

end Sys2Proof.Machine
end

