-- ==== Sys2Proof/Machine/Accept.lean ====
section
/-! DEFINITION. The acceptance path: the eight checks of R211 in their order, and the hand-over of an accepted request to
its owner (R211 to R218, R221). -/

namespace Sys2Proof.Machine

/-- An accepted request is handed to its owner, whose own checks come first (R211, R216). -/
def perform (e : Env) (a : Action) (s : State) : State :=
  match a with
  | .load p clamped => doLoad e p clamped s
  | .unload => doUnload e s
  | .present frame cls mode hold => doPresent e frame cls mode hold s
  | .run first count cls skip hold => doRun e first count cls skip hold s
  | .jog delta => doJog e delta s
  | .barrier => doBarrier e s
  | .cancel t => doCancel e t s
  | .cancelAll => doCancelAll e s
  | .take t => doTake e t s
  | .release t => doRelease e t s
  | .watch => doWatch e s
  | .expose => doExpose e s
  | .gateStatus => doGateStatus e s
  | .halt => doHalt e s
  | .resume => doResume e s
  | .clearFault => doClearFault e s
  | .correct (.merge n) => doMerge e n s
  | .correct (.split n p) => doSplit e n p s
  | .correct (.move n p) => doMove e n p s
  | .correct (.clearTaken x y) => doClearTaken e x y s
  | .readIndex f c => doReadIndex e f c s
  | .indexStatus => doIndexStatus e s
  | .focusLock x => doFocusLock e x s
  | .focusUnlock x => doFocusUnlock e x s
  | .focusFree => doFocusFree e s
  | .focusSet x v => doFocusSet e x v s
  | .focusRead => doFocusRead e s
  | .configureLink mode threshold gating gap => doConfigureLink e mode threshold gating gap s
  | .linkStatus => doLinkStatus e s
  | .resetLink => doResetLink e s
  | .setNotices enables polarities => doSetNotices e enables polarities s
  | .readEvents => doReadEvents e s
  | .clearEvents flags => doClearEvents e flags s
  | .ackAttn => doAckAttn e s
  | .setStation park wake => doSetStation e park wake s

/-- The tags in use of a port (R213). -/
def State.tagInUse (s : State) (p : Port) (t : Byte) : Bool :=
  (s.findRecord p t).isSome || (s.runTagged p t).isSome || (s.link p).outstanding.any fun x => decide (x.1 = t)

/-- Check 6: the roll state suits the kind (R4). -/
def rollRefusal (k : Kind) (s : State) : Option Status :=
  if k = .load then if s.trc.roll = .empty then none else some .rollLoaded
  else if k.needsRoll && decide (s.trc.roll ≠ .loaded) then some .noRoll
  else none

/-- The records of a port (R114). -/
def State.portRecords (s : State) (p : Port) : Nat := s.rqt.records.countP fun r => decide (r.port = p)

/-- Check 7: the request table and the run slot have room (R114, R162, R215). -/
def capacityRefusal (k : Kind) (p : Port) (s : State) : Option Status :=
  if k = .present ∨ k = .jog ∨ k = .barrier then
    if Config.maxPortRecords ≤ s.portRecords p then some .portLimit
    else if Config.maxRecords ≤ s.rqt.records.length then some .tableFull
    else none
  else if k = .run then if s.rqt.run.isSome then some .runActive else none
  else none

/-- The checks of R211 for a known kind, in their order; a request that passes them goes to its owner. -/
def acceptKind (e : Env) (k : Kind) (body : List Byte) (s : State) : State :=
  if !k.lengthOk body then refuse e .length [] s
  else if !k.permitted e.port then refuse e .notPermitted [] s
  else if k.timed && s.tagInUse e.port e.tag then refuse e .tagInUse [] s
  else
    match k.parse body with
    | .error x => refuse e x.status [x.reason, x.number] s
    | .ok a =>
      match rollRefusal k s with
      | some st => refuse e st [] s
      | none =>
        match capacityRefusal k e.port s with
        | some st => refuse e st [] s
        | none => perform e a s

/-- A request addressed to the unit on port C releases every message then queued (R192, first event). -/
def releaseAll (e : Env) (s : State) : State :=
  if e.port = .c ∧ e.bc = false then
    { s with lnk.c := { s.lnk.c with released := s.lnk.c.outbox.length } }
  else s

/-- The decoder hands a message it has taken to the acceptance path, whole (R188, R211, R221). A timed request received as
broadcast is discarded. -/
def handle (e : Env) (body : List Byte) (s : State) : State :=
  match Kind.ofCode e.code with
  | none => releaseAll e (refuse e .unknownKind [] s)
  | some k => if e.bc && k.timed then s else releaseAll e (acceptKind e k body s)

end Sys2Proof.Machine
end

