-- ==== Sys2Proof/Machine/Link.lean ====
section
/-! DEFINITION. The Link Interface: framing, the receiver, link errors, the decoder, the outbox and the transmitter
(R178 to R192). -/

namespace Sys2Proof.Machine

/-! ### Bytes of a frame (R179, R180) -/

/-- The number of ones of a byte is odd (R179). -/
def oddParity (b : Byte) : Bool := ((List.range 8).countP fun i => b.getLsbD i) % 2 = 1

/-- The address in bits 0 to 6 of an address byte (R179). -/
def addressOf (b : Byte) : BitVec 7 := b.truncate 7

/-- The address byte of a unit: bit 7 makes the number of ones odd (R179). -/
def addressByte (u : BitVec 7) : Byte :=
  let b : Byte := u.zeroExtend 8
  if oddParity b then b else b ||| 128

/-- The sum of bytes modulo 256 (R180). -/
def byteSum (l : List Byte) : Byte := l.foldl (· + ·) 0

/-- A frame of one message (R180): CONTINUATION is bit 6 of LEN, MORE bit 7. -/
def frameBytes (u : BitVec 7) (tag kind : Byte) (continuation more : Bool) (body : List Byte) : List Byte :=
  let len := body.length + 3 + (if continuation then 64 else 0) + if more then 128 else 0
  let l := [addressByte u, BitVec.ofNat 8 len, tag, kind] ++ body
  l ++ [0 - byteSum l]

/-- The frames of a message in order: each but the last carries 57 body bytes (R181). `n` bounds their number. -/
def messageFrames (u : BitVec 7) (tag kind : Byte) : Nat → Bool → List Byte → List Byte
  | 0, _, _ => []
  | n + 1, continuation, body =>
    if body.length ≤ Config.frameBody then frameBytes u tag kind continuation false body
    else
      frameBytes u tag kind continuation true (body.take Config.frameBody)
        ++ messageFrames u tag kind n true (body.drop Config.frameBody)

/-- All the bytes of a message on the line (R180, R181). -/
def framed (u : BitVec 7) (m : OutMsg) : List Byte := messageFrames u m.tag m.kind (m.body.length + 1) false m.body

/-! ### The decoder (R188) -/

/-- The decoder takes a message: a broadcast at once, an addressed one with 2 places of the outbox free (R188). -/
def Link.takes (l : Link) (broadcast : Bool) : Bool := broadcast || decide (2 ≤ l.free)

/-- The decoder of a port takes messages from the head of its receive FIFO as long as it may, each handled whole (R188). -/
def drainN : Nat → Port → State → State
  | 0, _, s => s
  | n + 1, p, s =>
    match (s.link p).inbox with
    | [] => s
    | m :: rest =>
      if (s.link p).takes m.broadcast then
        drainN n p
          (handle ⟨p, m.broadcast, m.tag, m.kind.toNat⟩ m.body (s.setLink p { s.link p with inbox := rest }))
      else s

def drain (p : Port) (s : State) : State := releaseWaiting (drainN (s.link p).inbox.length p s)

/-! ### Link errors (R183) -/

/-- A link error: the message in progress is discarded, the flag latches, LINK-ERROR is reported; the receiver goes to
`rx` (R183). -/
def linkError (p : Port) (c : LinkCause) (rx : RxState) (s : State) : State :=
  finishQuiet (pulse .linkError p [c.code]
    ((Ctx.start s).upd fun s =>
      s.setLink p { s.link p with part := none, rx := rx, flags := (s.link p).flags.latch c }))

/-- The error that ends a stored frame: OVERRUN takes the place of another cause (R185). -/
def RxFrame.cause (f : RxFrame) (c : LinkCause) : LinkCause := if f.overrun then .overrun else c

/-- Put the receiver into a state. -/
def setRx (p : Port) (rx : RxState) (s : State) : State := s.setLink p { s.link p with rx := rx }

/-- The byte timer restarts at a byte within a message; the RESYNC timer runs in RESYNC (R183, R184). -/
def restartTimers (p : Port) (s : State) : State :=
  let l := s.link p
  s.setLink p
    { l with
      byteTimer := match l.rx with | .inFrame _ | .awaitNext => some 0 | .idle | .resync => none
      resyncTimer := match l.rx with | .resync => some 0 | .idle | .inFrame _ | .awaitNext => none }

/-! ### Receiving a byte (R182 to R185) -/

/-- A stored frame takes a byte: it is stored, or, when the receive FIFO is full or a byte was lost before, only counted
(R185). -/
def RxFrame.take (full : Bool) (b : Byte) (f : RxFrame) : RxFrame :=
  if f.overrun || full then { f with seen := f.seen + 1, bytes := f.bytes ++ [b], overrun := true }
  else { f with seen := f.seen + 1, bytes := f.bytes ++ [b], inFifo := f.inFifo + 1 }

/-- The receive FIFO holds 256 bytes (R185). -/
def Link.rxFull (l : Link) : Bool := decide (Config.fifoBytes ≤ l.rxBytes)

/-- A byte of a stored frame arrives: OVERRUN latches at a byte that finds the receive FIFO full (R185). -/
def storeByte (p : Port) (f : RxFrame) (b : Byte) (s : State) : State :=
  let l := s.link p
  s.setLink p
    { l with
      rx := .inFrame (f.take l.rxFull b)
      flags := if l.rxFull then l.flags.latch .overrun else l.flags }

/-- A frame of which nothing is stored, after its address byte (R182). -/
def skippedFrame : RxFrame := ⟨false, false, false, 1, 0, [], 0, false⟩

/-- How an address byte that passes parity is taken on a port: as broadcast or addressed, or skipped (R179). -/
def takenAs (p : Port) (unit : BitVec 7) (b : Byte) : Option Bool :=
  if addressOf b = Config.broadcastAddress then if p = .c then some true else none
  else if addressOf b = unit then some false
  else none

/-- The address byte of a new frame, in IDLE or AWAIT-NEXT (R182). -/
def addressArrives (p : Port) (b : Byte) (s : State) : State :=
  let pend := (s.link p).part
  if !oddParity b then linkError p .parity (.inFrame skippedFrame) s
  else
    match takenAs p s.unitAddress b, pend with
    | none, none => setRx p (.inFrame skippedFrame) s
    | none, some _ => linkError p .frame (.inFrame skippedFrame) s
    | some bc, none => storeByte p ⟨true, bc, false, 0, 0, [], 0, false⟩ b s
    | some bc, some m =>
      if m.broadcast = bc then storeByte p ⟨true, bc, true, 0, 0, [], 0, false⟩ b s
      else storeByte p ⟨true, bc, false, 0, 0, [], 0, false⟩ b (linkError p .frame .idle s)

/-- The examination of a stored frame at its end: the cause of the link error, or none (R183, R185). R183 gives no precedence
among its checks: MODEL'S CHOICE (log entry 37), one link error, of the first check in R183's order that fails. -/
def frameFault (f : RxFrame) (part : Option Partial) : Option LinkCause :=
  let len := f.bytes.getD 1 0
  let tag := f.bytes.getD 2 0
  let kind := f.bytes.getD 3 0
  if f.overrun then some .overrun
  else if byteSum f.bytes ≠ 0 then some .check
  else if 128 ≤ kind.toNat then some .frame
  else if len.getLsbD 6 ≠ f.continuing then some .frame
  else
    match part with
    | some m => if f.continuing ∧ (m.tag ≠ tag ∨ m.kind ≠ kind ∨ 4 ≤ m.frames) then some .frame else none
    | none => none

/-- The message that a good frame carries or continues (R181, R183). -/
def joinFrame (f : RxFrame) (part : Option Partial) : Partial :=
  let body := (f.bytes.drop 4).take (f.len - 3)
  match part with
  | some m => { m with body := m.body ++ body, frames := m.frames + 1, inFifo := m.inFifo + f.inFifo }
  | none => ⟨f.broadcast, f.bytes.getD 2 0, f.bytes.getD 3 0, body, 1, f.inFifo⟩

/-- The end of a stored frame (R183): an error, AWAIT-NEXT, or a complete message for the decoder. -/
def frameEnd (p : Port) (f : RxFrame) (s : State) : State :=
  let l := s.link p
  match frameFault f l.part with
  | some c => linkError p c .idle s
  | none =>
    let m := joinFrame f l.part
    if (f.bytes.getD 1 0).getLsbD 7 then s.setLink p { l with rx := .awaitNext, part := some m }
    else
      s.setLink p
        { l with rx := .idle, part := none, inbox := l.inbox ++ [⟨m.broadcast, m.tag, m.kind, m.body, m.inFifo⟩] }

/-- A byte within a frame, after the address byte (R183). LEN is stored, or overruns, before its count is examined, so that
OVERRUN takes the place of FRAME (R185). -/
def frameByte (p : Port) (f : RxFrame) (b : Byte) (s : State) : State :=
  let n := b.toNat % 64
  if f.seen = 1 then
    if f.stored then
      let u := storeByte p { f with len := n } b s
      if n < 3 ∨ 60 < n then linkError p ((f.take (s.link p).rxFull b).cause .frame) .resync u else u
    else if n < 3 ∨ 60 < n then setRx p .resync s
    else setRx p (.inFrame { f with seen := 2, len := n }) s
  else if f.stored then
    let u := storeByte p f b s
    match (u.link p).rx with
    | .inFrame g => if g.len + 2 ≤ g.seen then frameEnd p g u else u
    | .idle | .awaitNext | .resync => u
  else if f.len + 2 ≤ f.seen + 1 then setRx p .idle s
  else setRx p (.inFrame { f with seen := f.seen + 1 }) s

/-- A byte arrives on a receive line (R182). -/
def byteArrives (p : Port) (b : Byte) (s : State) : State :=
  match (s.link p).rx with
  | .resync => s
  | .idle | .awaitNext => addressArrives p b s
  | .inFrame f => frameByte p f b s

/-- The whole step of a received byte: the receiver, its timers, and the decoder. After a break no byte is taken until the
line has returned to mark (R186). -/
def receive (p : Port) (b : Byte) (s : State) : State :=
  if s.resetHeld || (s.link p).awaitMark then s else drain p (restartTimers p (byteArrives p b s))

/-! ### The other receiver events (R183, R184, R186) -/

/-- The byte timer has run more than 5 ms; it is held while RDY is deasserted (R184). -/
def byteTimerExpires (p : Port) (s : State) : State :=
  if s.resetHeld || !s.rdy p then s
  else
    match (s.link p).rx with
    | .inFrame f =>
      restartTimers p (if f.stored then linkError p (f.cause .timeout) .idle s else setRx p .idle s)
    | .awaitNext => restartTimers p (linkError p .timeout .idle s)
    | .idle | .resync => s

/-- A character whose stop bit is found at space (R186). It enters RESYNC also where the receiver is in RESYNC: MODEL'S CHOICE
(log entry 29), the 5 ms of R183 begin anew there, though the character is no byte. -/
def spaceAtStop (p : Port) (s : State) : State :=
  if s.resetHeld || (s.link p).awaitMark then s
  else
    restartTimers p
      (match (s.link p).rx with
      | .inFrame f => if f.stored then linkError p (f.cause .frame) .resync s else setRx p .resync s
      | .awaitNext => linkError p .frame .resync s
      | .idle | .resync => setRx p .resync s)

/-- No byte has arrived for more than 5 ms in RESYNC (R183). -/
def resyncEnds (p : Port) (s : State) : State :=
  match (s.link p).rx with
  | .resync => restartTimers p (setRx p .idle s)
  | .idle | .inFrame _ | .awaitNext => s

/-- A break resets the port, and the receiver takes no byte until the line has returned to mark; one interval of space is
one break (R186, R195). -/
def breakTaken (p : Port) (s : State) : State :=
  if s.resetHeld || (s.link p).awaitMark then s
  else
    let u := finish (portReset p (Ctx.start s))
    u.setLink p { u.link p with awaitMark := true }

/-- The line has returned to mark: the receiver is IDLE (R186). -/
def markReturns (p : Port) (s : State) : State :=
  if (s.link p).awaitMark then s.setLink p { s.link p with awaitMark := false, rx := .idle } else s

/-! ### Sending (R191, R192) -/

/-- The head message of the outbox may move: the transmit FIFO has room for all its frames, and on port C it lies before
the released mark (R191, R192). -/
def State.headMoves (s : State) (p : Port) (m : OutMsg) : Bool :=
  decide ((s.link p).txFifo.length + (framed s.unitAddress m).length ≤ Config.fifoBytes)
    && (decide (p ≠ .c) || decide (0 < (s.link p).released))

/-- The head message of the outbox is framed into the transmit FIFO, and its place is freed (R191). -/
def moveHead (p : Port) (s : State) : State :=
  match (s.link p).outbox with
  | [] => s
  | m :: rest =>
    if !s.resetHeld && s.headMoves p m then
      let l := s.link p
      drain p (s.setLink p
        { l with outbox := rest, released := l.released - 1, txFifo := l.txFifo ++ framed s.unitAddress m })
    else s

/-- The transmitter begins the next character of the FIFO: with CTS gating only while CTS is active (R191). On port C the
line is driven as long as a released byte remains (R192). -/
def sendCharacter (p : Port) (s : State) : State :=
  if s.resetHeld then s
  else
    let l := s.link p
    match l.txFifo with
    | [] => s.setLink p { l with txLine := none, driving := false }
    | b :: rest =>
      if l.ctsGating && !l.cts then s
      else s.setLink p { l with txFifo := rest, txLine := some b, driving := decide (p = .c) && !rest.isEmpty }

/-- The CTS input changes (R178, R191). -/
def setCts (p : Port) (active : Bool) (s : State) : State := s.setLink p { s.link p with cts := active }

/-! ### A whole request message (the request rows) -/

/-- The bytes of a message on the line (R180, R181). -/
def messageSize (body : List Byte) : Nat := body.length + 5 * max 1 ((body.length + 56) / 57)

/-- The unit takes a message on its lines: a broadcast, or one to its address, which straps of 127 leave it without (R179). -/
def State.hears (s : State) (broadcast : Bool) : Bool := broadcast || decide (s.unitAddress ≠ Config.broadcastAddress)

/-- A request row: its message has arrived whole. A unit without an address of its own skips an addressed one silently (R179). The
decoder takes a message at once when nothing waits before it and the outbox has room; else it waits in the receive FIFO, or
overruns it (R185, R188; log entry 5). -/
def requestArrives (code : Nat) (r : Request) (s : State) : State :=
  let p := sourcePort r.source
  let bc := sourceBroadcast r.source
  let l := s.link p
  if s.resetHeld || l.awaitMark || !s.hears bc then s
  else if l.inbox.isEmpty && l.takes bc then handle ⟨p, bc, r.tag, code⟩ r.body s
  else if l.rxBytes + messageSize r.body ≤ Config.fifoBytes then
    drain p (s.setLink p
      { l with inbox := l.inbox ++ [⟨bc, r.tag, BitVec.ofNat 8 code, r.body, messageSize r.body⟩] })
  else
    finishQuiet (pulse .linkError p [LinkCause.code .overrun]
      ((Ctx.start s).upd fun s => s.setLink p { l with flags := l.flags.latch .overrun }))

end Sys2Proof.Machine
end

