-- ==== Sys2Proof/Machine/Film.lean ====
section
/-! DEFINITION. The film events: tension, threading, re-tensioning, encoder counts, the ends of legs and moves, parking and
waking (R9 to R44). A row whose event cannot occur in the state changes nothing (log entry 4). -/

namespace Sys2Proof.Machine

/-! ### Tension and threading (R9 to R11, R35, R39) -/

/-- TENSION_ARM_READING: an arm reading arrives; the in-window and persistence timers follow it (R9, R35, R39). -/
def onTensionArmReading (arm : Arm) (reading : Byte) (s : State) : State :=
  let u : State := match arm with
    | .arm1 => { s with pins.arm1 := reading }
    | .arm2 => { s with pins.arm2 := reading }
  if s.resetHeld then u else syncTimers u

/-- The detector at the end of threading: ARMED, or BLOCKED when the level stands at mark_on or above (R45). -/
def firstDetector (p : Profile) (track0 track1 : Byte) : Detector :=
  let level := if p.track = 0 then track0.toNat else track1.toNat
  if level < p.markOn then .armed else .blocked

/-- The state that the end of threading makes (R10). -/
def threadedState (track0 track1 : Byte) (s : State) : State :=
  { s with
    pins.track0 := track0
    pins.track1 := track1
    trc.timers.threading := none
    trc.counter := 0
    trc.verified := true
    trc.slip := 0
    trc.endPos := none
    trc.overrun := 0
    fit := { Fit.reset with p256 := 256 * s.profile.pitchNominal }
    mkd := firstDetector s.profile track0 track1
    trc.motion := .idle
    trc.roll := .loaded }

/-- The results of LOADED: the label and the starting P256 (R10, R217). No rule lays the label out in this completion: MODEL'S
CHOICE (log entry 23), a count byte stands before its characters, as R219 has it in the body of a LOAD. -/
def loadedResults (s : State) : List Byte :=
  BitVec.ofNat 8 s.profile.label.length :: s.profile.label ++ be 3 s.fit.p256

/-- THREADING_SUCCESS: the in-window timer expires during THREADING (R10). The operands are the levels of the two tracks at
that moment (R45). -/
def onThreadingSuccess (track0 track1 : Byte) (s : State) : State :=
  if s.trc.roll = .threading ∧ s.trc.timers.inWindow.isSome = true then
    let w := setLevel .rollState true [Roll.code .loaded] ((Ctx.start s).upd (threadedState track0 track1))
    finish (examine (completeTimed .load .loaded (loadedResults w.st) w))
  else s

/-- THREADING_TIMEOUT (R11). -/
def onThreadingTimeout (s : State) : State :=
  if s.trc.roll = .threading ∧ s.trc.timers.threading.isSome = true then
    finish (completeTimed .load .threadFail []
      ((Ctx.start s).upd fun s => { s with trc.roll := .empty, trc.profile := none, fit.p256 := 0 }))
  else s

/-- Re-tensioning has succeeded: IDLE, cause NONE; a rewind begins again (R16, R39). -/
def retensioned (s : State) : State :=
  let u := setMotion .idle s
  { u with trc.cause := .none, trc.retension := false }

/-- RETENSION_SUCCESS: the in-window timer expires during re-tensioning (R39). -/
def onRetensionSuccess (s : State) : State :=
  if s.trc.retension = true ∧ s.trc.timers.inWindow.isSome = true then
    let w := setLevel .fault false [Cause.code .none] ((Ctx.start s).upd retensioned)
    finish (examine (resumeRewind (completeTimed .clearFault .done [Cause.code .none] w)))
  else s

/-- RETENSION_FAIL: the threading timer expires during re-tensioning (R39, R199). -/
def onRetensionFail (s : State) : State :=
  if s.trc.retension = true ∧ s.trc.timers.threading.isSome = true then
    finish (completeTimed .clearFault .fault [Cause.code .tension]
      ((Ctx.start s).upd fun s =>
        faultCauseChanged .tension { s with trc.retension := false, trc.cause := .tension }))
  else s

/-! ### Supervision (R16, R35 to R37) -/

/-- TENSION_PERSISTENCE_EXPIRY (R35). -/
def onTensionPersistenceExpiry (s : State) : State :=
  if s.tensionBad && s.trc.timers.persistence.isSome then finish (takeFault .tension (Ctx.start s)) else s

/-- STALL_TIMER_EXPIRY (R36). -/
def onStallTimerExpiry (s : State) : State :=
  if s.trc.motion.moving && s.trc.timers.stall.isSome then finish (takeFault .stall (Ctx.start s)) else s

/-- LEADER_TIMER_EXPIRY (R16). -/
def onLeaderTimerExpiry (s : State) : State :=
  if s.leaderAwaited && s.trc.timers.leader.isSome then finish (takeFault .stall (Ctx.start s)) else s

/-! ### Counts and film sensors (R16 to R20, R36, R46 to R86) -/

/-- What a count brings with it: the track levels, the LEADER line, the measured speed; the stall timer restarts (R22, R36,
R46). -/
def takeReading (x : Sample) (s : State) : State :=
  { s with
    pins.track0 := x.track0
    pins.track1 := x.track1
    pins.leader := x.leader
    trc.speed := x.speed
    trc.timers.stall := s.trc.timers.stall.map fun _ => 0 }

/-- The level of the selected track (R45, R46). -/
def State.level (s : State) : Nat := if s.selectedTrack = 0 then s.pins.track0.toNat else s.pins.track1.toNat

/-- The mark detector samples after the count, and FIT takes its sighting; a sighting made while the overrun count is above
0 is discarded (R18, R46, R54). -/
def countMark (d : Dir) (tallied : Bool) (w : Ctx) : Ctx :=
  let x := sampleMark d w.st.level tallied w.st
  let u : Ctx := { w with st := x.1 }
  match x.2 with
  | some g => if 0 < u.st.trc.overrun then u else takeSighting g u
  | none => u

/-- ENCODER_COUNT: one capstan count (R20). -/
def onEncoderCount (d : Dir) (x : Sample) (s : State) : State :=
  if s.resetHeld then s
  else if s.trc.roll = .empty then syncTimers (takeReading x s)
  else
    let c := countStep d (takeReading x s)
    let w := (Ctx.start c.1).upd (countBuilding d c.2.tallied)
    let a := if c.2.lost ∧ w.st.trc.roll = .loaded then becomeUnverified 2 w else w
    let b := countMark d c.2.tallied (a.upd progress)
    finish (examine (checkRewindEnd (frontierLimit d c.2.tallied b)))

/-- LEADER_FALL: a running rewind at position 0 ends (R16). -/
def onLeaderFall (s : State) : State :=
  let u : State := { s with pins.leader := false }
  if s.resetHeld then u else finish (checkRewindEnd (Ctx.start u))

/-- E becomes known: it is the counter, the index is closed, the building flag clears, INDEX-CLOSED latches with cause END
(R17). -/
def endFound (w : Ctx) : Ctx :=
  pulseAll .indexClosed ([0] ++ beFrame w.st.frontier)
    (w.upd fun s =>
      { s with
        trc.endPos := some s.trc.counter
        fit.building := false
        fit.index := if s.fit.index = .full then .full else .closed })

/-- A motion with a fixed target ramps to rest, and then approaches min(T, E) from where it stopped (R19). -/
def endReplan (m : Move) (s : State) : State :=
  let u := setMotion .decel s
  { u with trc.move := some { m with target := min m.target s.posBound, ramp := .replan, legSpeed := m.speed, creepIn := false } }

/-- END deals with the motion in flight (R17, R19, R130, R168; log entries 13 and 14). For a run that is on its way back to the
frontier, R19's row of a fixed target and its row of a run frame beyond the frontier both fit: MODEL'S CHOICE (log entry 27),
the run stays GRANTED and its APPROACH goes on to min(L, E). -/
def endMotion (m : Move) (w : Ctx) : Ctx :=
  match m.job with
  | .present | .returnL | .jog => if m.ramp = .stop then w else w.upd (endReplan m)
  | .forward =>
    let u := forwardLost .notFound w
    match u.st.trc.move with
    | some n => if n.ramp = .stop then u else orderStop .none u
    | none => u
  | .verify => orderStop .none w
  | .rewind => w

/-- END_RISING: acted on while the roll is LOADED and the capstan moves the film forward (R17). R68's column for END clears the
building flag; where E is known already R17 and R53 do not: MODEL'S CHOICE (log entry 34), the flag stays. -/
def onEndRising (s : State) : State :=
  match s.trc.move with
  | some m =>
    if s.trc.roll = .loaded ∧ s.trc.motion.moving = true ∧ m.dir = .forward then
      let w := Ctx.start s
      finish (endMotion m (if s.trc.endPos.isSome then w else endFound w))
    else s
  | none => s

/-- SPLICE_RISING: a pending splice is recorded while the building flag is set (R64). -/
def onSpliceRising (s : State) : State := if s.fit.building then { s with fit.splice := true } else s

/-! ### Ends of legs and moves (R24 to R31) -/

/-- A travel leg has come to rest past its end point (R21, R30): the approach point, or for a JOG the settle band of its
target (log entry 12). -/
def pastEnd (m : Move) (s : State) : Bool :=
  let a := approachPoint m.target
  match m.job, m.dir with
  | .jog, .forward => decide (m.target < s.trc.counter) && !s.inBand m.target
  | .jog, .reverse => decide (s.trc.counter < m.target) && !s.inBand m.target
  | .present, .forward | .returnL, .forward | .forward, .forward | .verify, .forward | .rewind, .forward =>
    decide (a < s.trc.counter)
  | .present, .reverse | .returnL, .reverse | .forward, .reverse | .verify, .reverse | .rewind, .reverse =>
    decide (s.trc.counter < a)

/-- What follows the rest of a travel leg (R25, R26, R29, R30). A leg that ends the ramp of an overshoot is replanned, at the speed
that R30's row gives it. A leg that rests past its end is an overshoot, and the leg that follows runs at the speed class of the move
and sets the travel direction, also where a settle retry has overshot (R21, R30; log entry 12). -/
def afterLeg (m : Move) (s : State) : State :=
  match m.ramp, m.job with
  | .replan, _ => nextLeg m.legSpeed true m s
  | .none, .jog => if pastEnd m s then directLeg m.speed true m s else enterSettling m s
  | .none, .present => if pastEnd m s then approachLeg m.speed true m s else startCreep m s
  | .none, .returnL => if pastEnd m s then approachLeg m.speed true m s else startCreep m s
  | .none, .forward => s
  | .none, .verify => s
  | .none, .rewind => s
  | .stop, _ => s
  | .bound, _ => s

/-- The move is on a travel leg with an end, or ramps for an overshoot or END: CREEP-IN, an OPEN move, a stop ramp and a rewind
end otherwise (R23, R26). -/
def Move.legEnds (m : Move) : Bool :=
  match m.ramp, m.job with
  | .replan, .rewind => false
  | .replan, _ => true
  | .none, .present | .none, .returnL | .none, .jog => !m.creepIn
  | .none, .forward | .none, .verify | .none, .rewind | .stop, _ | .bound, _ => false

/-- The film rests: the measured speed is 0. -/
def atRest (s : State) : State := { s with trc.speed := 0 }

/-- TRAVEL_LEG_REST: the travel leg of a move with a target comes to rest (R24, R25, R29). -/
def onTravelLegRest (s : State) : State :=
  match s.trc.move with
  | some m =>
    if m.legEnds = true ∧ s.trc.motion.moving = true then finish ((Ctx.start s).upd fun s => afterLeg m (atRest s)) else s
  | none => s

/-- CREEP_REST: CREEP-IN comes to rest, in its sub-phase CREEP-IN or DECEL (R26). -/
def onCreepRest (s : State) : State :=
  match s.trc.move with
  | some m =>
    if m.creepIn = true ∧ m.ramp = .none ∧ s.trc.motion.moving = true then finish ((Ctx.start s).upd (enterSettling m))
    else s
  | none => s

/-- STOP_RAMP_REST: a ramp comes to rest: of a stop order, of an overshoot or END, or before a rewind (R15, R16, R30, R31,
R131). -/
def onStopRampRest (s : State) : State :=
  match s.trc.move with
  | some m =>
    if s.trc.motion.moving then
      let w := Ctx.start s
      match m.ramp with
      | .stop =>
        if m.job = .rewind then finish (examine (beginRewind (w.upd moveOver)))
        else finish (examine (disposeStopped (w.upd moveOver)))
      | .replan =>
        if m.job = .rewind then finish (examine (beginRewind (w.upd moveOver)))
        else finish (w.upd fun s => nextLeg m.legSpeed true m (atRest s))
      | .none | .bound => s
    else s
  | none => s

/-- An OPEN move stands at its bound, or was ramping to it (R23, R24). -/
def atBound (m : Move) (s : State) : Bool :=
  decide (m.ramp = .bound) ||
    (match m.dir with
    | .forward => decide (s.posBound ≤ s.trc.counter)
    | .reverse => decide (s.trc.counter = 0))

/-- BOUND_REST: an OPEN move comes to rest at a bound (R23, R121, R130, R168). -/
def onBoundRest (s : State) : State :=
  match s.trc.move with
  | some m =>
    if s.trc.motion.moving = true ∧ m.job.isOpen = true ∧ m.ramp ≠ .stop ∧ atBound m s = true then
      finish (examine (moveBound (Ctx.start s)))
    else s
  | none => s

/-- SETTLE_TIMER_EXPIRY: 20 ms within the band; the move ends SETTLED (R27). -/
def onSettleTimerExpiry (s : State) : State :=
  if s.settled then finish (examine (moveSettled (Ctx.start s))) else s

/-- The retry of a settle failure: a motion start, then a CREEP leg (R28, R29). -/
def settleRetry (m : Move) (s : State) : State :=
  nextLeg .creep false { m with retried := true } (motionStart s)

/-- SETTLE_LIMIT_EXPIRY: the first failure of a move starts the retry, the second ends it POSITION-FAIL (R28). -/
def onSettleLimitExpiry (s : State) : State :=
  match s.trc.move, s.trc.motion with
  | some m, .settling =>
    if m.retried then finish (examine (positionFail ((Ctx.start s).upd moveOver)))
    else finish ((Ctx.start s).upd (settleRetry m))
  | _, _ => s

/-! ### Parking and waking (R40 to R42) -/

/-- PARK_TIMER_EXPIRY (R40). -/
def onParkTimerExpiry (s : State) : State :=
  if s.mayPark && s.trc.timers.park.isSome then finish ((Ctx.start s).upd parkNow) else s

/-- The wake ends: the ordered move begins, a waiting rewind begins, or the transport is IDLE. The persistence timer begins
anew, because its condition changes (R35, R42). -/
def wakeEnds (w : Ctx) : Ctx :=
  let u := w.upd fun s => { s with trc.timers.persistence := none }
  match u.st.trc.roll, u.st.trc.move with
  | .rewinding, _ => beginRewind u
  | .loaded, some m => u.upd (startMove m)
  | .loaded, none => u.upd (setMotion .idle)
  | .empty, _ => u.upd (setMotion .idle)
  | .threading, _ => u.upd (setMotion .idle)

/-- WAKE_TIMER_EXPIRY (R42). -/
def onWakeTimerExpiry (s : State) : State :=
  if s.trc.motion = .waking then finish (examine (wakeEnds (Ctx.start s))) else s

end Sys2Proof.Machine
end

