-- ==== Sys2Proof/Machine/Station.lean ====
section
/-! DEFINITION. The events of the lens and the focus line sensor, of the gate and the camera, of the links and of the RESET
pin (R90 to R102, R146, R156, R157, R178 to R192). -/

namespace Sys2Proof.Machine

/-! ### Lens and focus line (R90, R91, R98) -/

/-- LENS_MOVE_COMPLETE: the lens stands at its target; then a held move may begin (R90). -/
def onLensMoveComplete (s : State) : State :=
  match s.fcc.stage, s.fcc.running with
  | .moving, some mv =>
    finish (beginHeld (lensDone mv.purpose
      ((Ctx.start s).upd fun s =>
        { s with fcc.lens := mv.target, fcc.stage := .idle, fcc.running := none, lensRead := none })))
  | _, _ => s

/-- LENS_HOMING_COMPLETE: the lens stands at 0 and the stage is IDLE (R90). Homing begins when RESET is released. -/
def onLensHomingComplete (s : State) : State :=
  if s.fcc.stage = .homing ∧ s.resetHeld = false then
    finish (beginHeld ((Ctx.start s).upd fun s => { s with fcc.lens := 0, fcc.stage := .idle }))
  else s

/-- FOCUS_LINE_ARRIVAL: a focus line answers the sample request of a sweep. A line of a sample that has been repeated or
abandoned is late, and discarded (R91, R92, R98, R103). -/
def onFocusLineArrival (late : Bool) (line : List (BitVec 10)) (s : State) : State :=
  match s.fcc.sweep with
  | some sw =>
    if !late && s.fcc.sampleTimer.isSome then finish (addSample sw (sharpness line) (Ctx.start s)) else s
  | none => s

/-- FOCUS_SAMPLE_TIMEOUT: the sample is requested once more, and then the sweep ends for a missing line (R91, R99). -/
def onFocusSampleTimeout (s : State) : State :=
  match s.fcc.sweep with
  | some sw =>
    if s.fcc.sampleTimer.isSome then
      if sw.repeatUsed then finish (sweepDefault sw 1 (Ctx.start s))
      else { s with fcc.sweep := some { sw with repeatUsed := true }, fcc.sampleTimer := some 0 }
    else s
  | none => s

/-! ### Gate and camera (R146, R156, R157) -/

/-- HOLD_TIMER_EXPIRY: the presentation lapses (R146, R172). -/
def onHoldTimerExpiry (s : State) : State :=
  match s.gtu.presentation with
  | some x =>
    if s.gtu.phase = .presented ∧ s.gtu.hold.isSome = true then
      finish (examine (endPresentation .lapsed
        (pulse .lapsed x.holder.port ([x.holder.tag] ++ be 2 x.frame) (Ctx.start s))))
    else s
  | none => s

/-- EXPDONE_RISING (R156); ignored while no exposure is in progress. -/
def onExpdoneRising (s : State) : State :=
  if s.gtu.exposure.isSome then finish (examine (endExposure .done (Ctx.start s))) else s

/-- EXPOSURE_TIMER_EXPIRY (R157). -/
def onExposureTimerExpiry (s : State) : State :=
  if s.gtu.exposure.isSome then finish (examine (endExposure .exposeTimeout (Ctx.start s))) else s

/-! ### Links (R182 to R186, R191, R192) -/

/-- RECEIVE_BYTE (R182). -/
def onReceiveByte (p : Port) (b : Byte) (s : State) : State := receive p b s

/-- STOP_BIT_AT_SPACE (R186). -/
def onStopBitAtSpace (p : Port) (s : State) : State := spaceAtStop p s

/-- BREAK (R186, R195). -/
def onLineBreak (p : Port) (s : State) : State := breakTaken p s

/-- BYTE_TIMEOUT (R184). -/
def onByteTimeout (p : Port) (s : State) : State := byteTimerExpires p s

/-- RESYNC_END (R183). -/
def onResyncEnd (p : Port) (s : State) : State := resyncEnds p s

/-- OUTBOX_MESSAGE_MOVE (R191). -/
def onOutboxMessageMove (p : Port) (s : State) : State := moveHead p s

/-- TRANSMIT_CHARACTER (R191, R192). -/
def onTransmitCharacter (p : Port) (s : State) : State := sendCharacter p s

/-- CTS_CHANGE (R178, R191). -/
def onCtsChange (p : Port) (active : Bool) (s : State) : State := setCts p active s

/-- LINE_RETURNS_TO_MARK (R186). -/
def onLineReturnsToMark (p : Port) (s : State) : State := markReturns p s

/-! ### Reset (R3, R178, R179 and the reset tables of each chapter) -/

/-- Every block at its full-reset values; the input levels, the commands that wait and the model's own counter stay. -/
def resetTo (held : Bool) (unit : BitVec 7) (s : State) : State :=
  { State.reset with
    pending := s.pending
    freeCount := s.freeCount
    resetHeld := held
    unitAddress := unit
    pins := s.pins
    lnk :=
      { a := { Link.reset with cts := s.lnk.a.cts }
        b := { Link.reset with cts := s.lnk.b.cts }
        c := { Link.reset with cts := s.lnk.c.cts } } }

/-- RESET_PIN_HELD: RDY is deasserted, the lines rest, nothing is taken in until FULL_RESET (R178, R197). -/
def onResetPinHeld (s : State) : State := resetTo true s.unitAddress s

/-- FULL_RESET: the RESET pin is released; the straps are read (R178, R179). -/
def onFullReset (straps : BitVec 7) (s : State) : State := resetTo false straps s

end Sys2Proof.Machine
end

