-- ==== Sys2Proof/Machine/Meanings.lean ====
section
/-! DEFINITION. The meaning of every row of the table, one definition each. A request row is the arrival of one whole request
message on its port, which the decoder takes and the acceptance path of Machine/Accept.lean handles; the effect of each kind
is its own definition in Machine/Requests.lean (R188, R211, R216; log entry 5). The event rows are one line over their own
definitions in Machine/Film.lean and Machine/Station.lean, which say the rules they follow. -/

namespace Sys2Proof.Machine

/-- What a command answers. -/
abbrev Result := Host.Outcome State Fault Refusal

/-! ### Requests -/

/-- LOAD (R9, R219). -/
def execLoad (r : Request) (s : State) : Result :=
  .next (requestArrives (Kind.code .load) r s)

/-- UNLOAD (R13 to R15). -/
def execUnload (r : Request) (s : State) : Result :=
  .next (requestArrives (Kind.code .unload) r s)

/-- PRESENT (R113, R126). -/
def execPresent (r : Request) (s : State) : Result :=
  .next (requestArrives (Kind.code .present) r s)

/-- RUN (R162). -/
def execRun (r : Request) (s : State) : Result :=
  .next (requestArrives (Kind.code .run) r s)

/-- JOG (R29, R113). -/
def execJog (r : Request) (s : State) : Result :=
  .next (requestArrives (Kind.code .jog) r s)

/-- BARRIER (R134). -/
def execBarrier (r : Request) (s : State) : Result :=
  .next (requestArrives (Kind.code .barrier) r s)

/-- CANCEL (R132, R174). -/
def execCancel (r : Request) (s : State) : Result :=
  .next (requestArrives (Kind.code .cancel) r s)

/-- CANCEL-ALL (R133, R174). -/
def execCancelAll (r : Request) (s : State) : Result :=
  .next (requestArrives (Kind.code .cancelAll) r s)

/-- TAKE (R147, R149, R150). -/
def execTake (r : Request) (s : State) : Result :=
  .next (requestArrives (Kind.code .take) r s)

/-- RELEASE (R148 to R150). -/
def execRelease (r : Request) (s : State) : Result :=
  .next (requestArrives (Kind.code .release) r s)

/-- WATCH (R152). -/
def execWatch (r : Request) (s : State) : Result :=
  .next (requestArrives (Kind.code .watch) r s)

/-- EXPOSE (R154, R155). -/
def execExpose (r : Request) (s : State) : Result :=
  .next (requestArrives (Kind.code .expose) r s)

/-- GATE-STATUS (R160). -/
def execGateStatus (r : Request) (s : State) : Result :=
  .next (requestArrives (Kind.code .gateStatus) r s)

/-- HALT (R33). -/
def execHalt (r : Request) (s : State) : Result :=
  .next (requestArrives (Kind.code .halt) r s)

/-- RESUME (R34). -/
def execResume (r : Request) (s : State) : Result :=
  .next (requestArrives (Kind.code .resume) r s)

/-- CLEAR-FAULT (R39). -/
def execClearFault (r : Request) (s : State) : Result :=
  .next (requestArrives (Kind.code .clearFault) r s)

/-- READ-INDEX (R87). -/
def execReadIndex (r : Request) (s : State) : Result :=
  .next (requestArrives (Kind.code .readIndex) r s)

/-- INDEX-STATUS (R88). -/
def execIndexStatus (r : Request) (s : State) : Result :=
  .next (requestArrives (Kind.code .indexStatus) r s)

/-- FOCUS-LOCK (R104). -/
def execFocusLock (r : Request) (s : State) : Result :=
  .next (requestArrives (Kind.code .focusLock) r s)

/-- FOCUS-UNLOCK (R105). -/
def execFocusUnlock (r : Request) (s : State) : Result :=
  .next (requestArrives (Kind.code .focusUnlock) r s)

/-- FOCUS-FREE (R106). -/
def execFocusFree (r : Request) (s : State) : Result :=
  .next (requestArrives (Kind.code .focusFree) r s)

/-- FOCUS-SET (R107). -/
def execFocusSet (r : Request) (s : State) : Result :=
  .next (requestArrives (Kind.code .focusSet) r s)

/-- FOCUS-READ (R108). -/
def execFocusRead (r : Request) (s : State) : Result :=
  .next (requestArrives (Kind.code .focusRead) r s)

/-- CONFIGURE-LINK (R193). -/
def execConfigureLink (r : Request) (s : State) : Result :=
  .next (requestArrives (Kind.code .configureLink) r s)

/-- LINK-STATUS (R194). -/
def execLinkStatus (r : Request) (s : State) : Result :=
  .next (requestArrives (Kind.code .linkStatus) r s)

/-- RESET-LINK (R195). -/
def execResetLink (r : Request) (s : State) : Result :=
  .next (requestArrives (Kind.code .resetLink) r s)

/-- SET-NOTICES (R205). -/
def execSetNotices (r : Request) (s : State) : Result :=
  .next (requestArrives (Kind.code .setNotices) r s)

/-- READ-EVENTS (R206). -/
def execReadEvents (r : Request) (s : State) : Result :=
  .next (requestArrives (Kind.code .readEvents) r s)

/-- CLEAR-EVENTS (R207). -/
def execClearEvents (r : Request) (s : State) : Result :=
  .next (requestArrives (Kind.code .clearEvents) r s)

/-- ACK-ATTN (R204). -/
def execAckAttn (r : Request) (s : State) : Result :=
  .next (requestArrives (Kind.code .ackAttn) r s)

/-- SET-STATION (R43, R220). -/
def execSetStation (r : Request) (s : State) : Result :=
  .next (requestArrives (Kind.code .setStation) r s)

/-- A CORRECT message: the form byte stands in front of the row's operands (R212). -/
def correctRequest (form : Byte) (r : Request) : Request := { r with body := form :: r.body }

/-- CORRECT MERGE (R81, R85, R86). -/
def execCorrectMerge (r : Request) (s : State) : Result :=
  .next (requestArrives (Kind.code .correct) (correctRequest 0 r) s)

/-- CORRECT SPLIT (R82, R85, R86). -/
def execCorrectSplit (r : Request) (s : State) : Result :=
  .next (requestArrives (Kind.code .correct) (correctRequest 1 r) s)

/-- CORRECT MOVE (R83, R85, R86). -/
def execCorrectMove (r : Request) (s : State) : Result :=
  .next (requestArrives (Kind.code .correct) (correctRequest 2 r) s)

/-- CORRECT CLEAR-TAKEN (R84). -/
def execCorrectClearTaken (r : Request) (s : State) : Result :=
  .next (requestArrives (Kind.code .correct) (correctRequest 3 r) s)

/-- UNKNOWN_KIND: a message of a KIND that is no known kind is refused UNKNOWN-KIND (R209, R211, R212). -/
def execUnknownKind (kind : BitVec 7) (r : Request) (s : State) : Result :=
  .next (requestArrives kind.toNat r s)


/-! ### Events -/

/-- RESET_PIN_HELD (R178, R197). -/
def execResetPinHeld (s : State) : Result := .next (onResetPinHeld s)

/-- FULL_RESET (R178, R179). -/
def execFullReset (straps : BitVec 7) (s : State) : Result := .next (onFullReset straps s)

/-- RECEIVE_BYTE (R182). -/
def execReceiveByte (p : Port) (byte : Byte) (s : State) : Result := .next (onReceiveByte p byte s)

/-- STOP_BIT_AT_SPACE (R186). -/
def execStopBitAtSpace (p : Port) (s : State) : Result := .next (onStopBitAtSpace p s)

/-- BREAK (R186, R195). -/
def execLineBreak (p : Port) (s : State) : Result := .next (onLineBreak p s)

/-- BYTE_TIMEOUT (R184). -/
def execByteTimeout (p : Port) (s : State) : Result := .next (onByteTimeout p s)

/-- RESYNC_END (R183). -/
def execResyncEnd (p : Port) (s : State) : Result := .next (onResyncEnd p s)

/-- OUTBOX_MESSAGE_MOVE (R191). -/
def execOutboxMessageMove (p : Port) (s : State) : Result := .next (onOutboxMessageMove p s)

/-- TRANSMIT_CHARACTER (R191, R192). -/
def execTransmitCharacter (p : Port) (s : State) : Result := .next (onTransmitCharacter p s)

/-- CTS_CHANGE (R178, R191). -/
def execCtsChange (p : Port) (active : Bool) (s : State) : Result := .next (onCtsChange p active s)

/-- TENSION_ARM_READING (R9, R35, R39). -/
def execTensionArmReading (arm : Arm) (reading : Byte) (s : State) : Result := .next (onTensionArmReading arm reading s)

/-- THREADING_SUCCESS (R10, R45). -/
def execThreadingSuccess (track0 : Byte) (track1 : Byte) (s : State) : Result :=
  .next (onThreadingSuccess track0 track1 s)

/-- THREADING_TIMEOUT (R11). -/
def execThreadingTimeout (s : State) : Result := .next (onThreadingTimeout s)

/-- RETENSION_SUCCESS (R39). -/
def execRetensionSuccess (s : State) : Result := .next (onRetensionSuccess s)

/-- RETENSION_FAIL (R39, R199). -/
def execRetensionFail (s : State) : Result := .next (onRetensionFail s)

/-- TENSION_PERSISTENCE_EXPIRY (R35). -/
def execTensionPersistenceExpiry (s : State) : Result := .next (onTensionPersistenceExpiry s)

/-- STALL_TIMER_EXPIRY (R36). -/
def execStallTimerExpiry (s : State) : Result := .next (onStallTimerExpiry s)

/-- LEADER_TIMER_EXPIRY (R16). -/
def execLeaderTimerExpiry (s : State) : Result := .next (onLeaderTimerExpiry s)

/-- ENCODER_COUNT (R20). -/
def execEncoderCount (d : Dir) (sample : Sample) (s : State) : Result := .next (onEncoderCount d sample s)

/-- LEADER_FALL (R16). -/
def execLeaderFall (s : State) : Result := .next (onLeaderFall s)

/-- END_RISING (R17). -/
def execEndRising (s : State) : Result := .next (onEndRising s)

/-- SPLICE_RISING (R64). -/
def execSpliceRising (s : State) : Result := .next (onSpliceRising s)

/-- TRAVEL_LEG_REST (R24, R25, R29). -/
def execTravelLegRest (s : State) : Result := .next (onTravelLegRest s)

/-- CREEP_REST (R26). -/
def execCreepRest (s : State) : Result := .next (onCreepRest s)

/-- STOP_RAMP_REST (R15, R16, R30, R31, R131). -/
def execStopRampRest (s : State) : Result := .next (onStopRampRest s)

/-- BOUND_REST (R23, R121, R130, R168). -/
def execBoundRest (s : State) : Result := .next (onBoundRest s)

/-- SETTLE_TIMER_EXPIRY (R27). -/
def execSettleTimerExpiry (s : State) : Result := .next (onSettleTimerExpiry s)

/-- SETTLE_LIMIT_EXPIRY (R28). -/
def execSettleLimitExpiry (s : State) : Result := .next (onSettleLimitExpiry s)

/-- PARK_TIMER_EXPIRY (R40). -/
def execParkTimerExpiry (s : State) : Result := .next (onParkTimerExpiry s)

/-- WAKE_TIMER_EXPIRY (R42). -/
def execWakeTimerExpiry (s : State) : Result := .next (onWakeTimerExpiry s)

/-- LENS_MOVE_COMPLETE (R90). -/
def execLensMoveComplete (s : State) : Result := .next (onLensMoveComplete s)

/-- LENS_HOMING_COMPLETE (R90). -/
def execLensHomingComplete (s : State) : Result := .next (onLensHomingComplete s)

/-- FOCUS_LINE_ARRIVAL (R91, R92, R98, R103). -/
def execFocusLineArrival (late : Bool) (line : List (BitVec 10)) (s : State) : Result :=
  .next (onFocusLineArrival late line s)

/-- FOCUS_SAMPLE_TIMEOUT (R91, R99). -/
def execFocusSampleTimeout (s : State) : Result := .next (onFocusSampleTimeout s)

/-- HOLD_TIMER_EXPIRY (R146, R172). -/
def execHoldTimerExpiry (s : State) : Result := .next (onHoldTimerExpiry s)

/-- EXPDONE_RISING (R156). -/
def execExpdoneRising (s : State) : Result := .next (onExpdoneRising s)

/-- EXPOSURE_TIMER_EXPIRY (R157). -/
def execExposureTimerExpiry (s : State) : Result := .next (onExposureTimerExpiry s)

/-- LINE_RETURNS_TO_MARK (R186). -/
def execLineReturnsToMark (p : Port) (s : State) : Result := .next (onLineReturnsToMark p s)

end Sys2Proof.Machine
end

