-- ==== Sys2Proof/Machine/Dispatch.lean ====
section
/-! DEFINITION. One arm for each row of the table: the meaning of a command on the state without the queue. -/

namespace Sys2Proof.Machine

def exec (i : Instr) (s : State) : Host.Outcome State Fault Refusal :=
  match i with
  | .resetPinHeld => Sys2Proof.Machine.execResetPinHeld s
  | .fullReset straps => Sys2Proof.Machine.execFullReset straps s
  | .load r => Sys2Proof.Machine.execLoad r s
  | .unload r => Sys2Proof.Machine.execUnload r s
  | .present r => Sys2Proof.Machine.execPresent r s
  | .run r => Sys2Proof.Machine.execRun r s
  | .jog r => Sys2Proof.Machine.execJog r s
  | .barrier r => Sys2Proof.Machine.execBarrier r s
  | .cancel r => Sys2Proof.Machine.execCancel r s
  | .cancelAll r => Sys2Proof.Machine.execCancelAll r s
  | .take r => Sys2Proof.Machine.execTake r s
  | .release r => Sys2Proof.Machine.execRelease r s
  | .watch r => Sys2Proof.Machine.execWatch r s
  | .expose r => Sys2Proof.Machine.execExpose r s
  | .gateStatus r => Sys2Proof.Machine.execGateStatus r s
  | .halt r => Sys2Proof.Machine.execHalt r s
  | .resume r => Sys2Proof.Machine.execResume r s
  | .clearFault r => Sys2Proof.Machine.execClearFault r s
  | .correctMerge r => Sys2Proof.Machine.execCorrectMerge r s
  | .correctSplit r => Sys2Proof.Machine.execCorrectSplit r s
  | .correctMove r => Sys2Proof.Machine.execCorrectMove r s
  | .correctClearTaken r => Sys2Proof.Machine.execCorrectClearTaken r s
  | .readIndex r => Sys2Proof.Machine.execReadIndex r s
  | .indexStatus r => Sys2Proof.Machine.execIndexStatus r s
  | .focusLock r => Sys2Proof.Machine.execFocusLock r s
  | .focusUnlock r => Sys2Proof.Machine.execFocusUnlock r s
  | .focusFree r => Sys2Proof.Machine.execFocusFree r s
  | .focusSet r => Sys2Proof.Machine.execFocusSet r s
  | .focusRead r => Sys2Proof.Machine.execFocusRead r s
  | .configureLink r => Sys2Proof.Machine.execConfigureLink r s
  | .linkStatus r => Sys2Proof.Machine.execLinkStatus r s
  | .resetLink r => Sys2Proof.Machine.execResetLink r s
  | .setNotices r => Sys2Proof.Machine.execSetNotices r s
  | .readEvents r => Sys2Proof.Machine.execReadEvents r s
  | .clearEvents r => Sys2Proof.Machine.execClearEvents r s
  | .ackAttn r => Sys2Proof.Machine.execAckAttn r s
  | .setStation r => Sys2Proof.Machine.execSetStation r s
  | .unknownKind kind r => Sys2Proof.Machine.execUnknownKind kind r s
  | .receiveByte p byte => Sys2Proof.Machine.execReceiveByte p byte s
  | .stopBitAtSpace p => Sys2Proof.Machine.execStopBitAtSpace p s
  | .lineBreak p => Sys2Proof.Machine.execLineBreak p s
  | .byteTimeout p => Sys2Proof.Machine.execByteTimeout p s
  | .resyncEnd p => Sys2Proof.Machine.execResyncEnd p s
  | .outboxMessageMove p => Sys2Proof.Machine.execOutboxMessageMove p s
  | .transmitCharacter p => Sys2Proof.Machine.execTransmitCharacter p s
  | .ctsChange p active => Sys2Proof.Machine.execCtsChange p active s
  | .tensionArmReading arm reading => Sys2Proof.Machine.execTensionArmReading arm reading s
  | .threadingSuccess track0 track1 => Sys2Proof.Machine.execThreadingSuccess track0 track1 s
  | .threadingTimeout => Sys2Proof.Machine.execThreadingTimeout s
  | .retensionSuccess => Sys2Proof.Machine.execRetensionSuccess s
  | .retensionFail => Sys2Proof.Machine.execRetensionFail s
  | .tensionPersistenceExpiry => Sys2Proof.Machine.execTensionPersistenceExpiry s
  | .stallTimerExpiry => Sys2Proof.Machine.execStallTimerExpiry s
  | .leaderTimerExpiry => Sys2Proof.Machine.execLeaderTimerExpiry s
  | .encoderCount d sample => Sys2Proof.Machine.execEncoderCount d sample s
  | .leaderFall => Sys2Proof.Machine.execLeaderFall s
  | .endRising => Sys2Proof.Machine.execEndRising s
  | .spliceRising => Sys2Proof.Machine.execSpliceRising s
  | .travelLegRest => Sys2Proof.Machine.execTravelLegRest s
  | .creepRest => Sys2Proof.Machine.execCreepRest s
  | .stopRampRest => Sys2Proof.Machine.execStopRampRest s
  | .boundRest => Sys2Proof.Machine.execBoundRest s
  | .settleTimerExpiry => Sys2Proof.Machine.execSettleTimerExpiry s
  | .settleLimitExpiry => Sys2Proof.Machine.execSettleLimitExpiry s
  | .parkTimerExpiry => Sys2Proof.Machine.execParkTimerExpiry s
  | .wakeTimerExpiry => Sys2Proof.Machine.execWakeTimerExpiry s
  | .lensMoveComplete => Sys2Proof.Machine.execLensMoveComplete s
  | .lensHomingComplete => Sys2Proof.Machine.execLensHomingComplete s
  | .focusLineArrival late line => Sys2Proof.Machine.execFocusLineArrival late line s
  | .focusSampleTimeout => Sys2Proof.Machine.execFocusSampleTimeout s
  | .holdTimerExpiry => Sys2Proof.Machine.execHoldTimerExpiry s
  | .expdoneRising => Sys2Proof.Machine.execExpdoneRising s
  | .exposureTimerExpiry => Sys2Proof.Machine.execExposureTimerExpiry s
  | .lineReturnsToMark p => Sys2Proof.Machine.execLineReturnsToMark p s

end Sys2Proof.Machine
end

