-- ==== Sys2Proof/Machine/Step.lean ====
section
/-! DEFINITION. The step: the command at the front of the queue, or one millisecond of the part's timers while no command
waits. -/

namespace Sys2Proof.Machine

/-- A running timer advances one millisecond, as far as its duration. -/
def tickTimer (limit : Nat) (t : Option Nat) : Option Nat := t.map fun n => min (n + 1) limit

/-- The timers of TRC advance (R9, R16, R27, R28, R35, R36, R39, R40, R42). -/
def tickTrc (s : State) : Timers :=
  let t := s.trc.timers
  { threading := tickTimer Config.threadingMs t.threading
    inWindow := tickTimer Config.inWindowMs t.inWindow
    persistence := tickTimer Config.persistenceMs t.persistence
    stall := tickTimer Config.stallMs t.stall
    leader := tickTimer Config.leaderMs t.leader
    settle := tickTimer Config.settleMs t.settle
    settleLimit := tickTimer Config.settleLimitMs t.settleLimit
    park := tickTimer (1000 * s.trc.parkDelay) t.park
    wake := tickTimer s.trc.wakeFor t.wake }

/-- The timers of a port advance; the byte timer is held while RDY is deasserted (R183, R184). -/
def tickLink (rdy : Bool) (l : Link) : Link :=
  { l with
    byteTimer := if rdy then tickTimer Config.byteMs l.byteTimer else l.byteTimer
    resyncTimer := tickTimer Config.byteMs l.resyncTimer }

/-- One millisecond passes while no command waits: every running timer advances as far as its duration; its expiry is a
command of its own (log entry 2). -/
def tick (s : State) : State :=
  { s with
    lnk := ⟨tickLink (s.rdy .a) s.lnk.a, tickLink (s.rdy .b) s.lnk.b, tickLink (s.rdy .c) s.lnk.c⟩
    trc.timers := tickTrc s
    fcc.sampleTimer := tickTimer Config.sampleMs s.fcc.sampleTimer
    gtu.hold := s.gtu.hold.map (· - 1)
    gtu.exposure := s.gtu.exposure.map fun e => { e with ms := min (e.ms + 1) Config.exposureMs } }

/-- One step: the command at the front of the queue on the state with the queue's rest; a tick when the queue is empty. -/
def step (s : State) : Host.Outcome State Fault Refusal :=
  match s.pending with
  | [] => .next (tick s)
  | i :: rest => exec i { s with pending := rest }

/-- The command that a word spells, put at the front of the queue; no word spells one (Decode.lean). -/
def State.withFetchWord (s : State) (nbits w : Nat) : State :=
  match decodeTableWord nbits w with
  | some i => { s with pending := i :: s.pending }
  | none => s

end Sys2Proof.Machine
end

