-- ==== Sys2Proof/Safety.lean ====
section
/-! DEFINITION. The terms in which claims about the part are stated: when the decoder takes a request at once, what one answer
is, what a fault leaves, and the invariants that every step keeps. -/

namespace Sys2Proof

/-! ### The rows as messages and as inputs -/

/-- The kind code and the whole message of a request row (R209, R212): a CORRECT row has its form byte in front of its
operands. -/
def Instr.message? : Instr → Option (Nat × Request)
  | .load r => some (1, r)
  | .unload r => some (2, r)
  | .present r => some (3, r)
  | .run r => some (4, r)
  | .jog r => some (5, r)
  | .barrier r => some (6, r)
  | .cancel r => some (7, r)
  | .cancelAll r => some (8, r)
  | .take r => some (9, r)
  | .release r => some (10, r)
  | .watch r => some (11, r)
  | .expose r => some (12, r)
  | .gateStatus r => some (13, r)
  | .halt r => some (14, r)
  | .resume r => some (15, r)
  | .clearFault r => some (16, r)
  | .correctMerge r => some (17, { r with body := 0 :: r.body })
  | .correctSplit r => some (17, { r with body := 1 :: r.body })
  | .correctMove r => some (17, { r with body := 2 :: r.body })
  | .correctClearTaken r => some (17, { r with body := 3 :: r.body })
  | .readIndex r => some (18, r)
  | .indexStatus r => some (19, r)
  | .focusLock r => some (20, r)
  | .focusUnlock r => some (21, r)
  | .focusFree r => some (22, r)
  | .focusSet r => some (23, r)
  | .focusRead r => some (24, r)
  | .configureLink r => some (25, r)
  | .linkStatus r => some (26, r)
  | .resetLink r => some (27, r)
  | .setNotices r => some (28, r)
  | .readEvents r => some (29, r)
  | .clearEvents r => some (30, r)
  | .ackAttn r => some (31, r)
  | .setStation r => some (32, r)
  | .unknownKind k r => some (k.toNat, r)
  | .resetPinHeld | .fullReset _ | .receiveByte _ _ | .stopBitAtSpace _ | .lineBreak _ | .byteTimeout _
  | .resyncEnd _ | .outboxMessageMove _ | .transmitCharacter _ | .ctsChange _ _ | .tensionArmReading _ _
  | .threadingSuccess _ _ | .threadingTimeout | .retensionSuccess | .retensionFail | .tensionPersistenceExpiry
  | .stallTimerExpiry | .leaderTimerExpiry | .encoderCount _ _ | .leaderFall | .endRising | .spliceRising
  | .travelLegRest | .creepRest | .stopRampRest | .boundRest | .settleTimerExpiry | .settleLimitExpiry
  | .parkTimerExpiry | .wakeTimerExpiry | .lensMoveComplete | .lensHomingComplete | .focusLineArrival _ _
  | .focusSampleTimeout | .holdTimerExpiry | .expdoneRising | .exposureTimerExpiry | .lineReturnsToMark _ => none

/-- The two rows of the RESET pin. -/
def Instr.isReset : Instr → Bool
  | .resetPinHeld | .fullReset _ => true
  | .load _ | .unload _ | .present _ | .run _ | .jog _ | .barrier _ | .cancel _ | .cancelAll _ | .take _
  | .release _ | .watch _ | .expose _ | .gateStatus _ | .halt _ | .resume _ | .clearFault _ | .correctMerge _
  | .correctSplit _ | .correctMove _ | .correctClearTaken _ | .readIndex _ | .indexStatus _ | .focusLock _
  | .focusUnlock _ | .focusFree _ | .focusSet _ | .focusRead _ | .configureLink _ | .linkStatus _ | .resetLink _
  | .setNotices _ | .readEvents _ | .clearEvents _ | .ackAttn _ | .setStation _ | .unknownKind _ _
  | .receiveByte _ _ | .stopBitAtSpace _ | .lineBreak _ | .byteTimeout _ | .resyncEnd _ | .outboxMessageMove _
  | .transmitCharacter _ | .ctsChange _ _ | .tensionArmReading _ _ | .threadingSuccess _ _ | .threadingTimeout
  | .retensionSuccess | .retensionFail | .tensionPersistenceExpiry | .stallTimerExpiry | .leaderTimerExpiry
  | .encoderCount _ _ | .leaderFall | .endRising | .spliceRising | .travelLegRest | .creepRest | .stopRampRest
  | .boundRest | .settleTimerExpiry | .settleLimitExpiry | .parkTimerExpiry | .wakeTimerExpiry
  | .lensMoveComplete | .lensHomingComplete | .focusLineArrival _ _ | .focusSampleTimeout | .holdTimerExpiry
  | .expdoneRising | .exposureTimerExpiry | .lineReturnsToMark _ => false

/-- The rows that bring new levels of the arms, the tracks or the LEADER line. -/
def Instr.readsPins : Instr → Bool
  | .tensionArmReading _ _ | .threadingSuccess _ _ | .encoderCount _ _ | .leaderFall => true
  | .resetPinHeld | .fullReset _ | .load _ | .unload _ | .present _ | .run _ | .jog _ | .barrier _ | .cancel _
  | .cancelAll _ | .take _ | .release _ | .watch _ | .expose _ | .gateStatus _ | .halt _ | .resume _
  | .clearFault _ | .correctMerge _ | .correctSplit _ | .correctMove _ | .correctClearTaken _ | .readIndex _
  | .indexStatus _ | .focusLock _ | .focusUnlock _ | .focusFree _ | .focusSet _ | .focusRead _
  | .configureLink _ | .linkStatus _ | .resetLink _ | .setNotices _ | .readEvents _ | .clearEvents _
  | .ackAttn _ | .setStation _ | .unknownKind _ _ | .receiveByte _ _ | .stopBitAtSpace _ | .lineBreak _
  | .byteTimeout _ | .resyncEnd _ | .outboxMessageMove _ | .transmitCharacter _ | .ctsChange _ _
  | .threadingTimeout | .retensionSuccess | .retensionFail | .tensionPersistenceExpiry | .stallTimerExpiry
  | .leaderTimerExpiry | .endRising | .spliceRising | .travelLegRest | .creepRest | .stopRampRest | .boundRest
  | .settleTimerExpiry | .settleLimitExpiry | .parkTimerExpiry | .wakeTimerExpiry | .lensMoveComplete
  | .lensHomingComplete | .focusLineArrival _ _ | .focusSampleTimeout | .holdTimerExpiry | .expdoneRising
  | .exposureTimerExpiry | .lineReturnsToMark _ => false

end Sys2Proof

namespace Sys2Proof.Machine

/-! ### Requests and their answers -/

/-- How a request row comes to the acceptance path (R188, R211). -/
def requestEnv (code : Nat) (r : Request) : Env := ⟨sourcePort r.source, sourceBroadcast r.source, r.tag, code⟩

/-- The decoder takes the request at once: RESET is not held, no break stands on the line, no message waits before it, and an
addressed request finds a unit with an address of its own and two places of the outbox free (R178, R179, R186, R188). -/
def State.takesNow (s : State) (r : Request) : Prop :=
  s.resetHeld = false ∧ (s.link (sourcePort r.source)).awaitMark = false ∧ (s.link (sourcePort r.source)).inbox = [] ∧
    (sourceBroadcast r.source = true ∨ s.unitAddress ≠ 127 ∧ 2 ≤ (s.link (sourcePort r.source)).free)

/-- One immediate reply and nothing else: a broadcast gets none (R188), and the released mark of port C moves as R192
states. -/
def State.replied (e : Env) (st : Status) (results : List Byte) (s : State) : State :=
  releaseAll e (releaseWaiting (if e.bc then s else queueMsg e.port (replyMsg e.tag e.code (st.code :: results)) s))

/-- The outbox of a port has gained messages of which `m` is the first. -/
def sendsFirst (s t : State) (p : Port) (m : OutMsg) : Prop :=
  ∃ more, (t.link p).outbox = (s.link p).outbox ++ m :: more

/-- The outbox of a port has gained messages of which `m` is one. -/
def sends (s t : State) (p : Port) (m : OutMsg) : Prop :=
  ∃ before after, (t.link p).outbox = (s.link p).outbox ++ before ++ m :: after

/-- The request is answered first of all that it causes; a broadcast is not answered (R216). -/
def answersFirst (s t : State) (r : Request) (code : Nat) (st : Status) (results : List Byte) : Prop :=
  sourceBroadcast r.source = true ∨ sendsFirst s t (sourcePort r.source) (replyMsg r.tag code (st.code :: results))

/-- Commands one after another, as long as each answers a next state. -/
def execAll : List Instr → State → Host.Outcome State Fault Refusal
  | [], s => .next s
  | c :: rest, s =>
    match exec c s with
    | .next t => execAll rest t
    | .fault f => .fault f
    | .refused r => .refused r

/-! ### The body of a LOAD (R5, R219) -/

/-- The bytes of a list of field entries: number and value, with a count byte before the characters of a label (R219). -/
def loadBody : List (Nat × List Byte) → List Byte
  | [] => []
  | (n, v) :: rest =>
    (if n = 0 then 0 :: BitVec.ofNat 8 v.length :: v else BitVec.ofNat 8 n :: v) ++ loadBody rest

/-- A field of R5 with a value of the width of R219. -/
def fieldFits (n : Nat) (v : List Byte) : Prop :=
  if n = 0 then v.length ≤ 255
  else n ≤ 22 ∧ v.length = if n = 19 then 4 else if n ∈ [2, 3, 4, 8, 9, 10, 12, 13, 14, 16, 17, 20] then 2 else 1

/-- The value bytes of the first entry of a field number. -/
def givenBytes (l : List (Nat × List Byte)) (n : Nat) : Option (List Byte) :=
  (l.find? fun x => decide (x.1 = n)).map (·.2)

/-- The number that a field was given, or its default. -/
def givenOr (l : List (Nat × List Byte)) (n default : Nat) : Nat :=
  match givenBytes l n with
  | some v => beNum v
  | none => default

/-- The fields 1 to 22 of R5 with what a profile stores in them: number, stored value, default (0 where R5 gives none), lowest and
highest value after the clamps of R6. -/
def Profile.fields (p : Profile) : List (Nat × Nat × Nat × Nat × Nat) :=
  [(1, p.track, 0, 0, 1), (2, p.pitchNominal, 0, 64, 4000), (3, p.pitchMin, 0, 64, 4000), (4, p.pitchMax, 0, 64, 4000),
   (5, p.markOn, 0, 1, 255), (6, p.markOff, 0, 1, 255), (7, p.markStrong, 0, 0, 255), (8, p.widthMin, 0, 1, 1000),
   (9, p.widthMax, 0, 1, 1000), (10, p.gateOffset, 0, 0, 8000), (11, p.tolerance, 4, 1, 20),
   (12, p.scanSpeed, 4000, 500, 8000), (13, p.indexSpeed, 12000, 2000, 20000), (14, p.window, 8, 0, p.pitchMin / 4),
   (15, match p.rounding with | .halfUp => 0 | .halfEven => 1, 0, 0, 1), (16, p.defaultFocus, 2048, 0, 4095),
   (17, p.sweepSpan, 64, 8, 256), (18, p.coarseStep, 8, 1, min 32 p.sweepSpan), (19, p.contrastFloor, 20000, 0, 134217728),
   (20, p.holdTime, 5000, 100, 60000), (21, p.tensionLow, 80, 0, 255), (22, p.tensionHigh, 176, p.tensionLow, 255)]

/-! ### A fault (R37) -/

/-- What a fault of cause `c` leaves of the transport, the gate, focus and the arbiter. -/
def State.afterFault (s t : State) (c : Cause) : Prop :=
  t.trc.motion = .faulted ∧ t.trc.cause = c ∧ t.trc.verified = false ∧ t.trc.slip = 0 ∧ t.trc.move = none ∧
  t.trc.retension = false ∧ t.trc.roll = s.trc.roll ∧ t.trc.profile = s.trc.profile ∧ t.trc.counter = s.trc.counter ∧
  t.trc.endPos = s.trc.endPos ∧ t.trc.overrun = s.trc.overrun ∧ t.trc.epoch = s.trc.epoch ∧
  t.fit.entries = s.fit.entries ∧ t.fit.index = s.fit.index ∧ t.fit.p256 = s.fit.p256 ∧ t.fit.splice = s.fit.splice ∧
  t.fit.building = false ∧ t.fit.verify = none ∧
  t.gtu.presentation = none ∧ t.gtu.inHand = none ∧ t.gtu.phase = .idle ∧ t.gtu.hold = none ∧ t.gtu.exposure = none ∧
  t.gtu.trig = false ∧ t.gtu.watches = PerPort.all false ∧
  t.fcc.sweep = none ∧ t.fcc.sampleTimer = none ∧ t.fcc.lines = s.fcc.lines ∧ t.fcc.lru = s.fcc.lru ∧
  t.rqt.grant = .none ∧ t.rqt.halted = s.rqt.halted ∧ t.ntu.levels.fault = true

/-! ### What several commands leave alike -/

/-- A link error of cause `c` on port `p` (R183): the flag latches, the message in progress is gone, every other block and port
is as before, but that LINK-ERROR may latch with its notice. -/
def State.afterLinkError (s t : State) (p : Port) (c : LinkCause) : Prop :=
  (t.link p).part = none ∧ (t.link p).inbox = (s.link p).inbox ∧
  t.rqt = s.rqt ∧ t.trc = s.trc ∧ t.fit = s.fit ∧ t.fcc = s.fcc ∧ t.gtu = s.gtu ∧ t.mkd = s.mkd ∧
  t.ntu.levels = s.ntu.levels ∧
  (∃ missed, (t.link p).flags = { (s.link p).flags.latch c with noticesMissed := missed }) ∧
  ((s.slot p .linkError).enabled = true → ∃ l, (t.slot p .linkError).latch = some l ∧ l.data = pad8 [c.code])

/-- What a reset of port `p` leaves (R118, R135, R161, R176, R195, R197, R208). While HALTED is set and no exposure is in progress
nothing follows the reset: every source of the port stands at its default with its latch clear, and the other ports keep their
records, the run, their links, watches and sources; only the released mark of port C moves as R192 states. -/
def State.afterPortReset (s t : State) (p : Port) : Prop :=
  (∀ r ∈ t.rqt.records, r.port ≠ p) ∧ (p = .a → t.rqt.run = none) ∧
  (∀ k, (t.slot p k).enabled = true ∧ (t.slot p k).falling = false) ∧
  (∀ q k, q ≠ p → (t.slot q k).enabled = (s.slot q k).enabled ∧ (t.slot q k).falling = (s.slot q k).falling) ∧
  t.gtu.watches.get p = false ∧
  (∀ x, t.gtu.presentation = some x → x.holder.port ≠ p) ∧ (∀ x, t.gtu.exposure = some x → x.port ≠ p) ∧
  (t.link p).rx = .idle ∧ (t.link p).part = none ∧ (t.link p).inbox = [] ∧ (t.link p).reserved = 0 ∧
  (t.link p).txFifo = [] ∧ (t.link p).rdyMode = .auto ∧ (t.link p).threshold = 32 ∧ (t.link p).ctsGating = false ∧
  (t.link p).gap = 0 ∧ (t.link p).outstanding = [] ∧ (t.link p).cts = (s.link p).cts ∧
  t.rqt.arrival = s.rqt.arrival ∧ t.rqt.halted = s.rqt.halted ∧
  t.trc.roll = s.trc.roll ∧ t.trc.counter = s.trc.counter ∧ t.trc.endPos = s.trc.endPos ∧
  t.trc.overrun = s.trc.overrun ∧ t.fit.entries = s.fit.entries ∧ t.fit.p256 = s.fit.p256 ∧
  t.fcc.lines = s.fcc.lines ∧ t.fcc.lru = s.fcc.lru ∧
  (s.rqt.halted = true → s.gtu.exposure = none →
    t.rqt.records = s.rqt.records.filter (fun r => decide (r.port ≠ p)) ∧ (p ≠ .a → t.rqt.run = s.rqt.run) ∧
    t.ntu.levels.queueAlmostFull = decide (28 ≤ t.rqt.records.length) ∧
    (∀ k, t.slot p k = ⟨true, false, none⟩) ∧
    ∀ q, q ≠ p →
      t.link q = { s.link q with released := (t.link q).released } ∧
      t.gtu.watches.get q = s.gtu.watches.get q ∧ ∀ k, t.slot q k = s.slot q k)

/-- What MERGE, SPLIT and MOVE leave alone, and the watches that they clear (R80, R85). -/
def State.afterEdit (s t : State) : Prop :=
  t.fit.p256 = s.fit.p256 ∧ t.fit.splice = s.fit.splice ∧ t.trc.counter = s.trc.counter ∧
  t.trc.endPos = s.trc.endPos ∧ t.trc.roll = s.trc.roll ∧ t.fcc.lines = s.fcc.lines ∧ t.fcc.lru = s.fcc.lru ∧
  t.mkd = s.mkd ∧ (∀ p, t.gtu.watches.get p = false) ∧ t.rqt.halted = s.rqt.halted ∧ t.rqt.arrival = s.rqt.arrival

/-- What the end of a lens motion leaves: a held move begins, waits for the end of an exposure, or needs no
motion (R90). -/
def State.afterLens (s t : State) : Prop :=
  t.fcc.lines = s.fcc.lines ∧ t.fcc.lru = s.fcc.lru ∧ t.fcc.sweep = s.fcc.sweep ∧ t.trc.counter = s.trc.counter ∧
  t.fit = s.fit ∧ t.gtu.exposure = s.gtu.exposure ∧
  (s.fcc.held = none → t.fcc.stage = .idle ∧ t.fcc.running = none ∧ t.fcc.held = none) ∧
  (∀ h, s.fcc.held = some h → h.target ≠ t.fcc.lens → s.gtu.exposure = none →
    t.fcc.stage = .moving ∧ t.fcc.running = some h ∧ t.fcc.held = none) ∧
  (∀ h, s.fcc.held = some h → h.target ≠ t.fcc.lens → s.gtu.exposure.isSome = true →
    t.fcc.stage = .idle ∧ t.fcc.held = some h)

/-- The record that held the grant has completed FAULT and left the table; a run that was under way is SUSPENDED (R37). -/
def State.grantFaulted (s t : State) : Prop :=
  (∀ p tag r, s.rqt.grant = .record p tag → s.findRecord p tag = some r →
    (∀ x ∈ t.rqt.records, ¬(x.port = p ∧ x.tag = tag)) ∧
    ∃ results, sends s t p (replyMsg r.tag r.work.code (71 :: results))) ∧
  (∀ x, s.rqt.run = some x → (∃ y, t.rqt.run = some y ∧ y.state = .suspended ∧ y.tag = x.tag ∧ y.next = x.next))

/-- A record has joined the table of a port, and nothing else has happened but its reservation and its answer (R113, R115,
R118). -/
def State.madeRecord (s t : State) (p : Port) (r : Record) : Prop :=
  t.rqt = { s.rqt with records := s.rqt.records ++ [r], arrival := s.rqt.arrival + 1 } ∧
  (t.link p).reserved = (s.link p).reserved + 1 ∧
  t.ntu.levels.queueAlmostFull = decide (28 ≤ s.rqt.records.length + 1) ∧
  t.trc = { s.trc with timers := t.trc.timers } ∧ t.fit = s.fit ∧ t.fcc = s.fcc

/-- What no end of a leg or of a stopped move changes: the position, its verified flag, the epoch, the roll, the watches, the
index, focus and the faults. -/
def State.sameCourse (s t : State) : Prop :=
  t.trc.counter = s.trc.counter ∧ t.trc.verified = s.trc.verified ∧ t.trc.epoch = s.trc.epoch ∧
  t.trc.roll = s.trc.roll ∧ t.trc.cause = s.trc.cause ∧ t.gtu.watches = s.gtu.watches ∧
  t.fit.entries = s.fit.entries ∧ t.fit.p256 = s.fit.p256 ∧ t.fcc = s.fcc

/-! ### Sightings and the arbiter -/

/-- Entry `e`, frame `n`, is the nearest to a centre among the entries that `ok` admits; of two as near the lower frame number
(R70, R78). -/
def State.nearestIs (s : State) (ok : Entry → Bool) (centre n : Nat) (e : Entry) : Prop :=
  s.fit.entries[n]? = some e ∧ ok e = true ∧
  ∀ j x, s.fit.entries[j]? = some x → ok x = true →
    absDiff centre e.pos < absDiff centre x.pos ∨ absDiff centre e.pos = absDiff centre x.pos ∧ n ≤ j

/-- A target is ahead of the counter in the travel direction; the counter itself is ahead in either (R124). -/
def State.liesAhead (s : State) (target : Nat) : Prop :=
  s.trc.travelDir = .forward ∧ s.trc.counter ≤ target ∨ s.trc.travelDir = .reverse ∧ target ≤ s.trc.counter

/-- Record `r` comes before record `b` of its class in the seek order: ahead before behind, then nearer, then older (R124). -/
def State.comesBefore (s : State) (r b : Record) : Prop :=
  s.liesAhead (s.seekTarget r) ∧ ¬s.liesAhead (s.seekTarget b) ∨
  (s.liesAhead (s.seekTarget r) ↔ s.liesAhead (s.seekTarget b)) ∧
    (absDiff (s.seekTarget r) s.trc.counter < absDiff (s.seekTarget b) s.trc.counter ∨
      absDiff (s.seekTarget r) s.trc.counter = absDiff (s.seekTarget b) s.trc.counter ∧
        older r.arrival b.arrival = true)

/-- What one opportunity that grants a holder of class `c` makes of a record it passes over: a waiting PRESENT or JOG of that class
gains a pass, and the eighth promotes it below class 3 and starts its passes anew (R125). -/
def Record.afterPass (c : Nat) (r : Record) : Record :=
  if r.work = .barrier ∨ r.cls ≠ c then r
  else if r.passes ≤ 6 then { r with passes := r.passes + 1 }
  else { r with cls := if r.cls < 3 then r.cls + 1 else r.cls, passes := 0 }

/-! ### Invariants -/

/-- No two members of a list agree in a key. -/
def distinctBy {α β : Type} (key : α → β) (l : List α) : Prop := (l.map key).Pairwise (· ≠ ·)

/-- The law of the request table (R114). -/
def State.tableLaw (s : State) : Prop :=
  s.rqt.records.length ≤ 32 ∧
  (∀ p, (s.rqt.records.countP fun r => decide (r.port = p)) ≤ 16) ∧
  distinctBy (fun r : Record => (r.port, r.tag)) s.rqt.records ∧
  (∀ x, s.rqt.run = some x → ∀ r ∈ s.rqt.records, r.port = .a → r.tag ≠ x.tag)

/-- The law of the focus table (R93) with what R94 says of the order. -/
def State.focusLaw (s : State) : Prop :=
  s.fcc.lines.length = 16 ∧ s.fcc.lru.Perm (List.range 16) ∧
  s.fcc.lines.countP (·.locked) ≤ 12 ∧
  (∀ l ∈ s.fcc.lines, l.valid = false → l.locked = false) ∧
  distinctBy (·.sector) (s.fcc.lines.filter (·.valid))

/-- The grant names the holder. -/
def Grant.names (g : Grant) : Holder → Prop
  | .record p t => g = .record p t
  | .run _ => g = .run

/-- The grant names what is GRANTED or AT-GATE, and that alone (R111, R116, R163): one record, or the run; never a BARRIER
(R122). -/
def State.grantLaw (s : State) : Prop :=
  (∀ r ∈ s.rqt.records, r.work = .barrier → r.state = .waiting) ∧
  (∀ r ∈ s.rqt.records, r.state ≠ .waiting ↔ s.rqt.grant = .record r.port r.tag) ∧
  (∀ p t, s.rqt.grant = .record p t → ∃ r ∈ s.rqt.records, r.port = p ∧ r.tag = t) ∧
  (∀ x, s.rqt.run = some x → ((x.state = .granted ∨ x.state = .atGate) ↔ s.rqt.grant = .run)) ∧
  (s.rqt.grant = .run → s.rqt.run.isSome = true)

/-- The gate phase says whether GTU has a grant in hand or a presentation, and either belongs to the grant; what is granted
is AT-GATE while its presentation exists, and only then. From FOCUSING on no move is in flight, a JOG moves with no grant in hand,
and only a LOADED roll has a phase other than IDLE (R126, R137, R139 to R144, R151). -/
def State.gateLaw (s : State) : Prop :=
  (s.gtu.inHand.isSome = true ↔ s.gtu.phase = .positioning ∨ s.gtu.phase = .settling ∨ s.gtu.phase = .focusing) ∧
  (s.gtu.presentation.isSome = true ↔ s.gtu.phase = .presented ∨ s.gtu.phase = .exposing) ∧
  (∀ g, s.gtu.inHand = some g → s.rqt.grant.names g.holder) ∧
  (∀ x, s.gtu.presentation = some x → s.rqt.grant.names x.holder) ∧
  (∀ r ∈ s.rqt.records, r.state ≠ .waiting → (r.state = .atGate ↔ s.gtu.presentation.isSome = true)) ∧
  (∀ x, s.rqt.run = some x → x.state = .granted ∨ x.state = .atGate →
    (x.state = .atGate ↔ s.gtu.presentation.isSome = true)) ∧
  (s.gtu.phase = .focusing ∨ s.gtu.phase = .presented ∨ s.gtu.phase = .exposing → s.trc.move = none) ∧
  (∀ m, s.trc.move = some m → m.job = .jog → s.gtu.inHand = none) ∧
  (s.gtu.phase ≠ .idle → s.trc.roll = .loaded)

/-- TRIG is asserted while an exposure is in progress, and only then (R137, R154 to R158). -/
def State.trigLaw (s : State) : Prop := s.gtu.trig = s.gtu.exposure.isSome

/-- The levels of the five level sources are those of their blocks (R3, R33, R38, R74, R118, R197, R198). -/
def State.levelLaw (s : State) : Prop :=
  s.ntu.levels.fault = decide (s.trc.motion = .faulted) ∧ s.ntu.levels.halted = s.rqt.halted ∧
  s.ntu.levels.unverified = !s.trc.verified ∧ s.ntu.levels.rollState = decide (s.trc.roll = .loaded) ∧
  s.ntu.levels.queueAlmostFull = decide (28 ≤ s.rqt.records.length)

/-- The motion state is OFF while the roll is EMPTY or THREADING, and only then (R22); the position is verified meanwhile (R16,
R20, R74); re-tensioning runs in FAULTED alone (R39), and the mark detector is off unless the roll is LOADED (R45). -/
def State.rollLaw (s : State) : Prop :=
  (s.trc.motion = .off ↔ s.trc.roll = .empty ∨ s.trc.roll = .threading) ∧
  (s.trc.roll = .empty ∨ s.trc.roll = .threading → s.trc.verified = true) ∧
  (s.trc.retension = true → s.trc.motion = .faulted) ∧ (s.trc.roll ≠ .loaded → s.mkd = .off)

/-- The frame index holds at most 16,384 entries, at strictly rising positions, as its state says: none in EMPTY, some in OPEN and
FULL, and room for another in OPEN. While the roll is LOADED neighbours lie at least half of pitch_min, rounded up, apart (R51). A
roll that is THREADING or LOADED has a profile, whose pitches are ordered, and while it is LOADED P256 lies within its clamps;
without a LOADED roll the mark detector is off (R5, R7, R45, R50 to R52, R58 to R62, R72, R80 to R83). -/
def State.indexLaw (s : State) : Prop :=
  s.fit.entries.length ≤ 16384 ∧ (s.fit.entries.map (·.pos)).Pairwise (· < ·) ∧
  (s.fit.index = .empty → s.fit.entries = []) ∧
  (s.fit.index = .opened → s.fit.entries ≠ [] ∧ s.fit.entries.length < 16384) ∧
  (s.fit.index = .full → s.fit.entries ≠ []) ∧
  (∀ p, s.trc.profile = some p →
    64 ≤ p.pitchMin ∧ p.pitchMin ≤ p.pitchNominal ∧ p.pitchNominal ≤ p.pitchMax) ∧
  (s.trc.roll = .threading ∨ s.trc.roll = .loaded → s.trc.profile.isSome = true) ∧
  (s.trc.roll = .loaded → 256 * s.profile.pitchMin ≤ s.fit.p256 ∧ s.fit.p256 ≤ 256 * s.profile.pitchMax) ∧
  (s.trc.roll = .loaded → ∀ n a b, s.fit.entries[n]? = some a → s.fit.entries[n + 1]? = some b →
    a.pos + (s.profile.pitchMin + 1) / 2 ≤ b.pos) ∧
  (s.trc.roll ≠ .loaded → s.mkd = .off)

end Sys2Proof.Machine
end

