-- ==== Sys2Proof/Certificates/Slice0/Obligations.lean ====
section
/-! DEFINITION. The statements for the provers, in the order of OBLIGATIONS.json. Where a statement says that a command answers
a next state, its hypotheses speak of the state and the operands alone. -/

open Sys2Proof Sys2Proof.Machine

/-! ### The queue, the path, the answers -/

/-- One step runs the command at the front of the queue on the state with the rest of the queue. -/
def Obligations.StepRunsTheFrontCommand : Prop :=
  ∀ (c : Instr) (rest : List Instr) (s : State),
    step { s with pending := c :: rest } = exec c { s with pending := rest }

/-- MODEL'S CHOICE (log entry 2): a step on an empty queue is one millisecond of every running timer, up to the durations of
R9, R16, R27, R28, R35, R36, R39, R40, R42, R91, R146, R154, R183 and R184, and changes nothing else. -/
def Obligations.IdleStepIsOneMillisecond : Prop :=
  ∀ s : State, s.pending = [] → ∃ t, step s = .next t ∧
    t.trc.timers =
      { threading := s.trc.timers.threading.map fun n => min (n + 1) 5000
        inWindow := s.trc.timers.inWindow.map fun n => min (n + 1) 100
        persistence := s.trc.timers.persistence.map fun n => min (n + 1) 50
        stall := s.trc.timers.stall.map fun n => min (n + 1) 200
        leader := s.trc.timers.leader.map fun n => min (n + 1) 5000
        settle := s.trc.timers.settle.map fun n => min (n + 1) 20
        settleLimit := s.trc.timers.settleLimit.map fun n => min (n + 1) 500
        park := s.trc.timers.park.map fun n => min (n + 1) (1000 * s.trc.parkDelay)
        wake := s.trc.timers.wake.map fun n => min (n + 1) s.trc.wakeFor } ∧
    t.fcc.sampleTimer = s.fcc.sampleTimer.map (fun n => min (n + 1) 100) ∧
    t.gtu.hold = s.gtu.hold.map (· - 1) ∧
    t.gtu.exposure = s.gtu.exposure.map (fun e => { e with ms := min (e.ms + 1) 200 }) ∧
    (∀ p, t.lnk.get p =
      { s.lnk.get p with
        byteTimer := if s.rdy p then (s.lnk.get p).byteTimer.map fun n => min (n + 1) 6 else (s.lnk.get p).byteTimer
        resyncTimer := (s.lnk.get p).resyncTimer.map fun n => min (n + 1) 6 }) ∧
    t = { s with
      lnk := t.lnk
      trc := { s.trc with timers := t.trc.timers }
      fcc := { s.fcc with sampleTimer := t.fcc.sampleTimer }
      gtu := { s.gtu with hold := t.gtu.hold, exposure := t.gtu.exposure } }

/-- Every command completes from every state. It leaves the rest of the queue alone; only the RESET rows touch the RESET pin
and the unit address, and only the rows that bring new levels touch the input levels. MODEL'S CHOICES: a row whose event cannot
occur in a state completes and changes nothing (log entry 4), the queue and the input levels stay over a reset (log entry 3), and
the levels come with the rows that read them (log entry 15). -/
def Obligations.EveryCommandCompletes : Prop :=
  ∀ (c : Instr) (s : State), ∃ t, exec c s = .next t ∧ t.pending = s.pending ∧
    (c.isReset = false → t.resetHeld = s.resetHeld ∧ t.unitAddress = s.unitAddress) ∧
    (c.readsPins = false → t.pins = s.pins)

/-- A request row that the decoder can take at once goes to the acceptance path with its port, tag, kind code and body
(R188, R209, R211). A kind code of no known kind is answered UNKNOWN-KIND whatever else it carries. Straps of 127 leave the part
with no address of its own, and it skips every addressed request silently (R179). -/
def Obligations.RequestRowsReachTheAcceptancePath : Prop :=
  (∀ (c : Instr) (code : Nat) (r : Request) (s : State), c.message? = some (code, r) → s.takesNow r →
    exec c s = .next (handle (requestEnv code r) r.body s)) ∧
  (∀ (k : BitVec 7) (r : Request) (s : State), s.takesNow r → (k.toNat = 0 ∨ 33 ≤ k.toNat) →
    exec (.unknownKind k r) s = .next (s.replied (requestEnv k.toNat r) .unknownKind [])) ∧
  (∀ (c : Instr) (code : Nat) (r : Request) (s : State), c.message? = some (code, r) → sourceBroadcast r.source = false →
    s.unitAddress = 127 → exec c s = .next s)

/-- The acceptance path makes its checks in the order of R211: length, kind, port, tag, parameters, roll, capacity; the
first that fails answers once and changes nothing else. A timed request received as broadcast is discarded (R188). -/
def Obligations.AcceptanceChecksInOrder : Prop :=
  ∀ (e : Env) (body : List Byte) (s : State),
    (Kind.ofCode e.code = none → handle e body s = s.replied e .unknownKind []) ∧
    ∀ k, Kind.ofCode e.code = some k →
      (e.bc = true → k.timed = true → handle e body s = s) ∧
      (¬(e.bc = true ∧ k.timed = true) →
        (k.lengthOk body = false → handle e body s = s.replied e .length []) ∧
        (k.lengthOk body = true →
          (k.permitted e.port = false → handle e body s = s.replied e .notPermitted []) ∧
          (k.permitted e.port = true →
            (k.timed = true → s.tagInUse e.port e.tag = true → handle e body s = s.replied e .tagInUse []) ∧
            (¬(k.timed = true ∧ s.tagInUse e.port e.tag = true) →
              (∀ x, k.parse body = .error x → handle e body s = s.replied e x.status [x.reason, x.number]) ∧
              (∀ a, k.parse body = .ok a →
                (∀ st, rollRefusal k s = some st → handle e body s = s.replied e st []) ∧
                (rollRefusal k s = none →
                  (∀ st, capacityRefusal k e.port s = some st → handle e body s = s.replied e st []) ∧
                  (capacityRefusal k e.port s = none → handle e body s = releaseAll e (perform e a s))))))))

/-- A reply joins its outbox and nothing else of the part changes (R189, R211); on port C the answer to a request addressed to
the unit releases every message then queued, and so does an addressed request that waits for room (R192). -/
def Obligations.OneReplyAndNothingElse : Prop :=
  ∀ (e : Env) (st : Status) (res : List Byte) (s : State), ∃ released : Nat,
    s.replied e st res =
      { s with lnk :=
        { a := { s.lnk.a with outbox := s.lnk.a.outbox ++
            if e.bc = false ∧ e.port = .a then [replyMsg e.tag e.code (st.code :: res)] else [] }
          b := { s.lnk.b with outbox := s.lnk.b.outbox ++
            if e.bc = false ∧ e.port = .b then [replyMsg e.tag e.code (st.code :: res)] else [] }
          c := { s.lnk.c with
            outbox := s.lnk.c.outbox ++
              if e.bc = false ∧ e.port = .c then [replyMsg e.tag e.code (st.code :: res)] else []
            released := released } } } ∧
    (e.bc = false → e.port = .c → released = s.lnk.c.outbox.length + 1) ∧
    (¬(e.bc = false ∧ e.port = .c) →
      released =
        match s.lnk.c.inbox with
        | m :: _ => if m.broadcast = false ∧ s.lnk.c.free < 2 then s.lnk.c.outbox.length else s.lnk.c.released
        | [] => s.lnk.c.released)

/-! ### Reset -/

/-- FULL_RESET puts every block to the values of its reset table and reads the straps (R3, R18, R20, R22, R32, R38, R43, R44,
R45, R68, R90, R93, R94, R111, R137, R178, R179, R197, R208); RESET_PIN_HELD does so and keeps RESET held. The part then stands as
State.reset says, but for the straps, the input levels, the queue and the model's own counter of readings.
While the RESET pin is held RDY and ATTN are released (R178, R203).
MODEL'S CHOICES: the part under a held RESET pin stands at its reset values, with the unit address that it last read (log entry
19); while the pin is held no request, no byte and no count is taken and nothing is sent (log entries 4 and 19); the CTS and film
inputs keep their levels over a reset (log entry 3). -/
def Obligations.ResetValuesAndTheHeldPart : Prop :=
  (∀ (straps : BitVec 7) (s : State), ∃ t u, exec (.fullReset straps) s = .next t ∧ exec .resetPinHeld s = .next u ∧
    t.unitAddress = straps ∧ t.resetHeld = false ∧ u.resetHeld = true ∧ u.unitAddress = s.unitAddress ∧
    t.pins = s.pins ∧ u = { t with resetHeld := true, unitAddress := s.unitAddress } ∧
    t = { State.reset with
      pending := s.pending, freeCount := s.freeCount, unitAddress := straps, pins := s.pins, lnk := t.lnk } ∧
    t.ntu.levels = ⟨false, false, false, false, false⟩ ∧ t.trc.move = none ∧ t.trc.retension = false ∧ t.fit.p256 = 0 ∧
    t.fit.verify = none ∧ t.fcc.sweep = none ∧ t.fcc.sampleTimer = none ∧ t.gtu.inHand = none ∧ t.gtu.hold = none ∧
    t.gtu.heldReport = none ∧ t.rqt.stopReason = .none ∧
    t.trc.roll = .empty ∧ t.trc.profile = none ∧ t.trc.counter = 0 ∧ t.trc.endPos = none ∧ t.trc.overrun = 0 ∧
    t.trc.motion = .off ∧ t.trc.travelDir = .forward ∧ t.trc.epoch = 0 ∧ t.trc.verified = true ∧ t.trc.slip = 0 ∧
    t.trc.cause = .none ∧ t.trc.parkDelay = 120 ∧ t.trc.wakeDelay = 300 ∧ t.trc.timers = Timers.stopped ∧
    t.mkd = .off ∧ t.fit.entries = [] ∧ t.fit.index = .empty ∧ t.fit.building = false ∧ t.fit.splice = false ∧
    t.fcc.stage = .homing ∧ t.fcc.lru = [15, 14, 13, 12, 11, 10, 9, 8, 7, 6, 5, 4, 3, 2, 1, 0] ∧
    (∀ l ∈ t.fcc.lines, l.valid = false ∧ l.pending = true ∧ l.value = 0 ∧ l.locked = false) ∧
    t.rqt.records = [] ∧ t.rqt.run = none ∧ t.rqt.arrival = 0 ∧ t.rqt.halted = false ∧ t.rqt.grant = .none ∧
    t.gtu.phase = .idle ∧ t.gtu.presentation = none ∧ t.gtu.exposure = none ∧ t.gtu.trig = false ∧
    t.gtu.route = none ∧ t.route1 = false ∧ t.route0 = false ∧ (∀ p, t.gtu.watches.get p = false) ∧
    (∀ p k, t.slot p k = ⟨true, false, none⟩) ∧
    (∀ p, t.link p = { Link.reset with cts := (s.link p).cts } ∧ (t.link p).rdyMode = .auto ∧ (t.link p).threshold = 32 ∧
      (t.link p).ctsGating = false ∧ (t.link p).gap = 0)) ∧
  (∀ s : State, s.resetHeld = true →
    (∀ c code r, Instr.message? c = some (code, r) → exec c s = .next s) ∧
    (∀ p b, exec (.receiveByte p b) s = .next s) ∧ (∀ p, exec (.stopBitAtSpace p) s = .next s) ∧
    (∀ p, exec (.lineBreak p) s = .next s) ∧ (∀ p, exec (.byteTimeout p) s = .next s) ∧
    (∀ p, exec (.outboxMessageMove p) s = .next s) ∧ (∀ p, exec (.transmitCharacter p) s = .next s) ∧
    (∀ d x, exec (.encoderCount d x) s = .next s) ∧ (∀ p, s.rdy p = false) ∧ s.attn = false)

/-! ### Requests that report -/

/-- WATCH sets the sending port's watch and reports the frame at the gate, the counter, the verified flag, the epoch, the
motion state and the gate phase, all read at one moment (R152). -/
def Obligations.WatchSetsTheWatchAndReports : Prop :=
  ∀ (r : Request) (s : State), s.takesNow r → r.body = [] →
    exec (.watch r) s =
      .next (State.replied (requestEnv 11 r) .done
        (beFrame s.frameAtGate ++ be 3 s.trc.counter ++ [flagByte s.trc.verified] ++ be 2 s.trc.epoch.toNat
          ++ [s.trc.motion.code, s.gtu.phase.code])
        { s with gtu.watches := s.gtu.watches.set (sourcePort r.source) true })

/-- GATE-STATUS reports and changes nothing (R160); with a presentation in PRESENTED its reply holds the holder, the frames,
the counter with the verified flag in its top bit, the epoch, the motion state, the focus source, the hold time left, the
deferred end, and the exposing port with the sender's watch.
INDEX-STATUS and READ-INDEX report and change nothing. READ-INDEX reports the entries from the frame asked for on, as many
as were asked for (32 when no count is given, 1 for a count of 0, 32 for a larger one) and exist (R87, R88, R196).
READ-EVENTS reports the enables, polarities and latches of the sending port, the five levels, the fault cause and every
latched source in increasing number with its count and data, and changes nothing (R206).
DEDUCED: the widths that no rule states, three bytes for the overrun count of INDEX-STATUS and thirteen bytes before the latched
sources of READ-EVENTS, whose number R206 counts otherwise (log entry 7), and the codes of states that no rule numbers (log entry
6). MODEL'S CHOICES: the frame asked for as the first frame of a READ-INDEX without entries (log entry 25), the codes of the fault
causes (log entry 30). -/
def Obligations.ReportsChangeNothing : Prop :=
  (∀ (r : Request) (s : State), s.takesNow r → r.body = [] →
    exec (.gateStatus r) s =
      .next (s.replied (requestEnv 13 r) .done (gateStatusBytes (sourcePort r.source) s)) ∧
    (∀ x, s.gtu.presentation = some x → s.gtu.phase = .presented → s.gtu.exposure = none →
      gateStatusBytes (sourcePort r.source) s =
        [4, portCode x.holder.port, x.holder.tag] ++ be 2 x.frame ++ beFrame s.frameAtGate
          ++ be 3 (s.trc.counter + if s.trc.verified then 8388608 else 0) ++ be 2 s.trc.epoch.toNat
          ++ [s.trc.motion.code, x.source.code] ++ be 2 (s.gtu.hold.getD 0)
          ++ [x.deferred.code, if s.gtu.watches.get (sourcePort r.source) then 128 else 0, 0]) ∧
    (s.gtu.presentation = none → s.gtu.inHand = none → s.gtu.phase = .idle → s.gtu.exposure = none →
      gateStatusBytes (sourcePort r.source) s =
        [0, 0, 0, 255, 255] ++ beFrame s.frameAtGate
          ++ be 3 (s.trc.counter + if s.trc.verified then 8388608 else 0) ++ be 2 s.trc.epoch.toNat
          ++ [s.trc.motion.code, 0, 0, 0, 0, if s.gtu.watches.get (sourcePort r.source) then 128 else 0, 0])) ∧
  ((∀ (r : Request) (s : State), s.takesNow r → r.body = [] →
    exec (.indexStatus r) s =
      .next (s.replied (requestEnv 19 r) .done
        ([s.indexByte] ++ beFrame s.frontier ++ bePos s.frontierPos ++ be 2 s.fit.entries.length ++ be 3 s.fit.p256
          ++ bePos s.trc.endPos ++ be 3 s.trc.overrun ++ [flagByte s.fit.building, flagByte s.fit.splice]
          ++ be 3 s.trc.counter
          ++ [flagByte s.trc.verified, BitVec.ofNat 8 s.trc.slip, flagByte s.fit.verify.isSome]))) ∧
  (∀ (r : Request) (f count : Nat) (s : State), s.takesNow r → f ≤ 16383 →
    (r.body = be 2 f ∧ count = 32 ∨
      ∃ c : Byte, r.body = be 2 f ++ [c] ∧ count = if c.toNat = 0 then 1 else min c.toNat 32) →
    exec (.readIndex r) s =
      .next (s.replied (requestEnv 18 r) .done
        ([s.indexByte] ++ beFrame s.frontier ++ be 2 f
          ++ ((s.fit.entries.zipIdx.drop f).take count).flatMap fun x => entryBytes x.2 x.1)))) ∧
  (∀ (r : Request) (s : State), s.takesNow r → r.body = [] →
    exec (.readEvents r) s =
      .next (s.replied (requestEnv 29 r) .done
        (be 2 (flagsNum (allSources.map fun k => (s.slot (sourcePort r.source) k).enabled))
          ++ be 2 (flagsNum (allSources.map fun k => k.isLevel && (s.slot (sourcePort r.source) k).falling))
          ++ be 2 (flagsNum (allSources.map fun k => (s.slot (sourcePort r.source) k).latch.isSome))
          ++ [flagByte s.ntu.levels.fault, flagByte s.ntu.levels.halted, flagByte s.ntu.levels.unverified,
              flagByte s.ntu.levels.rollState, flagByte s.ntu.levels.queueAlmostFull]
          ++ [s.trc.cause.code]
          ++ allSources.flatMap fun k =>
            match (s.slot (sourcePort r.source) k).latch with
            | some l => [BitVec.ofNat 8 k.num, BitVec.ofNat 8 l.count] ++ l.data
            | none => [])))

/-! ### Notices (R197 to R207) -/

/-- ACK-ATTN collects the lowest-numbered source of the sending port that is enabled and latched: it clears that latch and
reports its number, data and count and how many such sources are left; with none it reports 255 and zeros; a broadcast changes
nothing (R204). -/
def Obligations.AckAttnCollectsTheMostUrgent : Prop :=
  ∀ (r : Request) (s : State), s.takesNow r → r.body = [] →
    ((∀ k, ¬((s.slot (sourcePort r.source) k).enabled = true ∧ (s.slot (sourcePort r.source) k).latch.isSome = true)) →
      exec (.ackAttn r) s =
        .next (s.replied (requestEnv 31 r) .done [255, 0, 0, 0, 0, 0, 0, 0, 0, 0, 0])) ∧
    (∀ k l, (s.slot (sourcePort r.source) k).enabled = true → (s.slot (sourcePort r.source) k).latch = some l →
      (∀ j, j.num < k.num →
        ¬((s.slot (sourcePort r.source) j).enabled = true ∧ (s.slot (sourcePort r.source) j).latch.isSome = true)) →
      (sourceBroadcast r.source = true → exec (.ackAttn r) s = .next s) ∧
      (sourceBroadcast r.source = false →
        let u := s.setSlot (sourcePort r.source) k { s.slot (sourcePort r.source) k with latch := none }
        exec (.ackAttn r) s =
          .next (u.replied (requestEnv 31 r) .done
            ([BitVec.ofNat 8 k.num] ++ l.data ++ [BitVec.ofNat 8 l.count, BitVec.ofNat 8
              (allSources.countP fun j => (u.slot (sourcePort r.source) j).enabled
                && (u.slot (sourcePort r.source) j).latch.isSome)]))))

/-- CLEAR-EVENTS clears the latches of the flagged sources of the sending port, and nothing else; its reply carries the set of
latches afterwards (R207).
SET-NOTICES sets the enables and the polarities of the sending port, each when it is given; a source that is no longer
enabled loses its latch; pulse sources take no polarity; the reply carries enables, polarities and latches (R205). -/
def Obligations.ClearEventsAndSetNotices : Prop :=
  (∀ (r : Request) (n : Nat) (s : State), s.takesNow r → n < 65536 → r.body = be 2 n →
    ∃ ports, exec (.clearEvents r) s =
        .next (State.replied (requestEnv 30 r) .done
          (be 2 (flagsNum (allSources.map fun k => ((ports.get (sourcePort r.source)).get k).latch.isSome)))
          { s with ntu.ports := ports }) ∧
      (∀ k, (ports.get (sourcePort r.source)).get k =
        if n.testBit k.num then { s.slot (sourcePort r.source) k with latch := none }
        else s.slot (sourcePort r.source) k) ∧
      (∀ q, q ≠ sourcePort r.source → ports.get q = s.ntu.ports.get q)) ∧
  (∀ (r : Request) (given : Byte) (en pol : Nat) (s : State), s.takesNow r → en < 65536 → pol < 65536 →
    r.body = [given] ++ be 2 en ++ be 2 pol →
    ∃ ports, exec (.setNotices r) s =
        .next (State.replied (requestEnv 28 r) .done
          (be 2 (flagsNum (allSources.map fun k => ((ports.get (sourcePort r.source)).get k).enabled))
            ++ be 2 (flagsNum (allSources.map fun k => k.isLevel && ((ports.get (sourcePort r.source)).get k).falling))
            ++ be 2 (flagsNum (allSources.map fun k => ((ports.get (sourcePort r.source)).get k).latch.isSome)))
          { s with ntu.ports := ports }) ∧
      (∀ k, (ports.get (sourcePort r.source)).get k =
        let old := s.slot (sourcePort r.source) k
        let on := if given.getLsbD 0 then en.testBit k.num else old.enabled
        { enabled := on
          falling := if given.getLsbD 1 && k.isLevel then pol.testBit k.num else old.falling
          latch := if old.enabled && !on then none else old.latch }) ∧
      (∀ q, q ≠ sourcePort r.source → ports.get q = s.ntu.ports.get q))

/-- An occurrence latches on a port only where its source is enabled there: the data and a count one higher (1 for a new
latch, 255 at most); on ports A and B its notice joins the outbox when a place is free, else NOTICES-MISSED latches; no notice
is queued on port C (R190, R201, R202). -/
def Obligations.OccurrenceLatchesAndNotifies : Prop :=
  ∀ (o : Occ) (s : State),
    ((s.slot o.port o.source).enabled = false → latchOne o s = s) ∧
    ((s.slot o.port o.source).enabled = true →
      (latchOne o s).slot o.port o.source =
        { s.slot o.port o.source with latch := some ⟨o.data,
            match (s.slot o.port o.source).latch with | some l => min (l.count + 1) 255 | none => 1⟩ } ∧
      (∀ p k, (p, k) ≠ (o.port, o.source) → (latchOne o s).slot p k = s.slot p k) ∧
      (∀ p, p ≠ o.port ∨ p = .c → (latchOne o s).link p = s.link p) ∧
      (o.port ≠ .c → 0 < (s.link o.port).free →
        (latchOne o s).link o.port =
          { s.link o.port with outbox := (s.link o.port).outbox ++
              [⟨0, 255, BitVec.ofNat 8 o.source.num :: o.data⟩] }) ∧
      (o.port ≠ .c → (s.link o.port).free = 0 →
        (latchOne o s).link o.port =
          { s.link o.port with flags := { (s.link o.port).flags with noticesMissed := true } }))

/-! ### Links (R178 to R195) -/

/-- CONFIGURE-LINK sets the given ones of RDY mode, threshold, CTS gating and transmit gap of the sending port and reports the
settings in force; a given mode above 2 or gating above 1 is refused (R193, R214).
LINK-STATUS reports the sending port's flags, FIFOs, outbox, lines, settings and the unit address, and clears the flags it
reports (R194). DEDUCED: one byte for each count of messages and two for each FIFO count (log entry 7), and the codes of the RDY
modes (log entry 6). MODEL'S CHOICE: the six flags in one byte (log entry 28). -/
def Obligations.LinkSettingsAndStatus : Prop :=
  (∀ (r : Request) (given mode thr gating gap : Byte) (s : State), s.takesNow r → r.body = [given, mode, thr, gating, gap] →
    (given.getLsbD 0 = true → 2 < mode.toNat →
      exec (.configureLink r) s = .next (s.replied (requestEnv 25 r) .badParam [0, 1])) ∧
    ((given.getLsbD 0 = true → mode.toNat ≤ 2) → given.getLsbD 2 = true → 1 < gating.toNat →
      exec (.configureLink r) s = .next (s.replied (requestEnv 25 r) .badParam [0, 3])) ∧
    ((given.getLsbD 0 = true → mode.toNat ≤ 2) → (given.getLsbD 2 = true → gating.toNat ≤ 1) →
      ∃ n : Link,
        exec (.configureLink r) s =
          .next (State.replied (requestEnv 25 r) .done
            [n.rdyMode.code, BitVec.ofNat 8 n.threshold, flagByte n.ctsGating, BitVec.ofNat 8 n.gap]
            (s.setLink (sourcePort r.source) n)) ∧
        n.rdyMode.code = (if given.getLsbD 0 then mode else (s.link (sourcePort r.source)).rdyMode.code) ∧
        n.threshold = (if given.getLsbD 1 then max 1 thr.toNat else (s.link (sourcePort r.source)).threshold) ∧
        n.ctsGating = (if given.getLsbD 2 then decide (gating.toNat = 1) else (s.link (sourcePort r.source)).ctsGating) ∧
        n.gap = (if given.getLsbD 3 then gap.toNat else (s.link (sourcePort r.source)).gap) ∧
        n = { s.link (sourcePort r.source) with
          rdyMode := n.rdyMode, threshold := n.threshold, ctsGating := n.ctsGating, gap := n.gap })) ∧
  (∀ (r : Request) (s : State), s.takesNow r → r.body = [] →
    let p := sourcePort r.source
    let l := s.link p
    exec (.linkStatus r) s =
      .next (State.replied (requestEnv 26 r) .done
        ([l.flags.byte] ++ be 2 l.rxBytes ++ be 2 l.txFifo.length
          ++ [BitVec.ofNat 8 l.outbox.length, BitVec.ofNat 8 l.reserved,
              BitVec.ofNat 8 (24 - l.outbox.length - l.reserved)]
          ++ (if p = .c then [BitVec.ofNat 8 l.released] else [])
          ++ [flagByte (s.rdy p), flagByte l.cts, l.rdyMode.code, BitVec.ofNat 8 l.threshold, flagByte l.ctsGating,
              BitVec.ofNat 8 l.gap, BitVec.ofNat 8 s.unitAddress.toNat])
        (s.setLink p { l with flags := ⟨false, false, false, false, false, false⟩ })))

/-- RESET-LINK and a break reset the port: its link settings, the enables and polarities of its sources and its watch return to
their defaults, its records, its run, its presentation and its exposure are gone with no message, and the other ports keep their
enables and polarities. While HALTED is set with no exposure in progress, so that nothing follows the reset, every latch of the port
is clear with its data and count, and its whole link is that of a full reset but for the CTS input and the character on the line,
so its latched link flags, its FIFOs, its outbox, its byte timer, the released mark and the driver of port C are clear; and the other
ports keep their records, the run, their links, watches and latches. RESET-LINK is answered DONE as the first message of the emptied
outbox, on port C released at once, and as broadcast it is not answered; after a break no byte and no stop bit at space is taken
until the line returns to mark (R135, R161, R176, R186, R195, R197, R208). MODEL'S CHOICE (log entry 21): QUEUE-ALMOST-FULL falls
silently. The premise on the grant in hand is part of the gate law that GrantAndGateLawsKept states. -/
def Obligations.PortResetClearsThePort : Prop :=
  (∀ (r : Request) (s : State), s.takesNow r → r.body = [] → s.gateLaw →
    ∃ t, exec (.resetLink r) s = .next t ∧ s.afterPortReset t (sourcePort r.source) ∧
      (t.link (sourcePort r.source)).awaitMark = false ∧
      (sourceBroadcast r.source = false → ∃ more, (t.link (sourcePort r.source)).outbox = replyMsg r.tag 27 [1] :: more) ∧
      (s.rqt.halted = true → s.gtu.exposure = none →
        t.link (sourcePort r.source) =
          { Link.reset with
            cts := (s.link (sourcePort r.source)).cts
            txLine := (s.link (sourcePort r.source)).txLine
            outbox := if sourceBroadcast r.source then [] else [replyMsg r.tag 27 [1]]
            released := if r.source = .c then 1 else 0 })) ∧
  (∀ (p : Port) (s : State), s.resetHeld = false → (s.link p).awaitMark = false → s.gateLaw →
    ∃ t, exec (.lineBreak p) s = .next t ∧ s.afterPortReset t p ∧ (t.link p).awaitMark = true ∧
      (s.rqt.halted = true → s.gtu.exposure = none →
        t.link p = { Link.reset with cts := (s.link p).cts, txLine := (s.link p).txLine, awaitMark := true }) ∧
      (∀ b, exec (.receiveByte p b) t = .next t) ∧ exec (.stopBitAtSpace p) t = .next t)

/-- OUTBOX_MESSAGE_MOVE frames the head of the outbox into the transmit FIFO when the FIFO has room for all of it and, on port
C, it lies before the released mark; else it waits. The place it frees may let the decoder take a message that waits in the receive
FIFO, which it then does at once (R188); with none waiting nothing follows. TRANSMIT_CHARACTER begins the next character, with CTS
gating only while CTS is active; port C drives its line while a released byte is left (R191, R192). LINE_RETURNS_TO_MARK ends the
wait after a break, with the receiver IDLE (R186); CTS_CHANGE brings the CTS level (R178); neither changes anything else. MODEL'S
CHOICES: the driver of port C is released with the last byte begun, and a TRANSMIT_CHARACTER on an empty FIFO leaves the line idle
(log entry 17); LINE_RETURNS_TO_MARK without a break changes nothing (log entry 4). -/
def Obligations.OutboxTransmitterAndLines : Prop :=
  ((∀ (p : Port) (m : OutMsg) (rest : List OutMsg) (s : State), s.resetHeld = false → (s.link p).outbox = m :: rest →
    (s.link p).txFifo.length + (framed s.unitAddress m).length ≤ 256 → (p = .c → 0 < (s.link p).released) →
    exec (.outboxMessageMove p) s =
      .next (drain p (s.setLink p { s.link p with
        outbox := rest
        released := (s.link p).released - 1
        txFifo := (s.link p).txFifo ++ framed s.unitAddress m }))) ∧
  (∀ (p : Port) (m : OutMsg) (rest : List OutMsg) (s : State), s.resetHeld = false → (s.link p).outbox = m :: rest →
    (s.link p).inbox = [] → s.lnk.c.inbox = [] →
    ((s.link p).txFifo.length + (framed s.unitAddress m).length ≤ 256 → (p = .c → 0 < (s.link p).released) →
      exec (.outboxMessageMove p) s =
        .next (s.setLink p { s.link p with
          outbox := rest
          released := (s.link p).released - 1
          txFifo := (s.link p).txFifo ++ framed s.unitAddress m })) ∧
    (256 < (s.link p).txFifo.length + (framed s.unitAddress m).length ∨ (p = .c ∧ (s.link p).released = 0) →
      exec (.outboxMessageMove p) s = .next s)) ∧
  (∀ (p : Port) (s : State), s.resetHeld = false →
    (∀ b rest, (s.link p).txFifo = b :: rest → ((s.link p).ctsGating = false ∨ (s.link p).cts = true) →
      exec (.transmitCharacter p) s =
        .next (s.setLink p { s.link p with
          txFifo := rest, txLine := some b, driving := decide (p = .c ∧ rest ≠ []) })) ∧
    (∀ b rest, (s.link p).txFifo = b :: rest → (s.link p).ctsGating = true → (s.link p).cts = false →
      exec (.transmitCharacter p) s = .next s) ∧
    ((s.link p).txFifo = [] →
      exec (.transmitCharacter p) s = .next (s.setLink p { s.link p with txLine := none, driving := false })))) ∧
  ((∀ (p : Port) (s : State),
    ((s.link p).awaitMark = true →
      exec (.lineReturnsToMark p) s = .next (s.setLink p { s.link p with awaitMark := false, rx := .idle })) ∧
    ((s.link p).awaitMark = false → exec (.lineReturnsToMark p) s = .next s)) ∧
  (∀ (p : Port) (active : Bool) (s : State),
    exec (.ctsChange p active) s = .next (s.setLink p { s.link p with cts := active })))

/-- The ends that time and noise put to a message (R183, R184, R186): a byte timeout in a stored frame or between frames is the
link error TIMEOUT, a stop bit at space FRAME (OVERRUN where a byte was lost, R185), with the receiver IDLE after the one and
in RESYNC after the other; a skipped frame ends silently; RESYNC ends IDLE. While RDY is deasserted the byte timer is held.
In RESYNC a byte is dropped; a byte of even parity that begins a frame is the link error PARITY, and its frame is
skipped (R179, R182, R183).
The last byte of a stored frame brings the checks of R183: a sum that is not 0 is the link error CHECK; a KIND of 128 or more, a
CONTINUATION flag that disagrees with the receiver's state, in AWAIT-NEXT a TAG or KIND other than the pending message's, and a fifth
frame are the link error FRAME; where a byte was lost OVERRUN takes their place (R185), and the receiver is IDLE. A frame that passes
leaves the receiver in AWAIT-NEXT with MORE set, and with MORE clear IDLE with a complete message for the decoder (R183, R188).
MODEL'S CHOICE (log entry 37): a frame that fails CHECK and another check has the one link error CHECK. -/
def Obligations.ReceiverEndsAndErrors : Prop :=
  ((∀ (p : Port) (s : State), s.resetHeld = false → s.rdy p = true →
    (∀ f, (s.link p).rx = .inFrame f → f.stored = false →
      ∃ t, exec (.byteTimeout p) s = .next t ∧ (t.link p).rx = .idle ∧ (t.link p).byteTimer = none ∧
        (t.link p).flags = (s.link p).flags ∧ t.ntu = s.ntu ∧ t.rqt = s.rqt ∧ t.trc = s.trc) ∧
    (∀ f, (s.link p).rx = .inFrame f → f.stored = true →
      ∃ t, exec (.byteTimeout p) s = .next t ∧ s.afterLinkError t p (if f.overrun then .overrun else .timeout) ∧
        (t.link p).rx = .idle ∧ (t.link p).byteTimer = none) ∧
    ((s.link p).rx = .awaitNext →
      ∃ t, exec (.byteTimeout p) s = .next t ∧ s.afterLinkError t p .timeout ∧ (t.link p).rx = .idle ∧
        (t.link p).byteTimer = none)) ∧
  (∀ (p : Port) (s : State), s.resetHeld = false → s.rdy p = false → exec (.byteTimeout p) s = .next s) ∧
  (∀ (p : Port) (s : State), s.resetHeld = false → (s.link p).awaitMark = false →
    (∀ f, (s.link p).rx = .inFrame f → f.stored = true →
      ∃ t, exec (.stopBitAtSpace p) s = .next t ∧ s.afterLinkError t p (if f.overrun then .overrun else .frame) ∧
        (t.link p).rx = .resync ∧ (t.link p).resyncTimer = some 0) ∧
    ((s.link p).rx = .awaitNext →
      ∃ t, exec (.stopBitAtSpace p) s = .next t ∧ s.afterLinkError t p .frame ∧ (t.link p).rx = .resync) ∧
    ((s.link p).rx = .idle →
      ∃ t, exec (.stopBitAtSpace p) s = .next t ∧ (t.link p).rx = .resync ∧ (t.link p).resyncTimer = some 0 ∧
        (t.link p).flags = (s.link p).flags ∧ t.ntu = s.ntu)) ∧
  (∀ (p : Port) (s : State), (s.link p).rx = .resync →
    exec (.resyncEnd p) s =
      .next (s.setLink p { s.link p with rx := .idle, byteTimer := none, resyncTimer := none }))) ∧
  (∀ (p : Port) (b : Byte) (s : State), s.resetHeld = false → (s.link p).awaitMark = false → (s.link p).inbox = [] →
    ((s.link p).rx = .resync →
      ∃ t, exec (.receiveByte p b) s = .next t ∧ (t.link p).rx = .resync ∧ (t.link p).resyncTimer = some 0 ∧
        (t.link p).flags = (s.link p).flags ∧ t.ntu = s.ntu ∧ t.rqt = s.rqt) ∧
    ((s.link p).rx = .idle → ((List.range 8).countP fun i => b.getLsbD i) % 2 = 0 →
      ∃ t f, exec (.receiveByte p b) s = .next t ∧ s.afterLinkError t p .parity ∧ (t.link p).rx = .inFrame f ∧
        f.stored = false ∧ f.seen = 1 ∧ (t.link p).byteTimer = some 0)) ∧
  (∀ (p : Port) (b : Byte) (f g : RxFrame) (s : State), s.resetHeld = false → (s.link p).awaitMark = false →
    (s.link p).inbox = [] → s.lnk.c.inbox = [] → (s.link p).rx = .inFrame f → f.stored = true → 2 ≤ f.seen →
    f.len + 2 ≤ f.seen + 1 →
    g = { f with seen := f.seen + 1, bytes := f.bytes ++ [b], inFifo := f.inFifo + 1 } →
    (f.overrun = true ∨ 256 ≤ (s.link p).rxBytes →
      ∃ t, exec (.receiveByte p b) s = .next t ∧ s.afterLinkError t p .overrun ∧ (t.link p).rx = .idle ∧
        (t.link p).byteTimer = none) ∧
    (f.overrun = false → (s.link p).rxBytes < 256 →
      (byteSum g.bytes ≠ 0 →
        ∃ t, exec (.receiveByte p b) s = .next t ∧ s.afterLinkError t p .check ∧ (t.link p).rx = .idle ∧
          (t.link p).byteTimer = none) ∧
      (byteSum g.bytes = 0 →
        (128 ≤ (g.bytes.getD 3 0).toNat ∨ (g.bytes.getD 1 0).getLsbD 6 ≠ f.continuing ∨
          f.continuing = true ∧ (∃ m, (s.link p).part = some m ∧
            (m.tag ≠ g.bytes.getD 2 0 ∨ m.kind ≠ g.bytes.getD 3 0 ∨ 4 ≤ m.frames)) →
          ∃ t, exec (.receiveByte p b) s = .next t ∧ s.afterLinkError t p .frame ∧ (t.link p).rx = .idle ∧
            (t.link p).byteTimer = none) ∧
        ((g.bytes.getD 3 0).toNat < 128 → (g.bytes.getD 1 0).getLsbD 6 = f.continuing →
          (f.continuing = true → ∀ m, (s.link p).part = some m →
            m.tag = g.bytes.getD 2 0 ∧ m.kind = g.bytes.getD 3 0 ∧ m.frames < 4) →
          ((g.bytes.getD 1 0).getLsbD 7 = true →
            exec (.receiveByte p b) s =
              .next (s.setLink p { s.link p with
                rx := .awaitNext
                part := some (joinFrame g (s.link p).part)
                byteTimer := some 0
                resyncTimer := none })) ∧
          (∀ m, m = joinFrame g (s.link p).part → (g.bytes.getD 1 0).getLsbD 7 = false →
            exec (.receiveByte p b) s =
              .next (drain p (s.setLink p { s.link p with
                rx := .idle
                part := none
                inbox := [⟨m.broadcast, m.tag, m.kind, m.body, m.inFifo⟩]
                byteTimer := none
                resyncTimer := none })))))))

/-- RECEIVE_BYTE takes the bytes of a frame. An address byte of the unit that finds the receiver IDLE begins a stored frame
(R179, R182). LEN gives a frame its count, and a count outside 3..60 ends it in RESYNC: a stored frame with the link error FRAME, or
OVERRUN where a byte was lost (R183, R185). A byte within a stored frame is stored and counted, and the byte timer restarts; a byte
that finds 256 bytes in the receive FIFO is lost, OVERRUN latches at once, and the rest of the frame is counted only (R182, R184,
R185); a byte within a skipped frame is counted. No decoder work waits here.
The bytes of a framed request message, received one after another by an idle receiver with an empty FIFO, are the message: after
the last byte the part stands as if the decoder had found exactly that message in its FIFO (R179 to R183, R188). This holds for
every request KIND below 128 and every body of up to 228 bytes, on every port. -/
def Obligations.FramedMessageIsReceived : Prop :=
  (∀ (p : Port) (b : Byte) (s : State), s.resetHeld = false → (s.link p).awaitMark = false → (s.link p).inbox = [] →
    s.lnk.c.inbox = [] →
    ((s.link p).rx = .idle → (s.link p).part = none → s.unitAddress ≠ 127 → b = addressByte s.unitAddress →
      (s.link p).rxBytes < 256 →
      exec (.receiveByte p b) s =
        .next (s.setLink p { s.link p with
          rx := .inFrame ⟨true, false, false, 1, 0, [b], 1, false⟩, byteTimer := some 0, resyncTimer := none })) ∧
    (∀ f, (s.link p).rx = .inFrame f → f.stored = true → f.seen = 1 → f.overrun = false → (s.link p).rxBytes < 256 →
      3 ≤ b.toNat % 64 → b.toNat % 64 ≤ 60 →
      exec (.receiveByte p b) s =
        .next (s.setLink p { s.link p with
          rx := .inFrame { f with seen := 2, len := b.toNat % 64, bytes := f.bytes ++ [b], inFifo := f.inFifo + 1 }
          byteTimer := some 0
          resyncTimer := none })) ∧
    (∀ f, (s.link p).rx = .inFrame f → f.stored = true → f.seen = 1 → (b.toNat % 64 < 3 ∨ 60 < b.toNat % 64) →
      ∃ t, exec (.receiveByte p b) s = .next t ∧ (t.link p).rx = .resync ∧ (t.link p).resyncTimer = some 0 ∧
        s.afterLinkError t p (if f.overrun = true ∨ 256 ≤ (s.link p).rxBytes then .overrun else .frame)) ∧
    (∀ f, (s.link p).rx = .inFrame f → f.stored = true → 2 ≤ f.seen → f.seen + 1 < f.len + 2 →
      (f.overrun = false → (s.link p).rxBytes < 256 →
        exec (.receiveByte p b) s =
          .next (s.setLink p { s.link p with
            rx := .inFrame { f with seen := f.seen + 1, bytes := f.bytes ++ [b], inFifo := f.inFifo + 1 }
            byteTimer := some 0
            resyncTimer := none })) ∧
      (256 ≤ (s.link p).rxBytes →
        exec (.receiveByte p b) s =
          .next (s.setLink p { s.link p with
            rx := .inFrame { f with seen := f.seen + 1, bytes := f.bytes ++ [b], overrun := true }
            flags := { (s.link p).flags with overrun := true }
            byteTimer := some 0
            resyncTimer := none })) ∧
      (f.overrun = true → (s.link p).rxBytes < 256 →
        exec (.receiveByte p b) s =
          .next (s.setLink p { s.link p with
            rx := .inFrame { f with seen := f.seen + 1, bytes := f.bytes ++ [b] }
            byteTimer := some 0
            resyncTimer := none }))) ∧
    (∀ f, (s.link p).rx = .inFrame f → f.stored = false → 2 ≤ f.seen → f.seen + 1 < f.len + 2 →
      exec (.receiveByte p b) s =
        .next (s.setLink p { s.link p with
          rx := .inFrame { f with seen := f.seen + 1 }, byteTimer := some 0, resyncTimer := none }))) ∧
  (∀ (p : Port) (tag kind : Byte) (body : List Byte) (s : State),
    kind.toNat < 128 → body.length ≤ 228 → s.resetHeld = false → s.unitAddress ≠ 127 →
    (s.link p).awaitMark = false → (s.link p).rx = .idle → (s.link p).part = none → (s.link p).inbox = [] →
    (p = .c ∨ s.lnk.c.inbox = []) →
    execAll ((framed s.unitAddress ⟨tag, kind, body⟩).map (Instr.receiveByte p)) s =
      .next (drain p (s.setLink p { s.link p with
        inbox := [⟨false, tag, kind, body, messageSize body⟩], byteTimer := none, resyncTimer := none })))

/-! ### The index requests (R80 to R86) -/

/-- CORRECT MERGE, SPLIT, MOVE and CLEAR-TAKEN edit the index as R81 to R84 state: MERGE removes an entry, SPLIT puts a MANUAL
entry behind one, MOVE gives one a new position and makes it MANUAL, CLEAR-TAKEN clears TAKEN in a range. P256, the splice and
the counter stay, and MERGE, SPLIT and MOVE clear every watch (R85).
CORRECT with the roll LOADED is refused INDEX-BUSY while FIT is building and OUT-OF-RANGE for a frame that is not indexed
(R80); nothing changes. -/
def Obligations.CorrectEditsOrRefuses : Prop :=
  (∀ (r : Request) (n p : Nat) (s : State), s.takesNow r → sourcePort r.source ≠ .b → n < s.fit.entries.length →
    s.fit.entries.length ≤ 16384 → p ≤ 4194303 → s.trc.roll = .loaded → s.fit.building = false →
    (r.body = be 2 n →
      ∃ t, exec (.correctMerge r) s = .next t ∧ t.fit.entries = s.fit.entries.eraseIdx n ∧
        t.fit.index = (if s.fit.entries.length = 1 then .empty else s.fit.index) ∧ s.afterEdit t) ∧
    (r.body = be 2 n ++ be 3 p → s.fit.index ≠ .full → s.fit.entries.length < 16384 → s.splitFits n p = true →
      s.trc.verified = true →
      ∃ t, exec (.correctSplit r) s = .next t ∧
        t.fit.entries =
          s.fit.entries.take (n + 1) ++ ⟨p, .manual, false, false, false, false, false⟩ :: s.fit.entries.drop (n + 1) ∧
        t.fit.index = (if s.fit.index = .opened ∧ s.fit.entries.length = 16383 then .full else s.fit.index) ∧
        s.afterEdit t) ∧
    (r.body = be 2 n ++ be 3 p → s.moveFits n p = true →
      ∃ t, exec (.correctMove r) s = .next t ∧
        t.fit.entries = s.fit.entries.modify n (fun e => { e with pos := p, kind := .manual, weak := false }) ∧
        t.fit.index = s.fit.index ∧ s.afterEdit t) ∧
    (∀ b, n ≤ b → b < s.fit.entries.length → r.body = be 2 n ++ be 2 b →
      exec (.correctClearTaken r) s =
        .next (State.replied (requestEnv 17 r) .done ([s.indexByte] ++ beFrame s.frontier)
          { s with fit.entries :=
            s.fit.entries.mapIdx fun i e => if n ≤ i ∧ i ≤ b then { e with taken := false } else e }))) ∧
  (∀ (c : Instr) (r : Request) (n p : Nat) (rest : List Byte) (s : State),
    (c = .correctMerge r ∧ rest = [] ∨ c = .correctSplit r ∧ rest = be 3 p ∨ c = .correctMove r ∧ rest = be 3 p) →
    s.takesNow r → sourcePort r.source ≠ .b → n ≤ 16383 → p ≤ 4194303 → r.body = be 2 n ++ rest → s.trc.roll = .loaded →
    (s.fit.building = true → exec c s = .next (s.replied (requestEnv 17 r) .indexBusy [])) ∧
    (s.fit.building = false → s.fit.entries.length ≤ n →
      exec c s = .next (s.replied (requestEnv 17 r) .outOfRange [])))

/-! ### Focus (R90 to R109) -/

/-- FOCUS-LOCK and FOCUS-UNLOCK: the line of the sector is locked or unlocked and made most recent, its state, value and source
kept; an absent sector takes the victim's line, PENDING; a thirteenth lock is refused (R104, R105). The focus law is that of
FocusLawKept. DEDUCED (log entry 6): the line state in the replies is VALUE 0 and PENDING 1. MODEL'S CHOICE (log entry 38): a line
allocated PENDING has the source SWEEP. -/
def Obligations.FocusLockAndUnlock : Prop :=
  ∀ (r : Request) (x : Byte) (s : State), s.takesNow r → sourcePort r.source ≠ .b → x.toNat ≤ 63 → r.body = [x] →
    s.trc.roll = .loaded → s.focusLaw →
    (s.lockedCount = 12 → (∀ n, s.lineOf x.toNat = some n → (s.focusLine n).locked = false) →
      exec (.focusLock r) s = .next (s.replied (requestEnv 20 r) .lockLimit [])) ∧
    (∀ n, s.lineOf x.toNat = some n → (s.focusLine n).locked = true ∨ s.lockedCount < 12 →
      exec (.focusLock r) s =
        .next (State.replied (requestEnv 20 r) .done
          [BitVec.ofNat 8 n, flagByte (s.focusLine n).pending, BitVec.ofNat 8
            (s.lockedCount + if (s.focusLine n).locked then 0 else 1)]
          { s with fcc := { s.fcc with
            lines := s.fcc.lines.set n { s.focusLine n with locked := true }
            lru := n :: s.fcc.lru.filter (· ≠ n) } })) ∧
    (s.lineOf x.toNat = none → s.lockedCount < 12 →
      exec (.focusLock r) s =
        .next (State.replied (requestEnv 20 r) .done
          [BitVec.ofNat 8 s.victim, 1, BitVec.ofNat 8 (s.lockedCount + 1)]
          { s with fcc := { s.fcc with
            lines := s.fcc.lines.set s.victim ⟨true, x.toNat, true, 0, .sweep, true⟩
            lru := s.victim :: s.fcc.lru.filter (· ≠ s.victim) } })) ∧
    (∀ n, s.lineOf x.toNat = some n →
      exec (.focusUnlock r) s =
        .next (State.replied (requestEnv 21 r) .done
          [BitVec.ofNat 8 n, flagByte (s.focusLine n).pending, BitVec.ofNat 8
            (s.lockedCount - if (s.focusLine n).locked then 1 else 0)]
          { s with fcc := { s.fcc with
            lines := s.fcc.lines.set n { s.focusLine n with locked := false }
            lru := n :: s.fcc.lru.filter (· ≠ n) } })) ∧
    (s.lineOf x.toNat = none →
      exec (.focusUnlock r) s =
        .next (State.replied (requestEnv 21 r) .done [BitVec.ofNat 8 s.victim, 1, BitVec.ofNat 8 s.lockedCount]
          { s with fcc := { s.fcc with
            lines := s.fcc.lines.set s.victim ⟨true, x.toNat, true, 0, .sweep, false⟩
            lru := s.victim :: s.fcc.lru.filter (· ≠ s.victim) } }))

/-- The victim is the least recent invalid line, or with no invalid line the least recent line that is not locked (R95). -/
def Obligations.VictimIsLeastRecentFree : Prop :=
  ∀ s : State, s.focusLaw →
    ∃ before after, s.fcc.lru = before ++ s.victim :: after ∧ (s.focusLine s.victim).locked = false ∧
      ((s.focusLine s.victim).valid = false → ∀ n ∈ after, (s.focusLine n).valid = true) ∧
      ((s.focusLine s.victim).valid = true →
        (∀ n ∈ s.fcc.lru, (s.focusLine n).valid = true) ∧ ∀ n ∈ after, (s.focusLine n).locked = true)

/-- FOCUS-FREE clears the locked field of every line and keeps states, values, sources, tags and the order; its DONE carries
the number of lines that were locked, and with none locked it changes nothing (R106). -/
def Obligations.FocusFreeUnlocksEveryLine : Prop :=
  ∀ (r : Request) (s : State), s.takesNow r → sourcePort r.source ≠ .b → r.body = [] → s.trc.roll = .loaded →
    exec (.focusFree r) s =
      .next (State.replied (requestEnv 22 r) .done [BitVec.ofNat 8 (s.fcc.lines.countP (·.locked))]
        { s with fcc.lines := s.fcc.lines.map fun l => { l with locked := false } }) ∧
    (s.fcc.lines.countP (·.locked) = 0 →
      exec (.focusFree r) s = .next (s.replied (requestEnv 22 r) .done [0]))

/-- FOCUS-SET stores a value by hand, clamped to 4,095: the line of the sector takes it with state VALUE and source SET and
keeps its lock, or the victim does, unlocked; the line becomes most recent; the lens does not move (R107). -/
def Obligations.FocusSetStoresTheValue : Prop :=
  ∀ (r : Request) (x : Byte) (v : Nat) (s : State), s.takesNow r → sourcePort r.source = .c → x.toNat ≤ 63 → v < 65536 →
    r.body = [x] ++ be 2 v → s.trc.roll = .loaded → s.focusLaw →
    (∀ n, s.lineOf x.toNat = some n →
      exec (.focusSet r) s =
        .next (State.replied (requestEnv 23 r) .done ([BitVec.ofNat 8 n] ++ be 2 (min 4095 v))
          { s with fcc := { s.fcc with
            lines := s.fcc.lines.set n
              { s.focusLine n with pending := false, value := min 4095 v, source := .set }
            lru := n :: s.fcc.lru.filter (· ≠ n) } })) ∧
    (s.lineOf x.toNat = none →
      exec (.focusSet r) s =
        .next (State.replied (requestEnv 23 r) .done ([BitVec.ofNat 8 s.victim] ++ be 2 (min 4095 v))
          { s with fcc := { s.fcc with
            lines := s.fcc.lines.set s.victim ⟨true, x.toNat, false, min 4095 v, .set, false⟩
            lru := s.victim :: s.fcc.lru.filter (· ≠ s.victim) } }))

/-- FOCUS-READ reports the lens, the stage, the sweep, the locked count and all lines in LRU order, and changes nothing but the
model's own count of readings and last reading (R108). While the stage is MOVING the lens position is a FREE VALUE (log entry 9)
between the position last read during the move, at first its start, and the target: the readings of one move do not run backward
(R90). Otherwise it is the lens position. DEDUCED (log entry 6): 255 in every place of a sweep that is not there, the pass coded
COARSE 0 and FINE 1, the source SWEEP 0 and SET 1. -/
def Obligations.FocusReadReportsOnly : Prop :=
  ∀ (r : Request) (s : State), s.takesNow r → r.body = [] →
    ∃ reading : Nat,
      exec (.focusRead r) s =
        .next (State.replied (requestEnv 24 r) .done
          (be 2 reading ++ [s.fcc.stage.code]
            ++ (match s.fcc.sweep with
              | some w => [BitVec.ofNat 8 w.sector, match w.pass with | .coarse => 0 | .fine => 1] ++ be 2 w.samples.length
              | none => [255, 255, 255, 255])
            ++ [BitVec.ofNat 8 (s.fcc.lines.countP (·.locked))]
            ++ s.fcc.lru.flatMap fun n => focusLineBytes n (s.focusLine n))
          { s with
            freeCount := s.freeCount + 1
            lensRead := if s.fcc.stage = .moving then some reading else s.lensRead }) ∧
      (s.fcc.stage ≠ .moving → reading = s.fcc.lens) ∧
      (∀ mv last, s.fcc.stage = .moving → s.fcc.running = some mv → s.lensRead.getD s.fcc.lens = last →
        (last ≤ mv.target → last ≤ reading ∧ reading ≤ mv.target) ∧
        (mv.target ≤ last → mv.target ≤ reading ∧ reading ≤ last))

/-- The sharpness of a focus line is the sum of the squared differences of neighbouring pixels, at most 132,909,183 for the
128 pixels of a line (R92). -/
def Obligations.SharpnessIsTheSumOfSquaredDifferences : Prop :=
  (∀ line : List (BitVec 10),
    (sharpness line : Int) =
      ((line.zip (line.drop 1)).map fun x => ((x.2.toNat : Int) - (x.1.toNat : Int)) ^ 2).sum) ∧
  (∀ line : List (BitVec 10), line.length = 128 → sharpness line ≤ 132909183) ∧
  (∀ (n : Nat) (x : BitVec 10), sharpness (List.replicate n x) = 0)

/-- The lens stage: LENS_MOVE_COMPLETE leaves the lens at the target and the stage IDLE, LENS_HOMING_COMPLETE leaves it at 0;
a lens move held meanwhile then begins, unless an exposure holds it (R90). The completion of a sweep's move requests its focus
line (R91); the completion of a last move makes the presentation of a grant in FOCUSING (R96, R99, R102, R142, R144). -/
def Obligations.LensStageComesToRest : Prop :=
  (∀ (mv : LensMove) (s : State), s.fcc.stage = .moving → s.fcc.running = some mv →
    ∃ t, exec .lensMoveComplete s = .next t ∧ t.fcc.lens = mv.target ∧ s.afterLens t ∧
      (mv.purpose = .dropped → s.fcc.held = none → t.rqt = s.rqt ∧
        t.gtu.presentation = s.gtu.presentation ∧ t.gtu.inHand = s.gtu.inHand ∧ t.fcc.sampleTimer = s.fcc.sampleTimer) ∧
      (mv.purpose = .sample → s.fcc.held = none → s.fcc.sweep.isSome = true → t.fcc.sampleTimer = some 0) ∧
      (∀ src g, mv.purpose = .final src → s.fcc.held = none → s.gtu.phase = .focusing → s.gtu.inHand = some g →
        s.gtu.exposure = none →
        t.gtu.presentation =
          some ⟨g.holder, g.frame, s.trc.epoch, src, g.hold.getD s.profile.holdTime, .none⟩ ∧
        t.gtu.phase = .presented ∧ t.gtu.inHand = none ∧ t.gtu.hold = some (g.hold.getD s.profile.holdTime) ∧
        t.gtu.watches.get g.holder.port = true)) ∧
  (∀ s : State, s.fcc.stage = .homing → s.fcc.running = none → s.resetHeld = false →
    ∃ t, exec .lensHomingComplete s = .next t ∧ t.fcc.lens = 0 ∧ s.afterLens t)

/-- A focus line answers the sample that the sweep waits for: its sharpness is recorded for the position, and the next position
of the pass is taken; a late line is discarded (R91, R92, R98, R103). With no line, the sample is requested once more, and then
the sweep ends with the default focus and FOCUS-DEFAULTED, reason NO-LINE (R91, R99, R198).
The last sample of a pass ends it. A coarse pass whose best S is below the contrast floor ends the sweep: the lens goes to the
default focus, FOCUS-DEFAULTED latches with reason LOW-CONTRAST, the table stays (R99). Else the fine pass begins around the best
position: every whole step nearer to it than the coarse step, in increasing order, with no samples yet (R100). After the fine pass
the focus value f is the vertex through the best sample and its two neighbours, or four times the best position where a neighbour
is missing or the three samples lie on one line (R101); the sector's PENDING line takes f with its lock kept, the victim takes it
where the sector has no line, a VALUE line keeps its own, the line becomes most recent, and the lens goes to f (R102). -/
def Obligations.SweepTakesItsSamples : Prop :=
  (∀ (sw : Sweep) (j k : Nat) (rest : List Nat) (line : List (BitVec 10)) (s : State), s.fcc.sweep = some sw →
    s.fcc.sampleTimer.isSome = true → sw.next = j :: k :: rest →
    ∃ t u, exec (.focusLineArrival false line) s = .next t ∧ t.fcc.sweep = some u ∧
      u.samples = sw.samples ++ [(j, sharpness line)] ∧ u.next = k :: rest ∧ u.repeatUsed = false ∧
      u.pass = sw.pass ∧ u.frame = sw.frame ∧ u.sector = sw.sector ∧
      (∀ i v, sw.best = some (i, v) → u.best = some (if v < sharpness line then (j, sharpness line) else (i, v))) ∧
      (sw.best = none → u.best = some (j, sharpness line)) ∧
      (s.fcc.stage = .idle → s.gtu.exposure = none → 4 * k ≠ s.fcc.lens →
        t.fcc.stage = .moving ∧ t.fcc.running = some ⟨4 * k, .sample⟩) ∧
      t.fcc.lines = s.fcc.lines ∧ t.fcc.lru = s.fcc.lru ∧ t.fcc.lens = s.fcc.lens ∧ t.trc.counter = s.trc.counter) ∧
  (∀ (line : List (BitVec 10)) (s : State), exec (.focusLineArrival true line) s = .next s) ∧
  (∀ (sw : Sweep) (s : State), s.fcc.sweep = some sw → s.fcc.sampleTimer.isSome = true →
    (sw.repeatUsed = false →
      exec .focusSampleTimeout s =
        .next { s with fcc := { s.fcc with sweep := some { sw with repeatUsed := true }, sampleTimer := some 0 } }) ∧
    (sw.repeatUsed = true → s.fcc.stage = .idle → s.gtu.exposure = none → s.profile.defaultFocus ≠ s.fcc.lens →
      ∃ t, exec .focusSampleTimeout s = .next t ∧ t.fcc.sweep = none ∧ t.fcc.sampleTimer = none ∧
        t.fcc.stage = .moving ∧ t.fcc.running = some ⟨s.profile.defaultFocus, .final .default⟩ ∧
        t.fcc.lines = s.fcc.lines ∧ t.fcc.lru = s.fcc.lru ∧
        ∀ p, (s.slot p .focusDefaulted).enabled = true → ∃ l, (t.slot p .focusDefaulted).latch = some l ∧
          l.data = pad8 ([BitVec.ofNat 8 sw.sector] ++ be 2 sw.frame ++ [1]))) ∧
  (∀ (sw : Sweep) (j at_ top : Nat) (line : List (BitVec 10)) (s : State), s.fcc.sweep = some sw →
    s.fcc.sampleTimer.isSome = true → sw.next = [j] → s.fcc.stage = .idle → s.gtu.exposure = none →
    (sw.best = none ∧ (at_, top) = (j, sharpness line) ∨
      ∃ i v, sw.best = some (i, v) ∧ (at_, top) = if v < sharpness line then (j, sharpness line) else (i, v)) →
    (sw.pass = .coarse → top < sw.floor → s.profile.defaultFocus ≠ s.fcc.lens →
      ∃ t, exec (.focusLineArrival false line) s = .next t ∧ t.fcc.sweep = none ∧ t.fcc.sampleTimer = none ∧
        t.fcc.stage = .moving ∧ t.fcc.running = some ⟨s.profile.defaultFocus, .final .default⟩ ∧
        t.fcc.lines = s.fcc.lines ∧ t.fcc.lru = s.fcc.lru ∧
        ∀ p, (s.slot p .focusDefaulted).enabled = true → ∃ l, (t.slot p .focusDefaulted).latch = some l ∧
          l.data = pad8 ([BitVec.ofNat 8 sw.sector] ++ be 2 sw.frame ++ [0])) ∧
    (sw.pass = .coarse → sw.floor ≤ top → at_ ≤ 1023 → 1 ≤ sw.step →
      ∃ t u, exec (.focusLineArrival false line) s = .next t ∧ t.fcc.sweep = some u ∧ u.pass = .fine ∧ u.samples = [] ∧
        u.best = none ∧ u.next = u.positions ∧ u.positions.Pairwise (· < ·) ∧
        (∀ x, x ∈ u.positions ↔ x ≤ 1023 ∧ at_ < x + sw.step ∧ x < at_ + sw.step) ∧
        u.frame = sw.frame ∧ u.sector = sw.sector ∧ u.step = sw.step ∧ t.fcc.lines = s.fcc.lines ∧
        t.fcc.lru = s.fcc.lru ∧
        (∀ x, u.positions.head? = some x → 4 * x ≠ s.fcc.lens →
          t.fcc.stage = .moving ∧ t.fcc.running = some ⟨4 * x, .sample⟩)) ∧
    (∀ f, sw.pass = .fine →
      f = refineFocus s.profile.rounding (sw.samples ++ [(j, sharpness line)]) at_ top → f ≠ s.fcc.lens →
      ∃ t, exec (.focusLineArrival false line) s = .next t ∧ t.fcc.sweep = none ∧ t.fcc.sampleTimer = none ∧
        t.fcc.stage = .moving ∧ t.fcc.running = some ⟨f, .final .sweep⟩ ∧
        (∀ n, s.lineOf sw.sector = some n →
          t.fcc.lines = s.fcc.lines.set n
            (if (s.focusLine n).pending then { s.focusLine n with pending := false, value := f, source := .sweep }
              else s.focusLine n) ∧
          t.fcc.lru = n :: s.fcc.lru.filter (· ≠ n)) ∧
        (s.lineOf sw.sector = none →
          t.fcc.lines = s.fcc.lines.set s.victim ⟨true, sw.sector, false, f, .sweep, false⟩ ∧
          t.fcc.lru = s.victim :: s.fcc.lru.filter (· ≠ s.victim)))) ∧
  (∀ (mode : Rounding) (l : List (Nat × Nat)) (j0 top a b : Nat), 0 < j0 →
    (sampleAt l (j0 - 1) = some a → sampleAt l (j0 + 1) = some b →
      (refineFocus mode l j0 top : Int) =
        if (a : Int) - 2 * top + b = 0 then 4 * (j0 : Int)
        else max 0 (4 * (j0 : Int) + roundQuot mode (2 * ((a : Int) - b)) ((a : Int) - 2 * top + b))) ∧
    (sampleAt l (j0 - 1) = none ∨ sampleAt l (j0 + 1) = none → refineFocus mode l j0 top = 4 * j0) ∧
    refineFocus mode l 0 top = 0)

/-! ### The station's switches (R33, R34, R39, R40, R43) -/

/-- SET-STATION sets the given ones of the park delay (at most 3,600 s) and the wake delay (50 to 2,000 ms), and reports both
and which were clamped; a park timer that has already run the new delay parks the transport (R43, R220). DEDUCED (log entry 7):
the clamp flags are one byte, the park delay in bit 0 and the wake delay in bit 1. -/
def Obligations.SetStationSetsTheDelays : Prop :=
  ∀ (r : Request) (given : Byte) (park wake : Nat) (s : State), s.takesNow r → sourcePort r.source = .c → park < 65536 →
    wake < 65536 → r.body = [given] ++ be 2 park ++ be 2 wake →
    ∃ t, exec (.setStation r) s = .next t ∧
      t.trc.parkDelay = (if given.getLsbD 0 then min park 3600 else s.trc.parkDelay) ∧
      t.trc.wakeDelay = (if given.getLsbD 1 then max 50 (min wake 2000) else s.trc.wakeDelay) ∧
      answersFirst s t r 32 .done
        (be 2 t.trc.parkDelay ++ be 2 t.trc.wakeDelay ++
          [(if given.getLsbD 0 && decide (3600 < park) then 1 else 0) +
            if given.getLsbD 1 && decide (wake < 50 ∨ 2000 < wake) then 2 else 0]) ∧
      (t.trc.motion = .parked ∨ t.trc.motion = s.trc.motion) ∧
      (∀ n, given.getLsbD 0 = true → s.trc.timers.park = some n → 0 < park → 1000 * min park 3600 ≤ n →
        s.mayPark = true → t.trc.motion = .parked) ∧
      (given.getLsbD 0 = false ∨ park = 0 ∨ s.trc.timers.park = none → t.trc.motion = s.trc.motion) ∧
      t.rqt = s.rqt ∧ t.fcc = s.fcc ∧ t.ntu = s.ntu ∧ t.fit.entries = s.fit.entries ∧ t.trc.counter = s.trc.counter ∧
      t.trc.epoch = s.trc.epoch ∧ t.trc.verified = s.trc.verified ∧ t.gtu.watches = s.gtu.watches

/-- HALT sets HALTED and raises its source; a moving film ramps to rest under a stop order with reason HALT, a settling move
ends at once, in WAKING the order is withdrawn while the wake goes on, and in both the record returns to WAITING and the run to
READY; presentations, watches and exposures go on (R31, R33). A rewind ramps to rest, and at rest the transport is IDLE with the roll
still REWINDING (R16). -/
def Obligations.HaltStopsTheFilm : Prop :=
  (∀ (r : Request) (s : State), s.takesNow r → sourcePort r.source = .c → r.body = [] →
    ∃ t, exec (.halt r) s = .next t ∧ t.rqt.halted = true ∧ t.ntu.levels.halted = true ∧
      answersFirst s t r 14 .done [] ∧
      (s.trc.move = none → t.trc.motion = s.trc.motion ∧ t.rqt.records = s.rqt.records ∧ t.rqt.grant = s.rqt.grant) ∧
      (∀ m, s.trc.move = some m → m.ramp ≠ .stop → m.job ≠ .rewind → s.trc.motion.moving = true →
        t.trc.motion = .decel ∧ t.trc.move = some { m with ramp := .stop } ∧ t.rqt.stopReason = .halt ∧
        t.rqt.records = s.rqt.records ∧ t.rqt.grant = s.rqt.grant) ∧
      (∀ m p tag, s.trc.move = some m → m.ramp ≠ .stop → m.job ≠ .rewind → s.trc.motion = .settling →
        s.rqt.grant = .record p tag →
        t.trc.motion = .idle ∧ t.trc.move = none ∧ t.rqt.grant = .none ∧ t.rqt.stopReason = .none ∧
        t.rqt.records =
          s.rqt.records.map fun x => if x.port = p ∧ x.tag = tag then { x with state := .waiting } else x) ∧
      (∀ m p tag, s.trc.move = some m → m.ramp ≠ .stop → m.job ≠ .rewind → s.trc.motion = .waking →
        s.rqt.grant = .record p tag →
        t.trc.motion = .waking ∧ t.trc.move = none ∧ t.trc.timers.wake = s.trc.timers.wake ∧ t.rqt.grant = .none ∧
        t.gtu.inHand = none ∧ t.rqt.stopReason = .none ∧
        t.rqt.records =
          s.rqt.records.map fun x => if x.port = p ∧ x.tag = tag then { x with state := .waiting } else x) ∧
      (∀ m x, s.trc.move = some m → m.ramp ≠ .stop → m.job ≠ .rewind →
        (s.trc.motion = .settling ∨ s.trc.motion = .waking) → s.rqt.grant = .run → s.rqt.run = some x →
        t.trc.move = none ∧ t.rqt.grant = .none ∧ t.gtu.inHand = none ∧ t.rqt.run = some { x with state := .ready } ∧
        t.rqt.records = s.rqt.records) ∧
      (∀ m, s.trc.move = some m → m.job = .rewind → m.ramp = .none → s.trc.motion.moving = true →
        t.trc.motion = .decel ∧ t.trc.move = some { m with ramp := .stop } ∧ t.rqt.records = s.rqt.records ∧
        t.rqt.grant = s.rqt.grant) ∧
      t.gtu.presentation = s.gtu.presentation ∧ t.gtu.hold = s.gtu.hold ∧ t.gtu.exposure = s.gtu.exposure ∧
      t.gtu.watches = s.gtu.watches ∧ t.trc.counter = s.trc.counter ∧ t.trc.epoch = s.trc.epoch ∧
      t.trc.roll = s.trc.roll ∧ t.fit.entries = s.fit.entries ∧ t.fcc.lines = s.fcc.lines) ∧
  (∀ (m : Move) (s : State), s.trc.move = some m → m.job = .rewind → m.ramp = .stop → s.trc.motion.moving = true →
    s.trc.roll = .rewinding → s.rqt.halted = true →
    ∃ t, exec .stopRampRest s = .next t ∧ t.trc.motion = .idle ∧ t.trc.move = none ∧ t.trc.roll = .rewinding ∧
      t.trc.counter = s.trc.counter ∧ t.trc.epoch = s.trc.epoch ∧ t.rqt = s.rqt ∧ t.gtu.watches = s.gtu.watches)

/-- RESUME clears HALTED and its source falls; it moves no film by itself but for a rewind that waited (R34). Without a waiting
record or run and with the position verified, nothing else of the transport and the arbiter changes. -/
def Obligations.ResumeClearsHalted : Prop :=
  ∀ (r : Request) (s : State), s.takesNow r → sourcePort r.source = .c → r.body = [] →
    ∃ t, exec (.resume r) s = .next t ∧ t.rqt.halted = false ∧ t.ntu.levels.halted = false ∧
      answersFirst s t r 15 .done [] ∧ t.gtu.presentation = s.gtu.presentation ∧ t.gtu.exposure = s.gtu.exposure ∧
      t.fit.entries = s.fit.entries ∧ t.fcc.lines = s.fcc.lines ∧
      (s.trc.roll = .loaded →
        t.trc.counter = s.trc.counter ∧ t.trc.endPos = s.trc.endPos ∧ t.trc.roll = .loaded) ∧
      (s.trc.roll = .loaded → s.trc.verified = true → s.rqt.records = [] → s.rqt.run = none →
        t.trc.motion = s.trc.motion ∧ t.trc.move = s.trc.move ∧ t.trc.epoch = s.trc.epoch ∧
        t.gtu.watches = s.gtu.watches ∧ t.rqt = { s.rqt with halted := false }) ∧
      (s.trc.roll = .rewinding → s.trc.motion = .idle → 0 < s.trc.counter →
        t.trc.motion = .accel ∧ t.trc.epoch = s.trc.epoch + 1 ∧
        ∃ m, t.trc.move = some m ∧ m.job = .rewind ∧ m.dir = .reverse ∧ m.legSpeed = .shuttle)

/-- CLEAR-FAULT is refused NOT-FAULTED outside FAULTED and BUSY during a re-tensioning; else it reserves its completion, starts
the re-tensioning and its timer, and leaves the transport FAULTED meanwhile (R39). RETENSION_SUCCESS makes it IDLE with cause
NONE, RETENSION_FAIL leaves it FAULTED with cause TENSION; either completes the CLEAR-FAULT (R39, R217). MODEL'S CHOICE (log
entry 30): the codes NONE 0 and TENSION 1 in these completions. -/
def Obligations.ClearFaultAndItsEnd : Prop :=
  (∀ (r : Request) (s : State), s.takesNow r → r.source = .c → r.body = [] → s.tagInUse .c r.tag = false →
    (s.trc.motion ≠ .faulted → exec (.clearFault r) s = .next (s.replied (requestEnv 16 r) .notFaulted [])) ∧
    (s.trc.motion = .faulted → s.trc.retension = true →
      exec (.clearFault r) s = .next (s.replied (requestEnv 16 r) .busy [])) ∧
    (s.trc.motion = .faulted → s.trc.retension = false →
      ∃ t, exec (.clearFault r) s = .next t ∧ answersFirst s t r 16 .accepted [] ∧
        t.trc = { s.trc with retension := true, timers := t.trc.timers } ∧ t.trc.timers.threading = some 0 ∧
        t.lnk.c.reserved = s.lnk.c.reserved + 1 ∧ t.lnk.c.outstanding = s.lnk.c.outstanding ++ [(r.tag, .clearFault)] ∧
        t.rqt = s.rqt ∧ t.fit = s.fit ∧ t.fcc = s.fcc ∧ t.ntu = s.ntu)) ∧
  (∀ (tag : Byte) (s : State), s.trc.retension = true → s.trc.timers.inWindow.isSome = true →
    s.outstandingTag .c .clearFault = some tag → s.outstandingTag .a .clearFault = none →
    s.outstandingTag .b .clearFault = none →
    ∃ t, exec .retensionSuccess s = .next t ∧ t.trc.cause = .none ∧ t.trc.retension = false ∧
      t.ntu.levels.fault = false ∧ sends s t .c (replyMsg tag 16 [78, 0]) ∧ t.trc.motion ≠ .faulted ∧
      t.fit.entries = s.fit.entries ∧ t.fcc.lines = s.fcc.lines ∧ t.rqt.halted = s.rqt.halted ∧
      (s.rqt.halted = true → t.trc.motion = .idle ∧ t.trc.counter = s.trc.counter ∧ t.trc.epoch = s.trc.epoch)) ∧
  (∀ (tag : Byte) (s : State), s.trc.retension = true → s.trc.timers.threading.isSome = true →
    s.outstandingTag .c .clearFault = some tag → s.outstandingTag .a .clearFault = none →
    s.outstandingTag .b .clearFault = none →
    ∃ t, exec .retensionFail s = .next t ∧ t.trc = { s.trc with retension := false, cause := .tension, timers := t.trc.timers } ∧
      sends s t .c (replyMsg tag 16 [71, 1]) ∧ t.rqt = s.rqt ∧ t.fit = s.fit ∧ t.fcc = s.fcc ∧
      t.ntu.levels = s.ntu.levels)

/-- A new arm reading is the level of that arm from then on; the persistence timer and the in-window timer run exactly while
their conditions hold with it, going on from where they stand (R9, R35, R39); nothing else changes but the timers.
The expiries of tension supervision, of stall supervision and of the leader timer take a fault with cause TENSION, STALL and
STALL while their conditions hold (R16, R35 to R37); a granted record completes FAULT and leaves the table. -/
def Obligations.ArmReadingsAndSupervision : Prop :=
  (∀ (arm : Arm) (reading : Byte) (s : State), s.resetHeld = false →
    ∃ t, exec (.tensionArmReading arm reading) s = .next t ∧
      t.pins = (match arm with
        | .arm1 => { s.pins with arm1 := reading }
        | .arm2 => { s.pins with arm2 := reading }) ∧
      t.trc.timers.persistence = (if t.tensionBad then some (s.trc.timers.persistence.getD 0) else none) ∧
      t.trc.timers.inWindow =
        (if (s.trc.roll = .threading ∨ s.trc.retension = true) ∧ t.armsInWindow = true then
          some (s.trc.timers.inWindow.getD 0) else none) ∧
      t = { s with pins := t.pins, trc := { s.trc with timers := t.trc.timers } }) ∧
  (∀ s : State, s.trigLaw →
    (s.trc.roll = .loaded →
      (s.trc.motion = .idle ∨ s.trc.motion.moving = true ∨ s.trc.motion = .settling) ∧ s.armsInWindow = false ∨
        (s.trc.motion = .parked ∨ s.trc.motion = .waking) ∧ s.filmBroken = true →
      s.trc.timers.persistence.isSome = true →
      ∃ t, exec .tensionPersistenceExpiry s = .next t ∧ s.afterFault t .tension ∧ s.grantFaulted t) ∧
    (s.trc.motion.moving = true → s.trc.timers.stall.isSome = true →
      ∃ t, exec .stallTimerExpiry s = .next t ∧ s.afterFault t .stall ∧ s.grantFaulted t) ∧
    (s.leaderAwaited = true → s.trc.timers.leader.isSome = true →
      ∃ t, exec .leaderTimerExpiry s = .next t ∧ s.afterFault t .stall ∧ s.grantFaulted t))

/-! ### Roll sessions (R3 to R19) -/

/-- An accepted LOAD reserves its completion, stores the profile after the clamps, starts threading with its timer and leaves
everything else; the reply lists the clamped fields (R6, R9, R213, R216). -/
def Obligations.LoadStartsThreading : Prop :=
  ∀ (r : Request) (p : Profile) (clamped : List Nat) (s : State), s.takesNow r → sourceBroadcast r.source = false →
    sourcePort r.source ≠ .b → Kind.load.lengthOk r.body = true → Kind.load.parse r.body = .ok (.load p clamped) →
    s.tagInUse (sourcePort r.source) r.tag = false →
    (s.trc.roll ≠ .empty → exec (.load r) s = .next (s.replied (requestEnv 1 r) .rollLoaded [])) ∧
    (s.trc.roll = .empty →
      ∃ t, exec (.load r) s = .next t ∧ answersFirst s t r 1 .accepted (clamped.map (BitVec.ofNat 8)) ∧
        t.trc = { s.trc with roll := .threading, profile := some p, timers := t.trc.timers } ∧
        t.trc.timers.threading = some 0 ∧
        t.trc.timers.inWindow = (if t.armsInWindow then some 0 else none) ∧
        (t.link (sourcePort r.source)).reserved = (s.link (sourcePort r.source)).reserved + 1 ∧
        (t.link (sourcePort r.source)).outstanding = (s.link (sourcePort r.source)).outstanding ++ [(r.tag, .load)] ∧
        t.rqt = s.rqt ∧ t.fit = s.fit ∧ t.fcc = s.fcc ∧ t.mkd = s.mkd ∧ t.ntu = s.ntu)

/-- The operands of a PRESENT and a RUN in each of the forms their lengths allow (R112, R162, R209, R212, R214). What check 5
lets a LOAD store: every field lies in its range after the clamps, and the three consistency checks hold (R5 to R7).
A LOAD whose body is a list of fields, none twice and none of 2 to 10 left out, stores for each field the value given, or the
default of R5, clamped into its range; the label keeps its first 32 characters, another byte value stored as 63. The clamped list
names, in increasing number, the fields whose given or default value is not the one stored, and a label of more than 32 characters
(R5, R6, R219). When a consistency check fails the LOAD is refused, and the reply names the first that fails (R7, R214). -/
def Obligations.OperandsOfLoadPresentAndRun : Prop :=
  (∀ (f n h : Nat) (c m : Byte), f ≤ 16383 → n < 65536 → h < 65536 → m.toNat ≤ 1 →
    Kind.present.parse (be 2 f) = .ok (.present f none .normal none) ∧
    Kind.present.parse (be 2 f ++ [c]) = .ok (.present f (some c.toNat) .normal none) ∧
    Kind.present.parse (be 2 f ++ [c, m]) =
      .ok (.present f (some c.toNat) (if m.toNat = 1 then .hold else .normal) none) ∧
    Kind.present.parse (be 2 f ++ [c, m] ++ be 2 h) =
      .ok (.present f (some c.toNat) (if m.toNat = 1 then .hold else .normal) (some (max 100 (min h 60000)))) ∧
    Kind.run.parse (be 2 f ++ be 2 n) = .ok (.run f n 1 false none) ∧
    Kind.run.parse (be 2 f ++ be 2 n ++ [c]) = .ok (.run f n (min c.toNat 1) false none) ∧
    Kind.run.parse (be 2 f ++ be 2 n ++ [c, m]) = .ok (.run f n (min c.toNat 1) (decide (m.toNat = 1)) none) ∧
    Kind.run.parse (be 2 f ++ be 2 n ++ [c, m] ++ be 2 h) =
      .ok (.run f n (min c.toNat 1) (decide (m.toNat = 1)) (some (max 100 (min h 60000))))) ∧
  (∀ (body : List Byte) (p : Profile) (clamped : List Nat), parseLoad body = .ok (.load p clamped) →
    p.label.length ≤ 32 ∧ (∀ b ∈ p.label, 32 ≤ b.toNat ∧ b.toNat ≤ 126) ∧ p.track ≤ 1 ∧
    64 ≤ p.pitchMin ∧ p.pitchMin ≤ p.pitchNominal ∧ p.pitchNominal ≤ p.pitchMax ∧ p.pitchMax ≤ 4000 ∧
    1 ≤ p.markOff ∧ p.markOff < p.markOn ∧ p.markOn ≤ 255 ∧ p.markStrong ≤ 255 ∧
    1 ≤ p.widthMin ∧ p.widthMin ≤ p.widthMax ∧ p.widthMax ≤ 1000 ∧ p.gateOffset ≤ 8000 ∧
    1 ≤ p.tolerance ∧ p.tolerance ≤ 20 ∧ 500 ≤ p.scanSpeed ∧ p.scanSpeed ≤ 8000 ∧
    2000 ≤ p.indexSpeed ∧ p.indexSpeed ≤ 20000 ∧ p.window ≤ p.pitchMin / 4 ∧ p.defaultFocus ≤ 4095 ∧
    8 ≤ p.sweepSpan ∧ p.sweepSpan ≤ 256 ∧ 1 ≤ p.coarseStep ∧ p.coarseStep ≤ 32 ∧ p.coarseStep ≤ p.sweepSpan ∧
    p.contrastFloor ≤ 134217728 ∧ 100 ≤ p.holdTime ∧ p.holdTime ≤ 60000 ∧ p.tensionLow ≤ p.tensionHigh ∧
    p.tensionHigh ≤ 255) ∧
  (∀ l : List (Nat × List Byte), (∀ x ∈ l, fieldFits x.1 x.2) → (l.map (·.1)).Pairwise (· ≠ ·) →
    (∀ n, 2 ≤ n → n ≤ 10 → n ∈ l.map (·.1)) →
    ∃ (p : Profile) (clamped : List Nat),
      (∀ n stored default low high, (n, stored, default, low, high) ∈ p.fields →
        stored = max low (min high (givenOr l n default)) ∧ (n ∈ clamped ↔ givenOr l n default ≠ stored)) ∧
      p.label = (((givenBytes l 0).getD []).take 32).map (fun b => if 32 ≤ b.toNat ∧ b.toNat ≤ 126 then b else 63) ∧
      (0 ∈ clamped ↔ 32 < ((givenBytes l 0).getD []).length) ∧ (∀ n ∈ clamped, n ≤ 22) ∧ clamped.Pairwise (· < ·) ∧
      Kind.load.parse (loadBody l) =
        if ¬(p.pitchMin ≤ p.pitchNominal ∧ p.pitchNominal ≤ p.pitchMax) then .error ⟨.badParam, 4, 0⟩
        else if ¬p.markOff < p.markOn then .error ⟨.badParam, 4, 1⟩
        else if ¬p.widthMin ≤ p.widthMax then .error ⟨.badParam, 4, 2⟩
        else .ok (.load p clamped))

/-- THREADING_SUCCESS ends threading: the roll is LOADED at position 0, verified, with an empty index whose pitch estimate is
256 times the nominal pitch, the detector ARMED or BLOCKED by the level of the mark track, ROLL-STATE high, and the LOAD
completes LOADED with the label and the estimate (R10, R45). THREADING_TIMEOUT gives the roll up: EMPTY without a profile, and
THREAD-FAIL (R11). MODEL'S CHOICE (log entry 23): a count byte before the label. -/
def Obligations.ThreadingEnds : Prop :=
  (∀ (track0 track1 : Byte) (port : Port) (tag : Byte) (s : State), s.trc.roll = .threading →
    s.trc.timers.inWindow.isSome = true → s.rqt.records = [] → s.rqt.run = none →
    s.outstandingTag port .load = some tag → (∀ q, q ≠ port → s.outstandingTag q .load = none) →
    ∃ t, exec (.threadingSuccess track0 track1) s = .next t ∧
      t.trc.roll = .loaded ∧ t.trc.motion = .idle ∧ t.trc.counter = 0 ∧ t.trc.verified = true ∧ t.trc.slip = 0 ∧
      t.trc.endPos = none ∧ t.trc.overrun = 0 ∧ t.trc.profile = s.trc.profile ∧ t.trc.epoch = s.trc.epoch ∧
      t.fit = { Fit.reset with p256 := 256 * s.profile.pitchNominal } ∧
      t.mkd = (if (if s.profile.track = 0 then track0 else track1).toNat < s.profile.markOn then .armed else .blocked) ∧
      t.ntu.levels.rollState = true ∧ t.rqt = s.rqt ∧ t.fcc = s.fcc ∧
      sends s t port
        (replyMsg tag 1 (75 :: (BitVec.ofNat 8 s.profile.label.length :: s.profile.label ++
          be 3 (256 * s.profile.pitchNominal))))) ∧
  (∀ (port : Port) (tag : Byte) (s : State), s.trc.roll = .threading → s.trc.timers.threading.isSome = true →
    s.outstandingTag port .load = some tag → (∀ q, q ≠ port → s.outstandingTag q .load = none) →
    ∃ t, exec .threadingTimeout s = .next t ∧
      t.trc = { s.trc with roll := .empty, profile := none, timers := t.trc.timers } ∧
      t.fit = { s.fit with p256 := 0 } ∧ t.rqt = s.rqt ∧ t.fcc = s.fcc ∧ t.mkd = s.mkd ∧
      sends s t port (replyMsg tag 1 [76]))

/-- An accepted UNLOAD answers ACCEPTED, ends every record and the run, clears the index, the focus table, the watches, the
presentation and the exposure, drops ROLL-STATE, and begins the rewind: at once from IDLE or SETTLING, through the wake from
PARKED, and not before CLEAR-FAULT from FAULTED (R13 to R15, R68, R89, R110, R161). -/
def Obligations.UnloadEndsTheSession : Prop :=
  ∀ (r : Request) (s : State), s.takesNow r → sourceBroadcast r.source = false → sourcePort r.source ≠ .b → r.body = [] →
    s.tagInUse (sourcePort r.source) r.tag = false → s.trc.roll = .loaded → s.tableLaw → s.trigLaw →
    0 < s.trc.counter →
    ∃ t, exec (.unload r) s = .next t ∧ answersFirst s t r 2 .accepted [] ∧
      t.trc.roll = .rewinding ∧ t.trc.profile = s.trc.profile ∧ t.trc.counter = s.trc.counter ∧
      t.rqt.records = [] ∧ t.rqt.run = none ∧ t.rqt.grant = .none ∧ t.rqt.halted = s.rqt.halted ∧
      t.fit.entries = [] ∧ t.fit.index = .empty ∧ t.fit.building = false ∧ t.fit.splice = false ∧ t.fit.verify = none ∧
      t.mkd = .off ∧ t.trc.slip = 0 ∧
      t.fcc.lines = List.replicate 16 ⟨false, 0, true, 0, .sweep, false⟩ ∧ t.fcc.sweep = none ∧
      t.gtu.presentation = none ∧ t.gtu.inHand = none ∧ t.gtu.exposure = none ∧ t.gtu.trig = false ∧
      (∀ p, t.gtu.watches.get p = false) ∧ t.ntu.levels.rollState = false ∧
      (∀ x ∈ s.rqt.records, ∃ results, sends s t x.port (replyMsg x.tag x.work.code (72 :: results))) ∧
      (s.rqt.halted = false → (s.trc.motion = .idle ∨ s.trc.motion = .settling) →
        t.trc.motion = .accel ∧ t.trc.epoch = s.trc.epoch + 1 ∧
        ∃ m, t.trc.move = some m ∧ m.job = .rewind ∧ m.dir = .reverse) ∧
      (s.trc.motion = .parked → t.trc.motion = .waking ∧ t.trc.timers.wake = some 0 ∧ t.trc.epoch = s.trc.epoch) ∧
      (s.trc.motion = .faulted → t.trc.motion = .faulted ∧ t.trc.epoch = s.trc.epoch)

/-- LEADER_FALL ends a rewind that runs at position 0: EMPTY, OFF, verified, no profile, no E, and the UNLOAD completes DONE
(R16); otherwise it only brings the level of the line. MODEL'S CHOICES: the end is taken while the rewind is MOVING, and OFF follows
at once with no ramp between (log entry 11); a fall that ends no rewind changes nothing more (log entry 4). -/
def Obligations.LeaderFallEndsTheRewind : Prop :=
  ∀ s : State, s.resetHeld = false →
    (s.trc.roll = .rewinding → s.rewindRuns = true → s.trc.counter = 0 →
      ∃ t, exec .leaderFall s = .next t ∧ t.trc.roll = .empty ∧ t.trc.motion = .off ∧ t.trc.move = none ∧
        t.trc.counter = 0 ∧ t.trc.verified = true ∧ t.trc.profile = none ∧ t.trc.endPos = none ∧
        t.trc.epoch = s.trc.epoch ∧ t.fit.p256 = 0 ∧ t.ntu.levels.unverified = false ∧ t.pins.leader = false ∧
        t.rqt = s.rqt ∧ t.fcc = s.fcc ∧
        (∀ port tag, s.outstandingTag port .unload = some tag → (∀ q, q ≠ port → s.outstandingTag q .unload = none) →
          sends s t port (replyMsg tag 2 [78]))) ∧
    (¬(s.trc.roll = .rewinding ∧ s.rewindRuns = true ∧ s.trc.counter = 0) →
      ∃ t, exec .leaderFall s = .next t ∧ t.pins = { s.pins with leader := false } ∧
        t.trc = { s.trc with timers := t.trc.timers } ∧ t.fit = s.fit ∧ t.fcc = s.fcc ∧ t.rqt = s.rqt ∧
        t.mkd = s.mkd ∧ t.ntu = s.ntu)

/-- END rising while the capstan moves the film forward with a roll LOADED makes the counter the end position E, closes the
index (a FULL index stays FULL and is ended), clears the building flag, and brings the motion to a ramp (R17, R19, R130). With
the film not so moving it is not acted on.
SPLICE rising records a pending splice while the building flag is set, and nothing else (R64). -/
def Obligations.EndAndSpliceRising : Prop :=
  (∀ (m : Move) (s : State), s.trc.move = some m →
    (s.trc.roll = .loaded → s.trc.motion.moving = true → m.dir = .forward → m.job ≠ .rewind → m.ramp ≠ .stop →
      s.trc.endPos = none →
      ∃ t, exec .endRising s = .next t ∧ t.trc.endPos = some s.trc.counter ∧ t.trc.counter = s.trc.counter ∧
        t.fit.index = (if s.fit.index = .full then .full else .closed) ∧ t.fit.building = false ∧
        t.fit.entries = s.fit.entries ∧ t.trc.motion = .decel ∧ t.trc.epoch = s.trc.epoch ∧
        t.trc.roll = .loaded ∧ t.trc.verified = s.trc.verified ∧ t.fcc = s.fcc ∧
        (∀ p, (s.slot p .indexClosed).enabled = true → ∃ l, (t.slot p .indexClosed).latch = some l ∧
          l.data = pad8 ([0] ++ beFrame s.frontier))) ∧
    (s.trc.roll ≠ .loaded ∨ s.trc.motion.moving = false ∨ m.dir = .reverse → exec .endRising s = .next s)) ∧
  (∀ s : State,
    (s.fit.building = true → exec .spliceRising s = .next { s with fit.splice := true }) ∧
    (s.fit.building = false → exec .spliceRising s = .next s))

/-! ### Counting, marks and the index (R18, R20, R45 to R64) -/

/-- ENCODER_COUNT with a roll LOADED and no mark in progress: a count adds or subtracts one; it does not cross 0, E or
4,194,303; beyond E it goes to the overrun count, which a reverse count takes back first (R18, R20); the stall timer restarts
(R36). A moving film whose count is lost at a bound becomes unverified (R20, R74).
IN-MARK a sample in the mark's direction at mark_off or above continues the mark: the peak, the fast and the untallied field follow;
a sample of the other direction abandons it, the detector BLOCKED at mark_off or above and else ARMED; a sample below mark_off ends
it, and an unusable mark makes no entry. BLOCKED becomes ARMED at a level below mark_off (R47 to R49). -/
def Obligations.EncoderCountMovesTheCounter : Prop :=
  (∀ (d : Dir) (x : Sample) (s : State), s.resetHeld = false → s.trc.roll = .loaded → (∀ m, s.mkd ≠ .inMark m) →
    ∃ t, exec (.encoderCount d x) s = .next t ∧
      (d = .forward → ∀ e, s.trc.endPos = some e →
        (s.trc.counter < e → t.trc.counter = s.trc.counter + 1 ∧ t.trc.overrun = s.trc.overrun) ∧
        (e ≤ s.trc.counter → t.trc.counter = s.trc.counter ∧ t.trc.overrun = s.trc.overrun + 1)) ∧
      (d = .forward → s.trc.endPos = none → t.trc.overrun = s.trc.overrun ∧
        t.trc.counter = if s.trc.counter < 4194303 then s.trc.counter + 1 else s.trc.counter) ∧
      (d = .reverse → 0 < s.trc.overrun → t.trc.counter = s.trc.counter ∧ t.trc.overrun = s.trc.overrun - 1) ∧
      (d = .reverse → s.trc.overrun = 0 → t.trc.overrun = 0 ∧ t.trc.counter = s.trc.counter - 1) ∧
      (s.trc.motion.moving = true → s.trc.verified = true →
        (t.trc.verified = false ↔
          d = .forward ∧ s.trc.endPos = none ∧ 4194303 ≤ s.trc.counter ∨
          d = .reverse ∧ s.trc.overrun = 0 ∧ s.trc.counter = 0)) ∧
      (s.trc.motion.moving = true → s.trc.timers.stall.isSome = true → t.trc.timers.stall = some 0) ∧
      t.trc.roll = .loaded ∧ t.trc.endPos = s.trc.endPos ∧ t.fit.entries = s.fit.entries ∧ t.fit.p256 = s.fit.p256 ∧
      t.pins = { s.pins with track0 := x.track0, track1 := x.track1, leader := x.leader }) ∧
  (∀ (d : Dir) (x : Sample) (level : Nat) (s : State), s.resetHeld = false → s.trc.roll = .loaded →
    level = (if s.profile.track = 0 then x.track0 else x.track1).toNat →
    (∀ m, s.mkd = .inMark m →
      ∃ t, exec (.encoderCount d x) s = .next t ∧
        (d = m.dir → s.profile.markOff ≤ level →
          t.mkd = .inMark { m with
            peak := max m.peak level
            fast := m.fast || decide (s.profile.indexSpeed < x.speed)
            untallied := m.untallied || decide (t.trc.counter = s.trc.counter) }) ∧
        (d ≠ m.dir → t.mkd = if s.profile.markOff ≤ level then .blocked else .armed) ∧
        (d = m.dir → level < s.profile.markOff → t.mkd = .armed) ∧
        (d ≠ m.dir ∨ s.profile.markOff ≤ level ∨ m.fast = true ∨ m.untallied = true ∨
            absDiff m.first t.trc.counter < s.profile.widthMin ∨ s.profile.widthMax < absDiff m.first t.trc.counter →
          t.fit.entries = s.fit.entries ∧ t.fit.p256 = s.fit.p256 ∧ t.fit.index = s.fit.index ∧
            t.fit.splice = s.fit.splice)) ∧
    (s.mkd = .blocked →
      ∃ t, exec (.encoderCount d x) s = .next t ∧ t.mkd = (if level < s.profile.markOff then .armed else .blocked) ∧
        t.fit.entries = s.fit.entries ∧ t.fit.p256 = s.fit.p256))

/-- MARKS. A count samples the selected track: in ARMED a level of mark_on or above begins a mark at the counter after the count,
with its direction, its level, whether the speed exceeded the index speed, whether the count was not tallied, and the building
flag; a level below mark_on leaves the detector ARMED (R46, R47). DEDUCED (log entry 10): that is the flag as it stands after the
count.
BUILDING. The trailing edge of a usable forward mark of a moving film, with the building flag set and an EMPTY index, makes frame
0: an OBSERVED entry at the rounded middle of the two edges, WEAK for a peak below mark_strong, with the pending splice; the index
becomes OPEN and the pitch estimate stays (R49, R50, R55). A GAP of k frames makes k - 1 FILLED entries at rounded places and the
OBSERVED one, the pending splice with the first, and moves the estimate (R59, R61). What would run past frame 16,383 is not made;
the index is then FULL and building ends, INDEX-CLOSED latches with cause FULL, and the estimate moves only with the OBSERVED entry
(R62).
RE-SYNC of a sighting that is not built, position verified. A MATCH with an OBSERVED or MANUAL entry corrects the counter within
its bounds and clears the slip counter; a MATCH with a FILLED entry confirms it where it keeps half the least pitch from its
neighbours, else changes nothing; a SLIP is counted and latched, and the third makes the position unverified; further off, or with
no entry, the sighting is discarded, as it is with the position unverified (R69 to R74).
VERIFY. In a VERIFY move not yet matched a sighting within half a pitch of its nearest anchor corrects the counter, verifies the
position and gives the stop order MATCHED; another is discarded (R78). A tallied forward count beyond the frontier limit gives the
stop order LIMIT (R77). -/
def Obligations.SightingsBuildConfirmAndCorrect : Prop :=
  (∀ (d : Dir) (x : Sample) (s : State), s.resetHeld = false → s.trc.roll = .loaded → s.mkd = .armed →
    s.trc.motion.moving = true →
    ∃ t, exec (.encoderCount d x) s = .next t ∧
      (s.profile.markOn ≤ (if s.profile.track = 0 then x.track0 else x.track1).toNat →
        t.mkd = .inMark
          { first := t.trc.counter
            dir := d
            peak := (if s.profile.track = 0 then x.track0 else x.track1).toNat
            fast := decide (s.profile.indexSpeed < x.speed)
            untallied := decide (t.trc.counter = s.trc.counter)
            building := t.fit.building }) ∧
      ((if s.profile.track = 0 then x.track0 else x.track1).toNat < s.profile.markOn → t.mkd = .armed)) ∧
  (∀ (m : Mark) (x : Sample) (s : State), s.resetHeld = false → s.trc.roll = .loaded → s.mkd = .inMark m →
    m.dir = .forward → m.fast = false → m.untallied = false → m.building = true →
    s.trc.motion.moving = true → s.trc.verified = true → s.trc.overrun = 0 → s.trc.endPos = none →
    s.trc.counter < 4194303 → s.fit.index = .empty → s.fit.entries = [] → s.fit.verify = none →
    (if s.profile.track = 0 then x.track0 else x.track1).toNat < s.profile.markOff → m.first ≤ s.trc.counter + 1 →
    s.profile.widthMin ≤ s.trc.counter + 1 - m.first → s.trc.counter + 1 - m.first ≤ s.profile.widthMax →
    ∃ t, exec (.encoderCount .forward x) s = .next t ∧
      t.fit.entries =
        [⟨(roundQuot s.profile.rounding ((m.first + (s.trc.counter + 1) : Nat) : Int) 2).toNat, .observed,
          decide (m.peak < s.profile.markStrong), false, s.fit.splice, false, false⟩] ∧
      t.fit.index = .opened ∧ t.fit.p256 = s.fit.p256 ∧ t.fit.splice = false ∧ t.mkd = .armed ∧
      t.trc.counter = s.trc.counter + 1) ∧
  (∀ (g : Sighting) (l k : Nat) (i : Int) (s : State), s.fit.index = .opened → s.frontierPos = some l →
    i = (g.centre : Int) - l → 0 < s.fit.p256 → 3 * (s.fit.p256 : Int) < 512 * i →
    (k : Int) = roundQuot s.profile.rounding (256 * i) (s.fit.p256 : Int) → k ≤ 16 → s.fit.entries.length < 16384 →
    s.trc.motion.moving = true →
    ∃ w t, buildSighting g (Ctx.start s) = w ∧ w.st = t ∧ t.trc.counter = s.trc.counter ∧ t.fit.splice = false ∧
      t.fit.entries.take s.fit.entries.length = s.fit.entries ∧
      (∀ j, 1 ≤ j → j < k → s.fit.entries.length + j ≤ 16384 →
        t.fit.entries[s.fit.entries.length + j - 1]? =
          some ⟨((l : Int) + roundQuot s.profile.rounding ((j : Int) * i) (k : Int)).toNat, .filled, false, false,
            decide (j = 1) && s.fit.splice, false, false⟩) ∧
      (s.fit.entries.length + k ≤ 16384 →
        t.fit.entries.length = s.fit.entries.length + k ∧
        t.fit.entries.getLast? = some ⟨g.centre, .observed, g.weak, false, false, false, false⟩ ∧
        t.fit.p256 =
          clampNat (256 * s.profile.pitchMin) (256 * s.profile.pitchMax)
            ((s.fit.p256 : Int) +
              roundQuot s.profile.rounding (256 * i - (k : Int) * (s.fit.p256 : Int)) (8 * (k : Int))).toNat) ∧
      (16384 < s.fit.entries.length + k → t.fit.entries.length = 16384 ∧ t.fit.p256 = s.fit.p256) ∧
      (16384 ≤ s.fit.entries.length + k → t.fit.index = .full ∧ t.fit.building = false ∧
        ∀ p, (⟨.indexClosed, p, pad8 [1, 63, 255]⟩ : Occ) ∈ w.occs) ∧
      (s.fit.entries.length + k < 16384 → t.fit.index = .opened ∧ t.fit.building = s.fit.building)) ∧
  (∀ (g : Sighting) (s : State), s.fit.verify = none →
    (s.trc.verified = true →
      s.fit.building = false ∨ g.building = false ∨ g.dir = .reverse ∨ s.fit.index = .full ∨ s.fit.index = .closed →
      (s.fit.entries = [] → takeSighting g (Ctx.start s) = Ctx.start s) ∧
      (∀ n e d, s.nearestIs (fun _ => true) g.centre n e → d = (g.centre : Int) - e.pos →
        (d.natAbs ≤ s.profile.window → e.kind ≠ .filled →
          ∃ t, (takeSighting g (Ctx.start s)).st = t ∧
            (t.trc.counter : Int) = max 0 (min ((s.trc.endPos.getD 4194303 : Nat) : Int) (s.trc.counter - d)) ∧
            t.trc.slip = 0 ∧ t.trc.verified = true ∧ t.trc.epoch = s.trc.epoch ∧ t.fit.entries = s.fit.entries ∧
            t.gtu = s.gtu ∧ t.rqt = s.rqt) ∧
        (d.natAbs ≤ s.profile.window → e.kind = .filled →
          ((∀ b, 0 < n → s.fit.entries[n - 1]? = some b → b.pos + (s.profile.pitchMin + 1) / 2 ≤ g.centre) →
            (∀ b, s.fit.entries[n + 1]? = some b → g.centre + (s.profile.pitchMin + 1) / 2 ≤ b.pos) →
            ∃ t, (takeSighting g (Ctx.start s)).st = t ∧
              t.fit.entries =
                s.fit.entries.set n { e with pos := g.centre, kind := .observed, weak := g.weak } ∧
              t.trc.counter = s.trc.counter ∧ t.trc.slip = s.trc.slip ∧ t.trc.verified = true) ∧
          ((∃ b, 0 < n ∧ s.fit.entries[n - 1]? = some b ∧ g.centre < b.pos + (s.profile.pitchMin + 1) / 2) ∨
            (∃ b, s.fit.entries[n + 1]? = some b ∧ b.pos < g.centre + (s.profile.pitchMin + 1) / 2) →
            takeSighting g (Ctx.start s) = Ctx.start s)) ∧
        (s.profile.window < d.natAbs → 512 * d.natAbs < s.fit.p256 →
          ∃ w t, takeSighting g (Ctx.start s) = w ∧ w.st = t ∧ t.trc.counter = s.trc.counter ∧
            t.fit.entries = s.fit.entries ∧
            (∀ p, (⟨.slip, p, pad8 (be 2 n ++ beInt 2 d ++ be 2 (s.trc.slip + 1))⟩ : Occ) ∈ w.occs) ∧
            (s.trc.slip < 2 → t.trc.slip = s.trc.slip + 1 ∧ t.trc.verified = true ∧ t.rqt = s.rqt ∧ t.gtu = s.gtu) ∧
            (2 ≤ s.trc.slip → t.trc.slip = 0 ∧ t.trc.verified = false ∧ t.fit.building = false ∧
              t.ntu.levels.unverified = true)) ∧
        (s.profile.window < d.natAbs → s.fit.p256 ≤ 512 * d.natAbs →
          takeSighting g (Ctx.start s) = Ctx.start s))) ∧
    (s.trc.verified = false → s.fit.building = false → takeSighting g (Ctx.start s) = Ctx.start s)) ∧
  ((∀ (g : Sighting) (v : Verify) (s : State), s.fit.verify = some v → v.hit = false →
    (∀ n e d, s.nearestIs (fun x => decide (x.kind ≠ .filled)) g.centre n e → d = (g.centre : Int) - e.pos →
      (512 * d.natAbs < s.fit.p256 →
        ∃ t, (takeSighting g (Ctx.start s)).st = t ∧ t.trc.verified = true ∧ t.trc.slip = 0 ∧
          t.ntu.levels.unverified = false ∧
          (t.trc.counter : Int) = max 0 (min ((s.trc.endPos.getD 4194303 : Nat) : Int) (s.trc.counter - d)) ∧
          t.fit.entries = s.fit.entries ∧
          (∀ m, s.trc.move = some m → m.ramp ≠ .stop → m.job = .verify → s.trc.motion.moving = true →
            t.fit.verify = some { v with hit := true } ∧ t.trc.motion = .decel ∧ t.rqt.stopReason = .matched ∧
            ∃ n, t.trc.move = some n ∧ n.ramp = .stop ∧ n.job = .verify)) ∧
      (s.fit.p256 ≤ 512 * d.natAbs → takeSighting g (Ctx.start s) = Ctx.start s)) ∧
    ((∀ e ∈ s.fit.entries, e.kind = .filled) → takeSighting g (Ctx.start s) = Ctx.start s)) ∧
  (∀ (v : Verify) (m : Move) (l : Nat) (x : Sample) (s : State), s.resetHeld = false → s.trc.roll = .loaded →
    s.mkd = .armed → (if s.profile.track = 0 then x.track0 else x.track1).toNat < s.profile.markOn →
    s.fit.verify = some v → v.limit = .frontier → v.hit = false → s.frontierPos = some l → s.trc.move = some m →
    m.ramp ≠ .stop → m.job = .verify → s.trc.motion.moving = true → s.trc.endPos = none → s.trc.counter < 4194303 →
    (s.fit.p256 : Int) < 128 * ((s.trc.counter : Int) + 1 - l - (s.profile.gateOffset : Int)) →
    ∃ t n, exec (.encoderCount .forward x) s = .next t ∧ t.trc.motion = .decel ∧ t.trc.move = some n ∧ n.ramp = .stop ∧
      t.rqt.stopReason = .limit ∧ t.trc.verified = s.trc.verified ∧ t.fit.verify = some v))

/-- A NORMAL sighting makes one entry, the next frame, at its centre: OBSERVED, WEAK as the sighting is, with the pending
splice. The frontier rises by one to the sighting's centre, and the pitch estimate moves by the rounded eighth of the difference
between the interval and the estimate, clamped to the pitch bounds (R58). -/
def Obligations.NormalSightingMakesTheNextEntry : Prop :=
  ∀ (g : Sighting) (l : Nat) (s : State), s.fit.index = .opened → s.frontierPos = some l →
    s.fit.entries.length < 16384 →
    (s.fit.p256 : Int) ≤ 512 * ((g.centre : Int) - l) → 512 * ((g.centre : Int) - l) ≤ 3 * (s.fit.p256 : Int) →
    ∃ t, (buildSighting g (Ctx.start s)).st = t ∧
      t.fit.entries = s.fit.entries ++ [⟨g.centre, .observed, g.weak, false, s.fit.splice, false, false⟩] ∧
      t.frontier = some s.fit.entries.length ∧ t.frontierPos = some g.centre ∧ t.fit.splice = false ∧
      t.fit.p256 =
        clampNat (256 * s.profile.pitchMin) (256 * s.profile.pitchMax)
          ((s.fit.p256 : Int) +
            roundQuot s.profile.rounding (256 * ((g.centre : Int) - l) - (s.fit.p256 : Int)) 8).toNat ∧
      t.trc.counter = s.trc.counter

/-- A sighting that stands more than 16 rounded pitches beyond the frontier makes one entry at its centre: OBSERVED, WEAK as the
sighting is, with BREAK-BEFORE and the pending splice. The frontier rises by one to the centre, and the estimate is not
changed (R60). -/
def Obligations.BreakSightingMakesOneEntry : Prop :=
  ∀ (g : Sighting) (l : Nat) (s : State), s.fit.index = .opened → s.frontierPos = some l → 0 < s.fit.p256 →
    s.fit.entries.length < 16384 →
    16 < roundQuot s.profile.rounding (256 * ((g.centre : Int) - l)) (s.fit.p256 : Int) →
    ∃ t, (buildSighting g (Ctx.start s)).st = t ∧
      t.fit.entries = s.fit.entries ++ [⟨g.centre, .observed, g.weak, false, s.fit.splice, true, false⟩] ∧
      t.frontier = some s.fit.entries.length ∧ t.frontierPos = some g.centre ∧ t.fit.splice = false ∧
      t.fit.p256 = s.fit.p256

/-- An EXTRA sighting makes no entry: it is discarded, and the frontier entry gets EXTRA-FOLLOWS or keeps it; the estimate, the
frontier and a pending splice stay, and nothing is announced (R57). -/
def Obligations.ExtraSightingOnlyFlagsTheFrontier : Prop :=
  ∀ (g : Sighting) (l : Nat) (s : State), s.frontierPos = some l →
    512 * ((g.centre : Int) - l) < (s.fit.p256 : Int) →
    buildSighting g (Ctx.start s) =
      Ctx.start { s with fit.entries :=
        s.fit.entries.dropLast ++ (s.fit.entries.getLast?.map fun (e : Entry) => { e with extraFollows := true }).toList } ∧
    (buildSighting g (Ctx.start s)).st.frontier = s.frontier ∧
    (buildSighting g (Ctx.start s)).st.frontierPos = s.frontierPos

/-- The frame at the gate is the indexed frame whose gate target is nearest to the counter, the lowest of several as near, when
that lies within half a pitch; it is none with no such frame, no roll LOADED, the position unverified or an overrun (R67). -/
def Obligations.FrameAtGateIsTheNearest : Prop :=
  ∀ (s : State) (n : Nat),
    s.frameAtGate = some n ↔
      s.trc.roll = .loaded ∧ s.trc.verified = true ∧ s.trc.overrun = 0 ∧
      ∃ t, s.gateTarget n = some t ∧ 512 * absDiff s.trc.counter t ≤ s.fit.p256 ∧
        ∀ j u, s.gateTarget j = some u →
          absDiff s.trc.counter t < absDiff s.trc.counter u ∨ absDiff s.trc.counter t = absDiff s.trc.counter u ∧ n ≤ j


/-! ### The request table and the run slot (R111 to R136, R162 to R177) -/

/-- An accepted PRESENT, JOG or RUN that finds no grant opportunity makes its record, or takes the run slot, WAITING or READY,
with the next arrival number, reserves its completion, and is answered ACCEPTED with the class set and the hold, or the delta;
the film does not move (R29, R112, R113, R115, R118, R162, R163). -/
def Obligations.RecordsAndTheRunAreMade : Prop :=
  (∀ (r : Request) (f : Nat) (cls : Option Nat) (mode : FocusMode) (hold : Option Nat) (s : State), s.takesNow r →
    sourceBroadcast r.source = false → Kind.present.lengthOk r.body = true →
    Kind.present.parse r.body = .ok (.present f cls mode hold) → s.tagInUse (sourcePort r.source) r.tag = false →
    s.trc.roll = .loaded → capacityRefusal .present (sourcePort r.source) s = none → s.opportunity = false →
    ∃ t c, exec (.present r) s = .next t ∧
      c = min (cls.getD (defaultClass (sourcePort r.source))) (defaultClass (sourcePort r.source)) ∧
      answersFirst s t r 3 .accepted ([BitVec.ofNat 8 c] ++ be 2 (hold.getD 0)) ∧
      s.madeRecord t (sourcePort r.source) ⟨sourcePort r.source, r.tag, .present f mode hold, c, 0, s.rqt.arrival, .waiting⟩) ∧
  (∀ (r : Request) (n : Nat) (s : State), s.takesNow r → r.source = .c → n < 16777216 → r.body = be 3 n →
    s.tagInUse .c r.tag = false → s.trc.roll = .loaded → capacityRefusal .jog .c s = none → s.opportunity = false →
    ∃ t, exec (.jog r) s = .next t ∧
      answersFirst s t r 5 .accepted (beInt 3 (max (-4194303) (min 4194303 (signed24 n)))) ∧
      s.madeRecord t .c ⟨.c, r.tag, .jog (max (-4194303) (min 4194303 (signed24 n))), 3, 0, s.rqt.arrival, .waiting⟩) ∧
  (∀ (r : Request) (f n c : Nat) (skip : Bool) (hold : Option Nat) (s : State), s.takesNow r → r.source = .a →
    Kind.run.lengthOk r.body = true → Kind.run.parse r.body = .ok (.run f n c skip hold) →
    s.tagInUse .a r.tag = false → s.trc.roll = .loaded → s.rqt.run = none → s.opportunity = false →
    ∃ t, exec (.run r) s = .next t ∧ answersFirst s t r 4 .accepted ([BitVec.ofNat 8 c] ++ be 2 (hold.getD 0)) ∧
      t.rqt = { s.rqt with
        run := some ⟨r.tag, c, s.rqt.arrival, f, if n = 0 then none else some n, 0, none, skip, hold, .ready⟩
        arrival := s.rqt.arrival + 1 } ∧
      t.lnk.a.reserved = s.lnk.a.reserved + 1 ∧ t.trc = { s.trc with timers := t.trc.timers } ∧ t.fit = s.fit ∧
      t.fcc = s.fcc)

/-- A BARRIER with nothing older of its port completes DONE at once, after its ACCEPTED, and draws an arrival number; with an
older record of its port it waits in the table (R115, R134). -/
def Obligations.BarrierWaitsForItsElders : Prop :=
  ∀ (r : Request) (s : State), s.takesNow r → sourceBroadcast r.source = false → r.body = [] →
    s.tagInUse (sourcePort r.source) r.tag = false → capacityRefusal .barrier (sourcePort r.source) s = none →
    ((∀ x ∈ s.rqt.records, x.port ≠ sourcePort r.source) → (sourcePort r.source = .a → s.rqt.run = none) →
      ∃ t, exec (.barrier r) s = .next t ∧ t.rqt.records = s.rqt.records ∧ t.rqt.arrival = s.rqt.arrival + 1 ∧
        t.trc = { s.trc with timers := t.trc.timers } ∧ t.fit = s.fit ∧ t.fcc = s.fcc ∧
        ∃ more, (t.link (sourcePort r.source)).outbox = (s.link (sourcePort r.source)).outbox ++
          [replyMsg r.tag 6 [0], replyMsg r.tag 6 [78]] ++ more) ∧
    ((∃ x ∈ s.rqt.records, x.port = sourcePort r.source ∧ older x.arrival s.rqt.arrival = true ∧ x.work ≠ .barrier) →
      (∀ x ∈ s.rqt.records, x.port = sourcePort r.source → x.work ≠ .barrier) →
      ∃ t, exec (.barrier r) s = .next t ∧ answersFirst s t r 6 .accepted [] ∧
        s.madeRecord t (sourcePort r.source)
          ⟨sourcePort r.source, r.tag, .barrier, defaultClass (sourcePort r.source), 0, s.rqt.arrival, .waiting⟩)

/-- A PRESENT of an indexed frame that finds a grant opportunity and no other work is granted at once: the record is GRANTED, GTU
takes it in hand, and an APPROACH to its gate target at SHUTTLE is ordered. From IDLE that is a motion start, which advances
the epoch and clears every watch; from PARKED waking begins first (R32, R42, R119, R126, R139). For a frame not yet indexed the
index-forward move is ordered: below the frontier an OPEN move at SHUTTLE that changes to INDEX at L, from L on first an APPROACH
back to L, with an EMPTY index an OPEN move at INDEX (R127).
RESUME makes a grant opportunity for what waits, with the index OPEN or EMPTY. With the position verified the run is granted when no
waiting PRESENT or JOG outclasses it (R122). Else a record of the highest class is granted, the one that comes before every other of
its class: ahead of the counter before behind it, then nearer, then older; a READY run that it outclasses becomes SUSPENDED (R123,
R124). Each waiting PRESENT or JOG of the winner's class gains a pass; the eighth promotes it one class, up to 3, and its passes
begin again (R125). With the position unverified the VERIFY move is granted, forward at INDEX when the counter lies at L + G or
below, else in reverse, and no pass is added; with no anchor in the index the position is verified without motion (R76, R77,
R121). -/
def Obligations.OpportunityGrantsThePresent : Prop :=
  (∀ (r : Request) (f tn : Nat) (cls : Option Nat) (mode : FocusMode) (hold : Option Nat) (s : State), s.takesNow r →
    sourceBroadcast r.source = false → Kind.present.lengthOk r.body = true →
    Kind.present.parse r.body = .ok (.present f cls mode hold) → s.tagInUse (sourcePort r.source) r.tag = false →
    s.opportunity = true → s.rqt.records = [] → s.rqt.run = none → s.trc.verified = true → s.gateTarget f = some tn →
    ∃ t rec m, exec (.present r) s = .next t ∧ t.rqt.records = [rec] ∧ rec.port = sourcePort r.source ∧
      rec.tag = r.tag ∧ rec.work = .present f mode hold ∧ rec.state = .granted ∧
      t.rqt.grant = .record (sourcePort r.source) r.tag ∧
      t.gtu.inHand = some ⟨.record (sourcePort r.source) r.tag, f, mode, hold, .shuttle⟩ ∧
      t.trc.move = some m ∧ m.job = .present ∧ m.target = tn ∧ m.speed = .shuttle ∧
      (s.trc.motion = .idle → t.trc.epoch = s.trc.epoch + 1 ∧ (∀ p, t.gtu.watches.get p = false)) ∧
      (s.trc.motion = .idle → s.trc.counter < tn - 40 → t.trc.motion = .accel ∧ m.dir = .forward ∧
        t.trc.travelDir = .forward ∧ t.gtu.phase = .positioning) ∧
      (s.trc.motion = .idle → tn - 40 < s.trc.counter → t.trc.motion = .accel ∧ m.dir = .reverse ∧
        t.trc.travelDir = .reverse ∧ t.gtu.phase = .positioning) ∧
      (s.trc.motion = .parked → t.trc.motion = .waking ∧ t.trc.timers.wake = some 0 ∧ t.trc.epoch = s.trc.epoch ∧
        t.gtu.watches = s.gtu.watches ∧ t.gtu.phase = .positioning) ∧
      t.trc.counter = s.trc.counter ∧ t.fit.entries = s.fit.entries ∧ t.fcc = s.fcc) ∧
  (∀ (r : Request) (f : Nat) (cls : Option Nat) (mode : FocusMode) (hold : Option Nat) (s : State), s.takesNow r →
    sourceBroadcast r.source = false → Kind.present.lengthOk r.body = true →
    Kind.present.parse r.body = .ok (.present f cls mode hold) → s.tagInUse (sourcePort r.source) r.tag = false →
    s.opportunity = true → s.trc.motion = .idle → s.rqt.records = [] → s.rqt.run = none → s.trc.verified = true →
    s.fit.entries.length ≤ f →
    (∀ l, s.fit.index = .opened → s.frontierPos = some l →
      ∃ t m, exec (.present r) s = .next t ∧ t.rqt.grant = .record (sourcePort r.source) r.tag ∧ t.trc.move = some m ∧
        t.trc.epoch = s.trc.epoch + 1 ∧ m.speed = .shuttle ∧
        (s.trc.counter < l → s.trc.counter < s.trc.endPos.getD 4194303 →
          m.job = .forward ∧ m.dir = .forward ∧ m.change = some (l, .index) ∧ t.trc.motion = .accel ∧
          t.trc.travelDir = .forward) ∧
        (l ≤ s.trc.counter → m.job = .returnL ∧ m.target = min l (s.trc.endPos.getD 4194303))) ∧
    (s.fit.index = .empty → s.fit.entries = [] →
      ∃ t m, exec (.present r) s = .next t ∧ t.rqt.grant = .record (sourcePort r.source) r.tag ∧ t.trc.move = some m ∧
        t.trc.epoch = s.trc.epoch + 1 ∧ m.job = .forward ∧ m.dir = .forward ∧ m.speed = .index ∧ m.change = none)) ∧
  (∀ (r : Request) (s : State), s.takesNow r → sourcePort r.source = .c → r.body = [] → s.tableLaw → s.grantLaw →
    s.trc.roll = .loaded → (s.trc.motion = .idle ∨ s.trc.motion = .parked) → s.gtu.phase = .idle →
    s.gtu.exposure = none → s.rqt.grant = .none → s.indexShut = false →
    (∀ x, s.rqt.run = some x → x.skipTaken = false ∧ x.next < 16384) →
    (∀ x, s.trc.verified = true → s.rqt.run = some x → (∀ b ∈ s.rqt.records, b.work ≠ .barrier → b.cls ≤ x.cls) →
      ∃ t, exec (.resume r) s = .next t ∧ t.rqt.grant = .run ∧ t.rqt.run = some { x with state := .granted } ∧
        t.rqt.records = s.rqt.records.map (Record.afterPass x.cls) ∧ t.rqt.halted = false) ∧
    (∀ w, s.trc.verified = true → w ∈ s.rqt.records → w.work ≠ .barrier →
      (∀ b ∈ s.rqt.records, b.work ≠ .barrier → b.cls < w.cls ∨ b.cls = w.cls ∧ (b = w ∨ s.comesBefore w b)) →
      (∀ x, s.rqt.run = some x → x.cls < w.cls) →
      ∃ t, exec (.resume r) s = .next t ∧ t.rqt.grant = .record w.port w.tag ∧
        t.rqt.records =
          s.rqt.records.map (fun b => if b = w then { b with state := .granted } else b.afterPass w.cls) ∧
        t.rqt.run = s.rqt.run.map (fun x => if x.state = .ready then { x with state := .suspended } else x) ∧
        t.rqt.halted = false) ∧
    (∀ l, s.trc.verified = false → (∃ e ∈ s.fit.entries, e.kind ≠ .filled) → s.frontierPos = some l →
      ∃ t m, exec (.resume r) s = .next t ∧ t.rqt.grant = .verify ∧ t.rqt.records = s.rqt.records ∧
        t.rqt.run = s.rqt.run ∧ t.trc.verified = false ∧ t.trc.move = some m ∧ m.job = .verify ∧ m.speed = .index ∧
        (s.trc.counter ≤ l + s.profile.gateOffset →
          m.dir = .forward ∧ t.fit.verify = some ⟨.forward, .frontier, false⟩) ∧
        (l + s.profile.gateOffset < s.trc.counter →
          m.dir = .reverse ∧ t.fit.verify = some ⟨.reverse, .zero, false⟩) ∧
        (s.trc.motion = .idle → t.trc.epoch = s.trc.epoch + 1) ∧
        (s.trc.motion = .parked → t.trc.motion = .waking ∧ t.trc.epoch = s.trc.epoch)) ∧
    (s.trc.verified = false → (∀ e ∈ s.fit.entries, e.kind = .filled) → s.rqt.records = [] → s.rqt.run = none →
      ∃ t, exec (.resume r) s = .next t ∧ t.trc.verified = true ∧ t.ntu.levels.unverified = false ∧
        t.rqt.grant = .none ∧ t.trc.motion = s.trc.motion ∧ t.trc.epoch = s.trc.epoch ∧
        t.gtu.watches = s.gtu.watches)) ∧
  (∀ (r : Record) (s : State),
    (∀ n mode hold t, r.work = .present n mode hold → s.gateTarget n = some t → s.seekTarget r = t) ∧
    (∀ n mode hold e, r.work = .present n mode hold → s.gateTarget n = none → s.estimate n = some e →
      (s.seekTarget r : Int) =
        max 0 (min ((s.trc.endPos.getD 4194303 : Nat) : Int) (e + (s.profile.gateOffset : Int)))) ∧
    (∀ d, r.work = .jog d →
      (s.seekTarget r : Int) = max 0 (min ((s.trc.endPos.getD 4194303 : Nat) : Int) ((s.trc.counter : Int) + d))))

/-- CANCEL of a tag that the port does not hold is refused NOT-FOUND-TAG. A WAITING record completes CANCELLED; a GRANTED one
whose film moves does so and the film ramps to rest with the grant none; a presentation that is EXPOSING is cancelled only when
the exposure ends. CANCEL of the run's tag does the same to the run, whose completion carries its counts and frames (R173, R174).
CANCEL-ALL does that to every record and the run of the port and reports how many it found: each completes CANCELLED (R31, R132,
R133, R150, R174). -/
def Obligations.CancelEndsThePortsWork : Prop :=
  (∀ (r : Request) (tag : Byte) (s : State), s.takesNow r → r.body = [tag] → s.tableLaw →
    (s.findRecord (sourcePort r.source) tag = none → s.runTagged (sourcePort r.source) tag = none →
      exec (.cancel r) s = .next (s.replied (requestEnv 7 r) .notFoundTag [])) ∧
    (∀ x, s.findRecord (sourcePort r.source) tag = some x →
      ∃ t, exec (.cancel r) s = .next t ∧ answersFirst s t r 7 .done [] ∧ t.fit.entries = s.fit.entries ∧
        t.trc.counter = s.trc.counter ∧ t.fcc.lines = s.fcc.lines ∧ t.rqt.halted = s.rqt.halted ∧
        (x.state = .waiting ∨ x.state = .granted ∨ s.gtu.phase ≠ .exposing →
          (∀ y ∈ t.rqt.records, ¬(y.port = sourcePort r.source ∧ y.tag = tag)) ∧
          ∃ results, sends s t (sourcePort r.source) (replyMsg tag x.work.code (67 :: results))) ∧
        (∀ m, x.state = .granted → s.gtu.phase ≠ .focusing → s.trc.move = some m → m.ramp ≠ .stop →
          s.trc.motion.moving = true → s.rqt.grant = .record (sourcePort r.source) tag →
          t.trc.motion = .decel ∧ t.rqt.grant = .none ∧ t.gtu.inHand = none ∧
          ∃ n, t.trc.move = some n ∧ n.ramp = .stop) ∧
        (∀ z, x.state = .atGate → s.gtu.phase = .exposing → s.gtu.presentation = some z → z.deferred = .none →
          t.gtu.presentation = some { z with deferred := .cancelled } ∧ t.rqt.records = s.rqt.records))) ∧
  (∀ (r : Request) (s : State), s.takesNow r → r.body = [] →
    ∃ t, exec (.cancelAll r) s = .next t ∧
      answersFirst s t r 8 .done
        [BitVec.ofNat 8 ((s.rqt.records.countP fun x => decide (x.port = sourcePort r.source)) +
          if sourcePort r.source = .a ∧ s.rqt.run.isSome = true then 1 else 0)] ∧
      (s.gtu.phase ≠ .exposing →
        (∀ x ∈ t.rqt.records, x.port ≠ sourcePort r.source) ∧ (sourcePort r.source = .a → t.rqt.run = none) ∧
        (∀ x ∈ s.rqt.records, x.port = sourcePort r.source →
          sends s t x.port (replyMsg x.tag x.work.code (67 :: s.recordResults x))) ∧
        (∀ x, sourcePort r.source = .a → s.rqt.run = some x →
          sends s t .a (replyMsg x.tag 4 (67 :: (be 2 x.presented ++ beFrame x.last ++ be 2 x.next
            ++ be 3 (x.remaining.getD 16777215)))))) ∧
      t.rqt.halted = s.rqt.halted ∧ t.fit.entries = s.fit.entries ∧ t.trc.counter = s.trc.counter) ∧
  (∀ (r : Request) (x : Run) (s : State), s.takesNow r → sourcePort r.source = .a → s.rqt.run = some x →
    r.body = [x.tag] → s.tableLaw →
    ∃ t, exec (.cancel r) s = .next t ∧ answersFirst s t r 7 .done [] ∧ t.fit.entries = s.fit.entries ∧
      t.trc.counter = s.trc.counter ∧ t.rqt.halted = s.rqt.halted ∧
      (x.state ≠ .atGate ∨ s.gtu.phase ≠ .exposing →
        t.rqt.run = none ∧
        sends s t .a (replyMsg x.tag 4 (67 :: (be 2 x.presented ++ beFrame x.last ++ be 2 x.next
          ++ be 3 (x.remaining.getD 16777215))))) ∧
      (∀ m, x.state = .granted → s.gtu.phase ≠ .focusing → s.trc.move = some m → m.ramp ≠ .stop →
        s.trc.motion.moving = true → s.rqt.grant = .run →
        t.trc.motion = .decel ∧ t.rqt.grant = .none ∧ t.gtu.inHand = none ∧ ∃ n, t.trc.move = some n ∧ n.ramp = .stop) ∧
      (∀ z, x.state = .atGate → s.gtu.phase = .exposing → s.gtu.presentation = some z → z.deferred = .none →
        t.gtu.presentation = some { z with deferred := .cancelled } ∧ t.rqt.run = some x))

/-! ### The gate (R137 to R161) -/

/-- TAKE and RELEASE by the holder of a presentation in PRESENTED end it: DONE first, then TAKEN or RELEASED of the record with
the frame and the epoch; TAKE sets TAKEN on the entry. While EXPOSING they record a deferred end; by anyone else, or without a
presentation, they are refused NOT-PRESENTED. A run whose frame is taken or released goes on with the frame after it and one
frame fewer to come, and completes COMPLETE with the last one (R147 to R151, R171, R173). -/
def Obligations.TakeAndReleaseEndThePresentation : Prop :=
  ∀ (r : Request) (tag : Byte) (s : State), s.takesNow r → r.body = [tag] →
    ((∀ x, s.gtu.presentation = some x → ¬(x.holder.port = sourcePort r.source ∧ x.holder.tag = tag)) →
      exec (.take r) s = .next (s.replied (requestEnv 9 r) .notPresented []) ∧
      exec (.release r) s = .next (s.replied (requestEnv 10 r) .notPresented [])) ∧
    (∀ x, s.gtu.presentation = some x → x.holder.port = sourcePort r.source → x.holder.tag = tag →
      s.gtu.phase = .exposing → x.deferred = .none →
      ∃ t u, exec (.take r) s = .next t ∧ exec (.release r) s = .next u ∧
        answersFirst s t r 9 .done [] ∧ answersFirst s u r 10 .done [] ∧
        t.gtu = { s.gtu with presentation := some { x with deferred := .taken } } ∧
        u.gtu = { s.gtu with presentation := some { x with deferred := .released } } ∧
        t.fit = { s.fit with entries := s.fit.entries.modify x.frame fun e => { e with taken := true } } ∧
        u.fit = s.fit ∧ t.rqt = s.rqt ∧ u.rqt = s.rqt ∧ t.fcc = s.fcc ∧ u.fcc = s.fcc) ∧
    (∀ x y, s.gtu.presentation = some x → x.holder = .record (sourcePort r.source) tag → s.gtu.phase = .presented →
      s.findRecord (sourcePort r.source) tag = some y → y.work.code = 3 →
      ∃ t u, exec (.take r) s = .next t ∧ exec (.release r) s = .next u ∧
        answersFirst s t r 9 .done [] ∧ answersFirst s u r 10 .done [] ∧
        t.gtu.presentation = none ∧ u.gtu.presentation = none ∧ t.gtu.hold = none ∧ u.gtu.hold = none ∧
        t.fit.entries = (s.fit.entries.modify x.frame fun e => { e with taken := true }) ∧
        u.fit.entries = s.fit.entries ∧ t.trc.counter = s.trc.counter ∧ u.trc.counter = s.trc.counter ∧
        t.fcc = s.fcc ∧ u.fcc = s.fcc ∧
        (∀ z ∈ t.rqt.records, ¬(z.port = sourcePort r.source ∧ z.tag = tag)) ∧
        (∀ z ∈ u.rqt.records, ¬(z.port = sourcePort r.source ∧ z.tag = tag)) ∧
        sends s t (sourcePort r.source) (replyMsg tag 3 (64 :: s.recordResults y)) ∧
        sends s u (sourcePort r.source) (replyMsg tag 3 (65 :: s.recordResults y))) ∧
    (∀ x y, s.gtu.presentation = some x → x.holder = .run tag → sourcePort r.source = .a → s.gtu.phase = .presented →
      s.rqt.run = some y → y.skipTaken = false → s.fit.index = .opened → x.frame < 16383 → s.rqt.halted = true →
      ∃ t u, exec (.take r) s = .next t ∧ exec (.release r) s = .next u ∧
        answersFirst s t r 9 .done [] ∧ answersFirst s u r 10 .done [] ∧
        t.gtu.presentation = none ∧ u.gtu.presentation = none ∧
        t.fit.entries = (s.fit.entries.modify x.frame fun e => { e with taken := true }) ∧
        u.fit.entries = s.fit.entries ∧
        (y.remaining = some 1 → t.rqt.run = none ∧ u.rqt.run = none ∧
          sends s t .a (replyMsg y.tag 4
            (73 :: (be 2 y.presented ++ beFrame y.last ++ be 2 (x.frame + 1) ++ [0, 0, 0]))) ∧
          sends s u .a (replyMsg y.tag 4
            (73 :: (be 2 y.presented ++ beFrame y.last ++ be 2 (x.frame + 1) ++ [0, 0, 0])))) ∧
        ((∀ n, y.remaining = some n → 2 ≤ n) →
          t.rqt.run =
            some { y with next := x.frame + 1, remaining := y.remaining.map (· - 1), state := .ready } ∧
          u.rqt.run = t.rqt.run ∧ t.rqt.grant = .none ∧ u.rqt.grant = .none))

/-- EXPOSE makes GTU's checks in order: NO-WATCH, NOT-OWNER, BUSY. When they pass it reserves its completion, records the frame
at the gate and the epoch, asserts TRIG, names the port on ROUTE1 and ROUTE0, and with a presentation enters EXPOSING and stops the
hold timer; it has no immediate reply and keeps the watch (R154, R155). -/
def Obligations.ExposeStartsAnExposure : Prop :=
  ∀ (r : Request) (s : State), s.takesNow r → sourceBroadcast r.source = false → r.body = [] → s.trc.roll = .loaded →
    s.tagInUse (sourcePort r.source) r.tag = false →
    (s.gtu.watches.get (sourcePort r.source) = false →
      exec (.expose r) s = .next (s.replied (requestEnv 12 r) .noWatch [])) ∧
    (∀ x, s.gtu.watches.get (sourcePort r.source) = true → s.gtu.presentation = some x →
      x.holder.port ≠ sourcePort r.source →
      exec (.expose r) s = .next (s.replied (requestEnv 12 r) .notOwner [])) ∧
    (s.gtu.watches.get (sourcePort r.source) = true →
      (∀ x, s.gtu.presentation = some x → x.holder.port = sourcePort r.source) →
      (s.gtu.exposure.isSome = true → exec (.expose r) s = .next (s.replied (requestEnv 12 r) .busy [])) ∧
      (s.gtu.exposure = none →
        ∃ t, exec (.expose r) s = .next t ∧
          t.gtu.exposure =
            some ⟨sourcePort r.source, r.tag, s.frameAtGate, s.trc.epoch, s.gtu.presentation.isSome, 0⟩ ∧
          t.gtu.trig = true ∧ t.gtu.route = some (sourcePort r.source) ∧
          (t.route1, t.route0) =
            (match sourcePort r.source with
            | .a => (false, true)
            | .b => (true, false)
            | .c => (true, true)) ∧
          t.gtu.watches = s.gtu.watches ∧
          t.gtu.presentation = s.gtu.presentation ∧
          (s.gtu.presentation.isSome = true → t.gtu.phase = .exposing ∧ t.gtu.hold = none) ∧
          (s.gtu.presentation = none → t.gtu.hold = s.gtu.hold) ∧
          (t.link (sourcePort r.source)).outbox = (s.link (sourcePort r.source)).outbox ∧
          (t.link (sourcePort r.source)).reserved = (s.link (sourcePort r.source)).reserved + 1 ∧
          t.rqt = s.rqt ∧ t.fit = s.fit ∧ t.fcc = s.fcc ∧ t.ntu = s.ntu ∧
          t.trc = { s.trc with timers := t.trc.timers }))

/-- EXPDONE rising and the exposure timer end an exposure: TRIG drops, the record is discarded, the EXPOSE completes DONE or
EXPOSE-TIMEOUT with the frame and epoch of the record; a presentation that was exposed without a deferred end is PRESENTED
again with its full hold, and with the deferred end TAKEN it ends; with no exposure in progress either is ignored (R150, R156,
R157). -/
def Obligations.ExposureEnds : Prop :=
  ∀ s : State,
    (s.gtu.exposure = none → exec .expdoneRising s = .next s ∧ exec .exposureTimerExpiry s = .next s) ∧
    (∀ e, s.gtu.exposure = some e →
      ∃ t u, exec .expdoneRising s = .next t ∧ exec .exposureTimerExpiry s = .next u ∧
        t.gtu.exposure = none ∧ u.gtu.exposure = none ∧ t.gtu.trig = false ∧ u.gtu.trig = false ∧
        t.gtu.route = s.gtu.route ∧ u.gtu.route = s.gtu.route ∧
        sends s t e.port (replyMsg e.tag 12 (78 :: (beFrame e.frame ++ be 2 e.epoch.toNat))) ∧
        sends s u e.port (replyMsg e.tag 12 (77 :: (beFrame e.frame ++ be 2 e.epoch.toNat))) ∧
        t.trc.counter = s.trc.counter ∧ u.trc.counter = s.trc.counter ∧ t.fit.entries = s.fit.entries ∧
        u.fit.entries = s.fit.entries ∧ t.fcc.lines = s.fcc.lines ∧ u.fcc.lines = s.fcc.lines ∧
        (∀ x, e.withPresentation = true → s.gtu.presentation = some x → x.deferred = .none → s.gtu.heldReport = none →
          t.gtu.presentation = some x ∧ t.gtu.phase = .presented ∧ t.gtu.hold = some x.hold ∧
          u.gtu.presentation = some x ∧ u.gtu.phase = .presented ∧ u.gtu.hold = some x.hold) ∧
        (∀ x, e.withPresentation = true → s.gtu.presentation = some x → x.deferred ≠ .none → s.gtu.heldReport = none →
          s.fcc.held = none → t.gtu.presentation = none ∧ u.gtu.presentation = none))

/-- The hold timer expires in PRESENTED: LAPSED latches on the holder's port, the record completes LAPSED and leaves the table,
and the presentation is gone; TAKEN, the film, the lens and, without a new motion start, the watches stay (R146). A run whose
frame lapses completes LAPSED with its next frame and remaining count as they stand, and its slot is empty; LAPSED latches on port A
with the run's tag (R172, R173). -/
def Obligations.HoldExpiryLapsesThePresentation : Prop :=
  (∀ (p : Port) (tag : Byte) (x : Presentation) (y : Record) (s : State), s.gtu.presentation = some x →
    x.holder = .record p tag → s.gtu.phase = .presented → s.gtu.hold.isSome = true → s.findRecord p tag = some y →
    ∃ t, exec .holdTimerExpiry s = .next t ∧ t.gtu.presentation = none ∧ t.gtu.hold = none ∧
      (∀ z ∈ t.rqt.records, ¬(z.port = p ∧ z.tag = tag)) ∧
      sends s t p (replyMsg y.tag y.work.code (66 :: s.recordResults y)) ∧
      t.fit.entries = s.fit.entries ∧ t.trc.counter = s.trc.counter ∧ t.fcc = s.fcc ∧
      (s.rqt.halted = true → t.gtu.phase = .idle ∧ t.rqt.grant = .none ∨ s.rqt.grant ≠ .record p tag) ∧
      (s.rqt.halted = true → t.gtu.watches = s.gtu.watches ∧ t.trc.motion = s.trc.motion) ∧
      ((s.slot p .lapsed).enabled = true → ∃ l, (t.slot p .lapsed).latch = some l ∧
        l.data = pad8 ([tag] ++ be 2 x.frame))) ∧
  (∀ (tag : Byte) (x : Presentation) (y : Run) (s : State), s.gtu.presentation = some x → x.holder = .run tag →
    s.gtu.phase = .presented → s.gtu.hold.isSome = true → s.rqt.run = some y →
    ∃ t, exec .holdTimerExpiry s = .next t ∧ t.gtu.presentation = none ∧ t.gtu.hold = none ∧ t.rqt.run = none ∧
      sends s t .a (replyMsg y.tag 4 (66 :: (be 2 y.presented ++ beFrame y.last ++ be 2 y.next
        ++ be 3 (y.remaining.getD 16777215)))) ∧
      t.fit.entries = s.fit.entries ∧ t.trc.counter = s.trc.counter ∧ t.fcc = s.fcc ∧
      (s.rqt.halted = true → t.gtu.phase = .idle ∧ t.gtu.watches = s.gtu.watches ∧ t.trc.motion = s.trc.motion ∧
        (s.rqt.grant = .run → t.rqt.grant = .none)) ∧
      ((s.slot .a .lapsed).enabled = true → ∃ l, (t.slot .a .lapsed).latch = some l ∧
        l.data = pad8 ([tag] ++ be 2 x.frame)))

/-! ### The ends of legs and moves (R24 to R31, R40 to R42) -/

/-- LEGS. A travel leg at rest at its approach point goes on with CREEP-IN, or settles when nothing is left to creep; a JOG at rest
at its target, within the settle tolerance, settles; CREEP-IN at rest settles, and the settle limit runs from there (R25, R26, R28,
R29). That a JOG at rest within the tolerance settles also where it has passed its target is DEDUCED (log entry 12), and
also at E with an overrun is the MODEL'S CHOICE (log entry 31). A count that leaves at most one count of a creep puts it into DECEL
(R26).
RAMPS. A stopped move of a granted record at rest is over, the grant is none and the record waits again (R31, R131); a film that
ramped for an overshoot or END begins its new leg, which is DEDUCED for the row STOP_RAMP_REST (log entry 12), and the epoch stays
(R19, R30). A matched VERIFY move at rest is over and its record is discarded; one that a limit or END stopped without a match is
the fault VERIFY-FAIL, one that HALT stopped is not (R78, R79, R121).
BOUNDS. An OPEN move at rest at its bound ends BOUND: the record that waited for its frame completes NOT-FOUND, the run COMPLETE, and
a VERIFY move without a match is the fault VERIFY-FAIL (R23, R79, R121, R130, R168). -/
def Obligations.LegsGoOnToSettling : Prop :=
  (∀ (m : Move) (s : State), s.trc.move = some m →
    (m.ramp = .none → m.creepIn = false → (m.job = .present ∨ m.job = .returnL) → s.trc.counter = m.target - 40 →
      (s.trc.motion = .accel ∨ s.trc.motion = .cruise ∨ s.trc.motion = .decel) →
      ∃ t n, exec .travelLegRest s = .next t ∧ t.trc.move = some n ∧ n.target = m.target ∧ n.job = m.job ∧
        t.trc.speed = 0 ∧ s.sameCourse t ∧
        (s.trc.counter < m.target → t.trc.motion = (if m.target ≤ s.trc.counter + 1 then .decel else .creepIn) ∧
          n.creepIn = true ∧ n.ramp = .none ∧ n.dir = .forward ∧ n.legSpeed = .creep) ∧
        (m.target ≤ s.trc.counter → t.trc.motion = .settling ∧ t.trc.timers.settleLimit = some 0)) ∧
    (m.ramp = .none → m.creepIn = false → m.job = .jog → absDiff s.trc.counter m.target ≤ s.profile.tolerance →
      (s.trc.motion = .accel ∨ s.trc.motion = .cruise ∨ s.trc.motion = .decel) →
      ∃ t, exec .travelLegRest s = .next t ∧ t.trc.move = some m ∧ t.trc.motion = .settling ∧
        t.trc.timers.settleLimit = some 0 ∧ s.sameCourse t) ∧
    (m.creepIn = true → m.ramp = .none → (s.trc.motion = .creepIn ∨ s.trc.motion = .decel) →
      ∃ t, exec .creepRest s = .next t ∧ t.trc.move = some { m with creepIn := false } ∧ t.trc.motion = .settling ∧
        t.trc.timers.settleLimit = some 0 ∧ t.trc.speed = 0 ∧ s.sameCourse t) ∧
    (∀ x, m.creepIn = true → m.ramp = .none → s.trc.motion = .creepIn → s.resetHeld = false → s.trc.roll = .loaded →
      s.mkd = .armed → (if s.profile.track = 0 then x.track0 else x.track1).toNat < s.profile.markOn →
      s.fit.verify = none → s.trc.endPos = none → s.trc.counter < 4194303 →
      ∃ t, exec (.encoderCount .forward x) s = .next t ∧ t.trc.counter = s.trc.counter + 1 ∧ t.trc.move = some m ∧
        t.trc.motion = (if m.target ≤ s.trc.counter + 2 then .decel else .creepIn))) ∧
  (∀ (m : Move) (s : State), s.trc.move = some m → s.trc.motion.moving = true →
    (∀ p tag, m.ramp = .stop → m.job ≠ .rewind → s.rqt.grant = .record p tag → s.rqt.halted = true →
      ∃ t, exec .stopRampRest s = .next t ∧ t.trc.motion = .idle ∧ t.trc.move = none ∧ t.rqt.grant = .none ∧
        t.rqt.stopReason = .none ∧ t.gtu.inHand = none ∧
        t.rqt.records =
          s.rqt.records.map (fun x => if x.port = p ∧ x.tag = tag then { x with state := .waiting } else x) ∧
        s.sameCourse t) ∧
    (m.ramp = .replan → m.job = .present → s.trc.counter < m.target - 40 →
      ∃ t n, exec .stopRampRest s = .next t ∧ t.trc.motion = .accel ∧ t.trc.move = some n ∧ n.dir = .forward ∧
        n.ramp = .none ∧ n.target = m.target ∧ n.job = .present ∧ t.trc.epoch = s.trc.epoch ∧
        t.trc.counter = s.trc.counter ∧ t.rqt = s.rqt) ∧
    (∀ v, m.ramp = .stop → m.job = .verify → s.rqt.grant = .verify → s.fit.verify = some v →
      (v.hit = true → s.trc.verified = true → s.rqt.records = [] → s.rqt.run = none →
        ∃ t, exec .stopRampRest s = .next t ∧ t.trc.motion = .idle ∧ t.trc.move = none ∧ t.rqt.grant = .none ∧
          t.fit.verify = none ∧ s.sameCourse t) ∧
      (v.hit = false → s.rqt.stopReason = .halt → s.rqt.halted = true →
        ∃ t, exec .stopRampRest s = .next t ∧ t.trc.motion = .idle ∧ t.trc.move = none ∧ t.rqt.grant = .none ∧
          t.fit.verify = none ∧ s.sameCourse t) ∧
      (v.hit = false → s.rqt.stopReason ≠ .halt → s.trigLaw →
        ∃ t, exec .stopRampRest s = .next t ∧ s.afterFault t .verifyFail))) ∧
  (∀ (m : Move) (s : State), s.trc.move = some m → s.trc.motion.moving = true → m.ramp = .bound →
    (∀ y, m.job = .forward → s.rqt.grant = .record y.port y.tag → s.rqt.records = [y] → s.rqt.run = none →
      s.trc.verified = true →
      ∃ t, exec .boundRest s = .next t ∧ t.trc.motion = .idle ∧ t.trc.move = none ∧ t.rqt.grant = .none ∧
        t.gtu.inHand = none ∧ t.rqt.records = [] ∧
        sends s t y.port (replyMsg y.tag y.work.code (68 :: s.recordResults y)) ∧ s.sameCourse t) ∧
    (∀ x, m.job = .forward → s.rqt.grant = .run → s.rqt.run = some x → s.rqt.records = [] → s.trc.verified = true →
      ∃ t, exec .boundRest s = .next t ∧ t.trc.motion = .idle ∧ t.trc.move = none ∧ t.rqt.grant = .none ∧
        t.gtu.inHand = none ∧ t.rqt.run = none ∧
        sends s t .a (replyMsg x.tag 4 (73 :: (be 2 x.presented ++ beFrame x.last ++ be 2 x.next
          ++ be 3 (x.remaining.getD 16777215)))) ∧ s.sameCourse t) ∧
    (∀ v, m.job = .verify → s.rqt.grant = .verify → s.fit.verify = some v → v.hit = false → s.trigLaw →
      ∃ t, exec .boundRest s = .next t ∧ s.afterFault t .verifyFail))

/-- HEADLINE. The law of the frame index is kept by every step: at most 16,384 entries, at strictly rising positions, as many as the
index state says, and the pitch estimate within its clamps while the roll is LOADED (R50 to R52, R55, R58 to R62, R72, R81 to
R83). -/
def Obligations.IndexLawKept : Prop :=
  ∀ s t : State, s.indexLaw → step s = .next t → t.indexLaw

/-- The settle timer ends a move SETTLED: a JOG completes SETTLED with the counter and epoch, and a PRESENT in HOLD mode whose
frame stands at the gate is presented there, with its watch, hold and PRESENTED data. The settle limit starts the one retry, a
motion start, and at its second expiry ends the move POSITION-FAIL without presentation (R27 to R29, R131, R141, R142,
R144). With no other record, no run and the position verified the film then stands IDLE. DEDUCED (log entry 6): the focus source
HELD is 4 in the data of PRESENTED, as in GATE-STATUS.
A PRESENT in NORMAL mode asks for focus in its sector, a 256th of the frame. A line in VALUE is made most recent and the lens goes to
its value; where it stands there the frame is presented at once, source TABLE. With the line PENDING or absent a coarse sweep begins
and the table stays: its centre is the rounded quarter of the value of the nearest VALUE line, the lower tag of two as near, or of
the default focus, and its positions are c - s, c - s + q and so on up to c + s within 0..1,023 (R95 to R98, R140, R141, R144). -/
def Obligations.SettlingEndsTheMove : Prop :=
  (∀ (m : Move) (s : State), s.trc.move = some m → s.trc.motion = .settling →
    (∀ p tag y, m.job = .jog → s.inBand m.target = true → s.rqt.grant = .record p tag → s.findRecord p tag = some y →
      ∃ t, exec .settleTimerExpiry s = .next t ∧ (∀ z ∈ t.rqt.records, ¬(z.port = p ∧ z.tag = tag)) ∧
        sends s t p (replyMsg y.tag y.work.code (74 :: s.recordResults y)) ∧ t.trc.counter = s.trc.counter ∧
        t.fit.entries = s.fit.entries ∧
        (s.rqt.records = [y] → s.rqt.run = none → s.trc.verified = true →
          t.trc.motion = .idle ∧ t.trc.move = none ∧ t.rqt.grant = .none ∧ t.trc.epoch = s.trc.epoch)) ∧
    (∀ g, m.job = .present → s.inBand m.target = true → s.gtu.inHand = some g → g.mode = .hold →
      s.frameAtGate = some g.frame → s.gtu.exposure = none →
      ∃ t, exec .settleTimerExpiry s = .next t ∧ t.trc.motion = .idle ∧ t.trc.move = none ∧
        t.gtu.presentation =
          some ⟨g.holder, g.frame, s.trc.epoch, .held, g.hold.getD s.profile.holdTime, .none⟩ ∧
        t.gtu.phase = .presented ∧ t.gtu.inHand = none ∧ t.gtu.hold = some (g.hold.getD s.profile.holdTime) ∧
        t.gtu.watches.get g.holder.port = true ∧ t.trc.counter = s.trc.counter ∧ t.trc.epoch = s.trc.epoch ∧
        ((s.slot g.holder.port .presented).enabled = true → ∃ l, (t.slot g.holder.port .presented).latch = some l ∧
          l.data = pad8 ([g.holder.tag] ++ be 2 g.frame ++ [4] ++ be 2 s.trc.epoch.toNat))) ∧
    (∀ g, m.job = .present → s.inBand m.target = true → s.gtu.inHand = some g → g.mode = .normal →
      s.frameAtGate = some g.frame → s.gtu.exposure = none → s.fcc.stage = .idle →
      (∀ n, s.lineOf (g.frame / 256) = some n → (s.focusLine n).pending = false →
        ∃ t, exec .settleTimerExpiry s = .next t ∧ t.trc.motion = .idle ∧ t.trc.move = none ∧
          t.fcc.lines = s.fcc.lines ∧ t.fcc.lru = n :: s.fcc.lru.filter (· ≠ n) ∧ t.fcc.sweep = s.fcc.sweep ∧
          t.fcc.lens = s.fcc.lens ∧ t.trc.counter = s.trc.counter ∧ t.trc.epoch = s.trc.epoch ∧
          ((s.focusLine n).value ≠ s.fcc.lens → t.fcc.stage = .moving ∧
            t.fcc.running = some ⟨(s.focusLine n).value, .final .table⟩ ∧ t.gtu.phase = .focusing ∧
            t.gtu.inHand = some g) ∧
          ((s.focusLine n).value = s.fcc.lens → t.gtu.phase = .presented ∧ t.gtu.presentation =
            some ⟨g.holder, g.frame, s.trc.epoch, .table, g.hold.getD s.profile.holdTime, .none⟩)) ∧
      ((∀ n, s.lineOf (g.frame / 256) = some n → (s.focusLine n).pending = true) →
        ∃ t w, exec .settleTimerExpiry s = .next t ∧ t.trc.motion = .idle ∧ t.trc.move = none ∧
          t.fcc.sweep = some w ∧ w.owner = g.holder ∧ w.frame = g.frame ∧ w.sector = g.frame / 256 ∧
          w.centre = s.sweepCentre (g.frame / 256) ∧ w.pass = .coarse ∧ w.samples = [] ∧ w.best = none ∧
          w.repeatUsed = false ∧ w.span = s.profile.sweepSpan ∧ w.step = s.profile.coarseStep ∧
          w.floor = s.profile.contrastFloor ∧ w.positions = coarsePositions w.centre w.span w.step ∧
          w.next = w.positions ∧ t.fcc.lines = s.fcc.lines ∧ t.fcc.lru = s.fcc.lru ∧ t.fcc.lens = s.fcc.lens ∧
          t.gtu.phase = .focusing ∧ t.gtu.inHand = some g ∧ t.trc.counter = s.trc.counter ∧ t.trc.epoch = s.trc.epoch ∧
          ∀ j, w.positions.head? = some j →
            (4 * j ≠ s.fcc.lens → t.fcc.stage = .moving ∧ t.fcc.running = some ⟨4 * j, .sample⟩) ∧
            (4 * j = s.fcc.lens → t.fcc.sampleTimer = some 0))) ∧
    (m.retried = false →
      ∃ t n, exec .settleLimitExpiry s = .next t ∧ t.trc.epoch = s.trc.epoch + 1 ∧
        (∀ p, t.gtu.watches.get p = false) ∧ t.trc.move = some n ∧ n.retried = true ∧ n.target = m.target ∧
        t.trc.travelDir = s.trc.travelDir ∧ t.trc.counter = s.trc.counter ∧ t.rqt = s.rqt ∧
        t.trc.verified = s.trc.verified) ∧
    (∀ p tag y, m.retried = true → s.rqt.grant = .record p tag → s.findRecord p tag = some y →
      ∃ t, exec .settleLimitExpiry s = .next t ∧ (∀ z ∈ t.rqt.records, ¬(z.port = p ∧ z.tag = tag)) ∧
        sends s t p (replyMsg y.tag y.work.code (70 :: s.recordResults y)) ∧ t.trc.counter = s.trc.counter ∧
        t.trc.cause = s.trc.cause ∧ t.ntu.levels.fault = s.ntu.levels.fault ∧
        (s.rqt.records = [y] → s.rqt.run = none → s.trc.verified = true →
          t.trc.motion = .idle ∧ t.trc.move = none ∧ t.rqt.grant = .none ∧ t.trc.verified = true))) ∧
  (∀ (x : Nat) (s : State), s.focusLaw →
    (∀ l ∈ s.fcc.lines, l.valid = true → l.pending = false →
      (∀ k ∈ s.fcc.lines, k.valid = true → k.pending = false →
        absDiff l.sector x < absDiff k.sector x ∨ absDiff l.sector x = absDiff k.sector x ∧ l.sector ≤ k.sector) →
      s.sweepCentre x = min 1023 (roundQuot s.profile.rounding (l.value : Int) 4).toNat) ∧
    ((∀ k ∈ s.fcc.lines, k.valid = true → k.pending = true) →
      s.sweepCentre x = min 1023 (roundQuot s.profile.rounding (s.profile.defaultFocus : Int) 4).toNat)) ∧
  (∀ c span q : Nat, 1 ≤ q →
    (coarsePositions c span q).Pairwise (· < ·) ∧
    (∀ x, x ∈ coarsePositions c span q ↔ x ≤ 1023 ∧ x ≤ c + span ∧ ∃ k, x + span = c + k * q) ∧
    (c ≤ 1023 → q ≤ span → span ≤ 256 → coarsePositions c span q ≠ []))

/-- The park timer parks an idle transport, which is no motion start and changes nothing else; the wake timer makes a PARKED
transport's order a motion start, or leaves it IDLE with no order (R32, R40, R42). -/
def Obligations.ParkingAndWaking : Prop :=
  ∀ s : State,
    (s.mayPark = true → s.trc.timers.park.isSome = true →
      ∃ t, exec .parkTimerExpiry s = .next t ∧ t.trc = { s.trc with motion := .parked, timers := t.trc.timers } ∧
        t.gtu.watches = s.gtu.watches ∧ t.rqt = s.rqt ∧ t.fcc = s.fcc ∧ t.fit.entries = s.fit.entries) ∧
    (∀ m, s.trc.motion = .waking → s.trc.roll = .loaded → s.trc.move = some m → m.job = .present →
      s.trc.counter < min m.target s.posBound - 40 →
      ∃ t n, exec .wakeTimerExpiry s = .next t ∧ t.trc.motion = .accel ∧ t.trc.epoch = s.trc.epoch + 1 ∧
        (∀ p, t.gtu.watches.get p = false) ∧ t.trc.move = some n ∧ n.dir = .forward ∧
        n.target = min m.target s.posBound ∧ t.trc.counter = s.trc.counter ∧ t.rqt = s.rqt) ∧
    (s.trc.motion = .waking → s.trc.roll = .loaded → s.trc.move = none → s.rqt.halted = true →
      ∃ t, exec .wakeTimerExpiry s = .next t ∧ t.trc.motion = .idle ∧ t.trc.epoch = s.trc.epoch ∧
        t.gtu.watches = s.gtu.watches ∧ t.rqt = s.rqt)

/-! ### Invariants -/

/-- HEADLINE. The law of the request table is kept by every step: at most 32 records, at most 16 of one port, no two of a port
with one tag, nor a record of port A with the run's (R114). -/
def Obligations.TableLawKept : Prop :=
  ∀ s t : State, s.tableLaw → step s = .next t → t.tableLaw

/-- HEADLINE. The law of the focus table is kept by every step: 16 lines in an order that holds each once, at most 12 locked, an
invalid one never locked, no two valid ones of one sector (R93, R94). -/
def Obligations.FocusLawKept : Prop :=
  ∀ s t : State, s.focusLaw → step s = .next t → t.focusLaw

/-- HEADLINE. With the table law, what the grant names is what is GRANTED or AT-GATE, and the gate phase, the grant in hand and
the presentation belong together; every step keeps this (R111, R116, R137, R139 to R144). -/
def Obligations.GrantAndGateLawsKept : Prop :=
  ∀ s t : State, s.tableLaw → s.grantLaw → s.gateLaw → step s = .next t → t.grantLaw ∧ t.gateLaw

/-- HEADLINE. The levels of FAULT, HALTED, UNVERIFIED, ROLL-STATE and QUEUE-ALMOST-FULL are those of their blocks after every step,
and TRIG is asserted while an exposure is in progress and only then; the motion state is OFF exactly while the roll is EMPTY or
THREADING, with the position verified and the detector off (R3, R22, R33, R38, R39, R45, R74, R118, R155, R197, R198). -/
def Obligations.LevelAndTrigLawsKept : Prop :=
  ∀ s t : State, s.levelLaw → s.trigLaw → s.rollLaw → step s = .next t → t.levelLaw ∧ t.trigLaw ∧ t.rollLaw

/-- The laws hold at reset. -/
def Obligations.LawsHoldAtReset : Prop :=
  State.reset.tableLaw ∧ State.reset.focusLaw ∧ State.reset.grantLaw ∧ State.reset.gateLaw ∧ State.reset.levelLaw ∧
  State.reset.trigLaw ∧ State.reset.rollLaw ∧ State.reset.indexLaw
end

