-- ==== Sys2Proof/Laws/State.lean ====
section
/-! SUPPORT. What the named updates of the state change and what they leave: one equation for each part of the state. -/

namespace Sys2Proof.Machine

/-! ### Per port and per source -/

@[simp] theorem PerPort.get_all {α : Type} (x : α) (p : Port) : (PerPort.all x).get p = x := by cases p <;> rfl

@[simp] theorem PerPort.get_set {α : Type} (x : PerPort α) (p q : Port) (v : α) :
    (x.set p v).get q = if p = q then v else x.get q := by cases p <;> cases q <;> rfl

theorem PerPort.ext_get {α : Type} {x y : PerPort α} (h : ∀ p, x.get p = y.get p) : x = y := by
  cases x; cases y
  have ha := h .a; have hb := h .b; have hc := h .c
  simp_all [PerPort.get]

@[simp] theorem PerSource.get_all {α : Type} (x : α) (k : EventSource) : (PerSource.all x).get k = x := by
  cases k <;> rfl

@[simp] theorem PerSource.get_set {α : Type} (x : PerSource α) (k j : EventSource) (v : α) :
    (x.set k v).get j = if k = j then v else x.get j := by cases k <;> cases j <;> rfl

/-- Putting a level to what it is changes nothing. -/
@[simp] theorem Levels.set_get (l : Levels) (k : EventSource) : l.set k (l.get k) = l := by cases k <;> rfl

/-! ### State.setLink -/

section setLink
variable (s : State) (p : Port) (l : Link)

@[simp] theorem link_eq : s.link p = s.lnk.get p := rfl
@[simp] theorem setLink_pending : (s.setLink p l).pending = s.pending := rfl
@[simp] theorem setLink_freeCount : (s.setLink p l).freeCount = s.freeCount := rfl
@[simp] theorem setLink_lensRead : (s.setLink p l).lensRead = s.lensRead := rfl
@[simp] theorem setLink_resetHeld : (s.setLink p l).resetHeld = s.resetHeld := rfl
@[simp] theorem setLink_unitAddress : (s.setLink p l).unitAddress = s.unitAddress := rfl
@[simp] theorem setLink_pins : (s.setLink p l).pins = s.pins := rfl
@[simp] theorem setLink_rqt : (s.setLink p l).rqt = s.rqt := rfl
@[simp] theorem setLink_trc : (s.setLink p l).trc = s.trc := rfl
@[simp] theorem setLink_mkd : (s.setLink p l).mkd = s.mkd := rfl
@[simp] theorem setLink_fit : (s.setLink p l).fit = s.fit := rfl
@[simp] theorem setLink_fcc : (s.setLink p l).fcc = s.fcc := rfl
@[simp] theorem setLink_gtu : (s.setLink p l).gtu = s.gtu := rfl
@[simp] theorem setLink_ntu : (s.setLink p l).ntu = s.ntu := rfl
@[simp] theorem setLink_lnk : (s.setLink p l).lnk = s.lnk.set p l := rfl

end setLink

/-! ### State.setSlot -/

section setSlot
variable (s : State) (p : Port) (k : EventSource) (e : EventSlot)

@[simp] theorem slot_eq : s.slot p k = (s.ntu.ports.get p).get k := rfl
@[simp] theorem setSlot_pending : (s.setSlot p k e).pending = s.pending := rfl
@[simp] theorem setSlot_freeCount : (s.setSlot p k e).freeCount = s.freeCount := rfl
@[simp] theorem setSlot_lensRead : (s.setSlot p k e).lensRead = s.lensRead := rfl
@[simp] theorem setSlot_resetHeld : (s.setSlot p k e).resetHeld = s.resetHeld := rfl
@[simp] theorem setSlot_unitAddress : (s.setSlot p k e).unitAddress = s.unitAddress := rfl
@[simp] theorem setSlot_pins : (s.setSlot p k e).pins = s.pins := rfl
@[simp] theorem setSlot_lnk : (s.setSlot p k e).lnk = s.lnk := rfl
@[simp] theorem setSlot_rqt : (s.setSlot p k e).rqt = s.rqt := rfl
@[simp] theorem setSlot_trc : (s.setSlot p k e).trc = s.trc := rfl
@[simp] theorem setSlot_mkd : (s.setSlot p k e).mkd = s.mkd := rfl
@[simp] theorem setSlot_fit : (s.setSlot p k e).fit = s.fit := rfl
@[simp] theorem setSlot_fcc : (s.setSlot p k e).fcc = s.fcc := rfl
@[simp] theorem setSlot_gtu : (s.setSlot p k e).gtu = s.gtu := rfl
@[simp] theorem setSlot_levels : (s.setSlot p k e).ntu.levels = s.ntu.levels := rfl
@[simp] theorem setSlot_ports :
    (s.setSlot p k e).ntu.ports = s.ntu.ports.set p ((s.ntu.ports.get p).set k e) := rfl

end setSlot

/-! ### The working context -/

section context
variable (w : Ctx) (f : State → State) (s : State) (k : EventSource) (p : Port) (d : List Byte)

@[simp] theorem upd_st : (w.upd f).st = f w.st := rfl
@[simp] theorem upd_sends : (w.upd f).sends = w.sends := rfl
@[simp] theorem upd_occs : (w.upd f).occs = w.occs := rfl
@[simp] theorem start_st : (Ctx.start s).st = s := rfl
@[simp] theorem start_sends : (Ctx.start s).sends = [] := rfl
@[simp] theorem start_occs : (Ctx.start s).occs = [] := rfl
@[simp] theorem pulse_st : (pulse k p d w).st = w.st := rfl
@[simp] theorem pulse_sends : (pulse k p d w).sends = w.sends := rfl
@[simp] theorem pulse_occs : (pulse k p d w).occs = w.occs ++ [⟨k, p, pad8 d⟩] := rfl
@[simp] theorem pulseAll_st : (pulseAll k d w).st = w.st := rfl
@[simp] theorem pulseAll_sends : (pulseAll k d w).sends = w.sends := rfl
@[simp] theorem transitionOn_st (h : Bool) : (transitionOn k h d p w).st = w.st := by unfold transitionOn; split <;> rfl
@[simp] theorem transitionOn_sends (h : Bool) : (transitionOn k h d p w).sends = w.sends := by
  unfold transitionOn; split <;> rfl

/-- All that setLevel does to the state is to put the level. -/
@[simp] theorem setLevel_st (h : Bool) :
    (setLevel k h d w).st = { w.st with ntu.levels := w.st.ntu.levels.set k h } := by
  unfold setLevel
  split
  · rename_i hk; subst hk; simp
  · simp

@[simp] theorem setLevel_sends (h : Bool) : (setLevel k h d w).sends = w.sends := by
  unfold setLevel; split <;> simp

@[simp] theorem reply_st (e : Env) (st : Status) (r : List Byte) : (e.reply st r w).st = w.st := by
  unfold Env.reply; split <;> rfl

@[simp] theorem reply_occs (e : Env) (st : Status) (r : List Byte) : (e.reply st r w).occs = w.occs := by
  unfold Env.reply; split <;> rfl

end context

end Sys2Proof.Machine
end

