-- ==== Sys2Proof/Laws/FrameFlags.lean ====
section
/-! SUPPORT. What each operation of notices and outboxes leaves unchanged: one frame for each, which later proofs cite instead of
unfolding it. -/

namespace Sys2Proof.Machine

@[simp] theorem faultCauseChanged_frame (c : Cause) (s : State) :
    (faultCauseChanged c s).pending = s.pending ∧ (faultCauseChanged c s).freeCount = s.freeCount ∧
    (faultCauseChanged c s).lensRead = s.lensRead ∧
    (faultCauseChanged c s).resetHeld = s.resetHeld ∧ (faultCauseChanged c s).unitAddress = s.unitAddress ∧
    (faultCauseChanged c s).pins = s.pins ∧ (faultCauseChanged c s).mkd = s.mkd ∧
    (faultCauseChanged c s).rqt = s.rqt ∧ (faultCauseChanged c s).trc = s.trc ∧ (faultCauseChanged c s).fit = s.fit ∧
    (faultCauseChanged c s).fcc = s.fcc ∧ (faultCauseChanged c s).gtu = s.gtu ∧
    (faultCauseChanged c s).ntu.levels = s.ntu.levels ∧ (faultCauseChanged c s).lnk = s.lnk := by
  simp [faultCauseChanged]

@[simp] theorem offerNotice_frame (p : Port) (m : OutMsg) (s : State) :
    (offerNotice p m s).pending = s.pending ∧ (offerNotice p m s).freeCount = s.freeCount ∧
    (offerNotice p m s).lensRead = s.lensRead ∧
    (offerNotice p m s).resetHeld = s.resetHeld ∧ (offerNotice p m s).unitAddress = s.unitAddress ∧
    (offerNotice p m s).pins = s.pins ∧ (offerNotice p m s).mkd = s.mkd ∧ (offerNotice p m s).rqt = s.rqt ∧
    (offerNotice p m s).trc = s.trc ∧ (offerNotice p m s).fit = s.fit ∧ (offerNotice p m s).fcc = s.fcc ∧
    (offerNotice p m s).gtu = s.gtu ∧ (offerNotice p m s).ntu = s.ntu ∧
    (∀ q, ((offerNotice p m s).lnk.get q).rx = (s.lnk.get q).rx) ∧
    (∀ q, ((offerNotice p m s).lnk.get q).part = (s.lnk.get q).part) ∧
    (∀ q, ((offerNotice p m s).lnk.get q).inbox = (s.lnk.get q).inbox) ∧
    (∀ q, ((offerNotice p m s).lnk.get q).awaitMark = (s.lnk.get q).awaitMark) ∧
    (∀ q, ((offerNotice p m s).lnk.get q).byteTimer = (s.lnk.get q).byteTimer) ∧
    (∀ q, ((offerNotice p m s).lnk.get q).resyncTimer = (s.lnk.get q).resyncTimer) ∧
    (∀ q, ((offerNotice p m s).lnk.get q).reserved = (s.lnk.get q).reserved) ∧
    (∀ q, ((offerNotice p m s).lnk.get q).released = (s.lnk.get q).released) ∧
    (∀ q, ((offerNotice p m s).lnk.get q).txFifo = (s.lnk.get q).txFifo) ∧
    (∀ q, ((offerNotice p m s).lnk.get q).txLine = (s.lnk.get q).txLine) ∧
    (∀ q, ((offerNotice p m s).lnk.get q).driving = (s.lnk.get q).driving) ∧
    (∀ q, ((offerNotice p m s).lnk.get q).rdyMode = (s.lnk.get q).rdyMode) ∧
    (∀ q, ((offerNotice p m s).lnk.get q).threshold = (s.lnk.get q).threshold) ∧
    (∀ q, ((offerNotice p m s).lnk.get q).ctsGating = (s.lnk.get q).ctsGating) ∧
    (∀ q, ((offerNotice p m s).lnk.get q).gap = (s.lnk.get q).gap) ∧
    (∀ q, ((offerNotice p m s).lnk.get q).cts = (s.lnk.get q).cts) ∧
    (∀ q, ((offerNotice p m s).lnk.get q).outstanding = (s.lnk.get q).outstanding) := by
  unfold offerNotice
  dsimp only
  repeat' split
  all_goals simp
  all_goals (repeat' apply And.intro) <;> intro q <;> split <;> simp_all

@[simp] theorem latchOne_frame (o : Occ) (s : State) :
    (latchOne o s).pending = s.pending ∧ (latchOne o s).freeCount = s.freeCount ∧
    (latchOne o s).lensRead = s.lensRead ∧
    (latchOne o s).resetHeld = s.resetHeld ∧ (latchOne o s).unitAddress = s.unitAddress ∧
    (latchOne o s).pins = s.pins ∧ (latchOne o s).mkd = s.mkd ∧ (latchOne o s).rqt = s.rqt ∧
    (latchOne o s).trc = s.trc ∧ (latchOne o s).fit = s.fit ∧ (latchOne o s).fcc = s.fcc ∧
    (latchOne o s).gtu = s.gtu ∧ (latchOne o s).ntu.levels = s.ntu.levels ∧
    (∀ q, ((latchOne o s).lnk.get q).rx = (s.lnk.get q).rx) ∧
    (∀ q, ((latchOne o s).lnk.get q).part = (s.lnk.get q).part) ∧
    (∀ q, ((latchOne o s).lnk.get q).inbox = (s.lnk.get q).inbox) ∧
    (∀ q, ((latchOne o s).lnk.get q).awaitMark = (s.lnk.get q).awaitMark) ∧
    (∀ q, ((latchOne o s).lnk.get q).byteTimer = (s.lnk.get q).byteTimer) ∧
    (∀ q, ((latchOne o s).lnk.get q).resyncTimer = (s.lnk.get q).resyncTimer) ∧
    (∀ q, ((latchOne o s).lnk.get q).reserved = (s.lnk.get q).reserved) ∧
    (∀ q, ((latchOne o s).lnk.get q).released = (s.lnk.get q).released) ∧
    (∀ q, ((latchOne o s).lnk.get q).txFifo = (s.lnk.get q).txFifo) ∧
    (∀ q, ((latchOne o s).lnk.get q).txLine = (s.lnk.get q).txLine) ∧
    (∀ q, ((latchOne o s).lnk.get q).driving = (s.lnk.get q).driving) ∧
    (∀ q, ((latchOne o s).lnk.get q).rdyMode = (s.lnk.get q).rdyMode) ∧
    (∀ q, ((latchOne o s).lnk.get q).threshold = (s.lnk.get q).threshold) ∧
    (∀ q, ((latchOne o s).lnk.get q).ctsGating = (s.lnk.get q).ctsGating) ∧
    (∀ q, ((latchOne o s).lnk.get q).gap = (s.lnk.get q).gap) ∧
    (∀ q, ((latchOne o s).lnk.get q).cts = (s.lnk.get q).cts) ∧
    (∀ q, ((latchOne o s).lnk.get q).outstanding = (s.lnk.get q).outstanding) := by
  unfold latchOne
  dsimp only
  repeat' split
  all_goals simp

@[simp] theorem latchAll_frame (l : List Occ) (s : State) :
    (latchAll l s).pending = s.pending ∧ (latchAll l s).freeCount = s.freeCount ∧
    (latchAll l s).lensRead = s.lensRead ∧
    (latchAll l s).resetHeld = s.resetHeld ∧ (latchAll l s).unitAddress = s.unitAddress ∧
    (latchAll l s).pins = s.pins ∧ (latchAll l s).mkd = s.mkd ∧ (latchAll l s).rqt = s.rqt ∧
    (latchAll l s).trc = s.trc ∧ (latchAll l s).fit = s.fit ∧ (latchAll l s).fcc = s.fcc ∧
    (latchAll l s).gtu = s.gtu ∧ (latchAll l s).ntu.levels = s.ntu.levels ∧
    (∀ q, ((latchAll l s).lnk.get q).rx = (s.lnk.get q).rx) ∧
    (∀ q, ((latchAll l s).lnk.get q).part = (s.lnk.get q).part) ∧
    (∀ q, ((latchAll l s).lnk.get q).inbox = (s.lnk.get q).inbox) ∧
    (∀ q, ((latchAll l s).lnk.get q).awaitMark = (s.lnk.get q).awaitMark) ∧
    (∀ q, ((latchAll l s).lnk.get q).byteTimer = (s.lnk.get q).byteTimer) ∧
    (∀ q, ((latchAll l s).lnk.get q).resyncTimer = (s.lnk.get q).resyncTimer) ∧
    (∀ q, ((latchAll l s).lnk.get q).reserved = (s.lnk.get q).reserved) ∧
    (∀ q, ((latchAll l s).lnk.get q).released = (s.lnk.get q).released) ∧
    (∀ q, ((latchAll l s).lnk.get q).txFifo = (s.lnk.get q).txFifo) ∧
    (∀ q, ((latchAll l s).lnk.get q).txLine = (s.lnk.get q).txLine) ∧
    (∀ q, ((latchAll l s).lnk.get q).driving = (s.lnk.get q).driving) ∧
    (∀ q, ((latchAll l s).lnk.get q).rdyMode = (s.lnk.get q).rdyMode) ∧
    (∀ q, ((latchAll l s).lnk.get q).threshold = (s.lnk.get q).threshold) ∧
    (∀ q, ((latchAll l s).lnk.get q).ctsGating = (s.lnk.get q).ctsGating) ∧
    (∀ q, ((latchAll l s).lnk.get q).gap = (s.lnk.get q).gap) ∧
    (∀ q, ((latchAll l s).lnk.get q).cts = (s.lnk.get q).cts) ∧
    (∀ q, ((latchAll l s).lnk.get q).outstanding = (s.lnk.get q).outstanding) := by
  unfold latchAll
  generalize sortOccs l = l
  induction l generalizing s with
  | nil => simp
  | cons a l ih => simp [List.foldl_cons, ih]

@[simp] theorem queueMsg_frame (p : Port) (m : OutMsg) (s : State) :
    (queueMsg p m s).pending = s.pending ∧ (queueMsg p m s).freeCount = s.freeCount ∧
    (queueMsg p m s).lensRead = s.lensRead ∧
    (queueMsg p m s).resetHeld = s.resetHeld ∧ (queueMsg p m s).unitAddress = s.unitAddress ∧
    (queueMsg p m s).pins = s.pins ∧ (queueMsg p m s).mkd = s.mkd ∧ (queueMsg p m s).rqt = s.rqt ∧
    (queueMsg p m s).trc = s.trc ∧ (queueMsg p m s).fit = s.fit ∧ (queueMsg p m s).fcc = s.fcc ∧
    (queueMsg p m s).gtu = s.gtu ∧ (queueMsg p m s).ntu = s.ntu ∧
    (∀ q, ((queueMsg p m s).lnk.get q).rx = (s.lnk.get q).rx) ∧
    (∀ q, ((queueMsg p m s).lnk.get q).part = (s.lnk.get q).part) ∧
    (∀ q, ((queueMsg p m s).lnk.get q).inbox = (s.lnk.get q).inbox) ∧
    (∀ q, ((queueMsg p m s).lnk.get q).awaitMark = (s.lnk.get q).awaitMark) ∧
    (∀ q, ((queueMsg p m s).lnk.get q).byteTimer = (s.lnk.get q).byteTimer) ∧
    (∀ q, ((queueMsg p m s).lnk.get q).resyncTimer = (s.lnk.get q).resyncTimer) ∧
    (∀ q, ((queueMsg p m s).lnk.get q).reserved = (s.lnk.get q).reserved) ∧
    (∀ q, ((queueMsg p m s).lnk.get q).released = (s.lnk.get q).released) ∧
    (∀ q, ((queueMsg p m s).lnk.get q).txFifo = (s.lnk.get q).txFifo) ∧
    (∀ q, ((queueMsg p m s).lnk.get q).txLine = (s.lnk.get q).txLine) ∧
    (∀ q, ((queueMsg p m s).lnk.get q).driving = (s.lnk.get q).driving) ∧
    (∀ q, ((queueMsg p m s).lnk.get q).rdyMode = (s.lnk.get q).rdyMode) ∧
    (∀ q, ((queueMsg p m s).lnk.get q).threshold = (s.lnk.get q).threshold) ∧
    (∀ q, ((queueMsg p m s).lnk.get q).ctsGating = (s.lnk.get q).ctsGating) ∧
    (∀ q, ((queueMsg p m s).lnk.get q).gap = (s.lnk.get q).gap) ∧
    (∀ q, ((queueMsg p m s).lnk.get q).flags = (s.lnk.get q).flags) ∧
    (∀ q, ((queueMsg p m s).lnk.get q).cts = (s.lnk.get q).cts) ∧
    (∀ q, ((queueMsg p m s).lnk.get q).outstanding = (s.lnk.get q).outstanding) := by
  simp [queueMsg]
  (repeat' apply And.intro) <;> intro q <;> split <;> simp_all

@[simp] theorem queueAll_frame (l : List (Port × OutMsg)) (s : State) :
    (queueAll l s).pending = s.pending ∧ (queueAll l s).freeCount = s.freeCount ∧
    (queueAll l s).lensRead = s.lensRead ∧
    (queueAll l s).resetHeld = s.resetHeld ∧ (queueAll l s).unitAddress = s.unitAddress ∧
    (queueAll l s).pins = s.pins ∧ (queueAll l s).mkd = s.mkd ∧ (queueAll l s).rqt = s.rqt ∧
    (queueAll l s).trc = s.trc ∧ (queueAll l s).fit = s.fit ∧ (queueAll l s).fcc = s.fcc ∧
    (queueAll l s).gtu = s.gtu ∧ (queueAll l s).ntu = s.ntu ∧
    (∀ q, ((queueAll l s).lnk.get q).rx = (s.lnk.get q).rx) ∧
    (∀ q, ((queueAll l s).lnk.get q).part = (s.lnk.get q).part) ∧
    (∀ q, ((queueAll l s).lnk.get q).inbox = (s.lnk.get q).inbox) ∧
    (∀ q, ((queueAll l s).lnk.get q).awaitMark = (s.lnk.get q).awaitMark) ∧
    (∀ q, ((queueAll l s).lnk.get q).byteTimer = (s.lnk.get q).byteTimer) ∧
    (∀ q, ((queueAll l s).lnk.get q).resyncTimer = (s.lnk.get q).resyncTimer) ∧
    (∀ q, ((queueAll l s).lnk.get q).reserved = (s.lnk.get q).reserved) ∧
    (∀ q, ((queueAll l s).lnk.get q).released = (s.lnk.get q).released) ∧
    (∀ q, ((queueAll l s).lnk.get q).txFifo = (s.lnk.get q).txFifo) ∧
    (∀ q, ((queueAll l s).lnk.get q).txLine = (s.lnk.get q).txLine) ∧
    (∀ q, ((queueAll l s).lnk.get q).driving = (s.lnk.get q).driving) ∧
    (∀ q, ((queueAll l s).lnk.get q).rdyMode = (s.lnk.get q).rdyMode) ∧
    (∀ q, ((queueAll l s).lnk.get q).threshold = (s.lnk.get q).threshold) ∧
    (∀ q, ((queueAll l s).lnk.get q).ctsGating = (s.lnk.get q).ctsGating) ∧
    (∀ q, ((queueAll l s).lnk.get q).gap = (s.lnk.get q).gap) ∧
    (∀ q, ((queueAll l s).lnk.get q).flags = (s.lnk.get q).flags) ∧
    (∀ q, ((queueAll l s).lnk.get q).cts = (s.lnk.get q).cts) ∧
    (∀ q, ((queueAll l s).lnk.get q).outstanding = (s.lnk.get q).outstanding) := by
  unfold queueAll
  induction l generalizing s with
  | nil => simp
  | cons a l ih => simp [List.foldl_cons, ih]

@[simp] theorem clearLatch_frame (p : Port) (k : EventSource) (s : State) :
    (clearLatch p k s).pending = s.pending ∧ (clearLatch p k s).freeCount = s.freeCount ∧
    (clearLatch p k s).lensRead = s.lensRead ∧
    (clearLatch p k s).resetHeld = s.resetHeld ∧ (clearLatch p k s).unitAddress = s.unitAddress ∧
    (clearLatch p k s).pins = s.pins ∧ (clearLatch p k s).mkd = s.mkd ∧ (clearLatch p k s).rqt = s.rqt ∧
    (clearLatch p k s).trc = s.trc ∧ (clearLatch p k s).fit = s.fit ∧ (clearLatch p k s).fcc = s.fcc ∧
    (clearLatch p k s).gtu = s.gtu ∧ (clearLatch p k s).ntu.levels = s.ntu.levels ∧ (clearLatch p k s).lnk = s.lnk := by
  simp [clearLatch]

@[simp] theorem resetSources_frame (p : Port) (s : State) :
    (resetSources p s).pending = s.pending ∧ (resetSources p s).freeCount = s.freeCount ∧
    (resetSources p s).lensRead = s.lensRead ∧
    (resetSources p s).resetHeld = s.resetHeld ∧ (resetSources p s).unitAddress = s.unitAddress ∧
    (resetSources p s).pins = s.pins ∧ (resetSources p s).mkd = s.mkd ∧ (resetSources p s).rqt = s.rqt ∧
    (resetSources p s).trc = s.trc ∧ (resetSources p s).fit = s.fit ∧ (resetSources p s).fcc = s.fcc ∧
    (resetSources p s).gtu = s.gtu ∧ (resetSources p s).ntu.levels = s.ntu.levels ∧ (resetSources p s).lnk = s.lnk := by
  simp [resetSources]

end Sys2Proof.Machine
end

