-- ==== Sys2Proof/Laws/FrameRecords.lean ====
section
/-! SUPPORT. What each operation of completions and the request table leaves unchanged: one frame for each, which later proofs cite instead of
unfolding it. -/

namespace Sys2Proof.Machine

@[simp] theorem complete_frame (p : Port) (tag : Byte) (kind : Nat) (o : OutcomeCode) (results : List Byte) (w : Ctx) :
    (complete p tag kind o results w).st.pending = w.st.pending ∧
    (complete p tag kind o results w).st.freeCount = w.st.freeCount ∧
    (complete p tag kind o results w).st.lensRead = w.st.lensRead ∧
    (complete p tag kind o results w).st.resetHeld = w.st.resetHeld ∧
    (complete p tag kind o results w).st.unitAddress = w.st.unitAddress ∧
    (complete p tag kind o results w).st.pins = w.st.pins ∧ (complete p tag kind o results w).st.mkd = w.st.mkd ∧
    (complete p tag kind o results w).st.rqt = w.st.rqt ∧ (complete p tag kind o results w).st.trc = w.st.trc ∧
    (complete p tag kind o results w).st.fit = w.st.fit ∧ (complete p tag kind o results w).st.fcc = w.st.fcc ∧
    (complete p tag kind o results w).st.gtu = w.st.gtu ∧ (complete p tag kind o results w).st.ntu = w.st.ntu ∧
    (∀ q, ((complete p tag kind o results w).st.lnk.get q).rx = (w.st.lnk.get q).rx) ∧
    (∀ q, ((complete p tag kind o results w).st.lnk.get q).part = (w.st.lnk.get q).part) ∧
    (∀ q, ((complete p tag kind o results w).st.lnk.get q).inbox = (w.st.lnk.get q).inbox) ∧
    (∀ q, ((complete p tag kind o results w).st.lnk.get q).awaitMark = (w.st.lnk.get q).awaitMark) ∧
    (∀ q, ((complete p tag kind o results w).st.lnk.get q).byteTimer = (w.st.lnk.get q).byteTimer) ∧
    (∀ q, ((complete p tag kind o results w).st.lnk.get q).resyncTimer = (w.st.lnk.get q).resyncTimer) ∧
    (∀ q, ((complete p tag kind o results w).st.lnk.get q).outbox = (w.st.lnk.get q).outbox) ∧
    (∀ q, ((complete p tag kind o results w).st.lnk.get q).released = (w.st.lnk.get q).released) ∧
    (∀ q, ((complete p tag kind o results w).st.lnk.get q).txFifo = (w.st.lnk.get q).txFifo) ∧
    (∀ q, ((complete p tag kind o results w).st.lnk.get q).txLine = (w.st.lnk.get q).txLine) ∧
    (∀ q, ((complete p tag kind o results w).st.lnk.get q).driving = (w.st.lnk.get q).driving) ∧
    (∀ q, ((complete p tag kind o results w).st.lnk.get q).rdyMode = (w.st.lnk.get q).rdyMode) ∧
    (∀ q, ((complete p tag kind o results w).st.lnk.get q).threshold = (w.st.lnk.get q).threshold) ∧
    (∀ q, ((complete p tag kind o results w).st.lnk.get q).ctsGating = (w.st.lnk.get q).ctsGating) ∧
    (∀ q, ((complete p tag kind o results w).st.lnk.get q).gap = (w.st.lnk.get q).gap) ∧
    (∀ q, ((complete p tag kind o results w).st.lnk.get q).flags = (w.st.lnk.get q).flags) ∧
    (∀ q, ((complete p tag kind o results w).st.lnk.get q).cts = (w.st.lnk.get q).cts) ∧
    (∀ q, ((complete p tag kind o results w).st.lnk.get q).outstanding = (w.st.lnk.get q).outstanding) := by
  simp [complete]
  (repeat' apply And.intro) <;> intro q <;> split <;> simp_all

@[simp] theorem completeTimedOn_frame (k : TimedKind) (o : OutcomeCode) (results : List Byte) (p : Port) (w : Ctx) :
    (completeTimedOn k o results p w).st.pending = w.st.pending ∧
    (completeTimedOn k o results p w).st.freeCount = w.st.freeCount ∧
    (completeTimedOn k o results p w).st.lensRead = w.st.lensRead ∧
    (completeTimedOn k o results p w).st.resetHeld = w.st.resetHeld ∧
    (completeTimedOn k o results p w).st.unitAddress = w.st.unitAddress ∧
    (completeTimedOn k o results p w).st.pins = w.st.pins ∧ (completeTimedOn k o results p w).st.mkd = w.st.mkd ∧
    (completeTimedOn k o results p w).st.rqt = w.st.rqt ∧ (completeTimedOn k o results p w).st.trc = w.st.trc ∧
    (completeTimedOn k o results p w).st.fit = w.st.fit ∧ (completeTimedOn k o results p w).st.fcc = w.st.fcc ∧
    (completeTimedOn k o results p w).st.gtu = w.st.gtu ∧ (completeTimedOn k o results p w).st.ntu = w.st.ntu ∧
    (∀ q, ((completeTimedOn k o results p w).st.lnk.get q).rx = (w.st.lnk.get q).rx) ∧
    (∀ q, ((completeTimedOn k o results p w).st.lnk.get q).part = (w.st.lnk.get q).part) ∧
    (∀ q, ((completeTimedOn k o results p w).st.lnk.get q).inbox = (w.st.lnk.get q).inbox) ∧
    (∀ q, ((completeTimedOn k o results p w).st.lnk.get q).awaitMark = (w.st.lnk.get q).awaitMark) ∧
    (∀ q, ((completeTimedOn k o results p w).st.lnk.get q).byteTimer = (w.st.lnk.get q).byteTimer) ∧
    (∀ q, ((completeTimedOn k o results p w).st.lnk.get q).resyncTimer = (w.st.lnk.get q).resyncTimer) ∧
    (∀ q, ((completeTimedOn k o results p w).st.lnk.get q).outbox = (w.st.lnk.get q).outbox) ∧
    (∀ q, ((completeTimedOn k o results p w).st.lnk.get q).released = (w.st.lnk.get q).released) ∧
    (∀ q, ((completeTimedOn k o results p w).st.lnk.get q).txFifo = (w.st.lnk.get q).txFifo) ∧
    (∀ q, ((completeTimedOn k o results p w).st.lnk.get q).txLine = (w.st.lnk.get q).txLine) ∧
    (∀ q, ((completeTimedOn k o results p w).st.lnk.get q).driving = (w.st.lnk.get q).driving) ∧
    (∀ q, ((completeTimedOn k o results p w).st.lnk.get q).rdyMode = (w.st.lnk.get q).rdyMode) ∧
    (∀ q, ((completeTimedOn k o results p w).st.lnk.get q).threshold = (w.st.lnk.get q).threshold) ∧
    (∀ q, ((completeTimedOn k o results p w).st.lnk.get q).ctsGating = (w.st.lnk.get q).ctsGating) ∧
    (∀ q, ((completeTimedOn k o results p w).st.lnk.get q).gap = (w.st.lnk.get q).gap) ∧
    (∀ q, ((completeTimedOn k o results p w).st.lnk.get q).flags = (w.st.lnk.get q).flags) ∧
    (∀ q, ((completeTimedOn k o results p w).st.lnk.get q).cts = (w.st.lnk.get q).cts) := by
  unfold completeTimedOn
  repeat' split
  all_goals simp
  all_goals (repeat' apply And.intro) <;> intro q <;> split <;> simp_all

@[simp] theorem completeTimed_frame (k : TimedKind) (o : OutcomeCode) (results : List Byte) (w : Ctx) :
    (completeTimed k o results w).st.pending = w.st.pending ∧
    (completeTimed k o results w).st.freeCount = w.st.freeCount ∧
    (completeTimed k o results w).st.lensRead = w.st.lensRead ∧
    (completeTimed k o results w).st.resetHeld = w.st.resetHeld ∧
    (completeTimed k o results w).st.unitAddress = w.st.unitAddress ∧
    (completeTimed k o results w).st.pins = w.st.pins ∧ (completeTimed k o results w).st.mkd = w.st.mkd ∧
    (completeTimed k o results w).st.rqt = w.st.rqt ∧ (completeTimed k o results w).st.trc = w.st.trc ∧
    (completeTimed k o results w).st.fit = w.st.fit ∧ (completeTimed k o results w).st.fcc = w.st.fcc ∧
    (completeTimed k o results w).st.gtu = w.st.gtu ∧ (completeTimed k o results w).st.ntu = w.st.ntu ∧
    (∀ q, ((completeTimed k o results w).st.lnk.get q).rx = (w.st.lnk.get q).rx) ∧
    (∀ q, ((completeTimed k o results w).st.lnk.get q).part = (w.st.lnk.get q).part) ∧
    (∀ q, ((completeTimed k o results w).st.lnk.get q).inbox = (w.st.lnk.get q).inbox) ∧
    (∀ q, ((completeTimed k o results w).st.lnk.get q).awaitMark = (w.st.lnk.get q).awaitMark) ∧
    (∀ q, ((completeTimed k o results w).st.lnk.get q).byteTimer = (w.st.lnk.get q).byteTimer) ∧
    (∀ q, ((completeTimed k o results w).st.lnk.get q).resyncTimer = (w.st.lnk.get q).resyncTimer) ∧
    (∀ q, ((completeTimed k o results w).st.lnk.get q).outbox = (w.st.lnk.get q).outbox) ∧
    (∀ q, ((completeTimed k o results w).st.lnk.get q).released = (w.st.lnk.get q).released) ∧
    (∀ q, ((completeTimed k o results w).st.lnk.get q).txFifo = (w.st.lnk.get q).txFifo) ∧
    (∀ q, ((completeTimed k o results w).st.lnk.get q).txLine = (w.st.lnk.get q).txLine) ∧
    (∀ q, ((completeTimed k o results w).st.lnk.get q).driving = (w.st.lnk.get q).driving) ∧
    (∀ q, ((completeTimed k o results w).st.lnk.get q).rdyMode = (w.st.lnk.get q).rdyMode) ∧
    (∀ q, ((completeTimed k o results w).st.lnk.get q).threshold = (w.st.lnk.get q).threshold) ∧
    (∀ q, ((completeTimed k o results w).st.lnk.get q).ctsGating = (w.st.lnk.get q).ctsGating) ∧
    (∀ q, ((completeTimed k o results w).st.lnk.get q).gap = (w.st.lnk.get q).gap) ∧
    (∀ q, ((completeTimed k o results w).st.lnk.get q).flags = (w.st.lnk.get q).flags) ∧
    (∀ q, ((completeTimed k o results w).st.lnk.get q).cts = (w.st.lnk.get q).cts) := by
  simp [completeTimed]

@[simp] theorem examineAlmostFull_frame (w : Ctx) :
    (examineAlmostFull w).st.pending = w.st.pending ∧ (examineAlmostFull w).st.freeCount = w.st.freeCount ∧
    (examineAlmostFull w).st.lensRead = w.st.lensRead ∧
    (examineAlmostFull w).st.resetHeld = w.st.resetHeld ∧ (examineAlmostFull w).st.unitAddress = w.st.unitAddress ∧
    (examineAlmostFull w).st.pins = w.st.pins ∧ (examineAlmostFull w).st.mkd = w.st.mkd ∧
    (examineAlmostFull w).st.rqt = w.st.rqt ∧ (examineAlmostFull w).st.trc = w.st.trc ∧
    (examineAlmostFull w).st.fit = w.st.fit ∧ (examineAlmostFull w).st.fcc = w.st.fcc ∧
    (examineAlmostFull w).st.gtu = w.st.gtu ∧ (examineAlmostFull w).st.ntu.ports = w.st.ntu.ports ∧
    (examineAlmostFull w).st.lnk = w.st.lnk := by
  simp [examineAlmostFull]

@[simp] theorem removeRecord_frame (p : Port) (t : Byte) (s : State) :
    (removeRecord p t s).pending = s.pending ∧ (removeRecord p t s).freeCount = s.freeCount ∧
    (removeRecord p t s).lensRead = s.lensRead ∧
    (removeRecord p t s).resetHeld = s.resetHeld ∧ (removeRecord p t s).unitAddress = s.unitAddress ∧
    (removeRecord p t s).pins = s.pins ∧ (removeRecord p t s).mkd = s.mkd ∧
    (removeRecord p t s).rqt.run = s.rqt.run ∧ (removeRecord p t s).rqt.arrival = s.rqt.arrival ∧
    (removeRecord p t s).rqt.halted = s.rqt.halted ∧ (removeRecord p t s).rqt.stopReason = s.rqt.stopReason ∧
    (removeRecord p t s).trc = s.trc ∧ (removeRecord p t s).fit = s.fit ∧ (removeRecord p t s).fcc = s.fcc ∧
    (removeRecord p t s).gtu = s.gtu ∧ (removeRecord p t s).ntu = s.ntu ∧ (removeRecord p t s).lnk = s.lnk := by
  simp [removeRecord]

@[simp] theorem completeRecordOnly_frame (r : Record) (o : OutcomeCode) (w : Ctx) :
    (completeRecordOnly r o w).st.pending = w.st.pending ∧ (completeRecordOnly r o w).st.freeCount = w.st.freeCount ∧
    (completeRecordOnly r o w).st.lensRead = w.st.lensRead ∧
    (completeRecordOnly r o w).st.resetHeld = w.st.resetHeld ∧
    (completeRecordOnly r o w).st.unitAddress = w.st.unitAddress ∧ (completeRecordOnly r o w).st.pins = w.st.pins ∧
    (completeRecordOnly r o w).st.mkd = w.st.mkd ∧ (completeRecordOnly r o w).st.rqt.run = w.st.rqt.run ∧
    (completeRecordOnly r o w).st.rqt.arrival = w.st.rqt.arrival ∧
    (completeRecordOnly r o w).st.rqt.halted = w.st.rqt.halted ∧
    (completeRecordOnly r o w).st.rqt.stopReason = w.st.rqt.stopReason ∧
    (completeRecordOnly r o w).st.trc = w.st.trc ∧ (completeRecordOnly r o w).st.fit = w.st.fit ∧
    (completeRecordOnly r o w).st.fcc = w.st.fcc ∧ (completeRecordOnly r o w).st.gtu = w.st.gtu ∧
    (completeRecordOnly r o w).st.ntu.ports = w.st.ntu.ports ∧
    (∀ q, ((completeRecordOnly r o w).st.lnk.get q).rx = (w.st.lnk.get q).rx) ∧
    (∀ q, ((completeRecordOnly r o w).st.lnk.get q).part = (w.st.lnk.get q).part) ∧
    (∀ q, ((completeRecordOnly r o w).st.lnk.get q).inbox = (w.st.lnk.get q).inbox) ∧
    (∀ q, ((completeRecordOnly r o w).st.lnk.get q).awaitMark = (w.st.lnk.get q).awaitMark) ∧
    (∀ q, ((completeRecordOnly r o w).st.lnk.get q).byteTimer = (w.st.lnk.get q).byteTimer) ∧
    (∀ q, ((completeRecordOnly r o w).st.lnk.get q).resyncTimer = (w.st.lnk.get q).resyncTimer) ∧
    (∀ q, ((completeRecordOnly r o w).st.lnk.get q).outbox = (w.st.lnk.get q).outbox) ∧
    (∀ q, ((completeRecordOnly r o w).st.lnk.get q).released = (w.st.lnk.get q).released) ∧
    (∀ q, ((completeRecordOnly r o w).st.lnk.get q).txFifo = (w.st.lnk.get q).txFifo) ∧
    (∀ q, ((completeRecordOnly r o w).st.lnk.get q).txLine = (w.st.lnk.get q).txLine) ∧
    (∀ q, ((completeRecordOnly r o w).st.lnk.get q).driving = (w.st.lnk.get q).driving) ∧
    (∀ q, ((completeRecordOnly r o w).st.lnk.get q).rdyMode = (w.st.lnk.get q).rdyMode) ∧
    (∀ q, ((completeRecordOnly r o w).st.lnk.get q).threshold = (w.st.lnk.get q).threshold) ∧
    (∀ q, ((completeRecordOnly r o w).st.lnk.get q).ctsGating = (w.st.lnk.get q).ctsGating) ∧
    (∀ q, ((completeRecordOnly r o w).st.lnk.get q).gap = (w.st.lnk.get q).gap) ∧
    (∀ q, ((completeRecordOnly r o w).st.lnk.get q).flags = (w.st.lnk.get q).flags) ∧
    (∀ q, ((completeRecordOnly r o w).st.lnk.get q).cts = (w.st.lnk.get q).cts) ∧
    (∀ q, ((completeRecordOnly r o w).st.lnk.get q).outstanding = (w.st.lnk.get q).outstanding) := by
  simp [completeRecordOnly]

@[simp] theorem examineBarriersN_frame (n : Nat) (p : Port) (w : Ctx) :
    (examineBarriersN n p w).st.pending = w.st.pending ∧ (examineBarriersN n p w).st.freeCount = w.st.freeCount ∧
    (examineBarriersN n p w).st.lensRead = w.st.lensRead ∧
    (examineBarriersN n p w).st.resetHeld = w.st.resetHeld ∧
    (examineBarriersN n p w).st.unitAddress = w.st.unitAddress ∧ (examineBarriersN n p w).st.pins = w.st.pins ∧
    (examineBarriersN n p w).st.mkd = w.st.mkd ∧ (examineBarriersN n p w).st.rqt.run = w.st.rqt.run ∧
    (examineBarriersN n p w).st.rqt.arrival = w.st.rqt.arrival ∧
    (examineBarriersN n p w).st.rqt.halted = w.st.rqt.halted ∧
    (examineBarriersN n p w).st.rqt.stopReason = w.st.rqt.stopReason ∧ (examineBarriersN n p w).st.trc = w.st.trc ∧
    (examineBarriersN n p w).st.fit = w.st.fit ∧ (examineBarriersN n p w).st.fcc = w.st.fcc ∧
    (examineBarriersN n p w).st.gtu = w.st.gtu ∧ (examineBarriersN n p w).st.ntu.ports = w.st.ntu.ports ∧
    (∀ q, ((examineBarriersN n p w).st.lnk.get q).rx = (w.st.lnk.get q).rx) ∧
    (∀ q, ((examineBarriersN n p w).st.lnk.get q).part = (w.st.lnk.get q).part) ∧
    (∀ q, ((examineBarriersN n p w).st.lnk.get q).inbox = (w.st.lnk.get q).inbox) ∧
    (∀ q, ((examineBarriersN n p w).st.lnk.get q).awaitMark = (w.st.lnk.get q).awaitMark) ∧
    (∀ q, ((examineBarriersN n p w).st.lnk.get q).byteTimer = (w.st.lnk.get q).byteTimer) ∧
    (∀ q, ((examineBarriersN n p w).st.lnk.get q).resyncTimer = (w.st.lnk.get q).resyncTimer) ∧
    (∀ q, ((examineBarriersN n p w).st.lnk.get q).outbox = (w.st.lnk.get q).outbox) ∧
    (∀ q, ((examineBarriersN n p w).st.lnk.get q).released = (w.st.lnk.get q).released) ∧
    (∀ q, ((examineBarriersN n p w).st.lnk.get q).txFifo = (w.st.lnk.get q).txFifo) ∧
    (∀ q, ((examineBarriersN n p w).st.lnk.get q).txLine = (w.st.lnk.get q).txLine) ∧
    (∀ q, ((examineBarriersN n p w).st.lnk.get q).driving = (w.st.lnk.get q).driving) ∧
    (∀ q, ((examineBarriersN n p w).st.lnk.get q).rdyMode = (w.st.lnk.get q).rdyMode) ∧
    (∀ q, ((examineBarriersN n p w).st.lnk.get q).threshold = (w.st.lnk.get q).threshold) ∧
    (∀ q, ((examineBarriersN n p w).st.lnk.get q).ctsGating = (w.st.lnk.get q).ctsGating) ∧
    (∀ q, ((examineBarriersN n p w).st.lnk.get q).gap = (w.st.lnk.get q).gap) ∧
    (∀ q, ((examineBarriersN n p w).st.lnk.get q).flags = (w.st.lnk.get q).flags) ∧
    (∀ q, ((examineBarriersN n p w).st.lnk.get q).cts = (w.st.lnk.get q).cts) ∧
    (∀ q, ((examineBarriersN n p w).st.lnk.get q).outstanding = (w.st.lnk.get q).outstanding) := by
  induction n generalizing w with
  | zero => simp [examineBarriersN]
  | succ n ih =>
    unfold examineBarriersN
    split <;> simp [ih]

@[simp] theorem examineBarriers_frame (p : Port) (w : Ctx) :
    (examineBarriers p w).st.pending = w.st.pending ∧ (examineBarriers p w).st.freeCount = w.st.freeCount ∧
    (examineBarriers p w).st.lensRead = w.st.lensRead ∧
    (examineBarriers p w).st.resetHeld = w.st.resetHeld ∧ (examineBarriers p w).st.unitAddress = w.st.unitAddress ∧
    (examineBarriers p w).st.pins = w.st.pins ∧ (examineBarriers p w).st.mkd = w.st.mkd ∧
    (examineBarriers p w).st.rqt.run = w.st.rqt.run ∧ (examineBarriers p w).st.rqt.arrival = w.st.rqt.arrival ∧
    (examineBarriers p w).st.rqt.halted = w.st.rqt.halted ∧
    (examineBarriers p w).st.rqt.stopReason = w.st.rqt.stopReason ∧ (examineBarriers p w).st.trc = w.st.trc ∧
    (examineBarriers p w).st.fit = w.st.fit ∧ (examineBarriers p w).st.fcc = w.st.fcc ∧
    (examineBarriers p w).st.gtu = w.st.gtu ∧ (examineBarriers p w).st.ntu.ports = w.st.ntu.ports ∧
    (∀ q, ((examineBarriers p w).st.lnk.get q).rx = (w.st.lnk.get q).rx) ∧
    (∀ q, ((examineBarriers p w).st.lnk.get q).part = (w.st.lnk.get q).part) ∧
    (∀ q, ((examineBarriers p w).st.lnk.get q).inbox = (w.st.lnk.get q).inbox) ∧
    (∀ q, ((examineBarriers p w).st.lnk.get q).awaitMark = (w.st.lnk.get q).awaitMark) ∧
    (∀ q, ((examineBarriers p w).st.lnk.get q).byteTimer = (w.st.lnk.get q).byteTimer) ∧
    (∀ q, ((examineBarriers p w).st.lnk.get q).resyncTimer = (w.st.lnk.get q).resyncTimer) ∧
    (∀ q, ((examineBarriers p w).st.lnk.get q).outbox = (w.st.lnk.get q).outbox) ∧
    (∀ q, ((examineBarriers p w).st.lnk.get q).released = (w.st.lnk.get q).released) ∧
    (∀ q, ((examineBarriers p w).st.lnk.get q).txFifo = (w.st.lnk.get q).txFifo) ∧
    (∀ q, ((examineBarriers p w).st.lnk.get q).txLine = (w.st.lnk.get q).txLine) ∧
    (∀ q, ((examineBarriers p w).st.lnk.get q).driving = (w.st.lnk.get q).driving) ∧
    (∀ q, ((examineBarriers p w).st.lnk.get q).rdyMode = (w.st.lnk.get q).rdyMode) ∧
    (∀ q, ((examineBarriers p w).st.lnk.get q).threshold = (w.st.lnk.get q).threshold) ∧
    (∀ q, ((examineBarriers p w).st.lnk.get q).ctsGating = (w.st.lnk.get q).ctsGating) ∧
    (∀ q, ((examineBarriers p w).st.lnk.get q).gap = (w.st.lnk.get q).gap) ∧
    (∀ q, ((examineBarriers p w).st.lnk.get q).flags = (w.st.lnk.get q).flags) ∧
    (∀ q, ((examineBarriers p w).st.lnk.get q).cts = (w.st.lnk.get q).cts) ∧
    (∀ q, ((examineBarriers p w).st.lnk.get q).outstanding = (w.st.lnk.get q).outstanding) := by
  simp [examineBarriers]

@[simp] theorem completeRecord_frame (r : Record) (o : OutcomeCode) (w : Ctx) :
    (completeRecord r o w).st.pending = w.st.pending ∧ (completeRecord r o w).st.freeCount = w.st.freeCount ∧
    (completeRecord r o w).st.lensRead = w.st.lensRead ∧
    (completeRecord r o w).st.resetHeld = w.st.resetHeld ∧ (completeRecord r o w).st.unitAddress = w.st.unitAddress ∧
    (completeRecord r o w).st.pins = w.st.pins ∧ (completeRecord r o w).st.mkd = w.st.mkd ∧
    (completeRecord r o w).st.rqt.run = w.st.rqt.run ∧ (completeRecord r o w).st.rqt.arrival = w.st.rqt.arrival ∧
    (completeRecord r o w).st.rqt.halted = w.st.rqt.halted ∧
    (completeRecord r o w).st.rqt.stopReason = w.st.rqt.stopReason ∧ (completeRecord r o w).st.trc = w.st.trc ∧
    (completeRecord r o w).st.fit = w.st.fit ∧ (completeRecord r o w).st.fcc = w.st.fcc ∧
    (completeRecord r o w).st.gtu = w.st.gtu ∧ (completeRecord r o w).st.ntu.ports = w.st.ntu.ports ∧
    (∀ q, ((completeRecord r o w).st.lnk.get q).rx = (w.st.lnk.get q).rx) ∧
    (∀ q, ((completeRecord r o w).st.lnk.get q).part = (w.st.lnk.get q).part) ∧
    (∀ q, ((completeRecord r o w).st.lnk.get q).inbox = (w.st.lnk.get q).inbox) ∧
    (∀ q, ((completeRecord r o w).st.lnk.get q).awaitMark = (w.st.lnk.get q).awaitMark) ∧
    (∀ q, ((completeRecord r o w).st.lnk.get q).byteTimer = (w.st.lnk.get q).byteTimer) ∧
    (∀ q, ((completeRecord r o w).st.lnk.get q).resyncTimer = (w.st.lnk.get q).resyncTimer) ∧
    (∀ q, ((completeRecord r o w).st.lnk.get q).outbox = (w.st.lnk.get q).outbox) ∧
    (∀ q, ((completeRecord r o w).st.lnk.get q).released = (w.st.lnk.get q).released) ∧
    (∀ q, ((completeRecord r o w).st.lnk.get q).txFifo = (w.st.lnk.get q).txFifo) ∧
    (∀ q, ((completeRecord r o w).st.lnk.get q).txLine = (w.st.lnk.get q).txLine) ∧
    (∀ q, ((completeRecord r o w).st.lnk.get q).driving = (w.st.lnk.get q).driving) ∧
    (∀ q, ((completeRecord r o w).st.lnk.get q).rdyMode = (w.st.lnk.get q).rdyMode) ∧
    (∀ q, ((completeRecord r o w).st.lnk.get q).threshold = (w.st.lnk.get q).threshold) ∧
    (∀ q, ((completeRecord r o w).st.lnk.get q).ctsGating = (w.st.lnk.get q).ctsGating) ∧
    (∀ q, ((completeRecord r o w).st.lnk.get q).gap = (w.st.lnk.get q).gap) ∧
    (∀ q, ((completeRecord r o w).st.lnk.get q).flags = (w.st.lnk.get q).flags) ∧
    (∀ q, ((completeRecord r o w).st.lnk.get q).cts = (w.st.lnk.get q).cts) ∧
    (∀ q, ((completeRecord r o w).st.lnk.get q).outstanding = (w.st.lnk.get q).outstanding) := by
  simp [completeRecord]

@[simp] theorem completeTag_frame (p : Port) (t : Byte) (o : OutcomeCode) (w : Ctx) :
    (completeTag p t o w).st.pending = w.st.pending ∧ (completeTag p t o w).st.freeCount = w.st.freeCount ∧
    (completeTag p t o w).st.lensRead = w.st.lensRead ∧
    (completeTag p t o w).st.resetHeld = w.st.resetHeld ∧ (completeTag p t o w).st.unitAddress = w.st.unitAddress ∧
    (completeTag p t o w).st.pins = w.st.pins ∧ (completeTag p t o w).st.mkd = w.st.mkd ∧
    (completeTag p t o w).st.rqt.run = w.st.rqt.run ∧ (completeTag p t o w).st.rqt.arrival = w.st.rqt.arrival ∧
    (completeTag p t o w).st.rqt.halted = w.st.rqt.halted ∧
    (completeTag p t o w).st.rqt.stopReason = w.st.rqt.stopReason ∧ (completeTag p t o w).st.trc = w.st.trc ∧
    (completeTag p t o w).st.fit = w.st.fit ∧ (completeTag p t o w).st.fcc = w.st.fcc ∧
    (completeTag p t o w).st.gtu = w.st.gtu ∧ (completeTag p t o w).st.ntu.ports = w.st.ntu.ports ∧
    (∀ q, ((completeTag p t o w).st.lnk.get q).rx = (w.st.lnk.get q).rx) ∧
    (∀ q, ((completeTag p t o w).st.lnk.get q).part = (w.st.lnk.get q).part) ∧
    (∀ q, ((completeTag p t o w).st.lnk.get q).inbox = (w.st.lnk.get q).inbox) ∧
    (∀ q, ((completeTag p t o w).st.lnk.get q).awaitMark = (w.st.lnk.get q).awaitMark) ∧
    (∀ q, ((completeTag p t o w).st.lnk.get q).byteTimer = (w.st.lnk.get q).byteTimer) ∧
    (∀ q, ((completeTag p t o w).st.lnk.get q).resyncTimer = (w.st.lnk.get q).resyncTimer) ∧
    (∀ q, ((completeTag p t o w).st.lnk.get q).outbox = (w.st.lnk.get q).outbox) ∧
    (∀ q, ((completeTag p t o w).st.lnk.get q).released = (w.st.lnk.get q).released) ∧
    (∀ q, ((completeTag p t o w).st.lnk.get q).txFifo = (w.st.lnk.get q).txFifo) ∧
    (∀ q, ((completeTag p t o w).st.lnk.get q).txLine = (w.st.lnk.get q).txLine) ∧
    (∀ q, ((completeTag p t o w).st.lnk.get q).driving = (w.st.lnk.get q).driving) ∧
    (∀ q, ((completeTag p t o w).st.lnk.get q).rdyMode = (w.st.lnk.get q).rdyMode) ∧
    (∀ q, ((completeTag p t o w).st.lnk.get q).threshold = (w.st.lnk.get q).threshold) ∧
    (∀ q, ((completeTag p t o w).st.lnk.get q).ctsGating = (w.st.lnk.get q).ctsGating) ∧
    (∀ q, ((completeTag p t o w).st.lnk.get q).gap = (w.st.lnk.get q).gap) ∧
    (∀ q, ((completeTag p t o w).st.lnk.get q).flags = (w.st.lnk.get q).flags) ∧
    (∀ q, ((completeTag p t o w).st.lnk.get q).cts = (w.st.lnk.get q).cts) ∧
    (∀ q, ((completeTag p t o w).st.lnk.get q).outstanding = (w.st.lnk.get q).outstanding) := by
  unfold completeTag
  split <;> simp

@[simp] theorem removeRun_frame (s : State) :
    (removeRun s).pending = s.pending ∧ (removeRun s).freeCount = s.freeCount ∧ (removeRun s).lensRead = s.lensRead ∧
    (removeRun s).resetHeld = s.resetHeld ∧ (removeRun s).unitAddress = s.unitAddress ∧ (removeRun s).pins = s.pins ∧
    (removeRun s).mkd = s.mkd ∧ (removeRun s).rqt.records = s.rqt.records ∧
    (removeRun s).rqt.arrival = s.rqt.arrival ∧ (removeRun s).rqt.halted = s.rqt.halted ∧
    (removeRun s).rqt.stopReason = s.rqt.stopReason ∧ (removeRun s).trc = s.trc ∧ (removeRun s).fit = s.fit ∧
    (removeRun s).fcc = s.fcc ∧ (removeRun s).gtu = s.gtu ∧ (removeRun s).ntu = s.ntu ∧ (removeRun s).lnk = s.lnk := by
  simp [removeRun]

@[simp] theorem completeRunOnly_frame (o : OutcomeCode) (w : Ctx) :
    (completeRunOnly o w).st.pending = w.st.pending ∧ (completeRunOnly o w).st.freeCount = w.st.freeCount ∧
    (completeRunOnly o w).st.lensRead = w.st.lensRead ∧
    (completeRunOnly o w).st.resetHeld = w.st.resetHeld ∧ (completeRunOnly o w).st.unitAddress = w.st.unitAddress ∧
    (completeRunOnly o w).st.pins = w.st.pins ∧ (completeRunOnly o w).st.mkd = w.st.mkd ∧
    (completeRunOnly o w).st.rqt.records = w.st.rqt.records ∧
    (completeRunOnly o w).st.rqt.arrival = w.st.rqt.arrival ∧ (completeRunOnly o w).st.rqt.halted = w.st.rqt.halted ∧
    (completeRunOnly o w).st.rqt.stopReason = w.st.rqt.stopReason ∧ (completeRunOnly o w).st.trc = w.st.trc ∧
    (completeRunOnly o w).st.fit = w.st.fit ∧ (completeRunOnly o w).st.fcc = w.st.fcc ∧
    (completeRunOnly o w).st.gtu = w.st.gtu ∧ (completeRunOnly o w).st.ntu = w.st.ntu ∧
    (∀ q, ((completeRunOnly o w).st.lnk.get q).rx = (w.st.lnk.get q).rx) ∧
    (∀ q, ((completeRunOnly o w).st.lnk.get q).part = (w.st.lnk.get q).part) ∧
    (∀ q, ((completeRunOnly o w).st.lnk.get q).inbox = (w.st.lnk.get q).inbox) ∧
    (∀ q, ((completeRunOnly o w).st.lnk.get q).awaitMark = (w.st.lnk.get q).awaitMark) ∧
    (∀ q, ((completeRunOnly o w).st.lnk.get q).byteTimer = (w.st.lnk.get q).byteTimer) ∧
    (∀ q, ((completeRunOnly o w).st.lnk.get q).resyncTimer = (w.st.lnk.get q).resyncTimer) ∧
    (∀ q, ((completeRunOnly o w).st.lnk.get q).outbox = (w.st.lnk.get q).outbox) ∧
    (∀ q, ((completeRunOnly o w).st.lnk.get q).released = (w.st.lnk.get q).released) ∧
    (∀ q, ((completeRunOnly o w).st.lnk.get q).txFifo = (w.st.lnk.get q).txFifo) ∧
    (∀ q, ((completeRunOnly o w).st.lnk.get q).txLine = (w.st.lnk.get q).txLine) ∧
    (∀ q, ((completeRunOnly o w).st.lnk.get q).driving = (w.st.lnk.get q).driving) ∧
    (∀ q, ((completeRunOnly o w).st.lnk.get q).rdyMode = (w.st.lnk.get q).rdyMode) ∧
    (∀ q, ((completeRunOnly o w).st.lnk.get q).threshold = (w.st.lnk.get q).threshold) ∧
    (∀ q, ((completeRunOnly o w).st.lnk.get q).ctsGating = (w.st.lnk.get q).ctsGating) ∧
    (∀ q, ((completeRunOnly o w).st.lnk.get q).gap = (w.st.lnk.get q).gap) ∧
    (∀ q, ((completeRunOnly o w).st.lnk.get q).flags = (w.st.lnk.get q).flags) ∧
    (∀ q, ((completeRunOnly o w).st.lnk.get q).cts = (w.st.lnk.get q).cts) ∧
    (∀ q, ((completeRunOnly o w).st.lnk.get q).outstanding = (w.st.lnk.get q).outstanding) := by
  unfold completeRunOnly
  split <;> simp

@[simp] theorem completeRun_frame (o : OutcomeCode) (w : Ctx) :
    (completeRun o w).st.pending = w.st.pending ∧ (completeRun o w).st.freeCount = w.st.freeCount ∧
    (completeRun o w).st.lensRead = w.st.lensRead ∧
    (completeRun o w).st.resetHeld = w.st.resetHeld ∧ (completeRun o w).st.unitAddress = w.st.unitAddress ∧
    (completeRun o w).st.pins = w.st.pins ∧ (completeRun o w).st.mkd = w.st.mkd ∧
    (completeRun o w).st.rqt.arrival = w.st.rqt.arrival ∧ (completeRun o w).st.rqt.halted = w.st.rqt.halted ∧
    (completeRun o w).st.rqt.stopReason = w.st.rqt.stopReason ∧ (completeRun o w).st.trc = w.st.trc ∧
    (completeRun o w).st.fit = w.st.fit ∧ (completeRun o w).st.fcc = w.st.fcc ∧ (completeRun o w).st.gtu = w.st.gtu ∧
    (completeRun o w).st.ntu.ports = w.st.ntu.ports ∧
    (∀ q, ((completeRun o w).st.lnk.get q).rx = (w.st.lnk.get q).rx) ∧
    (∀ q, ((completeRun o w).st.lnk.get q).part = (w.st.lnk.get q).part) ∧
    (∀ q, ((completeRun o w).st.lnk.get q).inbox = (w.st.lnk.get q).inbox) ∧
    (∀ q, ((completeRun o w).st.lnk.get q).awaitMark = (w.st.lnk.get q).awaitMark) ∧
    (∀ q, ((completeRun o w).st.lnk.get q).byteTimer = (w.st.lnk.get q).byteTimer) ∧
    (∀ q, ((completeRun o w).st.lnk.get q).resyncTimer = (w.st.lnk.get q).resyncTimer) ∧
    (∀ q, ((completeRun o w).st.lnk.get q).outbox = (w.st.lnk.get q).outbox) ∧
    (∀ q, ((completeRun o w).st.lnk.get q).released = (w.st.lnk.get q).released) ∧
    (∀ q, ((completeRun o w).st.lnk.get q).txFifo = (w.st.lnk.get q).txFifo) ∧
    (∀ q, ((completeRun o w).st.lnk.get q).txLine = (w.st.lnk.get q).txLine) ∧
    (∀ q, ((completeRun o w).st.lnk.get q).driving = (w.st.lnk.get q).driving) ∧
    (∀ q, ((completeRun o w).st.lnk.get q).rdyMode = (w.st.lnk.get q).rdyMode) ∧
    (∀ q, ((completeRun o w).st.lnk.get q).threshold = (w.st.lnk.get q).threshold) ∧
    (∀ q, ((completeRun o w).st.lnk.get q).ctsGating = (w.st.lnk.get q).ctsGating) ∧
    (∀ q, ((completeRun o w).st.lnk.get q).gap = (w.st.lnk.get q).gap) ∧
    (∀ q, ((completeRun o w).st.lnk.get q).flags = (w.st.lnk.get q).flags) ∧
    (∀ q, ((completeRun o w).st.lnk.get q).cts = (w.st.lnk.get q).cts) ∧
    (∀ q, ((completeRun o w).st.lnk.get q).outstanding = (w.st.lnk.get q).outstanding) := by
  simp [completeRun]

@[simp] theorem setRecState_frame (p : Port) (t : Byte) (x : RecState) (s : State) :
    (setRecState p t x s).pending = s.pending ∧ (setRecState p t x s).freeCount = s.freeCount ∧
    (setRecState p t x s).lensRead = s.lensRead ∧
    (setRecState p t x s).resetHeld = s.resetHeld ∧ (setRecState p t x s).unitAddress = s.unitAddress ∧
    (setRecState p t x s).pins = s.pins ∧ (setRecState p t x s).mkd = s.mkd ∧
    (setRecState p t x s).rqt.run = s.rqt.run ∧ (setRecState p t x s).rqt.arrival = s.rqt.arrival ∧
    (setRecState p t x s).rqt.halted = s.rqt.halted ∧ (setRecState p t x s).rqt.grant = s.rqt.grant ∧
    (setRecState p t x s).rqt.stopReason = s.rqt.stopReason ∧ (setRecState p t x s).trc = s.trc ∧
    (setRecState p t x s).fit = s.fit ∧ (setRecState p t x s).fcc = s.fcc ∧ (setRecState p t x s).gtu = s.gtu ∧
    (setRecState p t x s).ntu = s.ntu ∧ (setRecState p t x s).lnk = s.lnk := by
  simp [setRecState]

@[simp] theorem setRunState_frame (x : RunState) (s : State) :
    (setRunState x s).pending = s.pending ∧ (setRunState x s).freeCount = s.freeCount ∧
    (setRunState x s).lensRead = s.lensRead ∧
    (setRunState x s).resetHeld = s.resetHeld ∧ (setRunState x s).unitAddress = s.unitAddress ∧
    (setRunState x s).pins = s.pins ∧ (setRunState x s).mkd = s.mkd ∧ (setRunState x s).rqt.records = s.rqt.records ∧
    (setRunState x s).rqt.arrival = s.rqt.arrival ∧ (setRunState x s).rqt.halted = s.rqt.halted ∧
    (setRunState x s).rqt.grant = s.rqt.grant ∧ (setRunState x s).rqt.stopReason = s.rqt.stopReason ∧
    (setRunState x s).trc = s.trc ∧ (setRunState x s).fit = s.fit ∧ (setRunState x s).fcc = s.fcc ∧
    (setRunState x s).gtu = s.gtu ∧ (setRunState x s).ntu = s.ntu ∧ (setRunState x s).lnk = s.lnk := by
  simp [setRunState]

@[simp] theorem returnGrant_frame (s : State) :
    (returnGrant s).pending = s.pending ∧ (returnGrant s).freeCount = s.freeCount ∧
    (returnGrant s).lensRead = s.lensRead ∧
    (returnGrant s).resetHeld = s.resetHeld ∧ (returnGrant s).unitAddress = s.unitAddress ∧
    (returnGrant s).pins = s.pins ∧ (returnGrant s).mkd = s.mkd ∧ (returnGrant s).rqt.arrival = s.rqt.arrival ∧
    (returnGrant s).rqt.halted = s.rqt.halted ∧ (returnGrant s).rqt.stopReason = s.rqt.stopReason ∧
    (returnGrant s).trc = s.trc ∧ (returnGrant s).fit = s.fit ∧ (returnGrant s).fcc = s.fcc ∧
    (returnGrant s).gtu = s.gtu ∧ (returnGrant s).ntu = s.ntu ∧ (returnGrant s).lnk = s.lnk := by
  unfold returnGrant
  split <;> simp

@[simp] theorem chooseRunFrame_frame (s : State) :
    (chooseRunFrame s).pending = s.pending ∧ (chooseRunFrame s).freeCount = s.freeCount ∧
    (chooseRunFrame s).lensRead = s.lensRead ∧
    (chooseRunFrame s).resetHeld = s.resetHeld ∧ (chooseRunFrame s).unitAddress = s.unitAddress ∧
    (chooseRunFrame s).pins = s.pins ∧ (chooseRunFrame s).mkd = s.mkd ∧
    (chooseRunFrame s).rqt.records = s.rqt.records ∧ (chooseRunFrame s).rqt.arrival = s.rqt.arrival ∧
    (chooseRunFrame s).rqt.halted = s.rqt.halted ∧ (chooseRunFrame s).rqt.grant = s.rqt.grant ∧
    (chooseRunFrame s).rqt.stopReason = s.rqt.stopReason ∧ (chooseRunFrame s).trc = s.trc ∧
    (chooseRunFrame s).fit = s.fit ∧ (chooseRunFrame s).fcc = s.fcc ∧ (chooseRunFrame s).gtu = s.gtu ∧
    (chooseRunFrame s).ntu = s.ntu ∧ (chooseRunFrame s).lnk = s.lnk := by
  simp [chooseRunFrame]

@[simp] theorem runAdvance_frame (n : Nat) (w : Ctx) :
    (runAdvance n w).st.pending = w.st.pending ∧ (runAdvance n w).st.freeCount = w.st.freeCount ∧
    (runAdvance n w).st.lensRead = w.st.lensRead ∧
    (runAdvance n w).st.resetHeld = w.st.resetHeld ∧ (runAdvance n w).st.unitAddress = w.st.unitAddress ∧
    (runAdvance n w).st.pins = w.st.pins ∧ (runAdvance n w).st.mkd = w.st.mkd ∧
    (runAdvance n w).st.rqt.arrival = w.st.rqt.arrival ∧ (runAdvance n w).st.rqt.halted = w.st.rqt.halted ∧
    (runAdvance n w).st.rqt.stopReason = w.st.rqt.stopReason ∧ (runAdvance n w).st.trc.roll = w.st.trc.roll ∧
    (runAdvance n w).st.trc.profile = w.st.trc.profile ∧ (runAdvance n w).st.trc.counter = w.st.trc.counter ∧
    (runAdvance n w).st.trc.endPos = w.st.trc.endPos ∧ (runAdvance n w).st.trc.overrun = w.st.trc.overrun ∧
    (runAdvance n w).st.trc.motion = w.st.trc.motion ∧ (runAdvance n w).st.trc.travelDir = w.st.trc.travelDir ∧
    (runAdvance n w).st.trc.speed = w.st.trc.speed ∧ (runAdvance n w).st.trc.move = w.st.trc.move ∧
    (runAdvance n w).st.trc.epoch = w.st.trc.epoch ∧ (runAdvance n w).st.trc.verified = w.st.trc.verified ∧
    (runAdvance n w).st.trc.slip = w.st.trc.slip ∧ (runAdvance n w).st.trc.cause = w.st.trc.cause ∧
    (runAdvance n w).st.trc.retension = w.st.trc.retension ∧ (runAdvance n w).st.trc.parkDelay = w.st.trc.parkDelay ∧
    (runAdvance n w).st.trc.wakeDelay = w.st.trc.wakeDelay ∧ (runAdvance n w).st.trc.wakeFor = w.st.trc.wakeFor ∧
    (runAdvance n w).st.fit = w.st.fit ∧ (runAdvance n w).st.fcc = w.st.fcc ∧ (runAdvance n w).st.gtu = w.st.gtu ∧
    (runAdvance n w).st.ntu.ports = w.st.ntu.ports ∧
    (∀ q, ((runAdvance n w).st.lnk.get q).rx = (w.st.lnk.get q).rx) ∧
    (∀ q, ((runAdvance n w).st.lnk.get q).part = (w.st.lnk.get q).part) ∧
    (∀ q, ((runAdvance n w).st.lnk.get q).inbox = (w.st.lnk.get q).inbox) ∧
    (∀ q, ((runAdvance n w).st.lnk.get q).awaitMark = (w.st.lnk.get q).awaitMark) ∧
    (∀ q, ((runAdvance n w).st.lnk.get q).byteTimer = (w.st.lnk.get q).byteTimer) ∧
    (∀ q, ((runAdvance n w).st.lnk.get q).resyncTimer = (w.st.lnk.get q).resyncTimer) ∧
    (∀ q, ((runAdvance n w).st.lnk.get q).outbox = (w.st.lnk.get q).outbox) ∧
    (∀ q, ((runAdvance n w).st.lnk.get q).released = (w.st.lnk.get q).released) ∧
    (∀ q, ((runAdvance n w).st.lnk.get q).txFifo = (w.st.lnk.get q).txFifo) ∧
    (∀ q, ((runAdvance n w).st.lnk.get q).txLine = (w.st.lnk.get q).txLine) ∧
    (∀ q, ((runAdvance n w).st.lnk.get q).driving = (w.st.lnk.get q).driving) ∧
    (∀ q, ((runAdvance n w).st.lnk.get q).rdyMode = (w.st.lnk.get q).rdyMode) ∧
    (∀ q, ((runAdvance n w).st.lnk.get q).threshold = (w.st.lnk.get q).threshold) ∧
    (∀ q, ((runAdvance n w).st.lnk.get q).ctsGating = (w.st.lnk.get q).ctsGating) ∧
    (∀ q, ((runAdvance n w).st.lnk.get q).gap = (w.st.lnk.get q).gap) ∧
    (∀ q, ((runAdvance n w).st.lnk.get q).flags = (w.st.lnk.get q).flags) ∧
    (∀ q, ((runAdvance n w).st.lnk.get q).cts = (w.st.lnk.get q).cts) ∧
    (∀ q, ((runAdvance n w).st.lnk.get q).outstanding = (w.st.lnk.get q).outstanding) := by
  unfold runAdvance
  dsimp only
  repeat' split
  all_goals simp

end Sys2Proof.Machine
end

