-- ==== Sys2Proof/Laws/FrameTransport.lean ====
section
/-! SUPPORT. What each operation of the transport leaves unchanged: one frame for each, which later proofs cite instead of
unfolding it. -/

namespace Sys2Proof.Machine

@[simp] theorem setMotion_frame (m : Motion) (s : State) :
    (setMotion m s).pending = s.pending ∧ (setMotion m s).freeCount = s.freeCount ∧
    (setMotion m s).lensRead = s.lensRead ∧
    (setMotion m s).resetHeld = s.resetHeld ∧ (setMotion m s).unitAddress = s.unitAddress ∧
    (setMotion m s).pins = s.pins ∧ (setMotion m s).mkd = s.mkd ∧ (setMotion m s).rqt = s.rqt ∧
    (setMotion m s).trc.roll = s.trc.roll ∧ (setMotion m s).trc.profile = s.trc.profile ∧
    (setMotion m s).trc.counter = s.trc.counter ∧ (setMotion m s).trc.endPos = s.trc.endPos ∧
    (setMotion m s).trc.overrun = s.trc.overrun ∧ (setMotion m s).trc.travelDir = s.trc.travelDir ∧
    (setMotion m s).trc.speed = s.trc.speed ∧ (setMotion m s).trc.move = s.trc.move ∧
    (setMotion m s).trc.epoch = s.trc.epoch ∧ (setMotion m s).trc.verified = s.trc.verified ∧
    (setMotion m s).trc.slip = s.trc.slip ∧ (setMotion m s).trc.cause = s.trc.cause ∧
    (setMotion m s).trc.retension = s.trc.retension ∧ (setMotion m s).trc.parkDelay = s.trc.parkDelay ∧
    (setMotion m s).trc.wakeDelay = s.trc.wakeDelay ∧ (setMotion m s).trc.wakeFor = s.trc.wakeFor ∧
    (setMotion m s).trc.timers = s.trc.timers ∧ (setMotion m s).fit.entries = s.fit.entries ∧
    (setMotion m s).fit.index = s.fit.index ∧ (setMotion m s).fit.p256 = s.fit.p256 ∧
    (setMotion m s).fit.splice = s.fit.splice ∧ (setMotion m s).fit.verify = s.fit.verify ∧
    (setMotion m s).fcc = s.fcc ∧ (setMotion m s).gtu = s.gtu ∧ (setMotion m s).ntu = s.ntu ∧
    (setMotion m s).lnk = s.lnk := by
  simp [setMotion]

@[simp] theorem motionStart_frame (s : State) :
    (motionStart s).pending = s.pending ∧ (motionStart s).freeCount = s.freeCount ∧
    (motionStart s).lensRead = s.lensRead ∧
    (motionStart s).resetHeld = s.resetHeld ∧ (motionStart s).unitAddress = s.unitAddress ∧
    (motionStart s).pins = s.pins ∧ (motionStart s).mkd = s.mkd ∧ (motionStart s).rqt = s.rqt ∧
    (motionStart s).trc.roll = s.trc.roll ∧ (motionStart s).trc.profile = s.trc.profile ∧
    (motionStart s).trc.counter = s.trc.counter ∧ (motionStart s).trc.endPos = s.trc.endPos ∧
    (motionStart s).trc.overrun = s.trc.overrun ∧ (motionStart s).trc.motion = s.trc.motion ∧
    (motionStart s).trc.travelDir = s.trc.travelDir ∧ (motionStart s).trc.speed = s.trc.speed ∧
    (motionStart s).trc.move = s.trc.move ∧ (motionStart s).trc.verified = s.trc.verified ∧
    (motionStart s).trc.slip = s.trc.slip ∧ (motionStart s).trc.cause = s.trc.cause ∧
    (motionStart s).trc.retension = s.trc.retension ∧ (motionStart s).trc.parkDelay = s.trc.parkDelay ∧
    (motionStart s).trc.wakeDelay = s.trc.wakeDelay ∧ (motionStart s).trc.wakeFor = s.trc.wakeFor ∧
    (motionStart s).trc.timers = s.trc.timers ∧ (motionStart s).fit = s.fit ∧ (motionStart s).fcc = s.fcc ∧
    (motionStart s).gtu.phase = s.gtu.phase ∧ (motionStart s).gtu.inHand = s.gtu.inHand ∧
    (motionStart s).gtu.presentation = s.gtu.presentation ∧ (motionStart s).gtu.hold = s.gtu.hold ∧
    (motionStart s).gtu.exposure = s.gtu.exposure ∧ (motionStart s).gtu.trig = s.gtu.trig ∧
    (motionStart s).gtu.route = s.gtu.route ∧ (motionStart s).gtu.heldReport = s.gtu.heldReport ∧
    (motionStart s).ntu = s.ntu ∧ (motionStart s).lnk = s.lnk := by
  simp [motionStart]

@[simp] theorem travelLeg_frame (m : Move) (d : Dir) (cls : SpeedClass) (setDir : Bool) (s : State) :
    (travelLeg m d cls setDir s).pending = s.pending ∧ (travelLeg m d cls setDir s).freeCount = s.freeCount ∧
    (travelLeg m d cls setDir s).lensRead = s.lensRead ∧
    (travelLeg m d cls setDir s).resetHeld = s.resetHeld ∧ (travelLeg m d cls setDir s).unitAddress = s.unitAddress ∧
    (travelLeg m d cls setDir s).pins = s.pins ∧ (travelLeg m d cls setDir s).mkd = s.mkd ∧
    (travelLeg m d cls setDir s).rqt = s.rqt ∧ (travelLeg m d cls setDir s).trc.roll = s.trc.roll ∧
    (travelLeg m d cls setDir s).trc.profile = s.trc.profile ∧
    (travelLeg m d cls setDir s).trc.counter = s.trc.counter ∧
    (travelLeg m d cls setDir s).trc.endPos = s.trc.endPos ∧
    (travelLeg m d cls setDir s).trc.overrun = s.trc.overrun ∧ (travelLeg m d cls setDir s).trc.speed = s.trc.speed ∧
    (travelLeg m d cls setDir s).trc.epoch = s.trc.epoch ∧
    (travelLeg m d cls setDir s).trc.verified = s.trc.verified ∧ (travelLeg m d cls setDir s).trc.slip = s.trc.slip ∧
    (travelLeg m d cls setDir s).trc.cause = s.trc.cause ∧
    (travelLeg m d cls setDir s).trc.retension = s.trc.retension ∧
    (travelLeg m d cls setDir s).trc.parkDelay = s.trc.parkDelay ∧
    (travelLeg m d cls setDir s).trc.wakeDelay = s.trc.wakeDelay ∧
    (travelLeg m d cls setDir s).trc.wakeFor = s.trc.wakeFor ∧
    (travelLeg m d cls setDir s).trc.timers = s.trc.timers ∧
    (travelLeg m d cls setDir s).fit.entries = s.fit.entries ∧ (travelLeg m d cls setDir s).fit.index = s.fit.index ∧
    (travelLeg m d cls setDir s).fit.p256 = s.fit.p256 ∧ (travelLeg m d cls setDir s).fit.splice = s.fit.splice ∧
    (travelLeg m d cls setDir s).fit.verify = s.fit.verify ∧ (travelLeg m d cls setDir s).fcc = s.fcc ∧
    (travelLeg m d cls setDir s).gtu = s.gtu ∧ (travelLeg m d cls setDir s).ntu = s.ntu ∧
    (travelLeg m d cls setDir s).lnk = s.lnk := by
  simp [travelLeg]

@[simp] theorem enterSettling_frame (m : Move) (s : State) :
    (enterSettling m s).pending = s.pending ∧ (enterSettling m s).freeCount = s.freeCount ∧
    (enterSettling m s).lensRead = s.lensRead ∧
    (enterSettling m s).resetHeld = s.resetHeld ∧ (enterSettling m s).unitAddress = s.unitAddress ∧
    (enterSettling m s).pins = s.pins ∧ (enterSettling m s).mkd = s.mkd ∧ (enterSettling m s).rqt = s.rqt ∧
    (enterSettling m s).trc.roll = s.trc.roll ∧ (enterSettling m s).trc.profile = s.trc.profile ∧
    (enterSettling m s).trc.counter = s.trc.counter ∧ (enterSettling m s).trc.endPos = s.trc.endPos ∧
    (enterSettling m s).trc.overrun = s.trc.overrun ∧ (enterSettling m s).trc.travelDir = s.trc.travelDir ∧
    (enterSettling m s).trc.epoch = s.trc.epoch ∧ (enterSettling m s).trc.verified = s.trc.verified ∧
    (enterSettling m s).trc.slip = s.trc.slip ∧ (enterSettling m s).trc.cause = s.trc.cause ∧
    (enterSettling m s).trc.retension = s.trc.retension ∧ (enterSettling m s).trc.parkDelay = s.trc.parkDelay ∧
    (enterSettling m s).trc.wakeDelay = s.trc.wakeDelay ∧ (enterSettling m s).trc.wakeFor = s.trc.wakeFor ∧
    (enterSettling m s).fit.entries = s.fit.entries ∧ (enterSettling m s).fit.index = s.fit.index ∧
    (enterSettling m s).fit.p256 = s.fit.p256 ∧ (enterSettling m s).fit.splice = s.fit.splice ∧
    (enterSettling m s).fit.verify = s.fit.verify ∧ (enterSettling m s).fcc = s.fcc ∧
    (enterSettling m s).gtu = s.gtu ∧ (enterSettling m s).ntu = s.ntu ∧ (enterSettling m s).lnk = s.lnk := by
  simp [enterSettling]

@[simp] theorem creepPhase_frame (t : Nat) (s : State) :
    (creepPhase t s).pending = s.pending ∧ (creepPhase t s).freeCount = s.freeCount ∧
    (creepPhase t s).lensRead = s.lensRead ∧ (creepPhase t s).resetHeld = s.resetHeld ∧
    (creepPhase t s).unitAddress = s.unitAddress ∧ (creepPhase t s).pins = s.pins ∧ (creepPhase t s).mkd = s.mkd ∧
    (creepPhase t s).rqt = s.rqt ∧ (creepPhase t s).trc.roll = s.trc.roll ∧
    (creepPhase t s).trc.profile = s.trc.profile ∧ (creepPhase t s).trc.counter = s.trc.counter ∧
    (creepPhase t s).trc.endPos = s.trc.endPos ∧ (creepPhase t s).trc.overrun = s.trc.overrun ∧
    (creepPhase t s).trc.travelDir = s.trc.travelDir ∧ (creepPhase t s).trc.speed = s.trc.speed ∧
    (creepPhase t s).trc.move = s.trc.move ∧ (creepPhase t s).trc.epoch = s.trc.epoch ∧
    (creepPhase t s).trc.verified = s.trc.verified ∧ (creepPhase t s).trc.slip = s.trc.slip ∧
    (creepPhase t s).trc.cause = s.trc.cause ∧ (creepPhase t s).trc.retension = s.trc.retension ∧
    (creepPhase t s).trc.parkDelay = s.trc.parkDelay ∧ (creepPhase t s).trc.wakeDelay = s.trc.wakeDelay ∧
    (creepPhase t s).trc.wakeFor = s.trc.wakeFor ∧ (creepPhase t s).trc.timers = s.trc.timers ∧
    (creepPhase t s).fit.entries = s.fit.entries ∧ (creepPhase t s).fit.index = s.fit.index ∧
    (creepPhase t s).fit.p256 = s.fit.p256 ∧ (creepPhase t s).fit.splice = s.fit.splice ∧
    (creepPhase t s).fit.verify = s.fit.verify ∧ (creepPhase t s).fcc = s.fcc ∧ (creepPhase t s).gtu = s.gtu ∧
    (creepPhase t s).ntu = s.ntu ∧ (creepPhase t s).lnk = s.lnk := by
  simp [creepPhase]

@[simp] theorem startCreep_frame (m : Move) (s : State) :
    (startCreep m s).pending = s.pending ∧ (startCreep m s).freeCount = s.freeCount ∧
    (startCreep m s).lensRead = s.lensRead ∧
    (startCreep m s).resetHeld = s.resetHeld ∧ (startCreep m s).unitAddress = s.unitAddress ∧
    (startCreep m s).pins = s.pins ∧ (startCreep m s).mkd = s.mkd ∧ (startCreep m s).rqt = s.rqt ∧
    (startCreep m s).trc.roll = s.trc.roll ∧ (startCreep m s).trc.profile = s.trc.profile ∧
    (startCreep m s).trc.counter = s.trc.counter ∧ (startCreep m s).trc.endPos = s.trc.endPos ∧
    (startCreep m s).trc.overrun = s.trc.overrun ∧ (startCreep m s).trc.travelDir = s.trc.travelDir ∧
    (startCreep m s).trc.epoch = s.trc.epoch ∧ (startCreep m s).trc.verified = s.trc.verified ∧
    (startCreep m s).trc.slip = s.trc.slip ∧ (startCreep m s).trc.cause = s.trc.cause ∧
    (startCreep m s).trc.retension = s.trc.retension ∧ (startCreep m s).trc.parkDelay = s.trc.parkDelay ∧
    (startCreep m s).trc.wakeDelay = s.trc.wakeDelay ∧ (startCreep m s).trc.wakeFor = s.trc.wakeFor ∧
    (startCreep m s).fit.entries = s.fit.entries ∧ (startCreep m s).fit.index = s.fit.index ∧
    (startCreep m s).fit.p256 = s.fit.p256 ∧ (startCreep m s).fit.splice = s.fit.splice ∧
    (startCreep m s).fit.verify = s.fit.verify ∧ (startCreep m s).fcc = s.fcc ∧ (startCreep m s).gtu = s.gtu ∧
    (startCreep m s).ntu = s.ntu ∧ (startCreep m s).lnk = s.lnk := by
  unfold startCreep
  split <;> simp

@[simp] theorem approachLeg_frame (cls : SpeedClass) (setDir : Bool) (m : Move) (s : State) :
    (approachLeg cls setDir m s).pending = s.pending ∧ (approachLeg cls setDir m s).freeCount = s.freeCount ∧
    (approachLeg cls setDir m s).lensRead = s.lensRead ∧
    (approachLeg cls setDir m s).resetHeld = s.resetHeld ∧ (approachLeg cls setDir m s).unitAddress = s.unitAddress ∧
    (approachLeg cls setDir m s).pins = s.pins ∧ (approachLeg cls setDir m s).mkd = s.mkd ∧
    (approachLeg cls setDir m s).rqt = s.rqt ∧ (approachLeg cls setDir m s).trc.roll = s.trc.roll ∧
    (approachLeg cls setDir m s).trc.profile = s.trc.profile ∧
    (approachLeg cls setDir m s).trc.counter = s.trc.counter ∧
    (approachLeg cls setDir m s).trc.endPos = s.trc.endPos ∧
    (approachLeg cls setDir m s).trc.overrun = s.trc.overrun ∧ (approachLeg cls setDir m s).trc.epoch = s.trc.epoch ∧
    (approachLeg cls setDir m s).trc.verified = s.trc.verified ∧ (approachLeg cls setDir m s).trc.slip = s.trc.slip ∧
    (approachLeg cls setDir m s).trc.cause = s.trc.cause ∧
    (approachLeg cls setDir m s).trc.retension = s.trc.retension ∧
    (approachLeg cls setDir m s).trc.parkDelay = s.trc.parkDelay ∧
    (approachLeg cls setDir m s).trc.wakeDelay = s.trc.wakeDelay ∧
    (approachLeg cls setDir m s).trc.wakeFor = s.trc.wakeFor ∧
    (approachLeg cls setDir m s).fit.entries = s.fit.entries ∧ (approachLeg cls setDir m s).fit.index = s.fit.index ∧
    (approachLeg cls setDir m s).fit.p256 = s.fit.p256 ∧ (approachLeg cls setDir m s).fit.splice = s.fit.splice ∧
    (approachLeg cls setDir m s).fit.verify = s.fit.verify ∧ (approachLeg cls setDir m s).fcc = s.fcc ∧
    (approachLeg cls setDir m s).gtu = s.gtu ∧ (approachLeg cls setDir m s).ntu = s.ntu ∧
    (approachLeg cls setDir m s).lnk = s.lnk := by
  unfold approachLeg
  dsimp only
  repeat' split
  all_goals simp

@[simp] theorem directLeg_frame (cls : SpeedClass) (setDir : Bool) (m : Move) (s : State) :
    (directLeg cls setDir m s).pending = s.pending ∧ (directLeg cls setDir m s).freeCount = s.freeCount ∧
    (directLeg cls setDir m s).lensRead = s.lensRead ∧
    (directLeg cls setDir m s).resetHeld = s.resetHeld ∧ (directLeg cls setDir m s).unitAddress = s.unitAddress ∧
    (directLeg cls setDir m s).pins = s.pins ∧ (directLeg cls setDir m s).mkd = s.mkd ∧
    (directLeg cls setDir m s).rqt = s.rqt ∧ (directLeg cls setDir m s).trc.roll = s.trc.roll ∧
    (directLeg cls setDir m s).trc.profile = s.trc.profile ∧ (directLeg cls setDir m s).trc.counter = s.trc.counter ∧
    (directLeg cls setDir m s).trc.endPos = s.trc.endPos ∧ (directLeg cls setDir m s).trc.overrun = s.trc.overrun ∧
    (directLeg cls setDir m s).trc.epoch = s.trc.epoch ∧ (directLeg cls setDir m s).trc.verified = s.trc.verified ∧
    (directLeg cls setDir m s).trc.slip = s.trc.slip ∧ (directLeg cls setDir m s).trc.cause = s.trc.cause ∧
    (directLeg cls setDir m s).trc.retension = s.trc.retension ∧
    (directLeg cls setDir m s).trc.parkDelay = s.trc.parkDelay ∧
    (directLeg cls setDir m s).trc.wakeDelay = s.trc.wakeDelay ∧
    (directLeg cls setDir m s).trc.wakeFor = s.trc.wakeFor ∧ (directLeg cls setDir m s).fit.entries = s.fit.entries ∧
    (directLeg cls setDir m s).fit.index = s.fit.index ∧ (directLeg cls setDir m s).fit.p256 = s.fit.p256 ∧
    (directLeg cls setDir m s).fit.splice = s.fit.splice ∧ (directLeg cls setDir m s).fit.verify = s.fit.verify ∧
    (directLeg cls setDir m s).fcc = s.fcc ∧ (directLeg cls setDir m s).gtu = s.gtu ∧
    (directLeg cls setDir m s).ntu = s.ntu ∧ (directLeg cls setDir m s).lnk = s.lnk := by
  unfold directLeg
  split_ifs <;> simp

@[simp] theorem nextLeg_frame (cls : SpeedClass) (setDir : Bool) (m : Move) (s : State) :
    (nextLeg cls setDir m s).pending = s.pending ∧ (nextLeg cls setDir m s).freeCount = s.freeCount ∧
    (nextLeg cls setDir m s).lensRead = s.lensRead ∧
    (nextLeg cls setDir m s).resetHeld = s.resetHeld ∧ (nextLeg cls setDir m s).unitAddress = s.unitAddress ∧
    (nextLeg cls setDir m s).pins = s.pins ∧ (nextLeg cls setDir m s).mkd = s.mkd ∧
    (nextLeg cls setDir m s).rqt = s.rqt ∧ (nextLeg cls setDir m s).trc.roll = s.trc.roll ∧
    (nextLeg cls setDir m s).trc.profile = s.trc.profile ∧ (nextLeg cls setDir m s).trc.counter = s.trc.counter ∧
    (nextLeg cls setDir m s).trc.endPos = s.trc.endPos ∧ (nextLeg cls setDir m s).trc.overrun = s.trc.overrun ∧
    (nextLeg cls setDir m s).trc.epoch = s.trc.epoch ∧ (nextLeg cls setDir m s).trc.verified = s.trc.verified ∧
    (nextLeg cls setDir m s).trc.slip = s.trc.slip ∧ (nextLeg cls setDir m s).trc.cause = s.trc.cause ∧
    (nextLeg cls setDir m s).trc.retension = s.trc.retension ∧
    (nextLeg cls setDir m s).trc.parkDelay = s.trc.parkDelay ∧
    (nextLeg cls setDir m s).trc.wakeDelay = s.trc.wakeDelay ∧ (nextLeg cls setDir m s).trc.wakeFor = s.trc.wakeFor ∧
    (nextLeg cls setDir m s).fit.entries = s.fit.entries ∧ (nextLeg cls setDir m s).fit.index = s.fit.index ∧
    (nextLeg cls setDir m s).fit.p256 = s.fit.p256 ∧ (nextLeg cls setDir m s).fit.splice = s.fit.splice ∧
    (nextLeg cls setDir m s).fit.verify = s.fit.verify ∧ (nextLeg cls setDir m s).fcc = s.fcc ∧
    (nextLeg cls setDir m s).gtu = s.gtu ∧ (nextLeg cls setDir m s).ntu = s.ntu ∧ (nextLeg cls setDir m s).lnk = s.lnk := by
  unfold nextLeg
  split <;> simp

@[simp] theorem progressTo_frame (m : Move) (e : Nat) (s : State) :
    (progressTo m e s).pending = s.pending ∧ (progressTo m e s).freeCount = s.freeCount ∧
    (progressTo m e s).lensRead = s.lensRead ∧
    (progressTo m e s).resetHeld = s.resetHeld ∧ (progressTo m e s).unitAddress = s.unitAddress ∧
    (progressTo m e s).pins = s.pins ∧ (progressTo m e s).mkd = s.mkd ∧ (progressTo m e s).rqt = s.rqt ∧
    (progressTo m e s).trc.roll = s.trc.roll ∧ (progressTo m e s).trc.profile = s.trc.profile ∧
    (progressTo m e s).trc.counter = s.trc.counter ∧ (progressTo m e s).trc.endPos = s.trc.endPos ∧
    (progressTo m e s).trc.overrun = s.trc.overrun ∧ (progressTo m e s).trc.travelDir = s.trc.travelDir ∧
    (progressTo m e s).trc.speed = s.trc.speed ∧ (progressTo m e s).trc.move = s.trc.move ∧
    (progressTo m e s).trc.epoch = s.trc.epoch ∧ (progressTo m e s).trc.verified = s.trc.verified ∧
    (progressTo m e s).trc.slip = s.trc.slip ∧ (progressTo m e s).trc.cause = s.trc.cause ∧
    (progressTo m e s).trc.retension = s.trc.retension ∧ (progressTo m e s).trc.parkDelay = s.trc.parkDelay ∧
    (progressTo m e s).trc.wakeDelay = s.trc.wakeDelay ∧ (progressTo m e s).trc.wakeFor = s.trc.wakeFor ∧
    (progressTo m e s).trc.timers = s.trc.timers ∧ (progressTo m e s).fit.entries = s.fit.entries ∧
    (progressTo m e s).fit.index = s.fit.index ∧ (progressTo m e s).fit.p256 = s.fit.p256 ∧
    (progressTo m e s).fit.splice = s.fit.splice ∧ (progressTo m e s).fit.verify = s.fit.verify ∧
    (progressTo m e s).fcc = s.fcc ∧ (progressTo m e s).gtu = s.gtu ∧ (progressTo m e s).ntu = s.ntu ∧
    (progressTo m e s).lnk = s.lnk := by
  unfold progressTo
  split_ifs <;> simp

@[simp] theorem progressChange_frame (m : Move) (cp : Nat) (second : SpeedClass) (s : State) :
    (progressChange m cp second s).pending = s.pending ∧ (progressChange m cp second s).freeCount = s.freeCount ∧
    (progressChange m cp second s).lensRead = s.lensRead ∧
    (progressChange m cp second s).resetHeld = s.resetHeld ∧
    (progressChange m cp second s).unitAddress = s.unitAddress ∧ (progressChange m cp second s).pins = s.pins ∧
    (progressChange m cp second s).mkd = s.mkd ∧ (progressChange m cp second s).rqt = s.rqt ∧
    (progressChange m cp second s).trc.roll = s.trc.roll ∧
    (progressChange m cp second s).trc.profile = s.trc.profile ∧
    (progressChange m cp second s).trc.counter = s.trc.counter ∧
    (progressChange m cp second s).trc.endPos = s.trc.endPos ∧
    (progressChange m cp second s).trc.overrun = s.trc.overrun ∧
    (progressChange m cp second s).trc.travelDir = s.trc.travelDir ∧
    (progressChange m cp second s).trc.speed = s.trc.speed ∧ (progressChange m cp second s).trc.epoch = s.trc.epoch ∧
    (progressChange m cp second s).trc.verified = s.trc.verified ∧
    (progressChange m cp second s).trc.slip = s.trc.slip ∧ (progressChange m cp second s).trc.cause = s.trc.cause ∧
    (progressChange m cp second s).trc.retension = s.trc.retension ∧
    (progressChange m cp second s).trc.parkDelay = s.trc.parkDelay ∧
    (progressChange m cp second s).trc.wakeDelay = s.trc.wakeDelay ∧
    (progressChange m cp second s).trc.wakeFor = s.trc.wakeFor ∧
    (progressChange m cp second s).trc.timers = s.trc.timers ∧
    (progressChange m cp second s).fit.entries = s.fit.entries ∧
    (progressChange m cp second s).fit.index = s.fit.index ∧ (progressChange m cp second s).fit.p256 = s.fit.p256 ∧
    (progressChange m cp second s).fit.splice = s.fit.splice ∧
    (progressChange m cp second s).fit.verify = s.fit.verify ∧ (progressChange m cp second s).fcc = s.fcc ∧
    (progressChange m cp second s).gtu = s.gtu ∧ (progressChange m cp second s).ntu = s.ntu ∧
    (progressChange m cp second s).lnk = s.lnk := by
  unfold progressChange
  dsimp only
  repeat' split
  all_goals simp

@[simp] theorem progressOpen_frame (m : Move) (s : State) :
    (progressOpen m s).pending = s.pending ∧ (progressOpen m s).freeCount = s.freeCount ∧
    (progressOpen m s).lensRead = s.lensRead ∧
    (progressOpen m s).resetHeld = s.resetHeld ∧ (progressOpen m s).unitAddress = s.unitAddress ∧
    (progressOpen m s).pins = s.pins ∧ (progressOpen m s).mkd = s.mkd ∧ (progressOpen m s).rqt = s.rqt ∧
    (progressOpen m s).trc.roll = s.trc.roll ∧ (progressOpen m s).trc.profile = s.trc.profile ∧
    (progressOpen m s).trc.counter = s.trc.counter ∧ (progressOpen m s).trc.endPos = s.trc.endPos ∧
    (progressOpen m s).trc.overrun = s.trc.overrun ∧ (progressOpen m s).trc.travelDir = s.trc.travelDir ∧
    (progressOpen m s).trc.speed = s.trc.speed ∧ (progressOpen m s).trc.epoch = s.trc.epoch ∧
    (progressOpen m s).trc.verified = s.trc.verified ∧ (progressOpen m s).trc.slip = s.trc.slip ∧
    (progressOpen m s).trc.cause = s.trc.cause ∧ (progressOpen m s).trc.retension = s.trc.retension ∧
    (progressOpen m s).trc.parkDelay = s.trc.parkDelay ∧ (progressOpen m s).trc.wakeDelay = s.trc.wakeDelay ∧
    (progressOpen m s).trc.wakeFor = s.trc.wakeFor ∧ (progressOpen m s).trc.timers = s.trc.timers ∧
    (progressOpen m s).fit.entries = s.fit.entries ∧ (progressOpen m s).fit.index = s.fit.index ∧
    (progressOpen m s).fit.p256 = s.fit.p256 ∧ (progressOpen m s).fit.splice = s.fit.splice ∧
    (progressOpen m s).fit.verify = s.fit.verify ∧ (progressOpen m s).fcc = s.fcc ∧ (progressOpen m s).gtu = s.gtu ∧
    (progressOpen m s).ntu = s.ntu ∧ (progressOpen m s).lnk = s.lnk := by
  unfold progressOpen
  dsimp only
  repeat' split
  all_goals simp

@[simp] theorem progress_frame (s : State) :
    (progress s).pending = s.pending ∧ (progress s).freeCount = s.freeCount ∧ (progress s).lensRead = s.lensRead ∧
    (progress s).resetHeld = s.resetHeld ∧
    (progress s).unitAddress = s.unitAddress ∧ (progress s).pins = s.pins ∧ (progress s).mkd = s.mkd ∧
    (progress s).rqt = s.rqt ∧ (progress s).trc.roll = s.trc.roll ∧ (progress s).trc.profile = s.trc.profile ∧
    (progress s).trc.counter = s.trc.counter ∧ (progress s).trc.endPos = s.trc.endPos ∧
    (progress s).trc.overrun = s.trc.overrun ∧ (progress s).trc.travelDir = s.trc.travelDir ∧
    (progress s).trc.speed = s.trc.speed ∧ (progress s).trc.epoch = s.trc.epoch ∧
    (progress s).trc.verified = s.trc.verified ∧ (progress s).trc.slip = s.trc.slip ∧
    (progress s).trc.cause = s.trc.cause ∧ (progress s).trc.retension = s.trc.retension ∧
    (progress s).trc.parkDelay = s.trc.parkDelay ∧ (progress s).trc.wakeDelay = s.trc.wakeDelay ∧
    (progress s).trc.wakeFor = s.trc.wakeFor ∧ (progress s).trc.timers = s.trc.timers ∧
    (progress s).fit.entries = s.fit.entries ∧ (progress s).fit.index = s.fit.index ∧
    (progress s).fit.p256 = s.fit.p256 ∧ (progress s).fit.splice = s.fit.splice ∧
    (progress s).fit.verify = s.fit.verify ∧ (progress s).fcc = s.fcc ∧ (progress s).gtu = s.gtu ∧
    (progress s).ntu = s.ntu ∧ (progress s).lnk = s.lnk := by
  unfold progress
  repeat' split
  all_goals simp

@[simp] theorem leaveDecel_frame (cls : SpeedClass) (s : State) :
    (leaveDecel cls s).pending = s.pending ∧ (leaveDecel cls s).freeCount = s.freeCount ∧
    (leaveDecel cls s).lensRead = s.lensRead ∧
    (leaveDecel cls s).resetHeld = s.resetHeld ∧ (leaveDecel cls s).unitAddress = s.unitAddress ∧
    (leaveDecel cls s).pins = s.pins ∧ (leaveDecel cls s).mkd = s.mkd ∧ (leaveDecel cls s).rqt = s.rqt ∧
    (leaveDecel cls s).trc.roll = s.trc.roll ∧ (leaveDecel cls s).trc.profile = s.trc.profile ∧
    (leaveDecel cls s).trc.counter = s.trc.counter ∧ (leaveDecel cls s).trc.endPos = s.trc.endPos ∧
    (leaveDecel cls s).trc.overrun = s.trc.overrun ∧ (leaveDecel cls s).trc.travelDir = s.trc.travelDir ∧
    (leaveDecel cls s).trc.speed = s.trc.speed ∧ (leaveDecel cls s).trc.move = s.trc.move ∧
    (leaveDecel cls s).trc.epoch = s.trc.epoch ∧ (leaveDecel cls s).trc.verified = s.trc.verified ∧
    (leaveDecel cls s).trc.slip = s.trc.slip ∧ (leaveDecel cls s).trc.cause = s.trc.cause ∧
    (leaveDecel cls s).trc.retension = s.trc.retension ∧ (leaveDecel cls s).trc.parkDelay = s.trc.parkDelay ∧
    (leaveDecel cls s).trc.wakeDelay = s.trc.wakeDelay ∧ (leaveDecel cls s).trc.wakeFor = s.trc.wakeFor ∧
    (leaveDecel cls s).trc.timers = s.trc.timers ∧ (leaveDecel cls s).fit.entries = s.fit.entries ∧
    (leaveDecel cls s).fit.index = s.fit.index ∧ (leaveDecel cls s).fit.p256 = s.fit.p256 ∧
    (leaveDecel cls s).fit.splice = s.fit.splice ∧ (leaveDecel cls s).fit.verify = s.fit.verify ∧
    (leaveDecel cls s).fcc = s.fcc ∧ (leaveDecel cls s).gtu = s.gtu ∧ (leaveDecel cls s).ntu = s.ntu ∧
    (leaveDecel cls s).lnk = s.lnk := by
  unfold leaveDecel
  split <;> simp

@[simp] theorem rephase_frame (m : Move) (e : Nat) (s : State) :
    (rephase m e s).pending = s.pending ∧ (rephase m e s).freeCount = s.freeCount ∧
    (rephase m e s).lensRead = s.lensRead ∧
    (rephase m e s).resetHeld = s.resetHeld ∧ (rephase m e s).unitAddress = s.unitAddress ∧
    (rephase m e s).pins = s.pins ∧ (rephase m e s).mkd = s.mkd ∧ (rephase m e s).rqt = s.rqt ∧
    (rephase m e s).trc.roll = s.trc.roll ∧ (rephase m e s).trc.profile = s.trc.profile ∧
    (rephase m e s).trc.counter = s.trc.counter ∧ (rephase m e s).trc.endPos = s.trc.endPos ∧
    (rephase m e s).trc.overrun = s.trc.overrun ∧ (rephase m e s).trc.travelDir = s.trc.travelDir ∧
    (rephase m e s).trc.speed = s.trc.speed ∧ (rephase m e s).trc.move = s.trc.move ∧
    (rephase m e s).trc.epoch = s.trc.epoch ∧ (rephase m e s).trc.verified = s.trc.verified ∧
    (rephase m e s).trc.slip = s.trc.slip ∧ (rephase m e s).trc.cause = s.trc.cause ∧
    (rephase m e s).trc.retension = s.trc.retension ∧ (rephase m e s).trc.parkDelay = s.trc.parkDelay ∧
    (rephase m e s).trc.wakeDelay = s.trc.wakeDelay ∧ (rephase m e s).trc.wakeFor = s.trc.wakeFor ∧
    (rephase m e s).trc.timers = s.trc.timers ∧ (rephase m e s).fit.entries = s.fit.entries ∧
    (rephase m e s).fit.index = s.fit.index ∧ (rephase m e s).fit.p256 = s.fit.p256 ∧
    (rephase m e s).fit.splice = s.fit.splice ∧ (rephase m e s).fit.verify = s.fit.verify ∧
    (rephase m e s).fcc = s.fcc ∧ (rephase m e s).gtu = s.gtu ∧ (rephase m e s).ntu = s.ntu ∧
    (rephase m e s).lnk = s.lnk := by
  unfold rephase
  split <;> simp

@[simp] theorem startMove_frame (m : Move) (s : State) :
    (startMove m s).pending = s.pending ∧ (startMove m s).freeCount = s.freeCount ∧
    (startMove m s).lensRead = s.lensRead ∧
    (startMove m s).resetHeld = s.resetHeld ∧ (startMove m s).unitAddress = s.unitAddress ∧
    (startMove m s).pins = s.pins ∧ (startMove m s).mkd = s.mkd ∧ (startMove m s).rqt = s.rqt ∧
    (startMove m s).trc.roll = s.trc.roll ∧ (startMove m s).trc.profile = s.trc.profile ∧
    (startMove m s).trc.counter = s.trc.counter ∧ (startMove m s).trc.endPos = s.trc.endPos ∧
    (startMove m s).trc.overrun = s.trc.overrun ∧ (startMove m s).trc.verified = s.trc.verified ∧
    (startMove m s).trc.slip = s.trc.slip ∧ (startMove m s).trc.cause = s.trc.cause ∧
    (startMove m s).trc.retension = s.trc.retension ∧ (startMove m s).trc.parkDelay = s.trc.parkDelay ∧
    (startMove m s).trc.wakeDelay = s.trc.wakeDelay ∧ (startMove m s).trc.wakeFor = s.trc.wakeFor ∧
    (startMove m s).fit.entries = s.fit.entries ∧ (startMove m s).fit.index = s.fit.index ∧
    (startMove m s).fit.p256 = s.fit.p256 ∧ (startMove m s).fit.splice = s.fit.splice ∧
    (startMove m s).fit.verify = s.fit.verify ∧ (startMove m s).fcc = s.fcc ∧
    (startMove m s).gtu.phase = s.gtu.phase ∧ (startMove m s).gtu.inHand = s.gtu.inHand ∧
    (startMove m s).gtu.presentation = s.gtu.presentation ∧ (startMove m s).gtu.hold = s.gtu.hold ∧
    (startMove m s).gtu.exposure = s.gtu.exposure ∧ (startMove m s).gtu.trig = s.gtu.trig ∧
    (startMove m s).gtu.route = s.gtu.route ∧ (startMove m s).gtu.heldReport = s.gtu.heldReport ∧
    (startMove m s).ntu = s.ntu ∧ (startMove m s).lnk = s.lnk := by
  unfold startMove
  split <;> simp

@[simp] theorem orderMove_frame (m : Move) (s : State) :
    (orderMove m s).pending = s.pending ∧ (orderMove m s).freeCount = s.freeCount ∧
    (orderMove m s).lensRead = s.lensRead ∧
    (orderMove m s).resetHeld = s.resetHeld ∧ (orderMove m s).unitAddress = s.unitAddress ∧
    (orderMove m s).pins = s.pins ∧ (orderMove m s).mkd = s.mkd ∧ (orderMove m s).rqt = s.rqt ∧
    (orderMove m s).trc.roll = s.trc.roll ∧ (orderMove m s).trc.profile = s.trc.profile ∧
    (orderMove m s).trc.counter = s.trc.counter ∧ (orderMove m s).trc.endPos = s.trc.endPos ∧
    (orderMove m s).trc.overrun = s.trc.overrun ∧ (orderMove m s).trc.verified = s.trc.verified ∧
    (orderMove m s).trc.slip = s.trc.slip ∧ (orderMove m s).trc.cause = s.trc.cause ∧
    (orderMove m s).trc.retension = s.trc.retension ∧ (orderMove m s).trc.parkDelay = s.trc.parkDelay ∧
    (orderMove m s).trc.wakeDelay = s.trc.wakeDelay ∧ (orderMove m s).fit.entries = s.fit.entries ∧
    (orderMove m s).fit.index = s.fit.index ∧ (orderMove m s).fit.p256 = s.fit.p256 ∧
    (orderMove m s).fit.splice = s.fit.splice ∧ (orderMove m s).fit.verify = s.fit.verify ∧
    (orderMove m s).fcc = s.fcc ∧ (orderMove m s).gtu.phase = s.gtu.phase ∧
    (orderMove m s).gtu.inHand = s.gtu.inHand ∧ (orderMove m s).gtu.presentation = s.gtu.presentation ∧
    (orderMove m s).gtu.hold = s.gtu.hold ∧ (orderMove m s).gtu.exposure = s.gtu.exposure ∧
    (orderMove m s).gtu.trig = s.gtu.trig ∧ (orderMove m s).gtu.route = s.gtu.route ∧
    (orderMove m s).gtu.heldReport = s.gtu.heldReport ∧ (orderMove m s).ntu = s.ntu ∧ (orderMove m s).lnk = s.lnk := by
  unfold orderMove
  split <;> simp

@[simp] theorem retargetTravel_frame (m : Move) (s : State) :
    (retargetTravel m s).pending = s.pending ∧ (retargetTravel m s).freeCount = s.freeCount ∧
    (retargetTravel m s).lensRead = s.lensRead ∧
    (retargetTravel m s).resetHeld = s.resetHeld ∧ (retargetTravel m s).unitAddress = s.unitAddress ∧
    (retargetTravel m s).pins = s.pins ∧ (retargetTravel m s).mkd = s.mkd ∧ (retargetTravel m s).rqt = s.rqt ∧
    (retargetTravel m s).trc.roll = s.trc.roll ∧ (retargetTravel m s).trc.profile = s.trc.profile ∧
    (retargetTravel m s).trc.counter = s.trc.counter ∧ (retargetTravel m s).trc.endPos = s.trc.endPos ∧
    (retargetTravel m s).trc.overrun = s.trc.overrun ∧ (retargetTravel m s).trc.travelDir = s.trc.travelDir ∧
    (retargetTravel m s).trc.speed = s.trc.speed ∧ (retargetTravel m s).trc.epoch = s.trc.epoch ∧
    (retargetTravel m s).trc.verified = s.trc.verified ∧ (retargetTravel m s).trc.slip = s.trc.slip ∧
    (retargetTravel m s).trc.cause = s.trc.cause ∧ (retargetTravel m s).trc.retension = s.trc.retension ∧
    (retargetTravel m s).trc.parkDelay = s.trc.parkDelay ∧ (retargetTravel m s).trc.wakeDelay = s.trc.wakeDelay ∧
    (retargetTravel m s).trc.wakeFor = s.trc.wakeFor ∧ (retargetTravel m s).trc.timers = s.trc.timers ∧
    (retargetTravel m s).fit.entries = s.fit.entries ∧ (retargetTravel m s).fit.index = s.fit.index ∧
    (retargetTravel m s).fit.p256 = s.fit.p256 ∧ (retargetTravel m s).fit.splice = s.fit.splice ∧
    (retargetTravel m s).fit.verify = s.fit.verify ∧ (retargetTravel m s).fcc = s.fcc ∧
    (retargetTravel m s).gtu = s.gtu ∧ (retargetTravel m s).ntu = s.ntu ∧ (retargetTravel m s).lnk = s.lnk := by
  unfold retargetTravel
  dsimp only
  repeat' split
  all_goals simp

@[simp] theorem retargetCreep_frame (m : Move) (s : State) :
    (retargetCreep m s).pending = s.pending ∧ (retargetCreep m s).freeCount = s.freeCount ∧
    (retargetCreep m s).lensRead = s.lensRead ∧ (retargetCreep m s).resetHeld = s.resetHeld ∧
    (retargetCreep m s).unitAddress = s.unitAddress ∧ (retargetCreep m s).pins = s.pins ∧
    (retargetCreep m s).mkd = s.mkd ∧ (retargetCreep m s).rqt = s.rqt ∧ (retargetCreep m s).trc.roll = s.trc.roll ∧
    (retargetCreep m s).trc.profile = s.trc.profile ∧ (retargetCreep m s).trc.counter = s.trc.counter ∧
    (retargetCreep m s).trc.endPos = s.trc.endPos ∧ (retargetCreep m s).trc.overrun = s.trc.overrun ∧
    (retargetCreep m s).trc.travelDir = s.trc.travelDir ∧ (retargetCreep m s).trc.speed = s.trc.speed ∧
    (retargetCreep m s).trc.epoch = s.trc.epoch ∧ (retargetCreep m s).trc.verified = s.trc.verified ∧
    (retargetCreep m s).trc.slip = s.trc.slip ∧ (retargetCreep m s).trc.cause = s.trc.cause ∧
    (retargetCreep m s).trc.retension = s.trc.retension ∧ (retargetCreep m s).trc.parkDelay = s.trc.parkDelay ∧
    (retargetCreep m s).trc.wakeDelay = s.trc.wakeDelay ∧ (retargetCreep m s).trc.wakeFor = s.trc.wakeFor ∧
    (retargetCreep m s).trc.timers = s.trc.timers ∧ (retargetCreep m s).fit.entries = s.fit.entries ∧
    (retargetCreep m s).fit.index = s.fit.index ∧ (retargetCreep m s).fit.p256 = s.fit.p256 ∧
    (retargetCreep m s).fit.splice = s.fit.splice ∧ (retargetCreep m s).fit.verify = s.fit.verify ∧
    (retargetCreep m s).fcc = s.fcc ∧ (retargetCreep m s).gtu = s.gtu ∧ (retargetCreep m s).ntu = s.ntu ∧
    (retargetCreep m s).lnk = s.lnk := by
  unfold retargetCreep
  split <;> simp

@[simp] theorem retarget_frame (job : Job) (t : Nat) (s : State) :
    (retarget job t s).pending = s.pending ∧ (retarget job t s).freeCount = s.freeCount ∧
    (retarget job t s).lensRead = s.lensRead ∧
    (retarget job t s).resetHeld = s.resetHeld ∧ (retarget job t s).unitAddress = s.unitAddress ∧
    (retarget job t s).pins = s.pins ∧ (retarget job t s).mkd = s.mkd ∧ (retarget job t s).rqt = s.rqt ∧
    (retarget job t s).trc.roll = s.trc.roll ∧ (retarget job t s).trc.profile = s.trc.profile ∧
    (retarget job t s).trc.counter = s.trc.counter ∧ (retarget job t s).trc.endPos = s.trc.endPos ∧
    (retarget job t s).trc.overrun = s.trc.overrun ∧ (retarget job t s).trc.verified = s.trc.verified ∧
    (retarget job t s).trc.slip = s.trc.slip ∧ (retarget job t s).trc.cause = s.trc.cause ∧
    (retarget job t s).trc.retension = s.trc.retension ∧ (retarget job t s).trc.parkDelay = s.trc.parkDelay ∧
    (retarget job t s).trc.wakeDelay = s.trc.wakeDelay ∧ (retarget job t s).trc.wakeFor = s.trc.wakeFor ∧
    (retarget job t s).fit.entries = s.fit.entries ∧ (retarget job t s).fit.index = s.fit.index ∧
    (retarget job t s).fit.p256 = s.fit.p256 ∧ (retarget job t s).fit.splice = s.fit.splice ∧
    (retarget job t s).fit.verify = s.fit.verify ∧ (retarget job t s).fcc = s.fcc ∧
    (retarget job t s).gtu.phase = s.gtu.phase ∧ (retarget job t s).gtu.inHand = s.gtu.inHand ∧
    (retarget job t s).gtu.presentation = s.gtu.presentation ∧ (retarget job t s).gtu.hold = s.gtu.hold ∧
    (retarget job t s).gtu.exposure = s.gtu.exposure ∧ (retarget job t s).gtu.trig = s.gtu.trig ∧
    (retarget job t s).gtu.route = s.gtu.route ∧ (retarget job t s).gtu.heldReport = s.gtu.heldReport ∧
    (retarget job t s).ntu = s.ntu ∧ (retarget job t s).lnk = s.lnk := by
  unfold retarget
  dsimp only
  repeat' split
  all_goals simp

@[simp] theorem rephaseOpen_frame (m : Move) (s : State) :
    (rephaseOpen m s).pending = s.pending ∧ (rephaseOpen m s).freeCount = s.freeCount ∧
    (rephaseOpen m s).lensRead = s.lensRead ∧ (rephaseOpen m s).resetHeld = s.resetHeld ∧
    (rephaseOpen m s).unitAddress = s.unitAddress ∧ (rephaseOpen m s).pins = s.pins ∧
    (rephaseOpen m s).mkd = s.mkd ∧ (rephaseOpen m s).rqt = s.rqt ∧ (rephaseOpen m s).trc.roll = s.trc.roll ∧
    (rephaseOpen m s).trc.profile = s.trc.profile ∧ (rephaseOpen m s).trc.counter = s.trc.counter ∧
    (rephaseOpen m s).trc.endPos = s.trc.endPos ∧ (rephaseOpen m s).trc.overrun = s.trc.overrun ∧
    (rephaseOpen m s).trc.travelDir = s.trc.travelDir ∧ (rephaseOpen m s).trc.speed = s.trc.speed ∧
    (rephaseOpen m s).trc.epoch = s.trc.epoch ∧ (rephaseOpen m s).trc.verified = s.trc.verified ∧
    (rephaseOpen m s).trc.slip = s.trc.slip ∧ (rephaseOpen m s).trc.cause = s.trc.cause ∧
    (rephaseOpen m s).trc.retension = s.trc.retension ∧ (rephaseOpen m s).trc.parkDelay = s.trc.parkDelay ∧
    (rephaseOpen m s).trc.wakeDelay = s.trc.wakeDelay ∧ (rephaseOpen m s).trc.wakeFor = s.trc.wakeFor ∧
    (rephaseOpen m s).trc.timers = s.trc.timers ∧ (rephaseOpen m s).fit.entries = s.fit.entries ∧
    (rephaseOpen m s).fit.index = s.fit.index ∧ (rephaseOpen m s).fit.p256 = s.fit.p256 ∧
    (rephaseOpen m s).fit.splice = s.fit.splice ∧ (rephaseOpen m s).fit.verify = s.fit.verify ∧
    (rephaseOpen m s).fcc = s.fcc ∧ (rephaseOpen m s).gtu = s.gtu ∧ (rephaseOpen m s).ntu = s.ntu ∧
    (rephaseOpen m s).lnk = s.lnk := by
  simp [rephaseOpen]

@[simp] theorem rephaseCreep_frame (raised : Bool) (m : Move) (s : State) :
    (rephaseCreep raised m s).pending = s.pending ∧ (rephaseCreep raised m s).freeCount = s.freeCount ∧
    (rephaseCreep raised m s).lensRead = s.lensRead ∧ (rephaseCreep raised m s).resetHeld = s.resetHeld ∧
    (rephaseCreep raised m s).unitAddress = s.unitAddress ∧ (rephaseCreep raised m s).pins = s.pins ∧
    (rephaseCreep raised m s).mkd = s.mkd ∧ (rephaseCreep raised m s).rqt = s.rqt ∧
    (rephaseCreep raised m s).trc.roll = s.trc.roll ∧ (rephaseCreep raised m s).trc.profile = s.trc.profile ∧
    (rephaseCreep raised m s).trc.counter = s.trc.counter ∧ (rephaseCreep raised m s).trc.endPos = s.trc.endPos ∧
    (rephaseCreep raised m s).trc.overrun = s.trc.overrun ∧
    (rephaseCreep raised m s).trc.travelDir = s.trc.travelDir ∧ (rephaseCreep raised m s).trc.speed = s.trc.speed ∧
    (rephaseCreep raised m s).trc.epoch = s.trc.epoch ∧ (rephaseCreep raised m s).trc.verified = s.trc.verified ∧
    (rephaseCreep raised m s).trc.slip = s.trc.slip ∧ (rephaseCreep raised m s).trc.cause = s.trc.cause ∧
    (rephaseCreep raised m s).trc.retension = s.trc.retension ∧
    (rephaseCreep raised m s).trc.parkDelay = s.trc.parkDelay ∧
    (rephaseCreep raised m s).trc.wakeDelay = s.trc.wakeDelay ∧
    (rephaseCreep raised m s).trc.wakeFor = s.trc.wakeFor ∧ (rephaseCreep raised m s).trc.timers = s.trc.timers ∧
    (rephaseCreep raised m s).fit.entries = s.fit.entries ∧ (rephaseCreep raised m s).fit.index = s.fit.index ∧
    (rephaseCreep raised m s).fit.p256 = s.fit.p256 ∧ (rephaseCreep raised m s).fit.splice = s.fit.splice ∧
    (rephaseCreep raised m s).fit.verify = s.fit.verify ∧ (rephaseCreep raised m s).fcc = s.fcc ∧
    (rephaseCreep raised m s).gtu = s.gtu ∧ (rephaseCreep raised m s).ntu = s.ntu ∧
    (rephaseCreep raised m s).lnk = s.lnk := by
  unfold rephaseCreep
  split <;> simp

@[simp] theorem rephaseLeg_frame (raised : Bool) (s : State) :
    (rephaseLeg raised s).pending = s.pending ∧ (rephaseLeg raised s).freeCount = s.freeCount ∧
    (rephaseLeg raised s).lensRead = s.lensRead ∧ (rephaseLeg raised s).resetHeld = s.resetHeld ∧
    (rephaseLeg raised s).unitAddress = s.unitAddress ∧ (rephaseLeg raised s).pins = s.pins ∧
    (rephaseLeg raised s).mkd = s.mkd ∧ (rephaseLeg raised s).rqt = s.rqt ∧
    (rephaseLeg raised s).trc.roll = s.trc.roll ∧ (rephaseLeg raised s).trc.profile = s.trc.profile ∧
    (rephaseLeg raised s).trc.counter = s.trc.counter ∧ (rephaseLeg raised s).trc.endPos = s.trc.endPos ∧
    (rephaseLeg raised s).trc.overrun = s.trc.overrun ∧ (rephaseLeg raised s).trc.travelDir = s.trc.travelDir ∧
    (rephaseLeg raised s).trc.speed = s.trc.speed ∧ (rephaseLeg raised s).trc.epoch = s.trc.epoch ∧
    (rephaseLeg raised s).trc.verified = s.trc.verified ∧ (rephaseLeg raised s).trc.slip = s.trc.slip ∧
    (rephaseLeg raised s).trc.cause = s.trc.cause ∧ (rephaseLeg raised s).trc.retension = s.trc.retension ∧
    (rephaseLeg raised s).trc.parkDelay = s.trc.parkDelay ∧ (rephaseLeg raised s).trc.wakeDelay = s.trc.wakeDelay ∧
    (rephaseLeg raised s).trc.wakeFor = s.trc.wakeFor ∧ (rephaseLeg raised s).trc.timers = s.trc.timers ∧
    (rephaseLeg raised s).fit.entries = s.fit.entries ∧ (rephaseLeg raised s).fit.index = s.fit.index ∧
    (rephaseLeg raised s).fit.p256 = s.fit.p256 ∧ (rephaseLeg raised s).fit.splice = s.fit.splice ∧
    (rephaseLeg raised s).fit.verify = s.fit.verify ∧ (rephaseLeg raised s).fcc = s.fcc ∧
    (rephaseLeg raised s).gtu = s.gtu ∧ (rephaseLeg raised s).ntu = s.ntu ∧ (rephaseLeg raised s).lnk = s.lnk := by
  unfold rephaseLeg
  repeat' split
  all_goals simp

@[simp] theorem applyCorrection_frame (d : Int) (s : State) :
    (applyCorrection d s).pending = s.pending ∧ (applyCorrection d s).freeCount = s.freeCount ∧
    (applyCorrection d s).lensRead = s.lensRead ∧
    (applyCorrection d s).resetHeld = s.resetHeld ∧ (applyCorrection d s).unitAddress = s.unitAddress ∧
    (applyCorrection d s).pins = s.pins ∧ (applyCorrection d s).rqt = s.rqt ∧
    (applyCorrection d s).trc.roll = s.trc.roll ∧ (applyCorrection d s).trc.profile = s.trc.profile ∧
    (applyCorrection d s).trc.endPos = s.trc.endPos ∧ (applyCorrection d s).trc.overrun = s.trc.overrun ∧
    (applyCorrection d s).trc.travelDir = s.trc.travelDir ∧ (applyCorrection d s).trc.speed = s.trc.speed ∧
    (applyCorrection d s).trc.epoch = s.trc.epoch ∧
    (applyCorrection d s).trc.verified = s.trc.verified ∧ (applyCorrection d s).trc.slip = s.trc.slip ∧
    (applyCorrection d s).trc.cause = s.trc.cause ∧ (applyCorrection d s).trc.retension = s.trc.retension ∧
    (applyCorrection d s).trc.parkDelay = s.trc.parkDelay ∧ (applyCorrection d s).trc.wakeDelay = s.trc.wakeDelay ∧
    (applyCorrection d s).trc.wakeFor = s.trc.wakeFor ∧ (applyCorrection d s).trc.timers = s.trc.timers ∧
    (applyCorrection d s).fit.entries = s.fit.entries ∧ (applyCorrection d s).fit.index = s.fit.index ∧
    (applyCorrection d s).fit.p256 = s.fit.p256 ∧ (applyCorrection d s).fit.splice = s.fit.splice ∧
    (applyCorrection d s).fit.verify = s.fit.verify ∧ (applyCorrection d s).fcc = s.fcc ∧
    (applyCorrection d s).gtu = s.gtu ∧ (applyCorrection d s).ntu = s.ntu ∧ (applyCorrection d s).lnk = s.lnk := by
  simp [applyCorrection]

@[simp] theorem rewindEnd_frame (w : Ctx) :
    (rewindEnd w).st.pending = w.st.pending ∧ (rewindEnd w).st.freeCount = w.st.freeCount ∧
    (rewindEnd w).st.lensRead = w.st.lensRead ∧
    (rewindEnd w).st.resetHeld = w.st.resetHeld ∧ (rewindEnd w).st.unitAddress = w.st.unitAddress ∧
    (rewindEnd w).st.pins = w.st.pins ∧ (rewindEnd w).st.mkd = w.st.mkd ∧ (rewindEnd w).st.rqt = w.st.rqt ∧
    (rewindEnd w).st.trc.overrun = w.st.trc.overrun ∧ (rewindEnd w).st.trc.travelDir = w.st.trc.travelDir ∧
    (rewindEnd w).st.trc.epoch = w.st.trc.epoch ∧ (rewindEnd w).st.trc.slip = w.st.trc.slip ∧
    (rewindEnd w).st.trc.cause = w.st.trc.cause ∧ (rewindEnd w).st.trc.retension = w.st.trc.retension ∧
    (rewindEnd w).st.trc.parkDelay = w.st.trc.parkDelay ∧ (rewindEnd w).st.trc.wakeDelay = w.st.trc.wakeDelay ∧
    (rewindEnd w).st.trc.wakeFor = w.st.trc.wakeFor ∧ (rewindEnd w).st.trc.timers = w.st.trc.timers ∧
    (rewindEnd w).st.fit.entries = w.st.fit.entries ∧ (rewindEnd w).st.fit.index = w.st.fit.index ∧
    (rewindEnd w).st.fit.splice = w.st.fit.splice ∧ (rewindEnd w).st.fit.verify = w.st.fit.verify ∧
    (rewindEnd w).st.fcc = w.st.fcc ∧ (rewindEnd w).st.gtu = w.st.gtu ∧ (rewindEnd w).st.ntu.ports = w.st.ntu.ports ∧
    (∀ q, ((rewindEnd w).st.lnk.get q).rx = (w.st.lnk.get q).rx) ∧
    (∀ q, ((rewindEnd w).st.lnk.get q).part = (w.st.lnk.get q).part) ∧
    (∀ q, ((rewindEnd w).st.lnk.get q).inbox = (w.st.lnk.get q).inbox) ∧
    (∀ q, ((rewindEnd w).st.lnk.get q).awaitMark = (w.st.lnk.get q).awaitMark) ∧
    (∀ q, ((rewindEnd w).st.lnk.get q).byteTimer = (w.st.lnk.get q).byteTimer) ∧
    (∀ q, ((rewindEnd w).st.lnk.get q).resyncTimer = (w.st.lnk.get q).resyncTimer) ∧
    (∀ q, ((rewindEnd w).st.lnk.get q).outbox = (w.st.lnk.get q).outbox) ∧
    (∀ q, ((rewindEnd w).st.lnk.get q).released = (w.st.lnk.get q).released) ∧
    (∀ q, ((rewindEnd w).st.lnk.get q).txFifo = (w.st.lnk.get q).txFifo) ∧
    (∀ q, ((rewindEnd w).st.lnk.get q).txLine = (w.st.lnk.get q).txLine) ∧
    (∀ q, ((rewindEnd w).st.lnk.get q).driving = (w.st.lnk.get q).driving) ∧
    (∀ q, ((rewindEnd w).st.lnk.get q).rdyMode = (w.st.lnk.get q).rdyMode) ∧
    (∀ q, ((rewindEnd w).st.lnk.get q).threshold = (w.st.lnk.get q).threshold) ∧
    (∀ q, ((rewindEnd w).st.lnk.get q).ctsGating = (w.st.lnk.get q).ctsGating) ∧
    (∀ q, ((rewindEnd w).st.lnk.get q).gap = (w.st.lnk.get q).gap) ∧
    (∀ q, ((rewindEnd w).st.lnk.get q).flags = (w.st.lnk.get q).flags) ∧
    (∀ q, ((rewindEnd w).st.lnk.get q).cts = (w.st.lnk.get q).cts) := by
  simp [rewindEnd]

@[simp] theorem checkRewindEnd_frame (w : Ctx) :
    (checkRewindEnd w).st.pending = w.st.pending ∧ (checkRewindEnd w).st.freeCount = w.st.freeCount ∧
    (checkRewindEnd w).st.lensRead = w.st.lensRead ∧
    (checkRewindEnd w).st.resetHeld = w.st.resetHeld ∧ (checkRewindEnd w).st.unitAddress = w.st.unitAddress ∧
    (checkRewindEnd w).st.pins = w.st.pins ∧ (checkRewindEnd w).st.mkd = w.st.mkd ∧
    (checkRewindEnd w).st.rqt = w.st.rqt ∧ (checkRewindEnd w).st.trc.overrun = w.st.trc.overrun ∧
    (checkRewindEnd w).st.trc.travelDir = w.st.trc.travelDir ∧ (checkRewindEnd w).st.trc.epoch = w.st.trc.epoch ∧
    (checkRewindEnd w).st.trc.slip = w.st.trc.slip ∧ (checkRewindEnd w).st.trc.cause = w.st.trc.cause ∧
    (checkRewindEnd w).st.trc.retension = w.st.trc.retension ∧
    (checkRewindEnd w).st.trc.parkDelay = w.st.trc.parkDelay ∧
    (checkRewindEnd w).st.trc.wakeDelay = w.st.trc.wakeDelay ∧ (checkRewindEnd w).st.trc.wakeFor = w.st.trc.wakeFor ∧
    (checkRewindEnd w).st.trc.timers = w.st.trc.timers ∧ (checkRewindEnd w).st.fit.entries = w.st.fit.entries ∧
    (checkRewindEnd w).st.fit.index = w.st.fit.index ∧ (checkRewindEnd w).st.fit.splice = w.st.fit.splice ∧
    (checkRewindEnd w).st.fit.verify = w.st.fit.verify ∧ (checkRewindEnd w).st.fcc = w.st.fcc ∧
    (checkRewindEnd w).st.gtu = w.st.gtu ∧ (checkRewindEnd w).st.ntu.ports = w.st.ntu.ports ∧
    (∀ q, ((checkRewindEnd w).st.lnk.get q).rx = (w.st.lnk.get q).rx) ∧
    (∀ q, ((checkRewindEnd w).st.lnk.get q).part = (w.st.lnk.get q).part) ∧
    (∀ q, ((checkRewindEnd w).st.lnk.get q).inbox = (w.st.lnk.get q).inbox) ∧
    (∀ q, ((checkRewindEnd w).st.lnk.get q).awaitMark = (w.st.lnk.get q).awaitMark) ∧
    (∀ q, ((checkRewindEnd w).st.lnk.get q).byteTimer = (w.st.lnk.get q).byteTimer) ∧
    (∀ q, ((checkRewindEnd w).st.lnk.get q).resyncTimer = (w.st.lnk.get q).resyncTimer) ∧
    (∀ q, ((checkRewindEnd w).st.lnk.get q).outbox = (w.st.lnk.get q).outbox) ∧
    (∀ q, ((checkRewindEnd w).st.lnk.get q).released = (w.st.lnk.get q).released) ∧
    (∀ q, ((checkRewindEnd w).st.lnk.get q).txFifo = (w.st.lnk.get q).txFifo) ∧
    (∀ q, ((checkRewindEnd w).st.lnk.get q).txLine = (w.st.lnk.get q).txLine) ∧
    (∀ q, ((checkRewindEnd w).st.lnk.get q).driving = (w.st.lnk.get q).driving) ∧
    (∀ q, ((checkRewindEnd w).st.lnk.get q).rdyMode = (w.st.lnk.get q).rdyMode) ∧
    (∀ q, ((checkRewindEnd w).st.lnk.get q).threshold = (w.st.lnk.get q).threshold) ∧
    (∀ q, ((checkRewindEnd w).st.lnk.get q).ctsGating = (w.st.lnk.get q).ctsGating) ∧
    (∀ q, ((checkRewindEnd w).st.lnk.get q).gap = (w.st.lnk.get q).gap) ∧
    (∀ q, ((checkRewindEnd w).st.lnk.get q).flags = (w.st.lnk.get q).flags) ∧
    (∀ q, ((checkRewindEnd w).st.lnk.get q).cts = (w.st.lnk.get q).cts) := by
  unfold checkRewindEnd
  split <;> simp

@[simp] theorem beginRewind_frame (w : Ctx) :
    (beginRewind w).st.pending = w.st.pending ∧ (beginRewind w).st.freeCount = w.st.freeCount ∧
    (beginRewind w).st.lensRead = w.st.lensRead ∧
    (beginRewind w).st.resetHeld = w.st.resetHeld ∧ (beginRewind w).st.unitAddress = w.st.unitAddress ∧
    (beginRewind w).st.pins = w.st.pins ∧ (beginRewind w).st.mkd = w.st.mkd ∧ (beginRewind w).st.rqt = w.st.rqt ∧
    (beginRewind w).st.trc.overrun = w.st.trc.overrun ∧ (beginRewind w).st.trc.slip = w.st.trc.slip ∧
    (beginRewind w).st.trc.cause = w.st.trc.cause ∧ (beginRewind w).st.trc.retension = w.st.trc.retension ∧
    (beginRewind w).st.trc.parkDelay = w.st.trc.parkDelay ∧ (beginRewind w).st.trc.wakeDelay = w.st.trc.wakeDelay ∧
    (beginRewind w).st.trc.wakeFor = w.st.trc.wakeFor ∧ (beginRewind w).st.trc.timers = w.st.trc.timers ∧
    (beginRewind w).st.fit.entries = w.st.fit.entries ∧ (beginRewind w).st.fit.index = w.st.fit.index ∧
    (beginRewind w).st.fit.splice = w.st.fit.splice ∧ (beginRewind w).st.fit.verify = w.st.fit.verify ∧
    (beginRewind w).st.fcc = w.st.fcc ∧ (beginRewind w).st.gtu.phase = w.st.gtu.phase ∧
    (beginRewind w).st.gtu.inHand = w.st.gtu.inHand ∧ (beginRewind w).st.gtu.presentation = w.st.gtu.presentation ∧
    (beginRewind w).st.gtu.hold = w.st.gtu.hold ∧ (beginRewind w).st.gtu.exposure = w.st.gtu.exposure ∧
    (beginRewind w).st.gtu.trig = w.st.gtu.trig ∧ (beginRewind w).st.gtu.route = w.st.gtu.route ∧
    (beginRewind w).st.gtu.heldReport = w.st.gtu.heldReport ∧ (beginRewind w).st.ntu.ports = w.st.ntu.ports ∧
    (∀ q, ((beginRewind w).st.lnk.get q).rx = (w.st.lnk.get q).rx) ∧
    (∀ q, ((beginRewind w).st.lnk.get q).part = (w.st.lnk.get q).part) ∧
    (∀ q, ((beginRewind w).st.lnk.get q).inbox = (w.st.lnk.get q).inbox) ∧
    (∀ q, ((beginRewind w).st.lnk.get q).awaitMark = (w.st.lnk.get q).awaitMark) ∧
    (∀ q, ((beginRewind w).st.lnk.get q).byteTimer = (w.st.lnk.get q).byteTimer) ∧
    (∀ q, ((beginRewind w).st.lnk.get q).resyncTimer = (w.st.lnk.get q).resyncTimer) ∧
    (∀ q, ((beginRewind w).st.lnk.get q).outbox = (w.st.lnk.get q).outbox) ∧
    (∀ q, ((beginRewind w).st.lnk.get q).released = (w.st.lnk.get q).released) ∧
    (∀ q, ((beginRewind w).st.lnk.get q).txFifo = (w.st.lnk.get q).txFifo) ∧
    (∀ q, ((beginRewind w).st.lnk.get q).txLine = (w.st.lnk.get q).txLine) ∧
    (∀ q, ((beginRewind w).st.lnk.get q).driving = (w.st.lnk.get q).driving) ∧
    (∀ q, ((beginRewind w).st.lnk.get q).rdyMode = (w.st.lnk.get q).rdyMode) ∧
    (∀ q, ((beginRewind w).st.lnk.get q).threshold = (w.st.lnk.get q).threshold) ∧
    (∀ q, ((beginRewind w).st.lnk.get q).ctsGating = (w.st.lnk.get q).ctsGating) ∧
    (∀ q, ((beginRewind w).st.lnk.get q).gap = (w.st.lnk.get q).gap) ∧
    (∀ q, ((beginRewind w).st.lnk.get q).flags = (w.st.lnk.get q).flags) ∧
    (∀ q, ((beginRewind w).st.lnk.get q).cts = (w.st.lnk.get q).cts) := by
  unfold beginRewind
  split <;> simp

@[simp] theorem rewindFrom_frame (w : Ctx) :
    (rewindFrom w).st.pending = w.st.pending ∧ (rewindFrom w).st.freeCount = w.st.freeCount ∧
    (rewindFrom w).st.lensRead = w.st.lensRead ∧
    (rewindFrom w).st.resetHeld = w.st.resetHeld ∧ (rewindFrom w).st.unitAddress = w.st.unitAddress ∧
    (rewindFrom w).st.pins = w.st.pins ∧ (rewindFrom w).st.mkd = w.st.mkd ∧ (rewindFrom w).st.rqt = w.st.rqt ∧
    (rewindFrom w).st.trc.overrun = w.st.trc.overrun ∧ (rewindFrom w).st.trc.slip = w.st.trc.slip ∧
    (rewindFrom w).st.trc.cause = w.st.trc.cause ∧ (rewindFrom w).st.trc.retension = w.st.trc.retension ∧
    (rewindFrom w).st.trc.parkDelay = w.st.trc.parkDelay ∧ (rewindFrom w).st.trc.wakeDelay = w.st.trc.wakeDelay ∧
    (rewindFrom w).st.fit.entries = w.st.fit.entries ∧ (rewindFrom w).st.fit.index = w.st.fit.index ∧
    (rewindFrom w).st.fit.splice = w.st.fit.splice ∧ (rewindFrom w).st.fit.verify = w.st.fit.verify ∧
    (rewindFrom w).st.fcc = w.st.fcc ∧ (rewindFrom w).st.gtu.phase = w.st.gtu.phase ∧
    (rewindFrom w).st.gtu.inHand = w.st.gtu.inHand ∧ (rewindFrom w).st.gtu.presentation = w.st.gtu.presentation ∧
    (rewindFrom w).st.gtu.hold = w.st.gtu.hold ∧ (rewindFrom w).st.gtu.exposure = w.st.gtu.exposure ∧
    (rewindFrom w).st.gtu.trig = w.st.gtu.trig ∧ (rewindFrom w).st.gtu.route = w.st.gtu.route ∧
    (rewindFrom w).st.gtu.heldReport = w.st.gtu.heldReport ∧ (rewindFrom w).st.ntu.ports = w.st.ntu.ports ∧
    (∀ q, ((rewindFrom w).st.lnk.get q).rx = (w.st.lnk.get q).rx) ∧
    (∀ q, ((rewindFrom w).st.lnk.get q).part = (w.st.lnk.get q).part) ∧
    (∀ q, ((rewindFrom w).st.lnk.get q).inbox = (w.st.lnk.get q).inbox) ∧
    (∀ q, ((rewindFrom w).st.lnk.get q).awaitMark = (w.st.lnk.get q).awaitMark) ∧
    (∀ q, ((rewindFrom w).st.lnk.get q).byteTimer = (w.st.lnk.get q).byteTimer) ∧
    (∀ q, ((rewindFrom w).st.lnk.get q).resyncTimer = (w.st.lnk.get q).resyncTimer) ∧
    (∀ q, ((rewindFrom w).st.lnk.get q).outbox = (w.st.lnk.get q).outbox) ∧
    (∀ q, ((rewindFrom w).st.lnk.get q).released = (w.st.lnk.get q).released) ∧
    (∀ q, ((rewindFrom w).st.lnk.get q).txFifo = (w.st.lnk.get q).txFifo) ∧
    (∀ q, ((rewindFrom w).st.lnk.get q).txLine = (w.st.lnk.get q).txLine) ∧
    (∀ q, ((rewindFrom w).st.lnk.get q).driving = (w.st.lnk.get q).driving) ∧
    (∀ q, ((rewindFrom w).st.lnk.get q).rdyMode = (w.st.lnk.get q).rdyMode) ∧
    (∀ q, ((rewindFrom w).st.lnk.get q).threshold = (w.st.lnk.get q).threshold) ∧
    (∀ q, ((rewindFrom w).st.lnk.get q).ctsGating = (w.st.lnk.get q).ctsGating) ∧
    (∀ q, ((rewindFrom w).st.lnk.get q).gap = (w.st.lnk.get q).gap) ∧
    (∀ q, ((rewindFrom w).st.lnk.get q).flags = (w.st.lnk.get q).flags) ∧
    (∀ q, ((rewindFrom w).st.lnk.get q).cts = (w.st.lnk.get q).cts) := by
  unfold rewindFrom
  dsimp only
  repeat' split
  all_goals simp

end Sys2Proof.Machine
end

