-- ==== Sys2Proof/Laws/FrameFocus.lean ====
section
/-! SUPPORT. What each operation of presenting and focus leaves unchanged: one frame for each, which later proofs cite instead of
unfolding it. -/

namespace Sys2Proof.Machine

@[simp] theorem presentRun_frame (n : Nat) (s : State) :
    (presentRun n s).pending = s.pending ∧ (presentRun n s).freeCount = s.freeCount ∧
    (presentRun n s).lensRead = s.lensRead ∧
    (presentRun n s).resetHeld = s.resetHeld ∧ (presentRun n s).unitAddress = s.unitAddress ∧
    (presentRun n s).pins = s.pins ∧ (presentRun n s).mkd = s.mkd ∧ (presentRun n s).rqt.records = s.rqt.records ∧
    (presentRun n s).rqt.arrival = s.rqt.arrival ∧ (presentRun n s).rqt.halted = s.rqt.halted ∧
    (presentRun n s).rqt.grant = s.rqt.grant ∧ (presentRun n s).rqt.stopReason = s.rqt.stopReason ∧
    (presentRun n s).trc = s.trc ∧ (presentRun n s).fit = s.fit ∧ (presentRun n s).fcc = s.fcc ∧
    (presentRun n s).gtu = s.gtu ∧ (presentRun n s).ntu = s.ntu ∧ (presentRun n s).lnk = s.lnk := by
  simp [presentRun]

@[simp] theorem makePresentation_frame (src : FocusSource) (w : Ctx) :
    (makePresentation src w).st.pending = w.st.pending ∧ (makePresentation src w).st.freeCount = w.st.freeCount ∧
    (makePresentation src w).st.lensRead = w.st.lensRead ∧
    (makePresentation src w).st.resetHeld = w.st.resetHeld ∧
    (makePresentation src w).st.unitAddress = w.st.unitAddress ∧ (makePresentation src w).st.pins = w.st.pins ∧
    (makePresentation src w).st.mkd = w.st.mkd ∧ (makePresentation src w).st.rqt.arrival = w.st.rqt.arrival ∧
    (makePresentation src w).st.rqt.halted = w.st.rqt.halted ∧
    (makePresentation src w).st.rqt.grant = w.st.rqt.grant ∧
    (makePresentation src w).st.rqt.stopReason = w.st.rqt.stopReason ∧ (makePresentation src w).st.trc = w.st.trc ∧
    (makePresentation src w).st.fit = w.st.fit ∧ (makePresentation src w).st.fcc = w.st.fcc ∧
    (makePresentation src w).st.gtu.exposure = w.st.gtu.exposure ∧
    (makePresentation src w).st.gtu.trig = w.st.gtu.trig ∧ (makePresentation src w).st.gtu.route = w.st.gtu.route ∧
    (makePresentation src w).st.ntu = w.st.ntu ∧ (makePresentation src w).st.lnk = w.st.lnk := by
  unfold makePresentation
  repeat' split
  all_goals simp

@[simp] theorem focusReady_frame (src : FocusSource) (w : Ctx) :
    (focusReady src w).st.pending = w.st.pending ∧ (focusReady src w).st.freeCount = w.st.freeCount ∧
    (focusReady src w).st.lensRead = w.st.lensRead ∧
    (focusReady src w).st.resetHeld = w.st.resetHeld ∧ (focusReady src w).st.unitAddress = w.st.unitAddress ∧
    (focusReady src w).st.pins = w.st.pins ∧ (focusReady src w).st.mkd = w.st.mkd ∧
    (focusReady src w).st.rqt.arrival = w.st.rqt.arrival ∧ (focusReady src w).st.rqt.halted = w.st.rqt.halted ∧
    (focusReady src w).st.rqt.grant = w.st.rqt.grant ∧ (focusReady src w).st.rqt.stopReason = w.st.rqt.stopReason ∧
    (focusReady src w).st.trc = w.st.trc ∧ (focusReady src w).st.fit = w.st.fit ∧
    (focusReady src w).st.fcc = w.st.fcc ∧ (focusReady src w).st.gtu.exposure = w.st.gtu.exposure ∧
    (focusReady src w).st.gtu.trig = w.st.gtu.trig ∧ (focusReady src w).st.gtu.route = w.st.gtu.route ∧
    (focusReady src w).st.ntu = w.st.ntu ∧ (focusReady src w).st.lnk = w.st.lnk := by
  unfold focusReady
  split_ifs <;> simp

@[simp] theorem lensDone_frame (p : LensPurpose) (w : Ctx) :
    (lensDone p w).st.pending = w.st.pending ∧ (lensDone p w).st.freeCount = w.st.freeCount ∧
    (lensDone p w).st.lensRead = w.st.lensRead ∧
    (lensDone p w).st.resetHeld = w.st.resetHeld ∧ (lensDone p w).st.unitAddress = w.st.unitAddress ∧
    (lensDone p w).st.pins = w.st.pins ∧ (lensDone p w).st.mkd = w.st.mkd ∧
    (lensDone p w).st.rqt.arrival = w.st.rqt.arrival ∧ (lensDone p w).st.rqt.halted = w.st.rqt.halted ∧
    (lensDone p w).st.rqt.grant = w.st.rqt.grant ∧ (lensDone p w).st.rqt.stopReason = w.st.rqt.stopReason ∧
    (lensDone p w).st.trc = w.st.trc ∧ (lensDone p w).st.fit = w.st.fit ∧
    (lensDone p w).st.fcc.lens = w.st.fcc.lens ∧ (lensDone p w).st.fcc.stage = w.st.fcc.stage ∧
    (lensDone p w).st.fcc.running = w.st.fcc.running ∧ (lensDone p w).st.fcc.held = w.st.fcc.held ∧
    (lensDone p w).st.fcc.lines = w.st.fcc.lines ∧ (lensDone p w).st.fcc.lru = w.st.fcc.lru ∧
    (lensDone p w).st.fcc.sweep = w.st.fcc.sweep ∧ (lensDone p w).st.gtu.exposure = w.st.gtu.exposure ∧
    (lensDone p w).st.gtu.trig = w.st.gtu.trig ∧ (lensDone p w).st.gtu.route = w.st.gtu.route ∧
    (lensDone p w).st.ntu = w.st.ntu ∧ (lensDone p w).st.lnk = w.st.lnk := by
  unfold lensDone
  repeat' split
  all_goals simp

@[simp] theorem orderLens_frame (mv : LensMove) (w : Ctx) :
    (orderLens mv w).st.pending = w.st.pending ∧ (orderLens mv w).st.freeCount = w.st.freeCount ∧
    (orderLens mv w).st.lensRead = w.st.lensRead ∧
    (orderLens mv w).st.resetHeld = w.st.resetHeld ∧ (orderLens mv w).st.unitAddress = w.st.unitAddress ∧
    (orderLens mv w).st.pins = w.st.pins ∧ (orderLens mv w).st.mkd = w.st.mkd ∧
    (orderLens mv w).st.rqt.arrival = w.st.rqt.arrival ∧ (orderLens mv w).st.rqt.halted = w.st.rqt.halted ∧
    (orderLens mv w).st.rqt.grant = w.st.rqt.grant ∧ (orderLens mv w).st.rqt.stopReason = w.st.rqt.stopReason ∧
    (orderLens mv w).st.trc = w.st.trc ∧ (orderLens mv w).st.fit = w.st.fit ∧
    (orderLens mv w).st.fcc.lens = w.st.fcc.lens ∧ (orderLens mv w).st.fcc.lines = w.st.fcc.lines ∧
    (orderLens mv w).st.fcc.lru = w.st.fcc.lru ∧ (orderLens mv w).st.fcc.sweep = w.st.fcc.sweep ∧
    (orderLens mv w).st.gtu.exposure = w.st.gtu.exposure ∧ (orderLens mv w).st.gtu.trig = w.st.gtu.trig ∧
    (orderLens mv w).st.gtu.route = w.st.gtu.route ∧ (orderLens mv w).st.ntu = w.st.ntu ∧
    (orderLens mv w).st.lnk = w.st.lnk := by
  unfold orderLens
  split_ifs <;> simp

@[simp] theorem beginHeld_frame (w : Ctx) :
    (beginHeld w).st.pending = w.st.pending ∧ (beginHeld w).st.freeCount = w.st.freeCount ∧
    (beginHeld w).st.lensRead = w.st.lensRead ∧
    (beginHeld w).st.resetHeld = w.st.resetHeld ∧ (beginHeld w).st.unitAddress = w.st.unitAddress ∧
    (beginHeld w).st.pins = w.st.pins ∧ (beginHeld w).st.mkd = w.st.mkd ∧
    (beginHeld w).st.rqt.arrival = w.st.rqt.arrival ∧ (beginHeld w).st.rqt.halted = w.st.rqt.halted ∧
    (beginHeld w).st.rqt.grant = w.st.rqt.grant ∧ (beginHeld w).st.rqt.stopReason = w.st.rqt.stopReason ∧
    (beginHeld w).st.trc = w.st.trc ∧ (beginHeld w).st.fit = w.st.fit ∧ (beginHeld w).st.fcc.lens = w.st.fcc.lens ∧
    (beginHeld w).st.fcc.lines = w.st.fcc.lines ∧ (beginHeld w).st.fcc.lru = w.st.fcc.lru ∧
    (beginHeld w).st.fcc.sweep = w.st.fcc.sweep ∧ (beginHeld w).st.gtu.exposure = w.st.gtu.exposure ∧
    (beginHeld w).st.gtu.trig = w.st.gtu.trig ∧ (beginHeld w).st.gtu.route = w.st.gtu.route ∧
    (beginHeld w).st.ntu = w.st.ntu ∧ (beginHeld w).st.lnk = w.st.lnk := by
  unfold beginHeld
  repeat' split
  all_goals simp

@[simp] theorem abandonLookup_frame (s : State) :
    (abandonLookup s).pending = s.pending ∧ (abandonLookup s).freeCount = s.freeCount ∧
    (abandonLookup s).lensRead = s.lensRead ∧
    (abandonLookup s).resetHeld = s.resetHeld ∧ (abandonLookup s).unitAddress = s.unitAddress ∧
    (abandonLookup s).pins = s.pins ∧ (abandonLookup s).mkd = s.mkd ∧ (abandonLookup s).rqt = s.rqt ∧
    (abandonLookup s).trc = s.trc ∧ (abandonLookup s).fit = s.fit ∧ (abandonLookup s).fcc.lens = s.fcc.lens ∧
    (abandonLookup s).fcc.stage = s.fcc.stage ∧ (abandonLookup s).fcc.lines = s.fcc.lines ∧
    (abandonLookup s).fcc.lru = s.fcc.lru ∧ (abandonLookup s).gtu.phase = s.gtu.phase ∧
    (abandonLookup s).gtu.inHand = s.gtu.inHand ∧ (abandonLookup s).gtu.presentation = s.gtu.presentation ∧
    (abandonLookup s).gtu.hold = s.gtu.hold ∧ (abandonLookup s).gtu.exposure = s.gtu.exposure ∧
    (abandonLookup s).gtu.trig = s.gtu.trig ∧ (abandonLookup s).gtu.route = s.gtu.route ∧
    (abandonLookup s).gtu.watches = s.gtu.watches ∧ (abandonLookup s).ntu = s.ntu ∧ (abandonLookup s).lnk = s.lnk := by
  simp [abandonLookup]

@[simp] theorem touchLine_frame (n : Nat) (s : State) :
    (touchLine n s).pending = s.pending ∧ (touchLine n s).freeCount = s.freeCount ∧
    (touchLine n s).lensRead = s.lensRead ∧
    (touchLine n s).resetHeld = s.resetHeld ∧ (touchLine n s).unitAddress = s.unitAddress ∧
    (touchLine n s).pins = s.pins ∧ (touchLine n s).mkd = s.mkd ∧ (touchLine n s).rqt = s.rqt ∧
    (touchLine n s).trc = s.trc ∧ (touchLine n s).fit = s.fit ∧ (touchLine n s).fcc.lens = s.fcc.lens ∧
    (touchLine n s).fcc.stage = s.fcc.stage ∧ (touchLine n s).fcc.running = s.fcc.running ∧
    (touchLine n s).fcc.held = s.fcc.held ∧ (touchLine n s).fcc.lines = s.fcc.lines ∧
    (touchLine n s).fcc.sweep = s.fcc.sweep ∧ (touchLine n s).fcc.sampleTimer = s.fcc.sampleTimer ∧
    (touchLine n s).gtu = s.gtu ∧ (touchLine n s).ntu = s.ntu ∧ (touchLine n s).lnk = s.lnk := by
  simp [touchLine]

@[simp] theorem setFocusLine_frame (n : Nat) (l : FocusLine) (s : State) :
    (setFocusLine n l s).pending = s.pending ∧ (setFocusLine n l s).freeCount = s.freeCount ∧
    (setFocusLine n l s).lensRead = s.lensRead ∧
    (setFocusLine n l s).resetHeld = s.resetHeld ∧ (setFocusLine n l s).unitAddress = s.unitAddress ∧
    (setFocusLine n l s).pins = s.pins ∧ (setFocusLine n l s).mkd = s.mkd ∧ (setFocusLine n l s).rqt = s.rqt ∧
    (setFocusLine n l s).trc = s.trc ∧ (setFocusLine n l s).fit = s.fit ∧
    (setFocusLine n l s).fcc.lens = s.fcc.lens ∧ (setFocusLine n l s).fcc.stage = s.fcc.stage ∧
    (setFocusLine n l s).fcc.running = s.fcc.running ∧ (setFocusLine n l s).fcc.held = s.fcc.held ∧
    (setFocusLine n l s).fcc.lru = s.fcc.lru ∧ (setFocusLine n l s).fcc.sweep = s.fcc.sweep ∧
    (setFocusLine n l s).fcc.sampleTimer = s.fcc.sampleTimer ∧ (setFocusLine n l s).gtu = s.gtu ∧
    (setFocusLine n l s).ntu = s.ntu ∧ (setFocusLine n l s).lnk = s.lnk := by
  simp [setFocusLine]

@[simp] theorem putSector_frame (x : Nat) (f : FocusLine → FocusLine) (fresh : FocusLine) (s : State) :
    (putSector x f fresh s).pending = s.pending ∧ (putSector x f fresh s).freeCount = s.freeCount ∧
    (putSector x f fresh s).lensRead = s.lensRead ∧
    (putSector x f fresh s).resetHeld = s.resetHeld ∧ (putSector x f fresh s).unitAddress = s.unitAddress ∧
    (putSector x f fresh s).pins = s.pins ∧ (putSector x f fresh s).mkd = s.mkd ∧
    (putSector x f fresh s).rqt = s.rqt ∧ (putSector x f fresh s).trc = s.trc ∧ (putSector x f fresh s).fit = s.fit ∧
    (putSector x f fresh s).fcc.lens = s.fcc.lens ∧ (putSector x f fresh s).fcc.stage = s.fcc.stage ∧
    (putSector x f fresh s).fcc.running = s.fcc.running ∧ (putSector x f fresh s).fcc.held = s.fcc.held ∧
    (putSector x f fresh s).fcc.sweep = s.fcc.sweep ∧ (putSector x f fresh s).fcc.sampleTimer = s.fcc.sampleTimer ∧
    (putSector x f fresh s).gtu = s.gtu ∧ (putSector x f fresh s).ntu = s.ntu ∧ (putSector x f fresh s).lnk = s.lnk := by
  unfold putSector
  split <;> simp

@[simp] theorem splicePending_frame (x : Nat) (s : State) :
    (splicePending x s).pending = s.pending ∧ (splicePending x s).freeCount = s.freeCount ∧
    (splicePending x s).lensRead = s.lensRead ∧
    (splicePending x s).resetHeld = s.resetHeld ∧ (splicePending x s).unitAddress = s.unitAddress ∧
    (splicePending x s).pins = s.pins ∧ (splicePending x s).mkd = s.mkd ∧ (splicePending x s).rqt = s.rqt ∧
    (splicePending x s).trc = s.trc ∧ (splicePending x s).fit = s.fit ∧ (splicePending x s).fcc.lens = s.fcc.lens ∧
    (splicePending x s).fcc.stage = s.fcc.stage ∧ (splicePending x s).fcc.running = s.fcc.running ∧
    (splicePending x s).fcc.held = s.fcc.held ∧ (splicePending x s).fcc.lru = s.fcc.lru ∧
    (splicePending x s).fcc.sweep = s.fcc.sweep ∧ (splicePending x s).fcc.sampleTimer = s.fcc.sampleTimer ∧
    (splicePending x s).gtu = s.gtu ∧ (splicePending x s).ntu = s.ntu ∧ (splicePending x s).lnk = s.lnk := by
  unfold splicePending
  split <;> simp

@[simp] theorem takeSample_frame (w : Ctx) :
    (takeSample w).st.pending = w.st.pending ∧ (takeSample w).st.freeCount = w.st.freeCount ∧
    (takeSample w).st.lensRead = w.st.lensRead ∧
    (takeSample w).st.resetHeld = w.st.resetHeld ∧ (takeSample w).st.unitAddress = w.st.unitAddress ∧
    (takeSample w).st.pins = w.st.pins ∧ (takeSample w).st.mkd = w.st.mkd ∧
    (takeSample w).st.rqt.arrival = w.st.rqt.arrival ∧ (takeSample w).st.rqt.halted = w.st.rqt.halted ∧
    (takeSample w).st.rqt.grant = w.st.rqt.grant ∧ (takeSample w).st.rqt.stopReason = w.st.rqt.stopReason ∧
    (takeSample w).st.trc = w.st.trc ∧ (takeSample w).st.fit = w.st.fit ∧
    (takeSample w).st.fcc.lens = w.st.fcc.lens ∧ (takeSample w).st.fcc.lines = w.st.fcc.lines ∧
    (takeSample w).st.fcc.lru = w.st.fcc.lru ∧ (takeSample w).st.fcc.sweep = w.st.fcc.sweep ∧
    (takeSample w).st.gtu.exposure = w.st.gtu.exposure ∧ (takeSample w).st.gtu.trig = w.st.gtu.trig ∧
    (takeSample w).st.gtu.route = w.st.gtu.route ∧ (takeSample w).st.ntu = w.st.ntu ∧ (takeSample w).st.lnk = w.st.lnk := by
  unfold takeSample
  repeat' split
  all_goals simp

@[simp] theorem beginSweep_frame (owner : Holder) (n : Nat) (x : Nat) (w : Ctx) :
    (beginSweep owner n x w).st.pending = w.st.pending ∧ (beginSweep owner n x w).st.freeCount = w.st.freeCount ∧
    (beginSweep owner n x w).st.lensRead = w.st.lensRead ∧
    (beginSweep owner n x w).st.resetHeld = w.st.resetHeld ∧
    (beginSweep owner n x w).st.unitAddress = w.st.unitAddress ∧ (beginSweep owner n x w).st.pins = w.st.pins ∧
    (beginSweep owner n x w).st.mkd = w.st.mkd ∧ (beginSweep owner n x w).st.rqt.arrival = w.st.rqt.arrival ∧
    (beginSweep owner n x w).st.rqt.halted = w.st.rqt.halted ∧
    (beginSweep owner n x w).st.rqt.grant = w.st.rqt.grant ∧
    (beginSweep owner n x w).st.rqt.stopReason = w.st.rqt.stopReason ∧ (beginSweep owner n x w).st.trc = w.st.trc ∧
    (beginSweep owner n x w).st.fit = w.st.fit ∧ (beginSweep owner n x w).st.fcc.lens = w.st.fcc.lens ∧
    (beginSweep owner n x w).st.fcc.lines = w.st.fcc.lines ∧ (beginSweep owner n x w).st.fcc.lru = w.st.fcc.lru ∧
    (beginSweep owner n x w).st.gtu.exposure = w.st.gtu.exposure ∧
    (beginSweep owner n x w).st.gtu.trig = w.st.gtu.trig ∧ (beginSweep owner n x w).st.gtu.route = w.st.gtu.route ∧
    (beginSweep owner n x w).st.ntu = w.st.ntu ∧ (beginSweep owner n x w).st.lnk = w.st.lnk := by
  simp [beginSweep]

@[simp] theorem sweepDefault_frame (sw : Sweep) (reason : Byte) (w : Ctx) :
    (sweepDefault sw reason w).st.pending = w.st.pending ∧ (sweepDefault sw reason w).st.freeCount = w.st.freeCount ∧
    (sweepDefault sw reason w).st.lensRead = w.st.lensRead ∧
    (sweepDefault sw reason w).st.resetHeld = w.st.resetHeld ∧
    (sweepDefault sw reason w).st.unitAddress = w.st.unitAddress ∧ (sweepDefault sw reason w).st.pins = w.st.pins ∧
    (sweepDefault sw reason w).st.mkd = w.st.mkd ∧ (sweepDefault sw reason w).st.rqt.arrival = w.st.rqt.arrival ∧
    (sweepDefault sw reason w).st.rqt.halted = w.st.rqt.halted ∧
    (sweepDefault sw reason w).st.rqt.grant = w.st.rqt.grant ∧
    (sweepDefault sw reason w).st.rqt.stopReason = w.st.rqt.stopReason ∧
    (sweepDefault sw reason w).st.trc = w.st.trc ∧ (sweepDefault sw reason w).st.fit = w.st.fit ∧
    (sweepDefault sw reason w).st.fcc.lens = w.st.fcc.lens ∧
    (sweepDefault sw reason w).st.fcc.lines = w.st.fcc.lines ∧ (sweepDefault sw reason w).st.fcc.lru = w.st.fcc.lru ∧
    (sweepDefault sw reason w).st.gtu.exposure = w.st.gtu.exposure ∧
    (sweepDefault sw reason w).st.gtu.trig = w.st.gtu.trig ∧
    (sweepDefault sw reason w).st.gtu.route = w.st.gtu.route ∧ (sweepDefault sw reason w).st.ntu = w.st.ntu ∧
    (sweepDefault sw reason w).st.lnk = w.st.lnk := by
  simp [sweepDefault]

@[simp] theorem sweepSuccess_frame (sw : Sweep) (f : Nat) (w : Ctx) :
    (sweepSuccess sw f w).st.pending = w.st.pending ∧ (sweepSuccess sw f w).st.freeCount = w.st.freeCount ∧
    (sweepSuccess sw f w).st.lensRead = w.st.lensRead ∧
    (sweepSuccess sw f w).st.resetHeld = w.st.resetHeld ∧ (sweepSuccess sw f w).st.unitAddress = w.st.unitAddress ∧
    (sweepSuccess sw f w).st.pins = w.st.pins ∧ (sweepSuccess sw f w).st.mkd = w.st.mkd ∧
    (sweepSuccess sw f w).st.rqt.arrival = w.st.rqt.arrival ∧ (sweepSuccess sw f w).st.rqt.halted = w.st.rqt.halted ∧
    (sweepSuccess sw f w).st.rqt.grant = w.st.rqt.grant ∧
    (sweepSuccess sw f w).st.rqt.stopReason = w.st.rqt.stopReason ∧ (sweepSuccess sw f w).st.trc = w.st.trc ∧
    (sweepSuccess sw f w).st.fit = w.st.fit ∧ (sweepSuccess sw f w).st.fcc.lens = w.st.fcc.lens ∧
    (sweepSuccess sw f w).st.gtu.exposure = w.st.gtu.exposure ∧ (sweepSuccess sw f w).st.gtu.trig = w.st.gtu.trig ∧
    (sweepSuccess sw f w).st.gtu.route = w.st.gtu.route ∧ (sweepSuccess sw f w).st.ntu = w.st.ntu ∧
    (sweepSuccess sw f w).st.lnk = w.st.lnk := by
  simp [sweepSuccess]

@[simp] theorem passEnd_frame (sw : Sweep) (w : Ctx) :
    (passEnd sw w).st.pending = w.st.pending ∧ (passEnd sw w).st.freeCount = w.st.freeCount ∧
    (passEnd sw w).st.lensRead = w.st.lensRead ∧
    (passEnd sw w).st.resetHeld = w.st.resetHeld ∧ (passEnd sw w).st.unitAddress = w.st.unitAddress ∧
    (passEnd sw w).st.pins = w.st.pins ∧ (passEnd sw w).st.mkd = w.st.mkd ∧
    (passEnd sw w).st.rqt.arrival = w.st.rqt.arrival ∧ (passEnd sw w).st.rqt.halted = w.st.rqt.halted ∧
    (passEnd sw w).st.rqt.grant = w.st.rqt.grant ∧ (passEnd sw w).st.rqt.stopReason = w.st.rqt.stopReason ∧
    (passEnd sw w).st.trc = w.st.trc ∧ (passEnd sw w).st.fit = w.st.fit ∧
    (passEnd sw w).st.fcc.lens = w.st.fcc.lens ∧ (passEnd sw w).st.gtu.exposure = w.st.gtu.exposure ∧
    (passEnd sw w).st.gtu.trig = w.st.gtu.trig ∧ (passEnd sw w).st.gtu.route = w.st.gtu.route ∧
    (passEnd sw w).st.ntu = w.st.ntu ∧ (passEnd sw w).st.lnk = w.st.lnk := by
  unfold passEnd
  repeat' split
  all_goals simp

@[simp] theorem addSample_frame (sw : Sweep) (s : Nat) (w : Ctx) :
    (addSample sw s w).st.pending = w.st.pending ∧ (addSample sw s w).st.freeCount = w.st.freeCount ∧
    (addSample sw s w).st.lensRead = w.st.lensRead ∧
    (addSample sw s w).st.resetHeld = w.st.resetHeld ∧ (addSample sw s w).st.unitAddress = w.st.unitAddress ∧
    (addSample sw s w).st.pins = w.st.pins ∧ (addSample sw s w).st.mkd = w.st.mkd ∧
    (addSample sw s w).st.rqt.arrival = w.st.rqt.arrival ∧ (addSample sw s w).st.rqt.halted = w.st.rqt.halted ∧
    (addSample sw s w).st.rqt.grant = w.st.rqt.grant ∧ (addSample sw s w).st.rqt.stopReason = w.st.rqt.stopReason ∧
    (addSample sw s w).st.trc = w.st.trc ∧ (addSample sw s w).st.fit = w.st.fit ∧
    (addSample sw s w).st.fcc.lens = w.st.fcc.lens ∧ (addSample sw s w).st.gtu.exposure = w.st.gtu.exposure ∧
    (addSample sw s w).st.gtu.trig = w.st.gtu.trig ∧ (addSample sw s w).st.gtu.route = w.st.gtu.route ∧
    (addSample sw s w).st.ntu = w.st.ntu ∧ (addSample sw s w).st.lnk = w.st.lnk := by
  unfold addSample
  repeat' split
  all_goals simp

@[simp] theorem focusLookup_frame (owner : Holder) (n : Nat) (w : Ctx) :
    (focusLookup owner n w).st.pending = w.st.pending ∧ (focusLookup owner n w).st.freeCount = w.st.freeCount ∧
    (focusLookup owner n w).st.lensRead = w.st.lensRead ∧
    (focusLookup owner n w).st.resetHeld = w.st.resetHeld ∧
    (focusLookup owner n w).st.unitAddress = w.st.unitAddress ∧ (focusLookup owner n w).st.pins = w.st.pins ∧
    (focusLookup owner n w).st.mkd = w.st.mkd ∧ (focusLookup owner n w).st.rqt.arrival = w.st.rqt.arrival ∧
    (focusLookup owner n w).st.rqt.halted = w.st.rqt.halted ∧ (focusLookup owner n w).st.rqt.grant = w.st.rqt.grant ∧
    (focusLookup owner n w).st.rqt.stopReason = w.st.rqt.stopReason ∧ (focusLookup owner n w).st.trc = w.st.trc ∧
    (focusLookup owner n w).st.fit = w.st.fit ∧ (focusLookup owner n w).st.fcc.lens = w.st.fcc.lens ∧
    (focusLookup owner n w).st.fcc.lines = w.st.fcc.lines ∧
    (focusLookup owner n w).st.gtu.exposure = w.st.gtu.exposure ∧
    (focusLookup owner n w).st.gtu.trig = w.st.gtu.trig ∧ (focusLookup owner n w).st.gtu.route = w.st.gtu.route ∧
    (focusLookup owner n w).st.ntu = w.st.ntu ∧ (focusLookup owner n w).st.lnk = w.st.lnk := by
  unfold focusLookup
  dsimp only
  repeat' split
  all_goals simp

end Sys2Proof.Machine
end

