-- ==== Sys2Proof/Laws/FrameGate.lean ====
section
/-! SUPPORT. What each operation of the gate, faults and move ends leaves unchanged: one frame for each, which later proofs cite instead of
unfolding it. -/

namespace Sys2Proof.Machine

@[simp] theorem dropInHand_frame (s : State) :
    (dropInHand s).pending = s.pending ∧ (dropInHand s).freeCount = s.freeCount ∧
    (dropInHand s).lensRead = s.lensRead ∧
    (dropInHand s).resetHeld = s.resetHeld ∧ (dropInHand s).unitAddress = s.unitAddress ∧
    (dropInHand s).pins = s.pins ∧ (dropInHand s).mkd = s.mkd ∧ (dropInHand s).rqt = s.rqt ∧
    (dropInHand s).trc = s.trc ∧ (dropInHand s).fit = s.fit ∧ (dropInHand s).fcc = s.fcc ∧
    (dropInHand s).gtu.presentation = s.gtu.presentation ∧ (dropInHand s).gtu.hold = s.gtu.hold ∧
    (dropInHand s).gtu.exposure = s.gtu.exposure ∧ (dropInHand s).gtu.trig = s.gtu.trig ∧
    (dropInHand s).gtu.route = s.gtu.route ∧ (dropInHand s).gtu.watches = s.gtu.watches ∧
    (dropInHand s).ntu = s.ntu ∧ (dropInHand s).lnk = s.lnk := by
  simp [dropInHand]

@[simp] theorem clearPresentation_frame (s : State) :
    (clearPresentation s).pending = s.pending ∧ (clearPresentation s).freeCount = s.freeCount ∧
    (clearPresentation s).lensRead = s.lensRead ∧
    (clearPresentation s).resetHeld = s.resetHeld ∧ (clearPresentation s).unitAddress = s.unitAddress ∧
    (clearPresentation s).pins = s.pins ∧ (clearPresentation s).mkd = s.mkd ∧ (clearPresentation s).rqt = s.rqt ∧
    (clearPresentation s).trc = s.trc ∧ (clearPresentation s).fit = s.fit ∧ (clearPresentation s).fcc = s.fcc ∧
    (clearPresentation s).gtu.inHand = s.gtu.inHand ∧ (clearPresentation s).gtu.exposure = s.gtu.exposure ∧
    (clearPresentation s).gtu.trig = s.gtu.trig ∧ (clearPresentation s).gtu.route = s.gtu.route ∧
    (clearPresentation s).gtu.watches = s.gtu.watches ∧ (clearPresentation s).gtu.heldReport = s.gtu.heldReport ∧
    (clearPresentation s).ntu = s.ntu ∧ (clearPresentation s).lnk = s.lnk := by
  simp [clearPresentation]

@[simp] theorem endPresentation_frame (o : PresEnd) (w : Ctx) :
    (endPresentation o w).st.pending = w.st.pending ∧ (endPresentation o w).st.freeCount = w.st.freeCount ∧
    (endPresentation o w).st.lensRead = w.st.lensRead ∧
    (endPresentation o w).st.resetHeld = w.st.resetHeld ∧ (endPresentation o w).st.unitAddress = w.st.unitAddress ∧
    (endPresentation o w).st.pins = w.st.pins ∧ (endPresentation o w).st.mkd = w.st.mkd ∧
    (endPresentation o w).st.rqt.arrival = w.st.rqt.arrival ∧ (endPresentation o w).st.rqt.halted = w.st.rqt.halted ∧
    (endPresentation o w).st.rqt.stopReason = w.st.rqt.stopReason ∧
    (endPresentation o w).st.trc.roll = w.st.trc.roll ∧ (endPresentation o w).st.trc.profile = w.st.trc.profile ∧
    (endPresentation o w).st.trc.counter = w.st.trc.counter ∧ (endPresentation o w).st.trc.endPos = w.st.trc.endPos ∧
    (endPresentation o w).st.trc.overrun = w.st.trc.overrun ∧ (endPresentation o w).st.trc.motion = w.st.trc.motion ∧
    (endPresentation o w).st.trc.travelDir = w.st.trc.travelDir ∧
    (endPresentation o w).st.trc.speed = w.st.trc.speed ∧ (endPresentation o w).st.trc.move = w.st.trc.move ∧
    (endPresentation o w).st.trc.epoch = w.st.trc.epoch ∧ (endPresentation o w).st.trc.verified = w.st.trc.verified ∧
    (endPresentation o w).st.trc.slip = w.st.trc.slip ∧ (endPresentation o w).st.trc.cause = w.st.trc.cause ∧
    (endPresentation o w).st.trc.retension = w.st.trc.retension ∧
    (endPresentation o w).st.trc.parkDelay = w.st.trc.parkDelay ∧
    (endPresentation o w).st.trc.wakeDelay = w.st.trc.wakeDelay ∧
    (endPresentation o w).st.trc.wakeFor = w.st.trc.wakeFor ∧ (endPresentation o w).st.fit = w.st.fit ∧
    (endPresentation o w).st.fcc = w.st.fcc ∧ (endPresentation o w).st.gtu.inHand = w.st.gtu.inHand ∧
    (endPresentation o w).st.gtu.exposure = w.st.gtu.exposure ∧ (endPresentation o w).st.gtu.trig = w.st.gtu.trig ∧
    (endPresentation o w).st.gtu.route = w.st.gtu.route ∧ (endPresentation o w).st.gtu.watches = w.st.gtu.watches ∧
    (endPresentation o w).st.gtu.heldReport = w.st.gtu.heldReport ∧
    (endPresentation o w).st.ntu.ports = w.st.ntu.ports ∧
    (∀ q, ((endPresentation o w).st.lnk.get q).rx = (w.st.lnk.get q).rx) ∧
    (∀ q, ((endPresentation o w).st.lnk.get q).part = (w.st.lnk.get q).part) ∧
    (∀ q, ((endPresentation o w).st.lnk.get q).inbox = (w.st.lnk.get q).inbox) ∧
    (∀ q, ((endPresentation o w).st.lnk.get q).awaitMark = (w.st.lnk.get q).awaitMark) ∧
    (∀ q, ((endPresentation o w).st.lnk.get q).byteTimer = (w.st.lnk.get q).byteTimer) ∧
    (∀ q, ((endPresentation o w).st.lnk.get q).resyncTimer = (w.st.lnk.get q).resyncTimer) ∧
    (∀ q, ((endPresentation o w).st.lnk.get q).outbox = (w.st.lnk.get q).outbox) ∧
    (∀ q, ((endPresentation o w).st.lnk.get q).released = (w.st.lnk.get q).released) ∧
    (∀ q, ((endPresentation o w).st.lnk.get q).txFifo = (w.st.lnk.get q).txFifo) ∧
    (∀ q, ((endPresentation o w).st.lnk.get q).txLine = (w.st.lnk.get q).txLine) ∧
    (∀ q, ((endPresentation o w).st.lnk.get q).driving = (w.st.lnk.get q).driving) ∧
    (∀ q, ((endPresentation o w).st.lnk.get q).rdyMode = (w.st.lnk.get q).rdyMode) ∧
    (∀ q, ((endPresentation o w).st.lnk.get q).threshold = (w.st.lnk.get q).threshold) ∧
    (∀ q, ((endPresentation o w).st.lnk.get q).ctsGating = (w.st.lnk.get q).ctsGating) ∧
    (∀ q, ((endPresentation o w).st.lnk.get q).gap = (w.st.lnk.get q).gap) ∧
    (∀ q, ((endPresentation o w).st.lnk.get q).flags = (w.st.lnk.get q).flags) ∧
    (∀ q, ((endPresentation o w).st.lnk.get q).cts = (w.st.lnk.get q).cts) ∧
    (∀ q, ((endPresentation o w).st.lnk.get q).outstanding = (w.st.lnk.get q).outstanding) := by
  unfold endPresentation
  repeat' split
  all_goals simp

@[simp] theorem markTaken_frame (n : Nat) (s : State) :
    (markTaken n s).pending = s.pending ∧ (markTaken n s).freeCount = s.freeCount ∧
    (markTaken n s).lensRead = s.lensRead ∧
    (markTaken n s).resetHeld = s.resetHeld ∧ (markTaken n s).unitAddress = s.unitAddress ∧
    (markTaken n s).pins = s.pins ∧ (markTaken n s).mkd = s.mkd ∧ (markTaken n s).rqt = s.rqt ∧
    (markTaken n s).trc = s.trc ∧ (markTaken n s).fit.index = s.fit.index ∧
    (markTaken n s).fit.building = s.fit.building ∧ (markTaken n s).fit.p256 = s.fit.p256 ∧
    (markTaken n s).fit.splice = s.fit.splice ∧ (markTaken n s).fit.verify = s.fit.verify ∧
    (markTaken n s).fcc = s.fcc ∧ (markTaken n s).gtu = s.gtu ∧ (markTaken n s).ntu = s.ntu ∧
    (markTaken n s).lnk = s.lnk := by
  simp [markTaken]

@[simp] theorem completeExpose_frame (e : Exposure) (o : OutcomeCode) (w : Ctx) :
    (completeExpose e o w).st.pending = w.st.pending ∧ (completeExpose e o w).st.freeCount = w.st.freeCount ∧
    (completeExpose e o w).st.lensRead = w.st.lensRead ∧
    (completeExpose e o w).st.resetHeld = w.st.resetHeld ∧ (completeExpose e o w).st.unitAddress = w.st.unitAddress ∧
    (completeExpose e o w).st.pins = w.st.pins ∧ (completeExpose e o w).st.mkd = w.st.mkd ∧
    (completeExpose e o w).st.rqt = w.st.rqt ∧ (completeExpose e o w).st.trc = w.st.trc ∧
    (completeExpose e o w).st.fit = w.st.fit ∧ (completeExpose e o w).st.fcc = w.st.fcc ∧
    (completeExpose e o w).st.gtu = w.st.gtu ∧ (completeExpose e o w).st.ntu = w.st.ntu ∧
    (∀ q, ((completeExpose e o w).st.lnk.get q).rx = (w.st.lnk.get q).rx) ∧
    (∀ q, ((completeExpose e o w).st.lnk.get q).part = (w.st.lnk.get q).part) ∧
    (∀ q, ((completeExpose e o w).st.lnk.get q).inbox = (w.st.lnk.get q).inbox) ∧
    (∀ q, ((completeExpose e o w).st.lnk.get q).awaitMark = (w.st.lnk.get q).awaitMark) ∧
    (∀ q, ((completeExpose e o w).st.lnk.get q).byteTimer = (w.st.lnk.get q).byteTimer) ∧
    (∀ q, ((completeExpose e o w).st.lnk.get q).resyncTimer = (w.st.lnk.get q).resyncTimer) ∧
    (∀ q, ((completeExpose e o w).st.lnk.get q).outbox = (w.st.lnk.get q).outbox) ∧
    (∀ q, ((completeExpose e o w).st.lnk.get q).released = (w.st.lnk.get q).released) ∧
    (∀ q, ((completeExpose e o w).st.lnk.get q).txFifo = (w.st.lnk.get q).txFifo) ∧
    (∀ q, ((completeExpose e o w).st.lnk.get q).txLine = (w.st.lnk.get q).txLine) ∧
    (∀ q, ((completeExpose e o w).st.lnk.get q).driving = (w.st.lnk.get q).driving) ∧
    (∀ q, ((completeExpose e o w).st.lnk.get q).rdyMode = (w.st.lnk.get q).rdyMode) ∧
    (∀ q, ((completeExpose e o w).st.lnk.get q).threshold = (w.st.lnk.get q).threshold) ∧
    (∀ q, ((completeExpose e o w).st.lnk.get q).ctsGating = (w.st.lnk.get q).ctsGating) ∧
    (∀ q, ((completeExpose e o w).st.lnk.get q).gap = (w.st.lnk.get q).gap) ∧
    (∀ q, ((completeExpose e o w).st.lnk.get q).flags = (w.st.lnk.get q).flags) ∧
    (∀ q, ((completeExpose e o w).st.lnk.get q).cts = (w.st.lnk.get q).cts) := by
  simp [completeExpose]
  (repeat' apply And.intro) <;> intro q <;> split <;> simp_all

@[simp] theorem dropExposure_frame (s : State) :
    (dropExposure s).pending = s.pending ∧ (dropExposure s).freeCount = s.freeCount ∧
    (dropExposure s).lensRead = s.lensRead ∧
    (dropExposure s).resetHeld = s.resetHeld ∧ (dropExposure s).unitAddress = s.unitAddress ∧
    (dropExposure s).pins = s.pins ∧ (dropExposure s).mkd = s.mkd ∧ (dropExposure s).rqt = s.rqt ∧
    (dropExposure s).trc = s.trc ∧ (dropExposure s).fit = s.fit ∧ (dropExposure s).fcc = s.fcc ∧
    (dropExposure s).gtu.phase = s.gtu.phase ∧ (dropExposure s).gtu.inHand = s.gtu.inHand ∧
    (dropExposure s).gtu.presentation = s.gtu.presentation ∧ (dropExposure s).gtu.hold = s.gtu.hold ∧
    (dropExposure s).gtu.route = s.gtu.route ∧ (dropExposure s).gtu.watches = s.gtu.watches ∧
    (dropExposure s).gtu.heldReport = s.gtu.heldReport ∧ (dropExposure s).ntu = s.ntu ∧ (dropExposure s).lnk = s.lnk := by
  simp [dropExposure]

@[simp] theorem abandonExposure_frame (o : OutcomeCode) (w : Ctx) :
    (abandonExposure o w).st.pending = w.st.pending ∧ (abandonExposure o w).st.freeCount = w.st.freeCount ∧
    (abandonExposure o w).st.lensRead = w.st.lensRead ∧
    (abandonExposure o w).st.resetHeld = w.st.resetHeld ∧ (abandonExposure o w).st.unitAddress = w.st.unitAddress ∧
    (abandonExposure o w).st.pins = w.st.pins ∧ (abandonExposure o w).st.mkd = w.st.mkd ∧
    (abandonExposure o w).st.rqt = w.st.rqt ∧ (abandonExposure o w).st.trc = w.st.trc ∧
    (abandonExposure o w).st.fit = w.st.fit ∧ (abandonExposure o w).st.fcc = w.st.fcc ∧
    (abandonExposure o w).st.gtu.phase = w.st.gtu.phase ∧ (abandonExposure o w).st.gtu.inHand = w.st.gtu.inHand ∧
    (abandonExposure o w).st.gtu.presentation = w.st.gtu.presentation ∧
    (abandonExposure o w).st.gtu.hold = w.st.gtu.hold ∧ (abandonExposure o w).st.gtu.route = w.st.gtu.route ∧
    (abandonExposure o w).st.gtu.watches = w.st.gtu.watches ∧
    (abandonExposure o w).st.gtu.heldReport = w.st.gtu.heldReport ∧ (abandonExposure o w).st.ntu = w.st.ntu ∧
    (∀ q, ((abandonExposure o w).st.lnk.get q).rx = (w.st.lnk.get q).rx) ∧
    (∀ q, ((abandonExposure o w).st.lnk.get q).part = (w.st.lnk.get q).part) ∧
    (∀ q, ((abandonExposure o w).st.lnk.get q).inbox = (w.st.lnk.get q).inbox) ∧
    (∀ q, ((abandonExposure o w).st.lnk.get q).awaitMark = (w.st.lnk.get q).awaitMark) ∧
    (∀ q, ((abandonExposure o w).st.lnk.get q).byteTimer = (w.st.lnk.get q).byteTimer) ∧
    (∀ q, ((abandonExposure o w).st.lnk.get q).resyncTimer = (w.st.lnk.get q).resyncTimer) ∧
    (∀ q, ((abandonExposure o w).st.lnk.get q).outbox = (w.st.lnk.get q).outbox) ∧
    (∀ q, ((abandonExposure o w).st.lnk.get q).released = (w.st.lnk.get q).released) ∧
    (∀ q, ((abandonExposure o w).st.lnk.get q).txFifo = (w.st.lnk.get q).txFifo) ∧
    (∀ q, ((abandonExposure o w).st.lnk.get q).txLine = (w.st.lnk.get q).txLine) ∧
    (∀ q, ((abandonExposure o w).st.lnk.get q).driving = (w.st.lnk.get q).driving) ∧
    (∀ q, ((abandonExposure o w).st.lnk.get q).rdyMode = (w.st.lnk.get q).rdyMode) ∧
    (∀ q, ((abandonExposure o w).st.lnk.get q).threshold = (w.st.lnk.get q).threshold) ∧
    (∀ q, ((abandonExposure o w).st.lnk.get q).ctsGating = (w.st.lnk.get q).ctsGating) ∧
    (∀ q, ((abandonExposure o w).st.lnk.get q).gap = (w.st.lnk.get q).gap) ∧
    (∀ q, ((abandonExposure o w).st.lnk.get q).flags = (w.st.lnk.get q).flags) ∧
    (∀ q, ((abandonExposure o w).st.lnk.get q).cts = (w.st.lnk.get q).cts) := by
  unfold abandonExposure
  split <;> simp

@[simp] theorem afterExposure_frame (w : Ctx) :
    (afterExposure w).st.pending = w.st.pending ∧ (afterExposure w).st.freeCount = w.st.freeCount ∧
    (afterExposure w).st.lensRead = w.st.lensRead ∧
    (afterExposure w).st.resetHeld = w.st.resetHeld ∧ (afterExposure w).st.unitAddress = w.st.unitAddress ∧
    (afterExposure w).st.pins = w.st.pins ∧ (afterExposure w).st.mkd = w.st.mkd ∧
    (afterExposure w).st.rqt.arrival = w.st.rqt.arrival ∧ (afterExposure w).st.rqt.halted = w.st.rqt.halted ∧
    (afterExposure w).st.rqt.stopReason = w.st.rqt.stopReason ∧ (afterExposure w).st.trc.roll = w.st.trc.roll ∧
    (afterExposure w).st.trc.profile = w.st.trc.profile ∧ (afterExposure w).st.trc.counter = w.st.trc.counter ∧
    (afterExposure w).st.trc.endPos = w.st.trc.endPos ∧ (afterExposure w).st.trc.overrun = w.st.trc.overrun ∧
    (afterExposure w).st.trc.motion = w.st.trc.motion ∧ (afterExposure w).st.trc.travelDir = w.st.trc.travelDir ∧
    (afterExposure w).st.trc.speed = w.st.trc.speed ∧ (afterExposure w).st.trc.move = w.st.trc.move ∧
    (afterExposure w).st.trc.epoch = w.st.trc.epoch ∧ (afterExposure w).st.trc.verified = w.st.trc.verified ∧
    (afterExposure w).st.trc.slip = w.st.trc.slip ∧ (afterExposure w).st.trc.cause = w.st.trc.cause ∧
    (afterExposure w).st.trc.retension = w.st.trc.retension ∧
    (afterExposure w).st.trc.parkDelay = w.st.trc.parkDelay ∧
    (afterExposure w).st.trc.wakeDelay = w.st.trc.wakeDelay ∧ (afterExposure w).st.trc.wakeFor = w.st.trc.wakeFor ∧
    (afterExposure w).st.fit = w.st.fit ∧ (afterExposure w).st.fcc = w.st.fcc ∧
    (afterExposure w).st.gtu.inHand = w.st.gtu.inHand ∧ (afterExposure w).st.gtu.exposure = w.st.gtu.exposure ∧
    (afterExposure w).st.gtu.trig = w.st.gtu.trig ∧ (afterExposure w).st.gtu.route = w.st.gtu.route ∧
    (afterExposure w).st.gtu.watches = w.st.gtu.watches ∧ (afterExposure w).st.gtu.heldReport = w.st.gtu.heldReport ∧
    (afterExposure w).st.ntu.ports = w.st.ntu.ports ∧
    (∀ q, ((afterExposure w).st.lnk.get q).rx = (w.st.lnk.get q).rx) ∧
    (∀ q, ((afterExposure w).st.lnk.get q).part = (w.st.lnk.get q).part) ∧
    (∀ q, ((afterExposure w).st.lnk.get q).inbox = (w.st.lnk.get q).inbox) ∧
    (∀ q, ((afterExposure w).st.lnk.get q).awaitMark = (w.st.lnk.get q).awaitMark) ∧
    (∀ q, ((afterExposure w).st.lnk.get q).byteTimer = (w.st.lnk.get q).byteTimer) ∧
    (∀ q, ((afterExposure w).st.lnk.get q).resyncTimer = (w.st.lnk.get q).resyncTimer) ∧
    (∀ q, ((afterExposure w).st.lnk.get q).outbox = (w.st.lnk.get q).outbox) ∧
    (∀ q, ((afterExposure w).st.lnk.get q).released = (w.st.lnk.get q).released) ∧
    (∀ q, ((afterExposure w).st.lnk.get q).txFifo = (w.st.lnk.get q).txFifo) ∧
    (∀ q, ((afterExposure w).st.lnk.get q).txLine = (w.st.lnk.get q).txLine) ∧
    (∀ q, ((afterExposure w).st.lnk.get q).driving = (w.st.lnk.get q).driving) ∧
    (∀ q, ((afterExposure w).st.lnk.get q).rdyMode = (w.st.lnk.get q).rdyMode) ∧
    (∀ q, ((afterExposure w).st.lnk.get q).threshold = (w.st.lnk.get q).threshold) ∧
    (∀ q, ((afterExposure w).st.lnk.get q).ctsGating = (w.st.lnk.get q).ctsGating) ∧
    (∀ q, ((afterExposure w).st.lnk.get q).gap = (w.st.lnk.get q).gap) ∧
    (∀ q, ((afterExposure w).st.lnk.get q).flags = (w.st.lnk.get q).flags) ∧
    (∀ q, ((afterExposure w).st.lnk.get q).cts = (w.st.lnk.get q).cts) ∧
    (∀ q, ((afterExposure w).st.lnk.get q).outstanding = (w.st.lnk.get q).outstanding) := by
  unfold afterExposure
  repeat' split
  all_goals simp

@[simp] theorem endExposure_frame (o : OutcomeCode) (w : Ctx) :
    (endExposure o w).st.pending = w.st.pending ∧ (endExposure o w).st.freeCount = w.st.freeCount ∧
    (endExposure o w).st.lensRead = w.st.lensRead ∧
    (endExposure o w).st.resetHeld = w.st.resetHeld ∧ (endExposure o w).st.unitAddress = w.st.unitAddress ∧
    (endExposure o w).st.pins = w.st.pins ∧ (endExposure o w).st.mkd = w.st.mkd ∧
    (endExposure o w).st.rqt.arrival = w.st.rqt.arrival ∧ (endExposure o w).st.rqt.halted = w.st.rqt.halted ∧
    (endExposure o w).st.rqt.stopReason = w.st.rqt.stopReason ∧ (endExposure o w).st.trc.roll = w.st.trc.roll ∧
    (endExposure o w).st.trc.profile = w.st.trc.profile ∧ (endExposure o w).st.trc.counter = w.st.trc.counter ∧
    (endExposure o w).st.trc.endPos = w.st.trc.endPos ∧ (endExposure o w).st.trc.overrun = w.st.trc.overrun ∧
    (endExposure o w).st.trc.motion = w.st.trc.motion ∧ (endExposure o w).st.trc.travelDir = w.st.trc.travelDir ∧
    (endExposure o w).st.trc.speed = w.st.trc.speed ∧ (endExposure o w).st.trc.move = w.st.trc.move ∧
    (endExposure o w).st.trc.epoch = w.st.trc.epoch ∧ (endExposure o w).st.trc.verified = w.st.trc.verified ∧
    (endExposure o w).st.trc.slip = w.st.trc.slip ∧ (endExposure o w).st.trc.cause = w.st.trc.cause ∧
    (endExposure o w).st.trc.retension = w.st.trc.retension ∧
    (endExposure o w).st.trc.parkDelay = w.st.trc.parkDelay ∧
    (endExposure o w).st.trc.wakeDelay = w.st.trc.wakeDelay ∧ (endExposure o w).st.trc.wakeFor = w.st.trc.wakeFor ∧
    (endExposure o w).st.fit = w.st.fit ∧ (endExposure o w).st.fcc.lens = w.st.fcc.lens ∧
    (endExposure o w).st.fcc.lines = w.st.fcc.lines ∧ (endExposure o w).st.fcc.lru = w.st.fcc.lru ∧
    (endExposure o w).st.fcc.sweep = w.st.fcc.sweep ∧ (endExposure o w).st.gtu.route = w.st.gtu.route ∧
    (endExposure o w).st.ntu.ports = w.st.ntu.ports ∧
    (∀ q, ((endExposure o w).st.lnk.get q).rx = (w.st.lnk.get q).rx) ∧
    (∀ q, ((endExposure o w).st.lnk.get q).part = (w.st.lnk.get q).part) ∧
    (∀ q, ((endExposure o w).st.lnk.get q).inbox = (w.st.lnk.get q).inbox) ∧
    (∀ q, ((endExposure o w).st.lnk.get q).awaitMark = (w.st.lnk.get q).awaitMark) ∧
    (∀ q, ((endExposure o w).st.lnk.get q).byteTimer = (w.st.lnk.get q).byteTimer) ∧
    (∀ q, ((endExposure o w).st.lnk.get q).resyncTimer = (w.st.lnk.get q).resyncTimer) ∧
    (∀ q, ((endExposure o w).st.lnk.get q).outbox = (w.st.lnk.get q).outbox) ∧
    (∀ q, ((endExposure o w).st.lnk.get q).released = (w.st.lnk.get q).released) ∧
    (∀ q, ((endExposure o w).st.lnk.get q).txFifo = (w.st.lnk.get q).txFifo) ∧
    (∀ q, ((endExposure o w).st.lnk.get q).txLine = (w.st.lnk.get q).txLine) ∧
    (∀ q, ((endExposure o w).st.lnk.get q).driving = (w.st.lnk.get q).driving) ∧
    (∀ q, ((endExposure o w).st.lnk.get q).rdyMode = (w.st.lnk.get q).rdyMode) ∧
    (∀ q, ((endExposure o w).st.lnk.get q).threshold = (w.st.lnk.get q).threshold) ∧
    (∀ q, ((endExposure o w).st.lnk.get q).ctsGating = (w.st.lnk.get q).ctsGating) ∧
    (∀ q, ((endExposure o w).st.lnk.get q).gap = (w.st.lnk.get q).gap) ∧
    (∀ q, ((endExposure o w).st.lnk.get q).flags = (w.st.lnk.get q).flags) ∧
    (∀ q, ((endExposure o w).st.lnk.get q).cts = (w.st.lnk.get q).cts) := by
  unfold endExposure
  dsimp only
  repeat' split
  all_goals simp

@[simp] theorem faultState_frame (c : Cause) (s : State) :
    (faultState c s).pending = s.pending ∧ (faultState c s).freeCount = s.freeCount ∧
    (faultState c s).lensRead = s.lensRead ∧
    (faultState c s).resetHeld = s.resetHeld ∧ (faultState c s).unitAddress = s.unitAddress ∧
    (faultState c s).pins = s.pins ∧ (faultState c s).mkd = s.mkd ∧ (faultState c s).rqt = s.rqt ∧
    (faultState c s).trc.roll = s.trc.roll ∧ (faultState c s).trc.profile = s.trc.profile ∧
    (faultState c s).trc.counter = s.trc.counter ∧ (faultState c s).trc.endPos = s.trc.endPos ∧
    (faultState c s).trc.overrun = s.trc.overrun ∧ (faultState c s).trc.travelDir = s.trc.travelDir ∧
    (faultState c s).trc.speed = s.trc.speed ∧ (faultState c s).trc.epoch = s.trc.epoch ∧
    (faultState c s).trc.parkDelay = s.trc.parkDelay ∧ (faultState c s).trc.wakeDelay = s.trc.wakeDelay ∧
    (faultState c s).trc.wakeFor = s.trc.wakeFor ∧ (faultState c s).trc.timers = s.trc.timers ∧
    (faultState c s).fit.entries = s.fit.entries ∧ (faultState c s).fit.index = s.fit.index ∧
    (faultState c s).fit.p256 = s.fit.p256 ∧ (faultState c s).fit.splice = s.fit.splice ∧
    (faultState c s).fcc = s.fcc ∧ (faultState c s).gtu.phase = s.gtu.phase ∧
    (faultState c s).gtu.inHand = s.gtu.inHand ∧ (faultState c s).gtu.presentation = s.gtu.presentation ∧
    (faultState c s).gtu.hold = s.gtu.hold ∧ (faultState c s).gtu.exposure = s.gtu.exposure ∧
    (faultState c s).gtu.trig = s.gtu.trig ∧ (faultState c s).gtu.route = s.gtu.route ∧
    (faultState c s).gtu.heldReport = s.gtu.heldReport ∧ (faultState c s).ntu = s.ntu ∧ (faultState c s).lnk = s.lnk := by
  simp [faultState]

@[simp] theorem suspendRun_frame (s : State) :
    (suspendRun s).pending = s.pending ∧ (suspendRun s).freeCount = s.freeCount ∧
    (suspendRun s).lensRead = s.lensRead ∧
    (suspendRun s).resetHeld = s.resetHeld ∧ (suspendRun s).unitAddress = s.unitAddress ∧
    (suspendRun s).pins = s.pins ∧ (suspendRun s).mkd = s.mkd ∧ (suspendRun s).rqt.records = s.rqt.records ∧
    (suspendRun s).rqt.arrival = s.rqt.arrival ∧ (suspendRun s).rqt.halted = s.rqt.halted ∧
    (suspendRun s).rqt.grant = s.rqt.grant ∧ (suspendRun s).rqt.stopReason = s.rqt.stopReason ∧
    (suspendRun s).trc = s.trc ∧ (suspendRun s).fit = s.fit ∧ (suspendRun s).fcc = s.fcc ∧
    (suspendRun s).gtu = s.gtu ∧ (suspendRun s).ntu = s.ntu ∧ (suspendRun s).lnk = s.lnk := by
  simp [suspendRun]

@[simp] theorem faultGrant_frame (w : Ctx) :
    (faultGrant w).st.pending = w.st.pending ∧ (faultGrant w).st.freeCount = w.st.freeCount ∧
    (faultGrant w).st.lensRead = w.st.lensRead ∧
    (faultGrant w).st.resetHeld = w.st.resetHeld ∧ (faultGrant w).st.unitAddress = w.st.unitAddress ∧
    (faultGrant w).st.pins = w.st.pins ∧ (faultGrant w).st.mkd = w.st.mkd ∧
    (faultGrant w).st.rqt.run = w.st.rqt.run ∧ (faultGrant w).st.rqt.arrival = w.st.rqt.arrival ∧
    (faultGrant w).st.rqt.halted = w.st.rqt.halted ∧ (faultGrant w).st.rqt.stopReason = w.st.rqt.stopReason ∧
    (faultGrant w).st.trc = w.st.trc ∧ (faultGrant w).st.fit = w.st.fit ∧ (faultGrant w).st.fcc = w.st.fcc ∧
    (faultGrant w).st.gtu = w.st.gtu ∧ (faultGrant w).st.ntu.ports = w.st.ntu.ports ∧
    (∀ q, ((faultGrant w).st.lnk.get q).rx = (w.st.lnk.get q).rx) ∧
    (∀ q, ((faultGrant w).st.lnk.get q).part = (w.st.lnk.get q).part) ∧
    (∀ q, ((faultGrant w).st.lnk.get q).inbox = (w.st.lnk.get q).inbox) ∧
    (∀ q, ((faultGrant w).st.lnk.get q).awaitMark = (w.st.lnk.get q).awaitMark) ∧
    (∀ q, ((faultGrant w).st.lnk.get q).byteTimer = (w.st.lnk.get q).byteTimer) ∧
    (∀ q, ((faultGrant w).st.lnk.get q).resyncTimer = (w.st.lnk.get q).resyncTimer) ∧
    (∀ q, ((faultGrant w).st.lnk.get q).outbox = (w.st.lnk.get q).outbox) ∧
    (∀ q, ((faultGrant w).st.lnk.get q).released = (w.st.lnk.get q).released) ∧
    (∀ q, ((faultGrant w).st.lnk.get q).txFifo = (w.st.lnk.get q).txFifo) ∧
    (∀ q, ((faultGrant w).st.lnk.get q).txLine = (w.st.lnk.get q).txLine) ∧
    (∀ q, ((faultGrant w).st.lnk.get q).driving = (w.st.lnk.get q).driving) ∧
    (∀ q, ((faultGrant w).st.lnk.get q).rdyMode = (w.st.lnk.get q).rdyMode) ∧
    (∀ q, ((faultGrant w).st.lnk.get q).threshold = (w.st.lnk.get q).threshold) ∧
    (∀ q, ((faultGrant w).st.lnk.get q).ctsGating = (w.st.lnk.get q).ctsGating) ∧
    (∀ q, ((faultGrant w).st.lnk.get q).gap = (w.st.lnk.get q).gap) ∧
    (∀ q, ((faultGrant w).st.lnk.get q).flags = (w.st.lnk.get q).flags) ∧
    (∀ q, ((faultGrant w).st.lnk.get q).cts = (w.st.lnk.get q).cts) ∧
    (∀ q, ((faultGrant w).st.lnk.get q).outstanding = (w.st.lnk.get q).outstanding) := by
  unfold faultGrant
  split <;> simp

@[simp] theorem takeFault_frame (c : Cause) (w : Ctx) :
    (takeFault c w).st.pending = w.st.pending ∧ (takeFault c w).st.freeCount = w.st.freeCount ∧
    (takeFault c w).st.lensRead = w.st.lensRead ∧
    (takeFault c w).st.resetHeld = w.st.resetHeld ∧ (takeFault c w).st.unitAddress = w.st.unitAddress ∧
    (takeFault c w).st.pins = w.st.pins ∧ (takeFault c w).st.mkd = w.st.mkd ∧
    (takeFault c w).st.rqt.arrival = w.st.rqt.arrival ∧ (takeFault c w).st.rqt.halted = w.st.rqt.halted ∧
    (takeFault c w).st.trc.roll = w.st.trc.roll ∧ (takeFault c w).st.trc.profile = w.st.trc.profile ∧
    (takeFault c w).st.trc.counter = w.st.trc.counter ∧ (takeFault c w).st.trc.endPos = w.st.trc.endPos ∧
    (takeFault c w).st.trc.overrun = w.st.trc.overrun ∧ (takeFault c w).st.trc.travelDir = w.st.trc.travelDir ∧
    (takeFault c w).st.trc.speed = w.st.trc.speed ∧ (takeFault c w).st.trc.epoch = w.st.trc.epoch ∧
    (takeFault c w).st.trc.parkDelay = w.st.trc.parkDelay ∧ (takeFault c w).st.trc.wakeDelay = w.st.trc.wakeDelay ∧
    (takeFault c w).st.trc.wakeFor = w.st.trc.wakeFor ∧ (takeFault c w).st.trc.timers = w.st.trc.timers ∧
    (takeFault c w).st.fit.entries = w.st.fit.entries ∧ (takeFault c w).st.fit.index = w.st.fit.index ∧
    (takeFault c w).st.fit.p256 = w.st.fit.p256 ∧ (takeFault c w).st.fit.splice = w.st.fit.splice ∧
    (takeFault c w).st.fcc.lens = w.st.fcc.lens ∧ (takeFault c w).st.fcc.stage = w.st.fcc.stage ∧
    (takeFault c w).st.fcc.lines = w.st.fcc.lines ∧ (takeFault c w).st.fcc.lru = w.st.fcc.lru ∧
    (takeFault c w).st.gtu.route = w.st.gtu.route ∧ (takeFault c w).st.ntu.ports = w.st.ntu.ports ∧
    (∀ q, ((takeFault c w).st.lnk.get q).rx = (w.st.lnk.get q).rx) ∧
    (∀ q, ((takeFault c w).st.lnk.get q).part = (w.st.lnk.get q).part) ∧
    (∀ q, ((takeFault c w).st.lnk.get q).inbox = (w.st.lnk.get q).inbox) ∧
    (∀ q, ((takeFault c w).st.lnk.get q).awaitMark = (w.st.lnk.get q).awaitMark) ∧
    (∀ q, ((takeFault c w).st.lnk.get q).byteTimer = (w.st.lnk.get q).byteTimer) ∧
    (∀ q, ((takeFault c w).st.lnk.get q).resyncTimer = (w.st.lnk.get q).resyncTimer) ∧
    (∀ q, ((takeFault c w).st.lnk.get q).outbox = (w.st.lnk.get q).outbox) ∧
    (∀ q, ((takeFault c w).st.lnk.get q).released = (w.st.lnk.get q).released) ∧
    (∀ q, ((takeFault c w).st.lnk.get q).txFifo = (w.st.lnk.get q).txFifo) ∧
    (∀ q, ((takeFault c w).st.lnk.get q).txLine = (w.st.lnk.get q).txLine) ∧
    (∀ q, ((takeFault c w).st.lnk.get q).driving = (w.st.lnk.get q).driving) ∧
    (∀ q, ((takeFault c w).st.lnk.get q).rdyMode = (w.st.lnk.get q).rdyMode) ∧
    (∀ q, ((takeFault c w).st.lnk.get q).threshold = (w.st.lnk.get q).threshold) ∧
    (∀ q, ((takeFault c w).st.lnk.get q).ctsGating = (w.st.lnk.get q).ctsGating) ∧
    (∀ q, ((takeFault c w).st.lnk.get q).gap = (w.st.lnk.get q).gap) ∧
    (∀ q, ((takeFault c w).st.lnk.get q).flags = (w.st.lnk.get q).flags) ∧
    (∀ q, ((takeFault c w).st.lnk.get q).cts = (w.st.lnk.get q).cts) := by
  unfold takeFault
  dsimp only
  repeat' split
  all_goals simp

@[simp] theorem moveOver_frame (s : State) :
    (moveOver s).pending = s.pending ∧ (moveOver s).freeCount = s.freeCount ∧ (moveOver s).lensRead = s.lensRead ∧
    (moveOver s).resetHeld = s.resetHeld ∧
    (moveOver s).unitAddress = s.unitAddress ∧ (moveOver s).pins = s.pins ∧ (moveOver s).mkd = s.mkd ∧
    (moveOver s).rqt = s.rqt ∧ (moveOver s).trc.roll = s.trc.roll ∧ (moveOver s).trc.profile = s.trc.profile ∧
    (moveOver s).trc.counter = s.trc.counter ∧ (moveOver s).trc.endPos = s.trc.endPos ∧
    (moveOver s).trc.overrun = s.trc.overrun ∧ (moveOver s).trc.travelDir = s.trc.travelDir ∧
    (moveOver s).trc.epoch = s.trc.epoch ∧ (moveOver s).trc.verified = s.trc.verified ∧
    (moveOver s).trc.slip = s.trc.slip ∧ (moveOver s).trc.cause = s.trc.cause ∧
    (moveOver s).trc.retension = s.trc.retension ∧ (moveOver s).trc.parkDelay = s.trc.parkDelay ∧
    (moveOver s).trc.wakeDelay = s.trc.wakeDelay ∧ (moveOver s).trc.wakeFor = s.trc.wakeFor ∧
    (moveOver s).trc.timers = s.trc.timers ∧ (moveOver s).fit.entries = s.fit.entries ∧
    (moveOver s).fit.index = s.fit.index ∧ (moveOver s).fit.p256 = s.fit.p256 ∧
    (moveOver s).fit.splice = s.fit.splice ∧ (moveOver s).fit.verify = s.fit.verify ∧ (moveOver s).fcc = s.fcc ∧
    (moveOver s).gtu = s.gtu ∧ (moveOver s).ntu = s.ntu ∧ (moveOver s).lnk = s.lnk := by
  simp [moveOver]

@[simp] theorem disposeStopped_frame (w : Ctx) :
    (disposeStopped w).st.pending = w.st.pending ∧ (disposeStopped w).st.freeCount = w.st.freeCount ∧
    (disposeStopped w).st.lensRead = w.st.lensRead ∧
    (disposeStopped w).st.resetHeld = w.st.resetHeld ∧ (disposeStopped w).st.unitAddress = w.st.unitAddress ∧
    (disposeStopped w).st.pins = w.st.pins ∧ (disposeStopped w).st.mkd = w.st.mkd ∧
    (disposeStopped w).st.rqt.arrival = w.st.rqt.arrival ∧ (disposeStopped w).st.rqt.halted = w.st.rqt.halted ∧
    (disposeStopped w).st.trc.roll = w.st.trc.roll ∧ (disposeStopped w).st.trc.profile = w.st.trc.profile ∧
    (disposeStopped w).st.trc.counter = w.st.trc.counter ∧ (disposeStopped w).st.trc.endPos = w.st.trc.endPos ∧
    (disposeStopped w).st.trc.overrun = w.st.trc.overrun ∧ (disposeStopped w).st.trc.travelDir = w.st.trc.travelDir ∧
    (disposeStopped w).st.trc.speed = w.st.trc.speed ∧ (disposeStopped w).st.trc.epoch = w.st.trc.epoch ∧
    (disposeStopped w).st.trc.parkDelay = w.st.trc.parkDelay ∧
    (disposeStopped w).st.trc.wakeDelay = w.st.trc.wakeDelay ∧ (disposeStopped w).st.trc.wakeFor = w.st.trc.wakeFor ∧
    (disposeStopped w).st.trc.timers = w.st.trc.timers ∧ (disposeStopped w).st.fit.entries = w.st.fit.entries ∧
    (disposeStopped w).st.fit.index = w.st.fit.index ∧ (disposeStopped w).st.fit.p256 = w.st.fit.p256 ∧
    (disposeStopped w).st.fit.splice = w.st.fit.splice ∧ (disposeStopped w).st.fcc.lens = w.st.fcc.lens ∧
    (disposeStopped w).st.fcc.stage = w.st.fcc.stage ∧ (disposeStopped w).st.fcc.lines = w.st.fcc.lines ∧
    (disposeStopped w).st.fcc.lru = w.st.fcc.lru ∧ (disposeStopped w).st.gtu.route = w.st.gtu.route ∧
    (disposeStopped w).st.ntu.ports = w.st.ntu.ports ∧
    (∀ q, ((disposeStopped w).st.lnk.get q).rx = (w.st.lnk.get q).rx) ∧
    (∀ q, ((disposeStopped w).st.lnk.get q).part = (w.st.lnk.get q).part) ∧
    (∀ q, ((disposeStopped w).st.lnk.get q).inbox = (w.st.lnk.get q).inbox) ∧
    (∀ q, ((disposeStopped w).st.lnk.get q).awaitMark = (w.st.lnk.get q).awaitMark) ∧
    (∀ q, ((disposeStopped w).st.lnk.get q).byteTimer = (w.st.lnk.get q).byteTimer) ∧
    (∀ q, ((disposeStopped w).st.lnk.get q).resyncTimer = (w.st.lnk.get q).resyncTimer) ∧
    (∀ q, ((disposeStopped w).st.lnk.get q).outbox = (w.st.lnk.get q).outbox) ∧
    (∀ q, ((disposeStopped w).st.lnk.get q).released = (w.st.lnk.get q).released) ∧
    (∀ q, ((disposeStopped w).st.lnk.get q).txFifo = (w.st.lnk.get q).txFifo) ∧
    (∀ q, ((disposeStopped w).st.lnk.get q).txLine = (w.st.lnk.get q).txLine) ∧
    (∀ q, ((disposeStopped w).st.lnk.get q).driving = (w.st.lnk.get q).driving) ∧
    (∀ q, ((disposeStopped w).st.lnk.get q).rdyMode = (w.st.lnk.get q).rdyMode) ∧
    (∀ q, ((disposeStopped w).st.lnk.get q).threshold = (w.st.lnk.get q).threshold) ∧
    (∀ q, ((disposeStopped w).st.lnk.get q).ctsGating = (w.st.lnk.get q).ctsGating) ∧
    (∀ q, ((disposeStopped w).st.lnk.get q).gap = (w.st.lnk.get q).gap) ∧
    (∀ q, ((disposeStopped w).st.lnk.get q).flags = (w.st.lnk.get q).flags) ∧
    (∀ q, ((disposeStopped w).st.lnk.get q).cts = (w.st.lnk.get q).cts) := by
  unfold disposeStopped
  dsimp only
  repeat' split
  all_goals simp

@[simp] theorem orderStop_frame (r : StopReason) (w : Ctx) :
    (orderStop r w).st.pending = w.st.pending ∧ (orderStop r w).st.freeCount = w.st.freeCount ∧
    (orderStop r w).st.lensRead = w.st.lensRead ∧
    (orderStop r w).st.resetHeld = w.st.resetHeld ∧ (orderStop r w).st.unitAddress = w.st.unitAddress ∧
    (orderStop r w).st.pins = w.st.pins ∧ (orderStop r w).st.mkd = w.st.mkd ∧
    (orderStop r w).st.rqt.arrival = w.st.rqt.arrival ∧ (orderStop r w).st.rqt.halted = w.st.rqt.halted ∧
    (orderStop r w).st.trc.roll = w.st.trc.roll ∧ (orderStop r w).st.trc.profile = w.st.trc.profile ∧
    (orderStop r w).st.trc.counter = w.st.trc.counter ∧ (orderStop r w).st.trc.endPos = w.st.trc.endPos ∧
    (orderStop r w).st.trc.overrun = w.st.trc.overrun ∧ (orderStop r w).st.trc.travelDir = w.st.trc.travelDir ∧
    (orderStop r w).st.trc.epoch = w.st.trc.epoch ∧ (orderStop r w).st.trc.parkDelay = w.st.trc.parkDelay ∧
    (orderStop r w).st.trc.wakeDelay = w.st.trc.wakeDelay ∧ (orderStop r w).st.trc.wakeFor = w.st.trc.wakeFor ∧
    (orderStop r w).st.trc.timers = w.st.trc.timers ∧ (orderStop r w).st.fit.entries = w.st.fit.entries ∧
    (orderStop r w).st.fit.index = w.st.fit.index ∧ (orderStop r w).st.fit.p256 = w.st.fit.p256 ∧
    (orderStop r w).st.fit.splice = w.st.fit.splice ∧ (orderStop r w).st.fcc.lens = w.st.fcc.lens ∧
    (orderStop r w).st.fcc.stage = w.st.fcc.stage ∧ (orderStop r w).st.fcc.lines = w.st.fcc.lines ∧
    (orderStop r w).st.fcc.lru = w.st.fcc.lru ∧ (orderStop r w).st.gtu.route = w.st.gtu.route ∧
    (orderStop r w).st.ntu.ports = w.st.ntu.ports ∧ (∀ q, ((orderStop r w).st.lnk.get q).rx = (w.st.lnk.get q).rx) ∧
    (∀ q, ((orderStop r w).st.lnk.get q).part = (w.st.lnk.get q).part) ∧
    (∀ q, ((orderStop r w).st.lnk.get q).inbox = (w.st.lnk.get q).inbox) ∧
    (∀ q, ((orderStop r w).st.lnk.get q).awaitMark = (w.st.lnk.get q).awaitMark) ∧
    (∀ q, ((orderStop r w).st.lnk.get q).byteTimer = (w.st.lnk.get q).byteTimer) ∧
    (∀ q, ((orderStop r w).st.lnk.get q).resyncTimer = (w.st.lnk.get q).resyncTimer) ∧
    (∀ q, ((orderStop r w).st.lnk.get q).outbox = (w.st.lnk.get q).outbox) ∧
    (∀ q, ((orderStop r w).st.lnk.get q).released = (w.st.lnk.get q).released) ∧
    (∀ q, ((orderStop r w).st.lnk.get q).txFifo = (w.st.lnk.get q).txFifo) ∧
    (∀ q, ((orderStop r w).st.lnk.get q).txLine = (w.st.lnk.get q).txLine) ∧
    (∀ q, ((orderStop r w).st.lnk.get q).driving = (w.st.lnk.get q).driving) ∧
    (∀ q, ((orderStop r w).st.lnk.get q).rdyMode = (w.st.lnk.get q).rdyMode) ∧
    (∀ q, ((orderStop r w).st.lnk.get q).threshold = (w.st.lnk.get q).threshold) ∧
    (∀ q, ((orderStop r w).st.lnk.get q).ctsGating = (w.st.lnk.get q).ctsGating) ∧
    (∀ q, ((orderStop r w).st.lnk.get q).gap = (w.st.lnk.get q).gap) ∧
    (∀ q, ((orderStop r w).st.lnk.get q).flags = (w.st.lnk.get q).flags) ∧
    (∀ q, ((orderStop r w).st.lnk.get q).cts = (w.st.lnk.get q).cts) := by
  unfold orderStop
  repeat' split
  all_goals simp

@[simp] theorem setVerified_frame (reason : Byte) (w : Ctx) :
    (setVerified reason w).st.pending = w.st.pending ∧ (setVerified reason w).st.freeCount = w.st.freeCount ∧
    (setVerified reason w).st.lensRead = w.st.lensRead ∧
    (setVerified reason w).st.resetHeld = w.st.resetHeld ∧ (setVerified reason w).st.unitAddress = w.st.unitAddress ∧
    (setVerified reason w).st.pins = w.st.pins ∧ (setVerified reason w).st.mkd = w.st.mkd ∧
    (setVerified reason w).st.rqt = w.st.rqt ∧ (setVerified reason w).st.trc.roll = w.st.trc.roll ∧
    (setVerified reason w).st.trc.profile = w.st.trc.profile ∧
    (setVerified reason w).st.trc.counter = w.st.trc.counter ∧
    (setVerified reason w).st.trc.endPos = w.st.trc.endPos ∧
    (setVerified reason w).st.trc.overrun = w.st.trc.overrun ∧
    (setVerified reason w).st.trc.motion = w.st.trc.motion ∧
    (setVerified reason w).st.trc.travelDir = w.st.trc.travelDir ∧
    (setVerified reason w).st.trc.speed = w.st.trc.speed ∧ (setVerified reason w).st.trc.move = w.st.trc.move ∧
    (setVerified reason w).st.trc.epoch = w.st.trc.epoch ∧ (setVerified reason w).st.trc.slip = w.st.trc.slip ∧
    (setVerified reason w).st.trc.cause = w.st.trc.cause ∧
    (setVerified reason w).st.trc.retension = w.st.trc.retension ∧
    (setVerified reason w).st.trc.parkDelay = w.st.trc.parkDelay ∧
    (setVerified reason w).st.trc.wakeDelay = w.st.trc.wakeDelay ∧
    (setVerified reason w).st.trc.wakeFor = w.st.trc.wakeFor ∧
    (setVerified reason w).st.trc.timers = w.st.trc.timers ∧ (setVerified reason w).st.fit = w.st.fit ∧
    (setVerified reason w).st.fcc = w.st.fcc ∧ (setVerified reason w).st.gtu = w.st.gtu ∧
    (setVerified reason w).st.ntu.ports = w.st.ntu.ports ∧ (setVerified reason w).st.lnk = w.st.lnk := by
  simp [setVerified]

@[simp] theorem unverifiedGrant_frame (w : Ctx) :
    (unverifiedGrant w).st.pending = w.st.pending ∧ (unverifiedGrant w).st.freeCount = w.st.freeCount ∧
    (unverifiedGrant w).st.lensRead = w.st.lensRead ∧
    (unverifiedGrant w).st.resetHeld = w.st.resetHeld ∧ (unverifiedGrant w).st.unitAddress = w.st.unitAddress ∧
    (unverifiedGrant w).st.pins = w.st.pins ∧ (unverifiedGrant w).st.mkd = w.st.mkd ∧
    (unverifiedGrant w).st.rqt.arrival = w.st.rqt.arrival ∧ (unverifiedGrant w).st.rqt.halted = w.st.rqt.halted ∧
    (unverifiedGrant w).st.trc.roll = w.st.trc.roll ∧ (unverifiedGrant w).st.trc.profile = w.st.trc.profile ∧
    (unverifiedGrant w).st.trc.counter = w.st.trc.counter ∧ (unverifiedGrant w).st.trc.endPos = w.st.trc.endPos ∧
    (unverifiedGrant w).st.trc.overrun = w.st.trc.overrun ∧
    (unverifiedGrant w).st.trc.travelDir = w.st.trc.travelDir ∧ (unverifiedGrant w).st.trc.epoch = w.st.trc.epoch ∧
    (unverifiedGrant w).st.trc.parkDelay = w.st.trc.parkDelay ∧
    (unverifiedGrant w).st.trc.wakeDelay = w.st.trc.wakeDelay ∧
    (unverifiedGrant w).st.trc.wakeFor = w.st.trc.wakeFor ∧ (unverifiedGrant w).st.trc.timers = w.st.trc.timers ∧
    (unverifiedGrant w).st.fit.entries = w.st.fit.entries ∧ (unverifiedGrant w).st.fit.index = w.st.fit.index ∧
    (unverifiedGrant w).st.fit.p256 = w.st.fit.p256 ∧ (unverifiedGrant w).st.fit.splice = w.st.fit.splice ∧
    (unverifiedGrant w).st.fcc.lens = w.st.fcc.lens ∧ (unverifiedGrant w).st.fcc.stage = w.st.fcc.stage ∧
    (unverifiedGrant w).st.fcc.lines = w.st.fcc.lines ∧ (unverifiedGrant w).st.fcc.lru = w.st.fcc.lru ∧
    (unverifiedGrant w).st.gtu.route = w.st.gtu.route ∧ (unverifiedGrant w).st.ntu.ports = w.st.ntu.ports ∧
    (∀ q, ((unverifiedGrant w).st.lnk.get q).rx = (w.st.lnk.get q).rx) ∧
    (∀ q, ((unverifiedGrant w).st.lnk.get q).part = (w.st.lnk.get q).part) ∧
    (∀ q, ((unverifiedGrant w).st.lnk.get q).inbox = (w.st.lnk.get q).inbox) ∧
    (∀ q, ((unverifiedGrant w).st.lnk.get q).awaitMark = (w.st.lnk.get q).awaitMark) ∧
    (∀ q, ((unverifiedGrant w).st.lnk.get q).byteTimer = (w.st.lnk.get q).byteTimer) ∧
    (∀ q, ((unverifiedGrant w).st.lnk.get q).resyncTimer = (w.st.lnk.get q).resyncTimer) ∧
    (∀ q, ((unverifiedGrant w).st.lnk.get q).outbox = (w.st.lnk.get q).outbox) ∧
    (∀ q, ((unverifiedGrant w).st.lnk.get q).released = (w.st.lnk.get q).released) ∧
    (∀ q, ((unverifiedGrant w).st.lnk.get q).txFifo = (w.st.lnk.get q).txFifo) ∧
    (∀ q, ((unverifiedGrant w).st.lnk.get q).txLine = (w.st.lnk.get q).txLine) ∧
    (∀ q, ((unverifiedGrant w).st.lnk.get q).driving = (w.st.lnk.get q).driving) ∧
    (∀ q, ((unverifiedGrant w).st.lnk.get q).rdyMode = (w.st.lnk.get q).rdyMode) ∧
    (∀ q, ((unverifiedGrant w).st.lnk.get q).threshold = (w.st.lnk.get q).threshold) ∧
    (∀ q, ((unverifiedGrant w).st.lnk.get q).ctsGating = (w.st.lnk.get q).ctsGating) ∧
    (∀ q, ((unverifiedGrant w).st.lnk.get q).gap = (w.st.lnk.get q).gap) ∧
    (∀ q, ((unverifiedGrant w).st.lnk.get q).flags = (w.st.lnk.get q).flags) ∧
    (∀ q, ((unverifiedGrant w).st.lnk.get q).cts = (w.st.lnk.get q).cts) := by
  unfold unverifiedGrant
  repeat' split
  all_goals simp

@[simp] theorem becomeUnverified_frame (reason : Byte) (w : Ctx) :
    (becomeUnverified reason w).st.pending = w.st.pending ∧
    (becomeUnverified reason w).st.freeCount = w.st.freeCount ∧
    (becomeUnverified reason w).st.lensRead = w.st.lensRead ∧
    (becomeUnverified reason w).st.resetHeld = w.st.resetHeld ∧
    (becomeUnverified reason w).st.unitAddress = w.st.unitAddress ∧ (becomeUnverified reason w).st.pins = w.st.pins ∧
    (becomeUnverified reason w).st.mkd = w.st.mkd ∧ (becomeUnverified reason w).st.rqt.arrival = w.st.rqt.arrival ∧
    (becomeUnverified reason w).st.rqt.halted = w.st.rqt.halted ∧
    (becomeUnverified reason w).st.trc.roll = w.st.trc.roll ∧
    (becomeUnverified reason w).st.trc.profile = w.st.trc.profile ∧
    (becomeUnverified reason w).st.trc.counter = w.st.trc.counter ∧
    (becomeUnverified reason w).st.trc.endPos = w.st.trc.endPos ∧
    (becomeUnverified reason w).st.trc.overrun = w.st.trc.overrun ∧
    (becomeUnverified reason w).st.trc.travelDir = w.st.trc.travelDir ∧
    (becomeUnverified reason w).st.trc.epoch = w.st.trc.epoch ∧
    (becomeUnverified reason w).st.trc.parkDelay = w.st.trc.parkDelay ∧
    (becomeUnverified reason w).st.trc.wakeDelay = w.st.trc.wakeDelay ∧
    (becomeUnverified reason w).st.trc.wakeFor = w.st.trc.wakeFor ∧
    (becomeUnverified reason w).st.trc.timers = w.st.trc.timers ∧
    (becomeUnverified reason w).st.fit.entries = w.st.fit.entries ∧
    (becomeUnverified reason w).st.fit.index = w.st.fit.index ∧
    (becomeUnverified reason w).st.fit.p256 = w.st.fit.p256 ∧
    (becomeUnverified reason w).st.fit.splice = w.st.fit.splice ∧
    (becomeUnverified reason w).st.fcc.lens = w.st.fcc.lens ∧
    (becomeUnverified reason w).st.fcc.stage = w.st.fcc.stage ∧
    (becomeUnverified reason w).st.fcc.lines = w.st.fcc.lines ∧
    (becomeUnverified reason w).st.fcc.lru = w.st.fcc.lru ∧
    (becomeUnverified reason w).st.gtu.route = w.st.gtu.route ∧
    (becomeUnverified reason w).st.ntu.ports = w.st.ntu.ports ∧
    (∀ q, ((becomeUnverified reason w).st.lnk.get q).rx = (w.st.lnk.get q).rx) ∧
    (∀ q, ((becomeUnverified reason w).st.lnk.get q).part = (w.st.lnk.get q).part) ∧
    (∀ q, ((becomeUnverified reason w).st.lnk.get q).inbox = (w.st.lnk.get q).inbox) ∧
    (∀ q, ((becomeUnverified reason w).st.lnk.get q).awaitMark = (w.st.lnk.get q).awaitMark) ∧
    (∀ q, ((becomeUnverified reason w).st.lnk.get q).byteTimer = (w.st.lnk.get q).byteTimer) ∧
    (∀ q, ((becomeUnverified reason w).st.lnk.get q).resyncTimer = (w.st.lnk.get q).resyncTimer) ∧
    (∀ q, ((becomeUnverified reason w).st.lnk.get q).outbox = (w.st.lnk.get q).outbox) ∧
    (∀ q, ((becomeUnverified reason w).st.lnk.get q).released = (w.st.lnk.get q).released) ∧
    (∀ q, ((becomeUnverified reason w).st.lnk.get q).txFifo = (w.st.lnk.get q).txFifo) ∧
    (∀ q, ((becomeUnverified reason w).st.lnk.get q).txLine = (w.st.lnk.get q).txLine) ∧
    (∀ q, ((becomeUnverified reason w).st.lnk.get q).driving = (w.st.lnk.get q).driving) ∧
    (∀ q, ((becomeUnverified reason w).st.lnk.get q).rdyMode = (w.st.lnk.get q).rdyMode) ∧
    (∀ q, ((becomeUnverified reason w).st.lnk.get q).threshold = (w.st.lnk.get q).threshold) ∧
    (∀ q, ((becomeUnverified reason w).st.lnk.get q).ctsGating = (w.st.lnk.get q).ctsGating) ∧
    (∀ q, ((becomeUnverified reason w).st.lnk.get q).gap = (w.st.lnk.get q).gap) ∧
    (∀ q, ((becomeUnverified reason w).st.lnk.get q).flags = (w.st.lnk.get q).flags) ∧
    (∀ q, ((becomeUnverified reason w).st.lnk.get q).cts = (w.st.lnk.get q).cts) := by
  unfold becomeUnverified
  split <;> simp

@[simp] theorem positionFail_frame (w : Ctx) :
    (positionFail w).st.pending = w.st.pending ∧ (positionFail w).st.freeCount = w.st.freeCount ∧
    (positionFail w).st.lensRead = w.st.lensRead ∧
    (positionFail w).st.resetHeld = w.st.resetHeld ∧ (positionFail w).st.unitAddress = w.st.unitAddress ∧
    (positionFail w).st.pins = w.st.pins ∧ (positionFail w).st.mkd = w.st.mkd ∧
    (positionFail w).st.rqt.arrival = w.st.rqt.arrival ∧ (positionFail w).st.rqt.halted = w.st.rqt.halted ∧
    (positionFail w).st.rqt.stopReason = w.st.rqt.stopReason ∧ (positionFail w).st.trc = w.st.trc ∧
    (positionFail w).st.fit = w.st.fit ∧ (positionFail w).st.fcc = w.st.fcc ∧
    (positionFail w).st.gtu.presentation = w.st.gtu.presentation ∧ (positionFail w).st.gtu.hold = w.st.gtu.hold ∧
    (positionFail w).st.gtu.exposure = w.st.gtu.exposure ∧ (positionFail w).st.gtu.trig = w.st.gtu.trig ∧
    (positionFail w).st.gtu.route = w.st.gtu.route ∧ (positionFail w).st.gtu.watches = w.st.gtu.watches ∧
    (positionFail w).st.ntu.ports = w.st.ntu.ports ∧
    (∀ q, ((positionFail w).st.lnk.get q).rx = (w.st.lnk.get q).rx) ∧
    (∀ q, ((positionFail w).st.lnk.get q).part = (w.st.lnk.get q).part) ∧
    (∀ q, ((positionFail w).st.lnk.get q).inbox = (w.st.lnk.get q).inbox) ∧
    (∀ q, ((positionFail w).st.lnk.get q).awaitMark = (w.st.lnk.get q).awaitMark) ∧
    (∀ q, ((positionFail w).st.lnk.get q).byteTimer = (w.st.lnk.get q).byteTimer) ∧
    (∀ q, ((positionFail w).st.lnk.get q).resyncTimer = (w.st.lnk.get q).resyncTimer) ∧
    (∀ q, ((positionFail w).st.lnk.get q).outbox = (w.st.lnk.get q).outbox) ∧
    (∀ q, ((positionFail w).st.lnk.get q).released = (w.st.lnk.get q).released) ∧
    (∀ q, ((positionFail w).st.lnk.get q).txFifo = (w.st.lnk.get q).txFifo) ∧
    (∀ q, ((positionFail w).st.lnk.get q).txLine = (w.st.lnk.get q).txLine) ∧
    (∀ q, ((positionFail w).st.lnk.get q).driving = (w.st.lnk.get q).driving) ∧
    (∀ q, ((positionFail w).st.lnk.get q).rdyMode = (w.st.lnk.get q).rdyMode) ∧
    (∀ q, ((positionFail w).st.lnk.get q).threshold = (w.st.lnk.get q).threshold) ∧
    (∀ q, ((positionFail w).st.lnk.get q).ctsGating = (w.st.lnk.get q).ctsGating) ∧
    (∀ q, ((positionFail w).st.lnk.get q).gap = (w.st.lnk.get q).gap) ∧
    (∀ q, ((positionFail w).st.lnk.get q).flags = (w.st.lnk.get q).flags) ∧
    (∀ q, ((positionFail w).st.lnk.get q).cts = (w.st.lnk.get q).cts) ∧
    (∀ q, ((positionFail w).st.lnk.get q).outstanding = (w.st.lnk.get q).outstanding) := by
  unfold positionFail
  dsimp only
  repeat' split
  all_goals simp

@[simp] theorem gateUnreachable_frame (n : Nat) (w : Ctx) :
    (gateUnreachable n w).st.pending = w.st.pending ∧ (gateUnreachable n w).st.freeCount = w.st.freeCount ∧
    (gateUnreachable n w).st.lensRead = w.st.lensRead ∧
    (gateUnreachable n w).st.resetHeld = w.st.resetHeld ∧ (gateUnreachable n w).st.unitAddress = w.st.unitAddress ∧
    (gateUnreachable n w).st.pins = w.st.pins ∧ (gateUnreachable n w).st.mkd = w.st.mkd ∧
    (gateUnreachable n w).st.rqt.arrival = w.st.rqt.arrival ∧ (gateUnreachable n w).st.rqt.halted = w.st.rqt.halted ∧
    (gateUnreachable n w).st.rqt.stopReason = w.st.rqt.stopReason ∧ (gateUnreachable n w).st.trc = w.st.trc ∧
    (gateUnreachable n w).st.fit = w.st.fit ∧ (gateUnreachable n w).st.fcc = w.st.fcc ∧
    (gateUnreachable n w).st.gtu.presentation = w.st.gtu.presentation ∧
    (gateUnreachable n w).st.gtu.hold = w.st.gtu.hold ∧ (gateUnreachable n w).st.gtu.exposure = w.st.gtu.exposure ∧
    (gateUnreachable n w).st.gtu.trig = w.st.gtu.trig ∧ (gateUnreachable n w).st.gtu.route = w.st.gtu.route ∧
    (gateUnreachable n w).st.gtu.watches = w.st.gtu.watches ∧ (gateUnreachable n w).st.ntu.ports = w.st.ntu.ports ∧
    (∀ q, ((gateUnreachable n w).st.lnk.get q).rx = (w.st.lnk.get q).rx) ∧
    (∀ q, ((gateUnreachable n w).st.lnk.get q).part = (w.st.lnk.get q).part) ∧
    (∀ q, ((gateUnreachable n w).st.lnk.get q).inbox = (w.st.lnk.get q).inbox) ∧
    (∀ q, ((gateUnreachable n w).st.lnk.get q).awaitMark = (w.st.lnk.get q).awaitMark) ∧
    (∀ q, ((gateUnreachable n w).st.lnk.get q).byteTimer = (w.st.lnk.get q).byteTimer) ∧
    (∀ q, ((gateUnreachable n w).st.lnk.get q).resyncTimer = (w.st.lnk.get q).resyncTimer) ∧
    (∀ q, ((gateUnreachable n w).st.lnk.get q).outbox = (w.st.lnk.get q).outbox) ∧
    (∀ q, ((gateUnreachable n w).st.lnk.get q).released = (w.st.lnk.get q).released) ∧
    (∀ q, ((gateUnreachable n w).st.lnk.get q).txFifo = (w.st.lnk.get q).txFifo) ∧
    (∀ q, ((gateUnreachable n w).st.lnk.get q).txLine = (w.st.lnk.get q).txLine) ∧
    (∀ q, ((gateUnreachable n w).st.lnk.get q).driving = (w.st.lnk.get q).driving) ∧
    (∀ q, ((gateUnreachable n w).st.lnk.get q).rdyMode = (w.st.lnk.get q).rdyMode) ∧
    (∀ q, ((gateUnreachable n w).st.lnk.get q).threshold = (w.st.lnk.get q).threshold) ∧
    (∀ q, ((gateUnreachable n w).st.lnk.get q).ctsGating = (w.st.lnk.get q).ctsGating) ∧
    (∀ q, ((gateUnreachable n w).st.lnk.get q).gap = (w.st.lnk.get q).gap) ∧
    (∀ q, ((gateUnreachable n w).st.lnk.get q).flags = (w.st.lnk.get q).flags) ∧
    (∀ q, ((gateUnreachable n w).st.lnk.get q).cts = (w.st.lnk.get q).cts) ∧
    (∀ q, ((gateUnreachable n w).st.lnk.get q).outstanding = (w.st.lnk.get q).outstanding) := by
  unfold gateUnreachable
  dsimp only
  repeat' split
  all_goals simp

@[simp] theorem gateSettled_frame (w : Ctx) :
    (gateSettled w).st.pending = w.st.pending ∧ (gateSettled w).st.freeCount = w.st.freeCount ∧
    (gateSettled w).st.lensRead = w.st.lensRead ∧
    (gateSettled w).st.resetHeld = w.st.resetHeld ∧ (gateSettled w).st.unitAddress = w.st.unitAddress ∧
    (gateSettled w).st.pins = w.st.pins ∧ (gateSettled w).st.mkd = w.st.mkd ∧
    (gateSettled w).st.rqt.arrival = w.st.rqt.arrival ∧ (gateSettled w).st.rqt.halted = w.st.rqt.halted ∧
    (gateSettled w).st.rqt.stopReason = w.st.rqt.stopReason ∧ (gateSettled w).st.trc = w.st.trc ∧
    (gateSettled w).st.fit = w.st.fit ∧ (gateSettled w).st.fcc.lens = w.st.fcc.lens ∧
    (gateSettled w).st.fcc.lines = w.st.fcc.lines ∧ (gateSettled w).st.gtu.exposure = w.st.gtu.exposure ∧
    (gateSettled w).st.gtu.trig = w.st.gtu.trig ∧ (gateSettled w).st.gtu.route = w.st.gtu.route ∧
    (gateSettled w).st.ntu.ports = w.st.ntu.ports ∧ (∀ q, ((gateSettled w).st.lnk.get q).rx = (w.st.lnk.get q).rx) ∧
    (∀ q, ((gateSettled w).st.lnk.get q).part = (w.st.lnk.get q).part) ∧
    (∀ q, ((gateSettled w).st.lnk.get q).inbox = (w.st.lnk.get q).inbox) ∧
    (∀ q, ((gateSettled w).st.lnk.get q).awaitMark = (w.st.lnk.get q).awaitMark) ∧
    (∀ q, ((gateSettled w).st.lnk.get q).byteTimer = (w.st.lnk.get q).byteTimer) ∧
    (∀ q, ((gateSettled w).st.lnk.get q).resyncTimer = (w.st.lnk.get q).resyncTimer) ∧
    (∀ q, ((gateSettled w).st.lnk.get q).outbox = (w.st.lnk.get q).outbox) ∧
    (∀ q, ((gateSettled w).st.lnk.get q).released = (w.st.lnk.get q).released) ∧
    (∀ q, ((gateSettled w).st.lnk.get q).txFifo = (w.st.lnk.get q).txFifo) ∧
    (∀ q, ((gateSettled w).st.lnk.get q).txLine = (w.st.lnk.get q).txLine) ∧
    (∀ q, ((gateSettled w).st.lnk.get q).driving = (w.st.lnk.get q).driving) ∧
    (∀ q, ((gateSettled w).st.lnk.get q).rdyMode = (w.st.lnk.get q).rdyMode) ∧
    (∀ q, ((gateSettled w).st.lnk.get q).threshold = (w.st.lnk.get q).threshold) ∧
    (∀ q, ((gateSettled w).st.lnk.get q).ctsGating = (w.st.lnk.get q).ctsGating) ∧
    (∀ q, ((gateSettled w).st.lnk.get q).gap = (w.st.lnk.get q).gap) ∧
    (∀ q, ((gateSettled w).st.lnk.get q).flags = (w.st.lnk.get q).flags) ∧
    (∀ q, ((gateSettled w).st.lnk.get q).cts = (w.st.lnk.get q).cts) ∧
    (∀ q, ((gateSettled w).st.lnk.get q).outstanding = (w.st.lnk.get q).outstanding) := by
  unfold gateSettled
  repeat' split
  all_goals simp

@[simp] theorem moveSettled_frame (w : Ctx) :
    (moveSettled w).st.pending = w.st.pending ∧ (moveSettled w).st.freeCount = w.st.freeCount ∧
    (moveSettled w).st.lensRead = w.st.lensRead ∧
    (moveSettled w).st.resetHeld = w.st.resetHeld ∧ (moveSettled w).st.unitAddress = w.st.unitAddress ∧
    (moveSettled w).st.pins = w.st.pins ∧ (moveSettled w).st.mkd = w.st.mkd ∧
    (moveSettled w).st.rqt.arrival = w.st.rqt.arrival ∧ (moveSettled w).st.rqt.halted = w.st.rqt.halted ∧
    (moveSettled w).st.rqt.stopReason = w.st.rqt.stopReason ∧ (moveSettled w).st.trc.roll = w.st.trc.roll ∧
    (moveSettled w).st.trc.profile = w.st.trc.profile ∧ (moveSettled w).st.trc.counter = w.st.trc.counter ∧
    (moveSettled w).st.trc.endPos = w.st.trc.endPos ∧ (moveSettled w).st.trc.overrun = w.st.trc.overrun ∧
    (moveSettled w).st.trc.verified = w.st.trc.verified ∧ (moveSettled w).st.trc.slip = w.st.trc.slip ∧
    (moveSettled w).st.trc.cause = w.st.trc.cause ∧ (moveSettled w).st.trc.retension = w.st.trc.retension ∧
    (moveSettled w).st.trc.parkDelay = w.st.trc.parkDelay ∧ (moveSettled w).st.trc.wakeDelay = w.st.trc.wakeDelay ∧
    (moveSettled w).st.fit.entries = w.st.fit.entries ∧ (moveSettled w).st.fit.index = w.st.fit.index ∧
    (moveSettled w).st.fit.p256 = w.st.fit.p256 ∧ (moveSettled w).st.fit.splice = w.st.fit.splice ∧
    (moveSettled w).st.fit.verify = w.st.fit.verify ∧ (moveSettled w).st.fcc.lens = w.st.fcc.lens ∧
    (moveSettled w).st.fcc.lines = w.st.fcc.lines ∧ (moveSettled w).st.gtu.exposure = w.st.gtu.exposure ∧
    (moveSettled w).st.gtu.trig = w.st.gtu.trig ∧ (moveSettled w).st.gtu.route = w.st.gtu.route ∧
    (moveSettled w).st.ntu.ports = w.st.ntu.ports ∧ (∀ q, ((moveSettled w).st.lnk.get q).rx = (w.st.lnk.get q).rx) ∧
    (∀ q, ((moveSettled w).st.lnk.get q).part = (w.st.lnk.get q).part) ∧
    (∀ q, ((moveSettled w).st.lnk.get q).inbox = (w.st.lnk.get q).inbox) ∧
    (∀ q, ((moveSettled w).st.lnk.get q).awaitMark = (w.st.lnk.get q).awaitMark) ∧
    (∀ q, ((moveSettled w).st.lnk.get q).byteTimer = (w.st.lnk.get q).byteTimer) ∧
    (∀ q, ((moveSettled w).st.lnk.get q).resyncTimer = (w.st.lnk.get q).resyncTimer) ∧
    (∀ q, ((moveSettled w).st.lnk.get q).outbox = (w.st.lnk.get q).outbox) ∧
    (∀ q, ((moveSettled w).st.lnk.get q).released = (w.st.lnk.get q).released) ∧
    (∀ q, ((moveSettled w).st.lnk.get q).txFifo = (w.st.lnk.get q).txFifo) ∧
    (∀ q, ((moveSettled w).st.lnk.get q).txLine = (w.st.lnk.get q).txLine) ∧
    (∀ q, ((moveSettled w).st.lnk.get q).driving = (w.st.lnk.get q).driving) ∧
    (∀ q, ((moveSettled w).st.lnk.get q).rdyMode = (w.st.lnk.get q).rdyMode) ∧
    (∀ q, ((moveSettled w).st.lnk.get q).threshold = (w.st.lnk.get q).threshold) ∧
    (∀ q, ((moveSettled w).st.lnk.get q).ctsGating = (w.st.lnk.get q).ctsGating) ∧
    (∀ q, ((moveSettled w).st.lnk.get q).gap = (w.st.lnk.get q).gap) ∧
    (∀ q, ((moveSettled w).st.lnk.get q).flags = (w.st.lnk.get q).flags) ∧
    (∀ q, ((moveSettled w).st.lnk.get q).cts = (w.st.lnk.get q).cts) ∧
    (∀ q, ((moveSettled w).st.lnk.get q).outstanding = (w.st.lnk.get q).outstanding) := by
  unfold moveSettled
  dsimp only
  repeat' split
  all_goals simp

@[simp] theorem moveBound_frame (w : Ctx) :
    (moveBound w).st.pending = w.st.pending ∧ (moveBound w).st.freeCount = w.st.freeCount ∧
    (moveBound w).st.lensRead = w.st.lensRead ∧
    (moveBound w).st.resetHeld = w.st.resetHeld ∧ (moveBound w).st.unitAddress = w.st.unitAddress ∧
    (moveBound w).st.pins = w.st.pins ∧ (moveBound w).st.mkd = w.st.mkd ∧
    (moveBound w).st.rqt.arrival = w.st.rqt.arrival ∧ (moveBound w).st.rqt.halted = w.st.rqt.halted ∧
    (moveBound w).st.trc.roll = w.st.trc.roll ∧ (moveBound w).st.trc.profile = w.st.trc.profile ∧
    (moveBound w).st.trc.counter = w.st.trc.counter ∧ (moveBound w).st.trc.endPos = w.st.trc.endPos ∧
    (moveBound w).st.trc.overrun = w.st.trc.overrun ∧ (moveBound w).st.trc.travelDir = w.st.trc.travelDir ∧
    (moveBound w).st.trc.epoch = w.st.trc.epoch ∧ (moveBound w).st.trc.parkDelay = w.st.trc.parkDelay ∧
    (moveBound w).st.trc.wakeDelay = w.st.trc.wakeDelay ∧ (moveBound w).st.trc.wakeFor = w.st.trc.wakeFor ∧
    (moveBound w).st.trc.timers = w.st.trc.timers ∧ (moveBound w).st.fit.entries = w.st.fit.entries ∧
    (moveBound w).st.fit.index = w.st.fit.index ∧ (moveBound w).st.fit.p256 = w.st.fit.p256 ∧
    (moveBound w).st.fit.splice = w.st.fit.splice ∧ (moveBound w).st.fcc.lens = w.st.fcc.lens ∧
    (moveBound w).st.fcc.stage = w.st.fcc.stage ∧ (moveBound w).st.fcc.lines = w.st.fcc.lines ∧
    (moveBound w).st.fcc.lru = w.st.fcc.lru ∧ (moveBound w).st.gtu.route = w.st.gtu.route ∧
    (moveBound w).st.ntu.ports = w.st.ntu.ports ∧ (∀ q, ((moveBound w).st.lnk.get q).rx = (w.st.lnk.get q).rx) ∧
    (∀ q, ((moveBound w).st.lnk.get q).part = (w.st.lnk.get q).part) ∧
    (∀ q, ((moveBound w).st.lnk.get q).inbox = (w.st.lnk.get q).inbox) ∧
    (∀ q, ((moveBound w).st.lnk.get q).awaitMark = (w.st.lnk.get q).awaitMark) ∧
    (∀ q, ((moveBound w).st.lnk.get q).byteTimer = (w.st.lnk.get q).byteTimer) ∧
    (∀ q, ((moveBound w).st.lnk.get q).resyncTimer = (w.st.lnk.get q).resyncTimer) ∧
    (∀ q, ((moveBound w).st.lnk.get q).outbox = (w.st.lnk.get q).outbox) ∧
    (∀ q, ((moveBound w).st.lnk.get q).released = (w.st.lnk.get q).released) ∧
    (∀ q, ((moveBound w).st.lnk.get q).txFifo = (w.st.lnk.get q).txFifo) ∧
    (∀ q, ((moveBound w).st.lnk.get q).txLine = (w.st.lnk.get q).txLine) ∧
    (∀ q, ((moveBound w).st.lnk.get q).driving = (w.st.lnk.get q).driving) ∧
    (∀ q, ((moveBound w).st.lnk.get q).rdyMode = (w.st.lnk.get q).rdyMode) ∧
    (∀ q, ((moveBound w).st.lnk.get q).threshold = (w.st.lnk.get q).threshold) ∧
    (∀ q, ((moveBound w).st.lnk.get q).ctsGating = (w.st.lnk.get q).ctsGating) ∧
    (∀ q, ((moveBound w).st.lnk.get q).gap = (w.st.lnk.get q).gap) ∧
    (∀ q, ((moveBound w).st.lnk.get q).flags = (w.st.lnk.get q).flags) ∧
    (∀ q, ((moveBound w).st.lnk.get q).cts = (w.st.lnk.get q).cts) := by
  unfold moveBound
  dsimp only
  repeat' split
  all_goals simp

end Sys2Proof.Machine
end

