-- ==== Sys2Proof/Laws/FrameIndex.lean ====
section
/-! SUPPORT. What each operation of marks, the index and CORRECT leaves unchanged: one frame for each, which later proofs cite instead of
unfolding it. -/

namespace Sys2Proof.Machine

@[simp] theorem countBuilding_frame (d : Dir) (tallied : Bool) (s : State) :
    (countBuilding d tallied s).pending = s.pending ∧ (countBuilding d tallied s).freeCount = s.freeCount ∧
    (countBuilding d tallied s).lensRead = s.lensRead ∧
    (countBuilding d tallied s).resetHeld = s.resetHeld ∧ (countBuilding d tallied s).unitAddress = s.unitAddress ∧
    (countBuilding d tallied s).pins = s.pins ∧ (countBuilding d tallied s).mkd = s.mkd ∧
    (countBuilding d tallied s).rqt = s.rqt ∧ (countBuilding d tallied s).trc = s.trc ∧
    (countBuilding d tallied s).fit.entries = s.fit.entries ∧ (countBuilding d tallied s).fit.index = s.fit.index ∧
    (countBuilding d tallied s).fit.p256 = s.fit.p256 ∧ (countBuilding d tallied s).fit.splice = s.fit.splice ∧
    (countBuilding d tallied s).fit.verify = s.fit.verify ∧ (countBuilding d tallied s).fcc = s.fcc ∧
    (countBuilding d tallied s).gtu = s.gtu ∧ (countBuilding d tallied s).ntu = s.ntu ∧
    (countBuilding d tallied s).lnk = s.lnk := by
  unfold countBuilding
  dsimp only
  repeat' split
  all_goals simp

@[simp] theorem preempt_frame (w : Ctx) :
    (preempt w).st.pending = w.st.pending ∧ (preempt w).st.freeCount = w.st.freeCount ∧
    (preempt w).st.lensRead = w.st.lensRead ∧
    (preempt w).st.resetHeld = w.st.resetHeld ∧ (preempt w).st.unitAddress = w.st.unitAddress ∧
    (preempt w).st.pins = w.st.pins ∧ (preempt w).st.mkd = w.st.mkd ∧ (preempt w).st.rqt.arrival = w.st.rqt.arrival ∧
    (preempt w).st.rqt.halted = w.st.rqt.halted ∧ (preempt w).st.trc.roll = w.st.trc.roll ∧
    (preempt w).st.trc.profile = w.st.trc.profile ∧ (preempt w).st.trc.counter = w.st.trc.counter ∧
    (preempt w).st.trc.endPos = w.st.trc.endPos ∧ (preempt w).st.trc.overrun = w.st.trc.overrun ∧
    (preempt w).st.trc.travelDir = w.st.trc.travelDir ∧ (preempt w).st.trc.epoch = w.st.trc.epoch ∧
    (preempt w).st.trc.parkDelay = w.st.trc.parkDelay ∧ (preempt w).st.trc.wakeDelay = w.st.trc.wakeDelay ∧
    (preempt w).st.trc.wakeFor = w.st.trc.wakeFor ∧ (preempt w).st.trc.timers = w.st.trc.timers ∧
    (preempt w).st.fit.entries = w.st.fit.entries ∧ (preempt w).st.fit.index = w.st.fit.index ∧
    (preempt w).st.fit.p256 = w.st.fit.p256 ∧ (preempt w).st.fit.splice = w.st.fit.splice ∧
    (preempt w).st.fcc.lens = w.st.fcc.lens ∧ (preempt w).st.fcc.stage = w.st.fcc.stage ∧
    (preempt w).st.fcc.lines = w.st.fcc.lines ∧ (preempt w).st.fcc.lru = w.st.fcc.lru ∧
    (preempt w).st.gtu.route = w.st.gtu.route ∧ (preempt w).st.ntu.ports = w.st.ntu.ports ∧
    (∀ q, ((preempt w).st.lnk.get q).rx = (w.st.lnk.get q).rx) ∧
    (∀ q, ((preempt w).st.lnk.get q).part = (w.st.lnk.get q).part) ∧
    (∀ q, ((preempt w).st.lnk.get q).inbox = (w.st.lnk.get q).inbox) ∧
    (∀ q, ((preempt w).st.lnk.get q).awaitMark = (w.st.lnk.get q).awaitMark) ∧
    (∀ q, ((preempt w).st.lnk.get q).byteTimer = (w.st.lnk.get q).byteTimer) ∧
    (∀ q, ((preempt w).st.lnk.get q).resyncTimer = (w.st.lnk.get q).resyncTimer) ∧
    (∀ q, ((preempt w).st.lnk.get q).outbox = (w.st.lnk.get q).outbox) ∧
    (∀ q, ((preempt w).st.lnk.get q).released = (w.st.lnk.get q).released) ∧
    (∀ q, ((preempt w).st.lnk.get q).txFifo = (w.st.lnk.get q).txFifo) ∧
    (∀ q, ((preempt w).st.lnk.get q).txLine = (w.st.lnk.get q).txLine) ∧
    (∀ q, ((preempt w).st.lnk.get q).driving = (w.st.lnk.get q).driving) ∧
    (∀ q, ((preempt w).st.lnk.get q).rdyMode = (w.st.lnk.get q).rdyMode) ∧
    (∀ q, ((preempt w).st.lnk.get q).threshold = (w.st.lnk.get q).threshold) ∧
    (∀ q, ((preempt w).st.lnk.get q).ctsGating = (w.st.lnk.get q).ctsGating) ∧
    (∀ q, ((preempt w).st.lnk.get q).gap = (w.st.lnk.get q).gap) ∧
    (∀ q, ((preempt w).st.lnk.get q).flags = (w.st.lnk.get q).flags) ∧
    (∀ q, ((preempt w).st.lnk.get q).cts = (w.st.lnk.get q).cts) := by
  unfold preempt
  repeat' split
  all_goals simp

@[simp] theorem announce_frame (lo : Nat) (hi : Nat) (w : Ctx) :
    (announce lo hi w).st.pending = w.st.pending ∧ (announce lo hi w).st.freeCount = w.st.freeCount ∧
    (announce lo hi w).st.lensRead = w.st.lensRead ∧
    (announce lo hi w).st.resetHeld = w.st.resetHeld ∧ (announce lo hi w).st.unitAddress = w.st.unitAddress ∧
    (announce lo hi w).st.pins = w.st.pins ∧ (announce lo hi w).st.mkd = w.st.mkd ∧
    (announce lo hi w).st.rqt.arrival = w.st.rqt.arrival ∧ (announce lo hi w).st.rqt.halted = w.st.rqt.halted ∧
    (announce lo hi w).st.trc.roll = w.st.trc.roll ∧ (announce lo hi w).st.trc.profile = w.st.trc.profile ∧
    (announce lo hi w).st.trc.counter = w.st.trc.counter ∧ (announce lo hi w).st.trc.endPos = w.st.trc.endPos ∧
    (announce lo hi w).st.trc.overrun = w.st.trc.overrun ∧ (announce lo hi w).st.trc.parkDelay = w.st.trc.parkDelay ∧
    (announce lo hi w).st.trc.wakeDelay = w.st.trc.wakeDelay ∧ (announce lo hi w).st.trc.wakeFor = w.st.trc.wakeFor ∧
    (announce lo hi w).st.fit.entries = w.st.fit.entries ∧ (announce lo hi w).st.fit.index = w.st.fit.index ∧
    (announce lo hi w).st.fit.p256 = w.st.fit.p256 ∧ (announce lo hi w).st.fit.splice = w.st.fit.splice ∧
    (announce lo hi w).st.fcc.lens = w.st.fcc.lens ∧ (announce lo hi w).st.fcc.stage = w.st.fcc.stage ∧
    (announce lo hi w).st.fcc.lines = w.st.fcc.lines ∧ (announce lo hi w).st.fcc.lru = w.st.fcc.lru ∧
    (announce lo hi w).st.gtu.route = w.st.gtu.route ∧ (announce lo hi w).st.ntu.ports = w.st.ntu.ports ∧
    (∀ q, ((announce lo hi w).st.lnk.get q).rx = (w.st.lnk.get q).rx) ∧
    (∀ q, ((announce lo hi w).st.lnk.get q).part = (w.st.lnk.get q).part) ∧
    (∀ q, ((announce lo hi w).st.lnk.get q).inbox = (w.st.lnk.get q).inbox) ∧
    (∀ q, ((announce lo hi w).st.lnk.get q).awaitMark = (w.st.lnk.get q).awaitMark) ∧
    (∀ q, ((announce lo hi w).st.lnk.get q).byteTimer = (w.st.lnk.get q).byteTimer) ∧
    (∀ q, ((announce lo hi w).st.lnk.get q).resyncTimer = (w.st.lnk.get q).resyncTimer) ∧
    (∀ q, ((announce lo hi w).st.lnk.get q).outbox = (w.st.lnk.get q).outbox) ∧
    (∀ q, ((announce lo hi w).st.lnk.get q).released = (w.st.lnk.get q).released) ∧
    (∀ q, ((announce lo hi w).st.lnk.get q).txFifo = (w.st.lnk.get q).txFifo) ∧
    (∀ q, ((announce lo hi w).st.lnk.get q).txLine = (w.st.lnk.get q).txLine) ∧
    (∀ q, ((announce lo hi w).st.lnk.get q).driving = (w.st.lnk.get q).driving) ∧
    (∀ q, ((announce lo hi w).st.lnk.get q).rdyMode = (w.st.lnk.get q).rdyMode) ∧
    (∀ q, ((announce lo hi w).st.lnk.get q).threshold = (w.st.lnk.get q).threshold) ∧
    (∀ q, ((announce lo hi w).st.lnk.get q).ctsGating = (w.st.lnk.get q).ctsGating) ∧
    (∀ q, ((announce lo hi w).st.lnk.get q).gap = (w.st.lnk.get q).gap) ∧
    (∀ q, ((announce lo hi w).st.lnk.get q).flags = (w.st.lnk.get q).flags) ∧
    (∀ q, ((announce lo hi w).st.lnk.get q).cts = (w.st.lnk.get q).cts) := by
  unfold announce
  repeat' split
  all_goals simp

@[simp] theorem forwardLost_frame (o : OutcomeCode) (w : Ctx) :
    (forwardLost o w).st.pending = w.st.pending ∧ (forwardLost o w).st.freeCount = w.st.freeCount ∧
    (forwardLost o w).st.lensRead = w.st.lensRead ∧
    (forwardLost o w).st.resetHeld = w.st.resetHeld ∧ (forwardLost o w).st.unitAddress = w.st.unitAddress ∧
    (forwardLost o w).st.pins = w.st.pins ∧ (forwardLost o w).st.mkd = w.st.mkd ∧
    (forwardLost o w).st.rqt.arrival = w.st.rqt.arrival ∧ (forwardLost o w).st.rqt.halted = w.st.rqt.halted ∧
    (forwardLost o w).st.trc.roll = w.st.trc.roll ∧ (forwardLost o w).st.trc.profile = w.st.trc.profile ∧
    (forwardLost o w).st.trc.counter = w.st.trc.counter ∧ (forwardLost o w).st.trc.endPos = w.st.trc.endPos ∧
    (forwardLost o w).st.trc.overrun = w.st.trc.overrun ∧ (forwardLost o w).st.trc.travelDir = w.st.trc.travelDir ∧
    (forwardLost o w).st.trc.epoch = w.st.trc.epoch ∧ (forwardLost o w).st.trc.parkDelay = w.st.trc.parkDelay ∧
    (forwardLost o w).st.trc.wakeDelay = w.st.trc.wakeDelay ∧ (forwardLost o w).st.trc.wakeFor = w.st.trc.wakeFor ∧
    (forwardLost o w).st.trc.timers = w.st.trc.timers ∧ (forwardLost o w).st.fit.entries = w.st.fit.entries ∧
    (forwardLost o w).st.fit.index = w.st.fit.index ∧ (forwardLost o w).st.fit.p256 = w.st.fit.p256 ∧
    (forwardLost o w).st.fit.splice = w.st.fit.splice ∧ (forwardLost o w).st.fcc.lens = w.st.fcc.lens ∧
    (forwardLost o w).st.fcc.stage = w.st.fcc.stage ∧ (forwardLost o w).st.fcc.lines = w.st.fcc.lines ∧
    (forwardLost o w).st.fcc.lru = w.st.fcc.lru ∧ (forwardLost o w).st.gtu.route = w.st.gtu.route ∧
    (forwardLost o w).st.ntu.ports = w.st.ntu.ports ∧
    (∀ q, ((forwardLost o w).st.lnk.get q).rx = (w.st.lnk.get q).rx) ∧
    (∀ q, ((forwardLost o w).st.lnk.get q).part = (w.st.lnk.get q).part) ∧
    (∀ q, ((forwardLost o w).st.lnk.get q).inbox = (w.st.lnk.get q).inbox) ∧
    (∀ q, ((forwardLost o w).st.lnk.get q).awaitMark = (w.st.lnk.get q).awaitMark) ∧
    (∀ q, ((forwardLost o w).st.lnk.get q).byteTimer = (w.st.lnk.get q).byteTimer) ∧
    (∀ q, ((forwardLost o w).st.lnk.get q).resyncTimer = (w.st.lnk.get q).resyncTimer) ∧
    (∀ q, ((forwardLost o w).st.lnk.get q).outbox = (w.st.lnk.get q).outbox) ∧
    (∀ q, ((forwardLost o w).st.lnk.get q).released = (w.st.lnk.get q).released) ∧
    (∀ q, ((forwardLost o w).st.lnk.get q).txFifo = (w.st.lnk.get q).txFifo) ∧
    (∀ q, ((forwardLost o w).st.lnk.get q).txLine = (w.st.lnk.get q).txLine) ∧
    (∀ q, ((forwardLost o w).st.lnk.get q).driving = (w.st.lnk.get q).driving) ∧
    (∀ q, ((forwardLost o w).st.lnk.get q).rdyMode = (w.st.lnk.get q).rdyMode) ∧
    (∀ q, ((forwardLost o w).st.lnk.get q).threshold = (w.st.lnk.get q).threshold) ∧
    (∀ q, ((forwardLost o w).st.lnk.get q).ctsGating = (w.st.lnk.get q).ctsGating) ∧
    (∀ q, ((forwardLost o w).st.lnk.get q).gap = (w.st.lnk.get q).gap) ∧
    (∀ q, ((forwardLost o w).st.lnk.get q).flags = (w.st.lnk.get q).flags) ∧
    (∀ q, ((forwardLost o w).st.lnk.get q).cts = (w.st.lnk.get q).cts) := by
  unfold forwardLost
  repeat' split
  all_goals simp

@[simp] theorem makeEntries_frame (new : List Entry) (p256 : Nat) (s : State) :
    (makeEntries new p256 s).pending = s.pending ∧ (makeEntries new p256 s).freeCount = s.freeCount ∧
    (makeEntries new p256 s).lensRead = s.lensRead ∧
    (makeEntries new p256 s).resetHeld = s.resetHeld ∧ (makeEntries new p256 s).unitAddress = s.unitAddress ∧
    (makeEntries new p256 s).pins = s.pins ∧ (makeEntries new p256 s).mkd = s.mkd ∧
    (makeEntries new p256 s).rqt = s.rqt ∧ (makeEntries new p256 s).trc = s.trc ∧
    (makeEntries new p256 s).fit.verify = s.fit.verify ∧ (makeEntries new p256 s).fcc.lens = s.fcc.lens ∧
    (makeEntries new p256 s).fcc.stage = s.fcc.stage ∧ (makeEntries new p256 s).fcc.running = s.fcc.running ∧
    (makeEntries new p256 s).fcc.held = s.fcc.held ∧ (makeEntries new p256 s).fcc.lru = s.fcc.lru ∧
    (makeEntries new p256 s).fcc.sweep = s.fcc.sweep ∧ (makeEntries new p256 s).fcc.sampleTimer = s.fcc.sampleTimer ∧
    (makeEntries new p256 s).gtu = s.gtu ∧ (makeEntries new p256 s).ntu = s.ntu ∧ (makeEntries new p256 s).lnk = s.lnk := by
  unfold makeEntries
  dsimp only
  repeat' split
  all_goals simp

@[simp] theorem buildEntries_frame (new : List Entry) (p256 : Nat) (w : Ctx) :
    (buildEntries new p256 w).st.pending = w.st.pending ∧ (buildEntries new p256 w).st.freeCount = w.st.freeCount ∧
    (buildEntries new p256 w).st.lensRead = w.st.lensRead ∧
    (buildEntries new p256 w).st.resetHeld = w.st.resetHeld ∧
    (buildEntries new p256 w).st.unitAddress = w.st.unitAddress ∧ (buildEntries new p256 w).st.pins = w.st.pins ∧
    (buildEntries new p256 w).st.mkd = w.st.mkd ∧ (buildEntries new p256 w).st.rqt.arrival = w.st.rqt.arrival ∧
    (buildEntries new p256 w).st.rqt.halted = w.st.rqt.halted ∧
    (buildEntries new p256 w).st.trc.roll = w.st.trc.roll ∧
    (buildEntries new p256 w).st.trc.profile = w.st.trc.profile ∧
    (buildEntries new p256 w).st.trc.counter = w.st.trc.counter ∧
    (buildEntries new p256 w).st.trc.endPos = w.st.trc.endPos ∧
    (buildEntries new p256 w).st.trc.overrun = w.st.trc.overrun ∧
    (buildEntries new p256 w).st.trc.parkDelay = w.st.trc.parkDelay ∧
    (buildEntries new p256 w).st.trc.wakeDelay = w.st.trc.wakeDelay ∧
    (buildEntries new p256 w).st.trc.wakeFor = w.st.trc.wakeFor ∧
    (buildEntries new p256 w).st.fcc.lens = w.st.fcc.lens ∧ (buildEntries new p256 w).st.fcc.stage = w.st.fcc.stage ∧
    (buildEntries new p256 w).st.fcc.lru = w.st.fcc.lru ∧ (buildEntries new p256 w).st.gtu.route = w.st.gtu.route ∧
    (buildEntries new p256 w).st.ntu.ports = w.st.ntu.ports ∧
    (∀ q, ((buildEntries new p256 w).st.lnk.get q).rx = (w.st.lnk.get q).rx) ∧
    (∀ q, ((buildEntries new p256 w).st.lnk.get q).part = (w.st.lnk.get q).part) ∧
    (∀ q, ((buildEntries new p256 w).st.lnk.get q).inbox = (w.st.lnk.get q).inbox) ∧
    (∀ q, ((buildEntries new p256 w).st.lnk.get q).awaitMark = (w.st.lnk.get q).awaitMark) ∧
    (∀ q, ((buildEntries new p256 w).st.lnk.get q).byteTimer = (w.st.lnk.get q).byteTimer) ∧
    (∀ q, ((buildEntries new p256 w).st.lnk.get q).resyncTimer = (w.st.lnk.get q).resyncTimer) ∧
    (∀ q, ((buildEntries new p256 w).st.lnk.get q).outbox = (w.st.lnk.get q).outbox) ∧
    (∀ q, ((buildEntries new p256 w).st.lnk.get q).released = (w.st.lnk.get q).released) ∧
    (∀ q, ((buildEntries new p256 w).st.lnk.get q).txFifo = (w.st.lnk.get q).txFifo) ∧
    (∀ q, ((buildEntries new p256 w).st.lnk.get q).txLine = (w.st.lnk.get q).txLine) ∧
    (∀ q, ((buildEntries new p256 w).st.lnk.get q).driving = (w.st.lnk.get q).driving) ∧
    (∀ q, ((buildEntries new p256 w).st.lnk.get q).rdyMode = (w.st.lnk.get q).rdyMode) ∧
    (∀ q, ((buildEntries new p256 w).st.lnk.get q).threshold = (w.st.lnk.get q).threshold) ∧
    (∀ q, ((buildEntries new p256 w).st.lnk.get q).ctsGating = (w.st.lnk.get q).ctsGating) ∧
    (∀ q, ((buildEntries new p256 w).st.lnk.get q).gap = (w.st.lnk.get q).gap) ∧
    (∀ q, ((buildEntries new p256 w).st.lnk.get q).flags = (w.st.lnk.get q).flags) ∧
    (∀ q, ((buildEntries new p256 w).st.lnk.get q).cts = (w.st.lnk.get q).cts) := by
  unfold buildEntries
  dsimp only
  repeat' split
  all_goals simp

@[simp] theorem buildSighting_frame (g : Sighting) (w : Ctx) :
    (buildSighting g w).st.pending = w.st.pending ∧ (buildSighting g w).st.freeCount = w.st.freeCount ∧
    (buildSighting g w).st.lensRead = w.st.lensRead ∧
    (buildSighting g w).st.resetHeld = w.st.resetHeld ∧ (buildSighting g w).st.unitAddress = w.st.unitAddress ∧
    (buildSighting g w).st.pins = w.st.pins ∧ (buildSighting g w).st.mkd = w.st.mkd ∧
    (buildSighting g w).st.rqt.arrival = w.st.rqt.arrival ∧ (buildSighting g w).st.rqt.halted = w.st.rqt.halted ∧
    (buildSighting g w).st.trc.roll = w.st.trc.roll ∧ (buildSighting g w).st.trc.profile = w.st.trc.profile ∧
    (buildSighting g w).st.trc.counter = w.st.trc.counter ∧ (buildSighting g w).st.trc.endPos = w.st.trc.endPos ∧
    (buildSighting g w).st.trc.overrun = w.st.trc.overrun ∧
    (buildSighting g w).st.trc.parkDelay = w.st.trc.parkDelay ∧
    (buildSighting g w).st.trc.wakeDelay = w.st.trc.wakeDelay ∧
    (buildSighting g w).st.trc.wakeFor = w.st.trc.wakeFor ∧ (buildSighting g w).st.fcc.lens = w.st.fcc.lens ∧
    (buildSighting g w).st.fcc.stage = w.st.fcc.stage ∧ (buildSighting g w).st.fcc.lru = w.st.fcc.lru ∧
    (buildSighting g w).st.gtu.route = w.st.gtu.route ∧ (buildSighting g w).st.ntu.ports = w.st.ntu.ports ∧
    (∀ q, ((buildSighting g w).st.lnk.get q).rx = (w.st.lnk.get q).rx) ∧
    (∀ q, ((buildSighting g w).st.lnk.get q).part = (w.st.lnk.get q).part) ∧
    (∀ q, ((buildSighting g w).st.lnk.get q).inbox = (w.st.lnk.get q).inbox) ∧
    (∀ q, ((buildSighting g w).st.lnk.get q).awaitMark = (w.st.lnk.get q).awaitMark) ∧
    (∀ q, ((buildSighting g w).st.lnk.get q).byteTimer = (w.st.lnk.get q).byteTimer) ∧
    (∀ q, ((buildSighting g w).st.lnk.get q).resyncTimer = (w.st.lnk.get q).resyncTimer) ∧
    (∀ q, ((buildSighting g w).st.lnk.get q).outbox = (w.st.lnk.get q).outbox) ∧
    (∀ q, ((buildSighting g w).st.lnk.get q).released = (w.st.lnk.get q).released) ∧
    (∀ q, ((buildSighting g w).st.lnk.get q).txFifo = (w.st.lnk.get q).txFifo) ∧
    (∀ q, ((buildSighting g w).st.lnk.get q).txLine = (w.st.lnk.get q).txLine) ∧
    (∀ q, ((buildSighting g w).st.lnk.get q).driving = (w.st.lnk.get q).driving) ∧
    (∀ q, ((buildSighting g w).st.lnk.get q).rdyMode = (w.st.lnk.get q).rdyMode) ∧
    (∀ q, ((buildSighting g w).st.lnk.get q).threshold = (w.st.lnk.get q).threshold) ∧
    (∀ q, ((buildSighting g w).st.lnk.get q).ctsGating = (w.st.lnk.get q).ctsGating) ∧
    (∀ q, ((buildSighting g w).st.lnk.get q).gap = (w.st.lnk.get q).gap) ∧
    (∀ q, ((buildSighting g w).st.lnk.get q).flags = (w.st.lnk.get q).flags) ∧
    (∀ q, ((buildSighting g w).st.lnk.get q).cts = (w.st.lnk.get q).cts) := by
  unfold buildSighting
  dsimp only
  repeat' split
  all_goals simp

@[simp] theorem retargetConfirmed_frame (n : Nat) (s : State) :
    (retargetConfirmed n s).pending = s.pending ∧ (retargetConfirmed n s).freeCount = s.freeCount ∧
    (retargetConfirmed n s).lensRead = s.lensRead ∧
    (retargetConfirmed n s).resetHeld = s.resetHeld ∧ (retargetConfirmed n s).unitAddress = s.unitAddress ∧
    (retargetConfirmed n s).pins = s.pins ∧ (retargetConfirmed n s).mkd = s.mkd ∧
    (retargetConfirmed n s).rqt = s.rqt ∧ (retargetConfirmed n s).trc.roll = s.trc.roll ∧
    (retargetConfirmed n s).trc.profile = s.trc.profile ∧ (retargetConfirmed n s).trc.counter = s.trc.counter ∧
    (retargetConfirmed n s).trc.endPos = s.trc.endPos ∧ (retargetConfirmed n s).trc.overrun = s.trc.overrun ∧
    (retargetConfirmed n s).trc.verified = s.trc.verified ∧ (retargetConfirmed n s).trc.slip = s.trc.slip ∧
    (retargetConfirmed n s).trc.cause = s.trc.cause ∧ (retargetConfirmed n s).trc.retension = s.trc.retension ∧
    (retargetConfirmed n s).trc.parkDelay = s.trc.parkDelay ∧
    (retargetConfirmed n s).trc.wakeDelay = s.trc.wakeDelay ∧ (retargetConfirmed n s).trc.wakeFor = s.trc.wakeFor ∧
    (retargetConfirmed n s).fit.entries = s.fit.entries ∧ (retargetConfirmed n s).fit.index = s.fit.index ∧
    (retargetConfirmed n s).fit.p256 = s.fit.p256 ∧ (retargetConfirmed n s).fit.splice = s.fit.splice ∧
    (retargetConfirmed n s).fit.verify = s.fit.verify ∧ (retargetConfirmed n s).fcc = s.fcc ∧
    (retargetConfirmed n s).gtu.phase = s.gtu.phase ∧ (retargetConfirmed n s).gtu.inHand = s.gtu.inHand ∧
    (retargetConfirmed n s).gtu.presentation = s.gtu.presentation ∧ (retargetConfirmed n s).gtu.hold = s.gtu.hold ∧
    (retargetConfirmed n s).gtu.exposure = s.gtu.exposure ∧ (retargetConfirmed n s).gtu.trig = s.gtu.trig ∧
    (retargetConfirmed n s).gtu.route = s.gtu.route ∧ (retargetConfirmed n s).gtu.heldReport = s.gtu.heldReport ∧
    (retargetConfirmed n s).ntu = s.ntu ∧ (retargetConfirmed n s).lnk = s.lnk := by
  unfold retargetConfirmed
  repeat' split
  all_goals simp

@[simp] theorem confirmEntry_frame (n : Nat) (g : Sighting) (s : State) :
    (confirmEntry n g s).pending = s.pending ∧ (confirmEntry n g s).freeCount = s.freeCount ∧
    (confirmEntry n g s).lensRead = s.lensRead ∧
    (confirmEntry n g s).resetHeld = s.resetHeld ∧ (confirmEntry n g s).unitAddress = s.unitAddress ∧
    (confirmEntry n g s).pins = s.pins ∧ (confirmEntry n g s).mkd = s.mkd ∧ (confirmEntry n g s).rqt = s.rqt ∧
    (confirmEntry n g s).trc.roll = s.trc.roll ∧ (confirmEntry n g s).trc.profile = s.trc.profile ∧
    (confirmEntry n g s).trc.counter = s.trc.counter ∧ (confirmEntry n g s).trc.endPos = s.trc.endPos ∧
    (confirmEntry n g s).trc.overrun = s.trc.overrun ∧ (confirmEntry n g s).trc.verified = s.trc.verified ∧
    (confirmEntry n g s).trc.slip = s.trc.slip ∧ (confirmEntry n g s).trc.cause = s.trc.cause ∧
    (confirmEntry n g s).trc.retension = s.trc.retension ∧ (confirmEntry n g s).trc.parkDelay = s.trc.parkDelay ∧
    (confirmEntry n g s).trc.wakeDelay = s.trc.wakeDelay ∧ (confirmEntry n g s).trc.wakeFor = s.trc.wakeFor ∧
    (confirmEntry n g s).fit.index = s.fit.index ∧ (confirmEntry n g s).fit.p256 = s.fit.p256 ∧
    (confirmEntry n g s).fit.splice = s.fit.splice ∧ (confirmEntry n g s).fit.verify = s.fit.verify ∧
    (confirmEntry n g s).fcc = s.fcc ∧ (confirmEntry n g s).gtu.phase = s.gtu.phase ∧
    (confirmEntry n g s).gtu.inHand = s.gtu.inHand ∧ (confirmEntry n g s).gtu.presentation = s.gtu.presentation ∧
    (confirmEntry n g s).gtu.hold = s.gtu.hold ∧ (confirmEntry n g s).gtu.exposure = s.gtu.exposure ∧
    (confirmEntry n g s).gtu.trig = s.gtu.trig ∧ (confirmEntry n g s).gtu.route = s.gtu.route ∧
    (confirmEntry n g s).gtu.heldReport = s.gtu.heldReport ∧ (confirmEntry n g s).ntu = s.ntu ∧
    (confirmEntry n g s).lnk = s.lnk := by
  unfold confirmEntry
  split <;> simp

@[simp] theorem slipAt_frame (n : Nat) (d : Int) (w : Ctx) :
    (slipAt n d w).st.pending = w.st.pending ∧ (slipAt n d w).st.freeCount = w.st.freeCount ∧
    (slipAt n d w).st.lensRead = w.st.lensRead ∧
    (slipAt n d w).st.resetHeld = w.st.resetHeld ∧ (slipAt n d w).st.unitAddress = w.st.unitAddress ∧
    (slipAt n d w).st.pins = w.st.pins ∧ (slipAt n d w).st.mkd = w.st.mkd ∧
    (slipAt n d w).st.rqt.arrival = w.st.rqt.arrival ∧ (slipAt n d w).st.rqt.halted = w.st.rqt.halted ∧
    (slipAt n d w).st.trc.roll = w.st.trc.roll ∧ (slipAt n d w).st.trc.profile = w.st.trc.profile ∧
    (slipAt n d w).st.trc.counter = w.st.trc.counter ∧ (slipAt n d w).st.trc.endPos = w.st.trc.endPos ∧
    (slipAt n d w).st.trc.overrun = w.st.trc.overrun ∧ (slipAt n d w).st.trc.travelDir = w.st.trc.travelDir ∧
    (slipAt n d w).st.trc.epoch = w.st.trc.epoch ∧ (slipAt n d w).st.trc.parkDelay = w.st.trc.parkDelay ∧
    (slipAt n d w).st.trc.wakeDelay = w.st.trc.wakeDelay ∧ (slipAt n d w).st.trc.wakeFor = w.st.trc.wakeFor ∧
    (slipAt n d w).st.trc.timers = w.st.trc.timers ∧ (slipAt n d w).st.fit.entries = w.st.fit.entries ∧
    (slipAt n d w).st.fit.index = w.st.fit.index ∧ (slipAt n d w).st.fit.p256 = w.st.fit.p256 ∧
    (slipAt n d w).st.fit.splice = w.st.fit.splice ∧ (slipAt n d w).st.fcc.lens = w.st.fcc.lens ∧
    (slipAt n d w).st.fcc.stage = w.st.fcc.stage ∧ (slipAt n d w).st.fcc.lines = w.st.fcc.lines ∧
    (slipAt n d w).st.fcc.lru = w.st.fcc.lru ∧ (slipAt n d w).st.gtu.route = w.st.gtu.route ∧
    (slipAt n d w).st.ntu.ports = w.st.ntu.ports ∧ (∀ q, ((slipAt n d w).st.lnk.get q).rx = (w.st.lnk.get q).rx) ∧
    (∀ q, ((slipAt n d w).st.lnk.get q).part = (w.st.lnk.get q).part) ∧
    (∀ q, ((slipAt n d w).st.lnk.get q).inbox = (w.st.lnk.get q).inbox) ∧
    (∀ q, ((slipAt n d w).st.lnk.get q).awaitMark = (w.st.lnk.get q).awaitMark) ∧
    (∀ q, ((slipAt n d w).st.lnk.get q).byteTimer = (w.st.lnk.get q).byteTimer) ∧
    (∀ q, ((slipAt n d w).st.lnk.get q).resyncTimer = (w.st.lnk.get q).resyncTimer) ∧
    (∀ q, ((slipAt n d w).st.lnk.get q).outbox = (w.st.lnk.get q).outbox) ∧
    (∀ q, ((slipAt n d w).st.lnk.get q).released = (w.st.lnk.get q).released) ∧
    (∀ q, ((slipAt n d w).st.lnk.get q).txFifo = (w.st.lnk.get q).txFifo) ∧
    (∀ q, ((slipAt n d w).st.lnk.get q).txLine = (w.st.lnk.get q).txLine) ∧
    (∀ q, ((slipAt n d w).st.lnk.get q).driving = (w.st.lnk.get q).driving) ∧
    (∀ q, ((slipAt n d w).st.lnk.get q).rdyMode = (w.st.lnk.get q).rdyMode) ∧
    (∀ q, ((slipAt n d w).st.lnk.get q).threshold = (w.st.lnk.get q).threshold) ∧
    (∀ q, ((slipAt n d w).st.lnk.get q).ctsGating = (w.st.lnk.get q).ctsGating) ∧
    (∀ q, ((slipAt n d w).st.lnk.get q).gap = (w.st.lnk.get q).gap) ∧
    (∀ q, ((slipAt n d w).st.lnk.get q).flags = (w.st.lnk.get q).flags) ∧
    (∀ q, ((slipAt n d w).st.lnk.get q).cts = (w.st.lnk.get q).cts) := by
  unfold slipAt
  dsimp only
  repeat' split
  all_goals simp

@[simp] theorem resync_frame (g : Sighting) (w : Ctx) :
    (resync g w).st.pending = w.st.pending ∧ (resync g w).st.freeCount = w.st.freeCount ∧
    (resync g w).st.lensRead = w.st.lensRead ∧
    (resync g w).st.resetHeld = w.st.resetHeld ∧ (resync g w).st.unitAddress = w.st.unitAddress ∧
    (resync g w).st.pins = w.st.pins ∧ (resync g w).st.rqt.arrival = w.st.rqt.arrival ∧
    (resync g w).st.rqt.halted = w.st.rqt.halted ∧ (resync g w).st.trc.roll = w.st.trc.roll ∧
    (resync g w).st.trc.profile = w.st.trc.profile ∧ (resync g w).st.trc.endPos = w.st.trc.endPos ∧
    (resync g w).st.trc.overrun = w.st.trc.overrun ∧ (resync g w).st.trc.parkDelay = w.st.trc.parkDelay ∧
    (resync g w).st.trc.wakeDelay = w.st.trc.wakeDelay ∧ (resync g w).st.trc.wakeFor = w.st.trc.wakeFor ∧
    (resync g w).st.fit.index = w.st.fit.index ∧ (resync g w).st.fit.p256 = w.st.fit.p256 ∧
    (resync g w).st.fit.splice = w.st.fit.splice ∧ (resync g w).st.fcc.lens = w.st.fcc.lens ∧
    (resync g w).st.fcc.stage = w.st.fcc.stage ∧ (resync g w).st.fcc.lines = w.st.fcc.lines ∧
    (resync g w).st.fcc.lru = w.st.fcc.lru ∧ (resync g w).st.gtu.route = w.st.gtu.route ∧
    (resync g w).st.ntu.ports = w.st.ntu.ports ∧ (∀ q, ((resync g w).st.lnk.get q).rx = (w.st.lnk.get q).rx) ∧
    (∀ q, ((resync g w).st.lnk.get q).part = (w.st.lnk.get q).part) ∧
    (∀ q, ((resync g w).st.lnk.get q).inbox = (w.st.lnk.get q).inbox) ∧
    (∀ q, ((resync g w).st.lnk.get q).awaitMark = (w.st.lnk.get q).awaitMark) ∧
    (∀ q, ((resync g w).st.lnk.get q).byteTimer = (w.st.lnk.get q).byteTimer) ∧
    (∀ q, ((resync g w).st.lnk.get q).resyncTimer = (w.st.lnk.get q).resyncTimer) ∧
    (∀ q, ((resync g w).st.lnk.get q).outbox = (w.st.lnk.get q).outbox) ∧
    (∀ q, ((resync g w).st.lnk.get q).released = (w.st.lnk.get q).released) ∧
    (∀ q, ((resync g w).st.lnk.get q).txFifo = (w.st.lnk.get q).txFifo) ∧
    (∀ q, ((resync g w).st.lnk.get q).txLine = (w.st.lnk.get q).txLine) ∧
    (∀ q, ((resync g w).st.lnk.get q).driving = (w.st.lnk.get q).driving) ∧
    (∀ q, ((resync g w).st.lnk.get q).rdyMode = (w.st.lnk.get q).rdyMode) ∧
    (∀ q, ((resync g w).st.lnk.get q).threshold = (w.st.lnk.get q).threshold) ∧
    (∀ q, ((resync g w).st.lnk.get q).ctsGating = (w.st.lnk.get q).ctsGating) ∧
    (∀ q, ((resync g w).st.lnk.get q).gap = (w.st.lnk.get q).gap) ∧
    (∀ q, ((resync g w).st.lnk.get q).flags = (w.st.lnk.get q).flags) ∧
    (∀ q, ((resync g w).st.lnk.get q).cts = (w.st.lnk.get q).cts) := by
  unfold resync
  repeat' split
  all_goals simp

@[simp] theorem verifySighting_frame (v : Verify) (g : Sighting) (w : Ctx) :
    (verifySighting v g w).st.pending = w.st.pending ∧ (verifySighting v g w).st.freeCount = w.st.freeCount ∧
    (verifySighting v g w).st.lensRead = w.st.lensRead ∧
    (verifySighting v g w).st.resetHeld = w.st.resetHeld ∧ (verifySighting v g w).st.unitAddress = w.st.unitAddress ∧
    (verifySighting v g w).st.pins = w.st.pins ∧ (verifySighting v g w).st.rqt.arrival = w.st.rqt.arrival ∧
    (verifySighting v g w).st.rqt.halted = w.st.rqt.halted ∧ (verifySighting v g w).st.trc.roll = w.st.trc.roll ∧
    (verifySighting v g w).st.trc.profile = w.st.trc.profile ∧
    (verifySighting v g w).st.trc.endPos = w.st.trc.endPos ∧
    (verifySighting v g w).st.trc.overrun = w.st.trc.overrun ∧
    (verifySighting v g w).st.trc.travelDir = w.st.trc.travelDir ∧
    (verifySighting v g w).st.trc.epoch = w.st.trc.epoch ∧
    (verifySighting v g w).st.trc.parkDelay = w.st.trc.parkDelay ∧
    (verifySighting v g w).st.trc.wakeDelay = w.st.trc.wakeDelay ∧
    (verifySighting v g w).st.trc.wakeFor = w.st.trc.wakeFor ∧
    (verifySighting v g w).st.trc.timers = w.st.trc.timers ∧
    (verifySighting v g w).st.fit.entries = w.st.fit.entries ∧ (verifySighting v g w).st.fit.index = w.st.fit.index ∧
    (verifySighting v g w).st.fit.p256 = w.st.fit.p256 ∧ (verifySighting v g w).st.fit.splice = w.st.fit.splice ∧
    (verifySighting v g w).st.fcc.lens = w.st.fcc.lens ∧ (verifySighting v g w).st.fcc.stage = w.st.fcc.stage ∧
    (verifySighting v g w).st.fcc.lines = w.st.fcc.lines ∧ (verifySighting v g w).st.fcc.lru = w.st.fcc.lru ∧
    (verifySighting v g w).st.gtu.route = w.st.gtu.route ∧ (verifySighting v g w).st.ntu.ports = w.st.ntu.ports ∧
    (∀ q, ((verifySighting v g w).st.lnk.get q).rx = (w.st.lnk.get q).rx) ∧
    (∀ q, ((verifySighting v g w).st.lnk.get q).part = (w.st.lnk.get q).part) ∧
    (∀ q, ((verifySighting v g w).st.lnk.get q).inbox = (w.st.lnk.get q).inbox) ∧
    (∀ q, ((verifySighting v g w).st.lnk.get q).awaitMark = (w.st.lnk.get q).awaitMark) ∧
    (∀ q, ((verifySighting v g w).st.lnk.get q).byteTimer = (w.st.lnk.get q).byteTimer) ∧
    (∀ q, ((verifySighting v g w).st.lnk.get q).resyncTimer = (w.st.lnk.get q).resyncTimer) ∧
    (∀ q, ((verifySighting v g w).st.lnk.get q).outbox = (w.st.lnk.get q).outbox) ∧
    (∀ q, ((verifySighting v g w).st.lnk.get q).released = (w.st.lnk.get q).released) ∧
    (∀ q, ((verifySighting v g w).st.lnk.get q).txFifo = (w.st.lnk.get q).txFifo) ∧
    (∀ q, ((verifySighting v g w).st.lnk.get q).txLine = (w.st.lnk.get q).txLine) ∧
    (∀ q, ((verifySighting v g w).st.lnk.get q).driving = (w.st.lnk.get q).driving) ∧
    (∀ q, ((verifySighting v g w).st.lnk.get q).rdyMode = (w.st.lnk.get q).rdyMode) ∧
    (∀ q, ((verifySighting v g w).st.lnk.get q).threshold = (w.st.lnk.get q).threshold) ∧
    (∀ q, ((verifySighting v g w).st.lnk.get q).ctsGating = (w.st.lnk.get q).ctsGating) ∧
    (∀ q, ((verifySighting v g w).st.lnk.get q).gap = (w.st.lnk.get q).gap) ∧
    (∀ q, ((verifySighting v g w).st.lnk.get q).flags = (w.st.lnk.get q).flags) ∧
    (∀ q, ((verifySighting v g w).st.lnk.get q).cts = (w.st.lnk.get q).cts) := by
  unfold verifySighting
  repeat' split
  all_goals simp

@[simp] theorem takeSighting_frame (g : Sighting) (w : Ctx) :
    (takeSighting g w).st.pending = w.st.pending ∧ (takeSighting g w).st.freeCount = w.st.freeCount ∧
    (takeSighting g w).st.lensRead = w.st.lensRead ∧
    (takeSighting g w).st.resetHeld = w.st.resetHeld ∧ (takeSighting g w).st.unitAddress = w.st.unitAddress ∧
    (takeSighting g w).st.pins = w.st.pins ∧ (takeSighting g w).st.rqt.arrival = w.st.rqt.arrival ∧
    (takeSighting g w).st.rqt.halted = w.st.rqt.halted ∧ (takeSighting g w).st.trc.roll = w.st.trc.roll ∧
    (takeSighting g w).st.trc.profile = w.st.trc.profile ∧ (takeSighting g w).st.trc.endPos = w.st.trc.endPos ∧
    (takeSighting g w).st.trc.overrun = w.st.trc.overrun ∧ (takeSighting g w).st.trc.parkDelay = w.st.trc.parkDelay ∧
    (takeSighting g w).st.trc.wakeDelay = w.st.trc.wakeDelay ∧ (takeSighting g w).st.trc.wakeFor = w.st.trc.wakeFor ∧
    (takeSighting g w).st.fcc.lens = w.st.fcc.lens ∧ (takeSighting g w).st.fcc.stage = w.st.fcc.stage ∧
    (takeSighting g w).st.fcc.lru = w.st.fcc.lru ∧ (takeSighting g w).st.gtu.route = w.st.gtu.route ∧
    (takeSighting g w).st.ntu.ports = w.st.ntu.ports ∧
    (∀ q, ((takeSighting g w).st.lnk.get q).rx = (w.st.lnk.get q).rx) ∧
    (∀ q, ((takeSighting g w).st.lnk.get q).part = (w.st.lnk.get q).part) ∧
    (∀ q, ((takeSighting g w).st.lnk.get q).inbox = (w.st.lnk.get q).inbox) ∧
    (∀ q, ((takeSighting g w).st.lnk.get q).awaitMark = (w.st.lnk.get q).awaitMark) ∧
    (∀ q, ((takeSighting g w).st.lnk.get q).byteTimer = (w.st.lnk.get q).byteTimer) ∧
    (∀ q, ((takeSighting g w).st.lnk.get q).resyncTimer = (w.st.lnk.get q).resyncTimer) ∧
    (∀ q, ((takeSighting g w).st.lnk.get q).outbox = (w.st.lnk.get q).outbox) ∧
    (∀ q, ((takeSighting g w).st.lnk.get q).released = (w.st.lnk.get q).released) ∧
    (∀ q, ((takeSighting g w).st.lnk.get q).txFifo = (w.st.lnk.get q).txFifo) ∧
    (∀ q, ((takeSighting g w).st.lnk.get q).txLine = (w.st.lnk.get q).txLine) ∧
    (∀ q, ((takeSighting g w).st.lnk.get q).driving = (w.st.lnk.get q).driving) ∧
    (∀ q, ((takeSighting g w).st.lnk.get q).rdyMode = (w.st.lnk.get q).rdyMode) ∧
    (∀ q, ((takeSighting g w).st.lnk.get q).threshold = (w.st.lnk.get q).threshold) ∧
    (∀ q, ((takeSighting g w).st.lnk.get q).ctsGating = (w.st.lnk.get q).ctsGating) ∧
    (∀ q, ((takeSighting g w).st.lnk.get q).gap = (w.st.lnk.get q).gap) ∧
    (∀ q, ((takeSighting g w).st.lnk.get q).flags = (w.st.lnk.get q).flags) ∧
    (∀ q, ((takeSighting g w).st.lnk.get q).cts = (w.st.lnk.get q).cts) := by
  unfold takeSighting
  dsimp only
  repeat' split
  all_goals simp

@[simp] theorem frontierLimit_frame (d : Dir) (tallied : Bool) (w : Ctx) :
    (frontierLimit d tallied w).st.pending = w.st.pending ∧
    (frontierLimit d tallied w).st.freeCount = w.st.freeCount ∧
    (frontierLimit d tallied w).st.lensRead = w.st.lensRead ∧
    (frontierLimit d tallied w).st.resetHeld = w.st.resetHeld ∧
    (frontierLimit d tallied w).st.unitAddress = w.st.unitAddress ∧ (frontierLimit d tallied w).st.pins = w.st.pins ∧
    (frontierLimit d tallied w).st.mkd = w.st.mkd ∧ (frontierLimit d tallied w).st.rqt.arrival = w.st.rqt.arrival ∧
    (frontierLimit d tallied w).st.rqt.halted = w.st.rqt.halted ∧
    (frontierLimit d tallied w).st.trc.roll = w.st.trc.roll ∧
    (frontierLimit d tallied w).st.trc.profile = w.st.trc.profile ∧
    (frontierLimit d tallied w).st.trc.counter = w.st.trc.counter ∧
    (frontierLimit d tallied w).st.trc.endPos = w.st.trc.endPos ∧
    (frontierLimit d tallied w).st.trc.overrun = w.st.trc.overrun ∧
    (frontierLimit d tallied w).st.trc.travelDir = w.st.trc.travelDir ∧
    (frontierLimit d tallied w).st.trc.epoch = w.st.trc.epoch ∧
    (frontierLimit d tallied w).st.trc.parkDelay = w.st.trc.parkDelay ∧
    (frontierLimit d tallied w).st.trc.wakeDelay = w.st.trc.wakeDelay ∧
    (frontierLimit d tallied w).st.trc.wakeFor = w.st.trc.wakeFor ∧
    (frontierLimit d tallied w).st.trc.timers = w.st.trc.timers ∧
    (frontierLimit d tallied w).st.fit.entries = w.st.fit.entries ∧
    (frontierLimit d tallied w).st.fit.index = w.st.fit.index ∧
    (frontierLimit d tallied w).st.fit.p256 = w.st.fit.p256 ∧
    (frontierLimit d tallied w).st.fit.splice = w.st.fit.splice ∧
    (frontierLimit d tallied w).st.fcc.lens = w.st.fcc.lens ∧
    (frontierLimit d tallied w).st.fcc.stage = w.st.fcc.stage ∧
    (frontierLimit d tallied w).st.fcc.lines = w.st.fcc.lines ∧
    (frontierLimit d tallied w).st.fcc.lru = w.st.fcc.lru ∧
    (frontierLimit d tallied w).st.gtu.route = w.st.gtu.route ∧
    (frontierLimit d tallied w).st.ntu.ports = w.st.ntu.ports ∧
    (∀ q, ((frontierLimit d tallied w).st.lnk.get q).rx = (w.st.lnk.get q).rx) ∧
    (∀ q, ((frontierLimit d tallied w).st.lnk.get q).part = (w.st.lnk.get q).part) ∧
    (∀ q, ((frontierLimit d tallied w).st.lnk.get q).inbox = (w.st.lnk.get q).inbox) ∧
    (∀ q, ((frontierLimit d tallied w).st.lnk.get q).awaitMark = (w.st.lnk.get q).awaitMark) ∧
    (∀ q, ((frontierLimit d tallied w).st.lnk.get q).byteTimer = (w.st.lnk.get q).byteTimer) ∧
    (∀ q, ((frontierLimit d tallied w).st.lnk.get q).resyncTimer = (w.st.lnk.get q).resyncTimer) ∧
    (∀ q, ((frontierLimit d tallied w).st.lnk.get q).outbox = (w.st.lnk.get q).outbox) ∧
    (∀ q, ((frontierLimit d tallied w).st.lnk.get q).released = (w.st.lnk.get q).released) ∧
    (∀ q, ((frontierLimit d tallied w).st.lnk.get q).txFifo = (w.st.lnk.get q).txFifo) ∧
    (∀ q, ((frontierLimit d tallied w).st.lnk.get q).txLine = (w.st.lnk.get q).txLine) ∧
    (∀ q, ((frontierLimit d tallied w).st.lnk.get q).driving = (w.st.lnk.get q).driving) ∧
    (∀ q, ((frontierLimit d tallied w).st.lnk.get q).rdyMode = (w.st.lnk.get q).rdyMode) ∧
    (∀ q, ((frontierLimit d tallied w).st.lnk.get q).threshold = (w.st.lnk.get q).threshold) ∧
    (∀ q, ((frontierLimit d tallied w).st.lnk.get q).ctsGating = (w.st.lnk.get q).ctsGating) ∧
    (∀ q, ((frontierLimit d tallied w).st.lnk.get q).gap = (w.st.lnk.get q).gap) ∧
    (∀ q, ((frontierLimit d tallied w).st.lnk.get q).flags = (w.st.lnk.get q).flags) ∧
    (∀ q, ((frontierLimit d tallied w).st.lnk.get q).cts = (w.st.lnk.get q).cts) := by
  unfold frontierLimit
  dsimp only
  repeat' split
  all_goals simp

@[simp] theorem correctGate_frame (affected : Nat → Bool) (w : Ctx) :
    (correctGate affected w).st.pending = w.st.pending ∧ (correctGate affected w).st.freeCount = w.st.freeCount ∧
    (correctGate affected w).st.lensRead = w.st.lensRead ∧
    (correctGate affected w).st.resetHeld = w.st.resetHeld ∧
    (correctGate affected w).st.unitAddress = w.st.unitAddress ∧ (correctGate affected w).st.pins = w.st.pins ∧
    (correctGate affected w).st.mkd = w.st.mkd ∧ (correctGate affected w).st.rqt.arrival = w.st.rqt.arrival ∧
    (correctGate affected w).st.rqt.halted = w.st.rqt.halted ∧
    (correctGate affected w).st.rqt.stopReason = w.st.rqt.stopReason ∧
    (correctGate affected w).st.trc.roll = w.st.trc.roll ∧
    (correctGate affected w).st.trc.profile = w.st.trc.profile ∧
    (correctGate affected w).st.trc.counter = w.st.trc.counter ∧
    (correctGate affected w).st.trc.endPos = w.st.trc.endPos ∧
    (correctGate affected w).st.trc.overrun = w.st.trc.overrun ∧
    (correctGate affected w).st.trc.motion = w.st.trc.motion ∧
    (correctGate affected w).st.trc.travelDir = w.st.trc.travelDir ∧
    (correctGate affected w).st.trc.speed = w.st.trc.speed ∧ (correctGate affected w).st.trc.move = w.st.trc.move ∧
    (correctGate affected w).st.trc.epoch = w.st.trc.epoch ∧
    (correctGate affected w).st.trc.verified = w.st.trc.verified ∧
    (correctGate affected w).st.trc.slip = w.st.trc.slip ∧ (correctGate affected w).st.trc.cause = w.st.trc.cause ∧
    (correctGate affected w).st.trc.retension = w.st.trc.retension ∧
    (correctGate affected w).st.trc.parkDelay = w.st.trc.parkDelay ∧
    (correctGate affected w).st.trc.wakeDelay = w.st.trc.wakeDelay ∧
    (correctGate affected w).st.trc.wakeFor = w.st.trc.wakeFor ∧ (correctGate affected w).st.fit = w.st.fit ∧
    (correctGate affected w).st.fcc.lens = w.st.fcc.lens ∧ (correctGate affected w).st.fcc.stage = w.st.fcc.stage ∧
    (correctGate affected w).st.fcc.lines = w.st.fcc.lines ∧ (correctGate affected w).st.fcc.lru = w.st.fcc.lru ∧
    (correctGate affected w).st.gtu.exposure = w.st.gtu.exposure ∧
    (correctGate affected w).st.gtu.trig = w.st.gtu.trig ∧ (correctGate affected w).st.gtu.route = w.st.gtu.route ∧
    (correctGate affected w).st.gtu.watches = w.st.gtu.watches ∧
    (correctGate affected w).st.ntu.ports = w.st.ntu.ports ∧
    (∀ q, ((correctGate affected w).st.lnk.get q).rx = (w.st.lnk.get q).rx) ∧
    (∀ q, ((correctGate affected w).st.lnk.get q).part = (w.st.lnk.get q).part) ∧
    (∀ q, ((correctGate affected w).st.lnk.get q).inbox = (w.st.lnk.get q).inbox) ∧
    (∀ q, ((correctGate affected w).st.lnk.get q).awaitMark = (w.st.lnk.get q).awaitMark) ∧
    (∀ q, ((correctGate affected w).st.lnk.get q).byteTimer = (w.st.lnk.get q).byteTimer) ∧
    (∀ q, ((correctGate affected w).st.lnk.get q).resyncTimer = (w.st.lnk.get q).resyncTimer) ∧
    (∀ q, ((correctGate affected w).st.lnk.get q).outbox = (w.st.lnk.get q).outbox) ∧
    (∀ q, ((correctGate affected w).st.lnk.get q).released = (w.st.lnk.get q).released) ∧
    (∀ q, ((correctGate affected w).st.lnk.get q).txFifo = (w.st.lnk.get q).txFifo) ∧
    (∀ q, ((correctGate affected w).st.lnk.get q).txLine = (w.st.lnk.get q).txLine) ∧
    (∀ q, ((correctGate affected w).st.lnk.get q).driving = (w.st.lnk.get q).driving) ∧
    (∀ q, ((correctGate affected w).st.lnk.get q).rdyMode = (w.st.lnk.get q).rdyMode) ∧
    (∀ q, ((correctGate affected w).st.lnk.get q).threshold = (w.st.lnk.get q).threshold) ∧
    (∀ q, ((correctGate affected w).st.lnk.get q).ctsGating = (w.st.lnk.get q).ctsGating) ∧
    (∀ q, ((correctGate affected w).st.lnk.get q).gap = (w.st.lnk.get q).gap) ∧
    (∀ q, ((correctGate affected w).st.lnk.get q).flags = (w.st.lnk.get q).flags) ∧
    (∀ q, ((correctGate affected w).st.lnk.get q).cts = (w.st.lnk.get q).cts) ∧
    (∀ q, ((correctGate affected w).st.lnk.get q).outstanding = (w.st.lnk.get q).outstanding) := by
  unfold correctGate
  repeat' split
  all_goals simp

@[simp] theorem correctMoveInFlight_frame (w : Ctx) :
    (correctMoveInFlight w).st.pending = w.st.pending ∧ (correctMoveInFlight w).st.freeCount = w.st.freeCount ∧
    (correctMoveInFlight w).st.lensRead = w.st.lensRead ∧
    (correctMoveInFlight w).st.resetHeld = w.st.resetHeld ∧
    (correctMoveInFlight w).st.unitAddress = w.st.unitAddress ∧ (correctMoveInFlight w).st.pins = w.st.pins ∧
    (correctMoveInFlight w).st.mkd = w.st.mkd ∧ (correctMoveInFlight w).st.rqt.arrival = w.st.rqt.arrival ∧
    (correctMoveInFlight w).st.rqt.halted = w.st.rqt.halted ∧ (correctMoveInFlight w).st.trc.roll = w.st.trc.roll ∧
    (correctMoveInFlight w).st.trc.profile = w.st.trc.profile ∧
    (correctMoveInFlight w).st.trc.counter = w.st.trc.counter ∧
    (correctMoveInFlight w).st.trc.endPos = w.st.trc.endPos ∧
    (correctMoveInFlight w).st.trc.overrun = w.st.trc.overrun ∧
    (correctMoveInFlight w).st.trc.parkDelay = w.st.trc.parkDelay ∧
    (correctMoveInFlight w).st.trc.wakeDelay = w.st.trc.wakeDelay ∧
    (correctMoveInFlight w).st.trc.wakeFor = w.st.trc.wakeFor ∧
    (correctMoveInFlight w).st.fit.entries = w.st.fit.entries ∧
    (correctMoveInFlight w).st.fit.index = w.st.fit.index ∧ (correctMoveInFlight w).st.fit.p256 = w.st.fit.p256 ∧
    (correctMoveInFlight w).st.fit.splice = w.st.fit.splice ∧ (correctMoveInFlight w).st.fcc.lens = w.st.fcc.lens ∧
    (correctMoveInFlight w).st.fcc.stage = w.st.fcc.stage ∧ (correctMoveInFlight w).st.fcc.lines = w.st.fcc.lines ∧
    (correctMoveInFlight w).st.fcc.lru = w.st.fcc.lru ∧ (correctMoveInFlight w).st.gtu.route = w.st.gtu.route ∧
    (correctMoveInFlight w).st.ntu.ports = w.st.ntu.ports ∧
    (∀ q, ((correctMoveInFlight w).st.lnk.get q).rx = (w.st.lnk.get q).rx) ∧
    (∀ q, ((correctMoveInFlight w).st.lnk.get q).part = (w.st.lnk.get q).part) ∧
    (∀ q, ((correctMoveInFlight w).st.lnk.get q).inbox = (w.st.lnk.get q).inbox) ∧
    (∀ q, ((correctMoveInFlight w).st.lnk.get q).awaitMark = (w.st.lnk.get q).awaitMark) ∧
    (∀ q, ((correctMoveInFlight w).st.lnk.get q).byteTimer = (w.st.lnk.get q).byteTimer) ∧
    (∀ q, ((correctMoveInFlight w).st.lnk.get q).resyncTimer = (w.st.lnk.get q).resyncTimer) ∧
    (∀ q, ((correctMoveInFlight w).st.lnk.get q).outbox = (w.st.lnk.get q).outbox) ∧
    (∀ q, ((correctMoveInFlight w).st.lnk.get q).released = (w.st.lnk.get q).released) ∧
    (∀ q, ((correctMoveInFlight w).st.lnk.get q).txFifo = (w.st.lnk.get q).txFifo) ∧
    (∀ q, ((correctMoveInFlight w).st.lnk.get q).txLine = (w.st.lnk.get q).txLine) ∧
    (∀ q, ((correctMoveInFlight w).st.lnk.get q).driving = (w.st.lnk.get q).driving) ∧
    (∀ q, ((correctMoveInFlight w).st.lnk.get q).rdyMode = (w.st.lnk.get q).rdyMode) ∧
    (∀ q, ((correctMoveInFlight w).st.lnk.get q).threshold = (w.st.lnk.get q).threshold) ∧
    (∀ q, ((correctMoveInFlight w).st.lnk.get q).ctsGating = (w.st.lnk.get q).ctsGating) ∧
    (∀ q, ((correctMoveInFlight w).st.lnk.get q).gap = (w.st.lnk.get q).gap) ∧
    (∀ q, ((correctMoveInFlight w).st.lnk.get q).flags = (w.st.lnk.get q).flags) ∧
    (∀ q, ((correctMoveInFlight w).st.lnk.get q).cts = (w.st.lnk.get q).cts) := by
  unfold correctMoveInFlight
  dsimp only
  repeat' split
  all_goals simp

@[simp] theorem correctVerify_frame (w : Ctx) :
    (correctVerify w).st.pending = w.st.pending ∧ (correctVerify w).st.freeCount = w.st.freeCount ∧
    (correctVerify w).st.lensRead = w.st.lensRead ∧
    (correctVerify w).st.resetHeld = w.st.resetHeld ∧ (correctVerify w).st.unitAddress = w.st.unitAddress ∧
    (correctVerify w).st.pins = w.st.pins ∧ (correctVerify w).st.mkd = w.st.mkd ∧
    (correctVerify w).st.rqt.arrival = w.st.rqt.arrival ∧ (correctVerify w).st.rqt.halted = w.st.rqt.halted ∧
    (correctVerify w).st.trc.roll = w.st.trc.roll ∧ (correctVerify w).st.trc.profile = w.st.trc.profile ∧
    (correctVerify w).st.trc.counter = w.st.trc.counter ∧ (correctVerify w).st.trc.endPos = w.st.trc.endPos ∧
    (correctVerify w).st.trc.overrun = w.st.trc.overrun ∧ (correctVerify w).st.trc.travelDir = w.st.trc.travelDir ∧
    (correctVerify w).st.trc.epoch = w.st.trc.epoch ∧ (correctVerify w).st.trc.parkDelay = w.st.trc.parkDelay ∧
    (correctVerify w).st.trc.wakeDelay = w.st.trc.wakeDelay ∧ (correctVerify w).st.trc.wakeFor = w.st.trc.wakeFor ∧
    (correctVerify w).st.trc.timers = w.st.trc.timers ∧ (correctVerify w).st.fit.entries = w.st.fit.entries ∧
    (correctVerify w).st.fit.index = w.st.fit.index ∧ (correctVerify w).st.fit.p256 = w.st.fit.p256 ∧
    (correctVerify w).st.fit.splice = w.st.fit.splice ∧ (correctVerify w).st.fcc.lens = w.st.fcc.lens ∧
    (correctVerify w).st.fcc.stage = w.st.fcc.stage ∧ (correctVerify w).st.fcc.lines = w.st.fcc.lines ∧
    (correctVerify w).st.fcc.lru = w.st.fcc.lru ∧ (correctVerify w).st.gtu.route = w.st.gtu.route ∧
    (correctVerify w).st.ntu.ports = w.st.ntu.ports ∧
    (∀ q, ((correctVerify w).st.lnk.get q).rx = (w.st.lnk.get q).rx) ∧
    (∀ q, ((correctVerify w).st.lnk.get q).part = (w.st.lnk.get q).part) ∧
    (∀ q, ((correctVerify w).st.lnk.get q).inbox = (w.st.lnk.get q).inbox) ∧
    (∀ q, ((correctVerify w).st.lnk.get q).awaitMark = (w.st.lnk.get q).awaitMark) ∧
    (∀ q, ((correctVerify w).st.lnk.get q).byteTimer = (w.st.lnk.get q).byteTimer) ∧
    (∀ q, ((correctVerify w).st.lnk.get q).resyncTimer = (w.st.lnk.get q).resyncTimer) ∧
    (∀ q, ((correctVerify w).st.lnk.get q).outbox = (w.st.lnk.get q).outbox) ∧
    (∀ q, ((correctVerify w).st.lnk.get q).released = (w.st.lnk.get q).released) ∧
    (∀ q, ((correctVerify w).st.lnk.get q).txFifo = (w.st.lnk.get q).txFifo) ∧
    (∀ q, ((correctVerify w).st.lnk.get q).txLine = (w.st.lnk.get q).txLine) ∧
    (∀ q, ((correctVerify w).st.lnk.get q).driving = (w.st.lnk.get q).driving) ∧
    (∀ q, ((correctVerify w).st.lnk.get q).rdyMode = (w.st.lnk.get q).rdyMode) ∧
    (∀ q, ((correctVerify w).st.lnk.get q).threshold = (w.st.lnk.get q).threshold) ∧
    (∀ q, ((correctVerify w).st.lnk.get q).ctsGating = (w.st.lnk.get q).ctsGating) ∧
    (∀ q, ((correctVerify w).st.lnk.get q).gap = (w.st.lnk.get q).gap) ∧
    (∀ q, ((correctVerify w).st.lnk.get q).flags = (w.st.lnk.get q).flags) ∧
    (∀ q, ((correctVerify w).st.lnk.get q).cts = (w.st.lnk.get q).cts) := by
  unfold correctVerify
  repeat' split
  all_goals simp

@[simp] theorem afterCorrection_frame (affected : Nat → Bool) (w : Ctx) :
    (afterCorrection affected w).st.pending = w.st.pending ∧
    (afterCorrection affected w).st.freeCount = w.st.freeCount ∧
    (afterCorrection affected w).st.lensRead = w.st.lensRead ∧
    (afterCorrection affected w).st.resetHeld = w.st.resetHeld ∧
    (afterCorrection affected w).st.unitAddress = w.st.unitAddress ∧
    (afterCorrection affected w).st.pins = w.st.pins ∧ (afterCorrection affected w).st.mkd = w.st.mkd ∧
    (afterCorrection affected w).st.rqt.arrival = w.st.rqt.arrival ∧
    (afterCorrection affected w).st.rqt.halted = w.st.rqt.halted ∧
    (afterCorrection affected w).st.trc.roll = w.st.trc.roll ∧
    (afterCorrection affected w).st.trc.profile = w.st.trc.profile ∧
    (afterCorrection affected w).st.trc.counter = w.st.trc.counter ∧
    (afterCorrection affected w).st.trc.endPos = w.st.trc.endPos ∧
    (afterCorrection affected w).st.trc.overrun = w.st.trc.overrun ∧
    (afterCorrection affected w).st.trc.parkDelay = w.st.trc.parkDelay ∧
    (afterCorrection affected w).st.trc.wakeDelay = w.st.trc.wakeDelay ∧
    (afterCorrection affected w).st.trc.wakeFor = w.st.trc.wakeFor ∧
    (afterCorrection affected w).st.fit.entries = w.st.fit.entries ∧
    (afterCorrection affected w).st.fit.index = w.st.fit.index ∧
    (afterCorrection affected w).st.fit.p256 = w.st.fit.p256 ∧
    (afterCorrection affected w).st.fit.splice = w.st.fit.splice ∧
    (afterCorrection affected w).st.fcc.lens = w.st.fcc.lens ∧
    (afterCorrection affected w).st.fcc.stage = w.st.fcc.stage ∧
    (afterCorrection affected w).st.fcc.lines = w.st.fcc.lines ∧
    (afterCorrection affected w).st.fcc.lru = w.st.fcc.lru ∧
    (afterCorrection affected w).st.gtu.route = w.st.gtu.route ∧
    (afterCorrection affected w).st.ntu.ports = w.st.ntu.ports ∧
    (∀ q, ((afterCorrection affected w).st.lnk.get q).rx = (w.st.lnk.get q).rx) ∧
    (∀ q, ((afterCorrection affected w).st.lnk.get q).part = (w.st.lnk.get q).part) ∧
    (∀ q, ((afterCorrection affected w).st.lnk.get q).inbox = (w.st.lnk.get q).inbox) ∧
    (∀ q, ((afterCorrection affected w).st.lnk.get q).awaitMark = (w.st.lnk.get q).awaitMark) ∧
    (∀ q, ((afterCorrection affected w).st.lnk.get q).byteTimer = (w.st.lnk.get q).byteTimer) ∧
    (∀ q, ((afterCorrection affected w).st.lnk.get q).resyncTimer = (w.st.lnk.get q).resyncTimer) ∧
    (∀ q, ((afterCorrection affected w).st.lnk.get q).outbox = (w.st.lnk.get q).outbox) ∧
    (∀ q, ((afterCorrection affected w).st.lnk.get q).released = (w.st.lnk.get q).released) ∧
    (∀ q, ((afterCorrection affected w).st.lnk.get q).txFifo = (w.st.lnk.get q).txFifo) ∧
    (∀ q, ((afterCorrection affected w).st.lnk.get q).txLine = (w.st.lnk.get q).txLine) ∧
    (∀ q, ((afterCorrection affected w).st.lnk.get q).driving = (w.st.lnk.get q).driving) ∧
    (∀ q, ((afterCorrection affected w).st.lnk.get q).rdyMode = (w.st.lnk.get q).rdyMode) ∧
    (∀ q, ((afterCorrection affected w).st.lnk.get q).threshold = (w.st.lnk.get q).threshold) ∧
    (∀ q, ((afterCorrection affected w).st.lnk.get q).ctsGating = (w.st.lnk.get q).ctsGating) ∧
    (∀ q, ((afterCorrection affected w).st.lnk.get q).gap = (w.st.lnk.get q).gap) ∧
    (∀ q, ((afterCorrection affected w).st.lnk.get q).flags = (w.st.lnk.get q).flags) ∧
    (∀ q, ((afterCorrection affected w).st.lnk.get q).cts = (w.st.lnk.get q).cts) := by
  simp [afterCorrection]

@[simp] theorem mergeEntries_frame (n : Nat) (s : State) :
    (mergeEntries n s).pending = s.pending ∧ (mergeEntries n s).freeCount = s.freeCount ∧
    (mergeEntries n s).lensRead = s.lensRead ∧
    (mergeEntries n s).resetHeld = s.resetHeld ∧ (mergeEntries n s).unitAddress = s.unitAddress ∧
    (mergeEntries n s).pins = s.pins ∧ (mergeEntries n s).mkd = s.mkd ∧ (mergeEntries n s).rqt = s.rqt ∧
    (mergeEntries n s).trc = s.trc ∧ (mergeEntries n s).fit.building = s.fit.building ∧
    (mergeEntries n s).fit.p256 = s.fit.p256 ∧ (mergeEntries n s).fit.splice = s.fit.splice ∧
    (mergeEntries n s).fit.verify = s.fit.verify ∧ (mergeEntries n s).fcc = s.fcc ∧ (mergeEntries n s).gtu = s.gtu ∧
    (mergeEntries n s).ntu = s.ntu ∧ (mergeEntries n s).lnk = s.lnk := by
  simp [mergeEntries]

@[simp] theorem splitEntries_frame (n : Nat) (p : Nat) (s : State) :
    (splitEntries n p s).pending = s.pending ∧ (splitEntries n p s).freeCount = s.freeCount ∧
    (splitEntries n p s).lensRead = s.lensRead ∧
    (splitEntries n p s).resetHeld = s.resetHeld ∧ (splitEntries n p s).unitAddress = s.unitAddress ∧
    (splitEntries n p s).pins = s.pins ∧ (splitEntries n p s).mkd = s.mkd ∧ (splitEntries n p s).rqt = s.rqt ∧
    (splitEntries n p s).trc = s.trc ∧ (splitEntries n p s).fit.building = s.fit.building ∧
    (splitEntries n p s).fit.p256 = s.fit.p256 ∧ (splitEntries n p s).fit.splice = s.fit.splice ∧
    (splitEntries n p s).fit.verify = s.fit.verify ∧ (splitEntries n p s).fcc = s.fcc ∧
    (splitEntries n p s).gtu = s.gtu ∧ (splitEntries n p s).ntu = s.ntu ∧ (splitEntries n p s).lnk = s.lnk := by
  simp [splitEntries]

@[simp] theorem moveEntry_frame (n : Nat) (p : Nat) (s : State) :
    (moveEntry n p s).pending = s.pending ∧ (moveEntry n p s).freeCount = s.freeCount ∧
    (moveEntry n p s).lensRead = s.lensRead ∧
    (moveEntry n p s).resetHeld = s.resetHeld ∧ (moveEntry n p s).unitAddress = s.unitAddress ∧
    (moveEntry n p s).pins = s.pins ∧ (moveEntry n p s).mkd = s.mkd ∧ (moveEntry n p s).rqt = s.rqt ∧
    (moveEntry n p s).trc = s.trc ∧ (moveEntry n p s).fit.index = s.fit.index ∧
    (moveEntry n p s).fit.building = s.fit.building ∧ (moveEntry n p s).fit.p256 = s.fit.p256 ∧
    (moveEntry n p s).fit.splice = s.fit.splice ∧ (moveEntry n p s).fit.verify = s.fit.verify ∧
    (moveEntry n p s).fcc = s.fcc ∧ (moveEntry n p s).gtu = s.gtu ∧ (moveEntry n p s).ntu = s.ntu ∧
    (moveEntry n p s).lnk = s.lnk := by
  simp [moveEntry]

@[simp] theorem clearTakenEntries_frame (a : Nat) (b : Nat) (s : State) :
    (clearTakenEntries a b s).pending = s.pending ∧ (clearTakenEntries a b s).freeCount = s.freeCount ∧
    (clearTakenEntries a b s).lensRead = s.lensRead ∧
    (clearTakenEntries a b s).resetHeld = s.resetHeld ∧ (clearTakenEntries a b s).unitAddress = s.unitAddress ∧
    (clearTakenEntries a b s).pins = s.pins ∧ (clearTakenEntries a b s).mkd = s.mkd ∧
    (clearTakenEntries a b s).rqt = s.rqt ∧ (clearTakenEntries a b s).trc = s.trc ∧
    (clearTakenEntries a b s).fit.index = s.fit.index ∧ (clearTakenEntries a b s).fit.building = s.fit.building ∧
    (clearTakenEntries a b s).fit.p256 = s.fit.p256 ∧ (clearTakenEntries a b s).fit.splice = s.fit.splice ∧
    (clearTakenEntries a b s).fit.verify = s.fit.verify ∧ (clearTakenEntries a b s).fcc = s.fcc ∧
    (clearTakenEntries a b s).gtu = s.gtu ∧ (clearTakenEntries a b s).ntu = s.ntu ∧
    (clearTakenEntries a b s).lnk = s.lnk := by
  simp [clearTakenEntries]

end Sys2Proof.Machine
end

