-- ==== Sys2Proof/Laws/FrameArbiter.lean ====
section
/-! SUPPORT. What each operation of the grant opportunity and the end of a command leaves unchanged: one frame for each, which later proofs cite instead of
unfolding it. -/

namespace Sys2Proof.Machine

@[simp] theorem completeEach_frame (o : OutcomeCode) (l : List Record) (w : Ctx) :
    (completeEach o l w).st.pending = w.st.pending ∧ (completeEach o l w).st.freeCount = w.st.freeCount ∧
    (completeEach o l w).st.lensRead = w.st.lensRead ∧
    (completeEach o l w).st.resetHeld = w.st.resetHeld ∧ (completeEach o l w).st.unitAddress = w.st.unitAddress ∧
    (completeEach o l w).st.pins = w.st.pins ∧ (completeEach o l w).st.mkd = w.st.mkd ∧
    (completeEach o l w).st.rqt.run = w.st.rqt.run ∧ (completeEach o l w).st.rqt.arrival = w.st.rqt.arrival ∧
    (completeEach o l w).st.rqt.halted = w.st.rqt.halted ∧
    (completeEach o l w).st.rqt.stopReason = w.st.rqt.stopReason ∧ (completeEach o l w).st.trc = w.st.trc ∧
    (completeEach o l w).st.fit = w.st.fit ∧ (completeEach o l w).st.fcc = w.st.fcc ∧
    (completeEach o l w).st.gtu = w.st.gtu ∧ (completeEach o l w).st.ntu.ports = w.st.ntu.ports ∧
    (∀ q, ((completeEach o l w).st.lnk.get q).rx = (w.st.lnk.get q).rx) ∧
    (∀ q, ((completeEach o l w).st.lnk.get q).part = (w.st.lnk.get q).part) ∧
    (∀ q, ((completeEach o l w).st.lnk.get q).inbox = (w.st.lnk.get q).inbox) ∧
    (∀ q, ((completeEach o l w).st.lnk.get q).awaitMark = (w.st.lnk.get q).awaitMark) ∧
    (∀ q, ((completeEach o l w).st.lnk.get q).byteTimer = (w.st.lnk.get q).byteTimer) ∧
    (∀ q, ((completeEach o l w).st.lnk.get q).resyncTimer = (w.st.lnk.get q).resyncTimer) ∧
    (∀ q, ((completeEach o l w).st.lnk.get q).outbox = (w.st.lnk.get q).outbox) ∧
    (∀ q, ((completeEach o l w).st.lnk.get q).released = (w.st.lnk.get q).released) ∧
    (∀ q, ((completeEach o l w).st.lnk.get q).txFifo = (w.st.lnk.get q).txFifo) ∧
    (∀ q, ((completeEach o l w).st.lnk.get q).txLine = (w.st.lnk.get q).txLine) ∧
    (∀ q, ((completeEach o l w).st.lnk.get q).driving = (w.st.lnk.get q).driving) ∧
    (∀ q, ((completeEach o l w).st.lnk.get q).rdyMode = (w.st.lnk.get q).rdyMode) ∧
    (∀ q, ((completeEach o l w).st.lnk.get q).threshold = (w.st.lnk.get q).threshold) ∧
    (∀ q, ((completeEach o l w).st.lnk.get q).ctsGating = (w.st.lnk.get q).ctsGating) ∧
    (∀ q, ((completeEach o l w).st.lnk.get q).gap = (w.st.lnk.get q).gap) ∧
    (∀ q, ((completeEach o l w).st.lnk.get q).flags = (w.st.lnk.get q).flags) ∧
    (∀ q, ((completeEach o l w).st.lnk.get q).cts = (w.st.lnk.get q).cts) ∧
    (∀ q, ((completeEach o l w).st.lnk.get q).outstanding = (w.st.lnk.get q).outstanding) := by
  unfold completeEach
  induction l generalizing w with
  | nil => simp
  | cons a l ih => simp [List.foldl_cons, ih]

@[simp] theorem clearUnreachable_frame (w : Ctx) :
    (clearUnreachable w).st.pending = w.st.pending ∧ (clearUnreachable w).st.freeCount = w.st.freeCount ∧
    (clearUnreachable w).st.lensRead = w.st.lensRead ∧
    (clearUnreachable w).st.resetHeld = w.st.resetHeld ∧ (clearUnreachable w).st.unitAddress = w.st.unitAddress ∧
    (clearUnreachable w).st.pins = w.st.pins ∧ (clearUnreachable w).st.mkd = w.st.mkd ∧
    (clearUnreachable w).st.rqt.arrival = w.st.rqt.arrival ∧ (clearUnreachable w).st.rqt.halted = w.st.rqt.halted ∧
    (clearUnreachable w).st.rqt.stopReason = w.st.rqt.stopReason ∧ (clearUnreachable w).st.trc = w.st.trc ∧
    (clearUnreachable w).st.fit = w.st.fit ∧ (clearUnreachable w).st.fcc = w.st.fcc ∧
    (clearUnreachable w).st.gtu = w.st.gtu ∧ (clearUnreachable w).st.ntu.ports = w.st.ntu.ports ∧
    (∀ q, ((clearUnreachable w).st.lnk.get q).rx = (w.st.lnk.get q).rx) ∧
    (∀ q, ((clearUnreachable w).st.lnk.get q).part = (w.st.lnk.get q).part) ∧
    (∀ q, ((clearUnreachable w).st.lnk.get q).inbox = (w.st.lnk.get q).inbox) ∧
    (∀ q, ((clearUnreachable w).st.lnk.get q).awaitMark = (w.st.lnk.get q).awaitMark) ∧
    (∀ q, ((clearUnreachable w).st.lnk.get q).byteTimer = (w.st.lnk.get q).byteTimer) ∧
    (∀ q, ((clearUnreachable w).st.lnk.get q).resyncTimer = (w.st.lnk.get q).resyncTimer) ∧
    (∀ q, ((clearUnreachable w).st.lnk.get q).outbox = (w.st.lnk.get q).outbox) ∧
    (∀ q, ((clearUnreachable w).st.lnk.get q).released = (w.st.lnk.get q).released) ∧
    (∀ q, ((clearUnreachable w).st.lnk.get q).txFifo = (w.st.lnk.get q).txFifo) ∧
    (∀ q, ((clearUnreachable w).st.lnk.get q).txLine = (w.st.lnk.get q).txLine) ∧
    (∀ q, ((clearUnreachable w).st.lnk.get q).driving = (w.st.lnk.get q).driving) ∧
    (∀ q, ((clearUnreachable w).st.lnk.get q).rdyMode = (w.st.lnk.get q).rdyMode) ∧
    (∀ q, ((clearUnreachable w).st.lnk.get q).threshold = (w.st.lnk.get q).threshold) ∧
    (∀ q, ((clearUnreachable w).st.lnk.get q).ctsGating = (w.st.lnk.get q).ctsGating) ∧
    (∀ q, ((clearUnreachable w).st.lnk.get q).gap = (w.st.lnk.get q).gap) ∧
    (∀ q, ((clearUnreachable w).st.lnk.get q).flags = (w.st.lnk.get q).flags) ∧
    (∀ q, ((clearUnreachable w).st.lnk.get q).cts = (w.st.lnk.get q).cts) ∧
    (∀ q, ((clearUnreachable w).st.lnk.get q).outstanding = (w.st.lnk.get q).outstanding) := by
  unfold clearUnreachable
  dsimp only
  repeat' split
  all_goals simp

@[simp] theorem orderFrame_frame (g : InHand) (s : State) :
    (orderFrame g s).pending = s.pending ∧ (orderFrame g s).freeCount = s.freeCount ∧
    (orderFrame g s).lensRead = s.lensRead ∧
    (orderFrame g s).resetHeld = s.resetHeld ∧ (orderFrame g s).unitAddress = s.unitAddress ∧
    (orderFrame g s).pins = s.pins ∧ (orderFrame g s).mkd = s.mkd ∧ (orderFrame g s).rqt = s.rqt ∧
    (orderFrame g s).trc.roll = s.trc.roll ∧ (orderFrame g s).trc.profile = s.trc.profile ∧
    (orderFrame g s).trc.counter = s.trc.counter ∧ (orderFrame g s).trc.endPos = s.trc.endPos ∧
    (orderFrame g s).trc.overrun = s.trc.overrun ∧ (orderFrame g s).trc.verified = s.trc.verified ∧
    (orderFrame g s).trc.slip = s.trc.slip ∧ (orderFrame g s).trc.cause = s.trc.cause ∧
    (orderFrame g s).trc.retension = s.trc.retension ∧ (orderFrame g s).trc.parkDelay = s.trc.parkDelay ∧
    (orderFrame g s).trc.wakeDelay = s.trc.wakeDelay ∧ (orderFrame g s).fit.entries = s.fit.entries ∧
    (orderFrame g s).fit.index = s.fit.index ∧ (orderFrame g s).fit.p256 = s.fit.p256 ∧
    (orderFrame g s).fit.splice = s.fit.splice ∧ (orderFrame g s).fit.verify = s.fit.verify ∧
    (orderFrame g s).fcc = s.fcc ∧ (orderFrame g s).gtu.phase = s.gtu.phase ∧
    (orderFrame g s).gtu.inHand = s.gtu.inHand ∧ (orderFrame g s).gtu.presentation = s.gtu.presentation ∧
    (orderFrame g s).gtu.hold = s.gtu.hold ∧ (orderFrame g s).gtu.exposure = s.gtu.exposure ∧
    (orderFrame g s).gtu.trig = s.gtu.trig ∧ (orderFrame g s).gtu.route = s.gtu.route ∧
    (orderFrame g s).gtu.heldReport = s.gtu.heldReport ∧ (orderFrame g s).ntu = s.ntu ∧ (orderFrame g s).lnk = s.lnk := by
  unfold orderFrame
  repeat' split
  all_goals simp

@[simp] theorem handToGate_frame (g : InHand) (s : State) :
    (handToGate g s).pending = s.pending ∧ (handToGate g s).freeCount = s.freeCount ∧
    (handToGate g s).lensRead = s.lensRead ∧
    (handToGate g s).resetHeld = s.resetHeld ∧ (handToGate g s).unitAddress = s.unitAddress ∧
    (handToGate g s).pins = s.pins ∧ (handToGate g s).mkd = s.mkd ∧ (handToGate g s).rqt = s.rqt ∧
    (handToGate g s).trc.roll = s.trc.roll ∧ (handToGate g s).trc.profile = s.trc.profile ∧
    (handToGate g s).trc.counter = s.trc.counter ∧ (handToGate g s).trc.endPos = s.trc.endPos ∧
    (handToGate g s).trc.overrun = s.trc.overrun ∧ (handToGate g s).trc.verified = s.trc.verified ∧
    (handToGate g s).trc.slip = s.trc.slip ∧ (handToGate g s).trc.cause = s.trc.cause ∧
    (handToGate g s).trc.retension = s.trc.retension ∧ (handToGate g s).trc.parkDelay = s.trc.parkDelay ∧
    (handToGate g s).trc.wakeDelay = s.trc.wakeDelay ∧ (handToGate g s).fit.entries = s.fit.entries ∧
    (handToGate g s).fit.index = s.fit.index ∧ (handToGate g s).fit.p256 = s.fit.p256 ∧
    (handToGate g s).fit.splice = s.fit.splice ∧ (handToGate g s).fit.verify = s.fit.verify ∧
    (handToGate g s).fcc = s.fcc ∧ (handToGate g s).gtu.presentation = s.gtu.presentation ∧
    (handToGate g s).gtu.hold = s.gtu.hold ∧ (handToGate g s).gtu.exposure = s.gtu.exposure ∧
    (handToGate g s).gtu.trig = s.gtu.trig ∧ (handToGate g s).gtu.route = s.gtu.route ∧
    (handToGate g s).ntu = s.ntu ∧ (handToGate g s).lnk = s.lnk := by
  simp [handToGate]

@[simp] theorem grantVerify_frame (s : State) :
    (grantVerify s).pending = s.pending ∧ (grantVerify s).freeCount = s.freeCount ∧
    (grantVerify s).lensRead = s.lensRead ∧
    (grantVerify s).resetHeld = s.resetHeld ∧ (grantVerify s).unitAddress = s.unitAddress ∧
    (grantVerify s).pins = s.pins ∧ (grantVerify s).mkd = s.mkd ∧ (grantVerify s).rqt.records = s.rqt.records ∧
    (grantVerify s).rqt.run = s.rqt.run ∧ (grantVerify s).rqt.arrival = s.rqt.arrival ∧
    (grantVerify s).rqt.halted = s.rqt.halted ∧ (grantVerify s).trc.roll = s.trc.roll ∧
    (grantVerify s).trc.profile = s.trc.profile ∧ (grantVerify s).trc.counter = s.trc.counter ∧
    (grantVerify s).trc.endPos = s.trc.endPos ∧ (grantVerify s).trc.overrun = s.trc.overrun ∧
    (grantVerify s).trc.verified = s.trc.verified ∧ (grantVerify s).trc.slip = s.trc.slip ∧
    (grantVerify s).trc.cause = s.trc.cause ∧ (grantVerify s).trc.retension = s.trc.retension ∧
    (grantVerify s).trc.parkDelay = s.trc.parkDelay ∧ (grantVerify s).trc.wakeDelay = s.trc.wakeDelay ∧
    (grantVerify s).fit.entries = s.fit.entries ∧ (grantVerify s).fit.index = s.fit.index ∧
    (grantVerify s).fit.p256 = s.fit.p256 ∧ (grantVerify s).fit.splice = s.fit.splice ∧ (grantVerify s).fcc = s.fcc ∧
    (grantVerify s).gtu.phase = s.gtu.phase ∧ (grantVerify s).gtu.inHand = s.gtu.inHand ∧
    (grantVerify s).gtu.presentation = s.gtu.presentation ∧ (grantVerify s).gtu.hold = s.gtu.hold ∧
    (grantVerify s).gtu.exposure = s.gtu.exposure ∧ (grantVerify s).gtu.trig = s.gtu.trig ∧
    (grantVerify s).gtu.route = s.gtu.route ∧ (grantVerify s).gtu.heldReport = s.gtu.heldReport ∧
    (grantVerify s).ntu = s.ntu ∧ (grantVerify s).lnk = s.lnk := by
  simp [grantVerify]

@[simp] theorem addPasses_frame (c : Nat) (s : State) :
    (addPasses c s).pending = s.pending ∧ (addPasses c s).freeCount = s.freeCount ∧
    (addPasses c s).lensRead = s.lensRead ∧
    (addPasses c s).resetHeld = s.resetHeld ∧ (addPasses c s).unitAddress = s.unitAddress ∧
    (addPasses c s).pins = s.pins ∧ (addPasses c s).mkd = s.mkd ∧ (addPasses c s).rqt.run = s.rqt.run ∧
    (addPasses c s).rqt.arrival = s.rqt.arrival ∧ (addPasses c s).rqt.halted = s.rqt.halted ∧
    (addPasses c s).rqt.grant = s.rqt.grant ∧ (addPasses c s).rqt.stopReason = s.rqt.stopReason ∧
    (addPasses c s).trc = s.trc ∧ (addPasses c s).fit = s.fit ∧ (addPasses c s).fcc = s.fcc ∧
    (addPasses c s).gtu = s.gtu ∧ (addPasses c s).ntu = s.ntu ∧ (addPasses c s).lnk = s.lnk := by
  simp [addPasses]

@[simp] theorem grantRecord_frame (r : Record) (s : State) :
    (grantRecord r s).pending = s.pending ∧ (grantRecord r s).freeCount = s.freeCount ∧
    (grantRecord r s).lensRead = s.lensRead ∧
    (grantRecord r s).resetHeld = s.resetHeld ∧ (grantRecord r s).unitAddress = s.unitAddress ∧
    (grantRecord r s).pins = s.pins ∧ (grantRecord r s).mkd = s.mkd ∧ (grantRecord r s).rqt.run = s.rqt.run ∧
    (grantRecord r s).rqt.arrival = s.rqt.arrival ∧ (grantRecord r s).rqt.halted = s.rqt.halted ∧
    (grantRecord r s).trc.roll = s.trc.roll ∧ (grantRecord r s).trc.profile = s.trc.profile ∧
    (grantRecord r s).trc.counter = s.trc.counter ∧ (grantRecord r s).trc.endPos = s.trc.endPos ∧
    (grantRecord r s).trc.overrun = s.trc.overrun ∧ (grantRecord r s).trc.verified = s.trc.verified ∧
    (grantRecord r s).trc.slip = s.trc.slip ∧ (grantRecord r s).trc.cause = s.trc.cause ∧
    (grantRecord r s).trc.retension = s.trc.retension ∧ (grantRecord r s).trc.parkDelay = s.trc.parkDelay ∧
    (grantRecord r s).trc.wakeDelay = s.trc.wakeDelay ∧ (grantRecord r s).fit.entries = s.fit.entries ∧
    (grantRecord r s).fit.index = s.fit.index ∧ (grantRecord r s).fit.p256 = s.fit.p256 ∧
    (grantRecord r s).fit.splice = s.fit.splice ∧ (grantRecord r s).fit.verify = s.fit.verify ∧
    (grantRecord r s).fcc = s.fcc ∧ (grantRecord r s).gtu.presentation = s.gtu.presentation ∧
    (grantRecord r s).gtu.hold = s.gtu.hold ∧ (grantRecord r s).gtu.exposure = s.gtu.exposure ∧
    (grantRecord r s).gtu.trig = s.gtu.trig ∧ (grantRecord r s).gtu.route = s.gtu.route ∧
    (grantRecord r s).ntu = s.ntu ∧ (grantRecord r s).lnk = s.lnk := by
  unfold grantRecord
  split <;> simp

@[simp] theorem grantRun_frame (r : Run) (s : State) :
    (grantRun r s).pending = s.pending ∧ (grantRun r s).freeCount = s.freeCount ∧
    (grantRun r s).lensRead = s.lensRead ∧
    (grantRun r s).resetHeld = s.resetHeld ∧ (grantRun r s).unitAddress = s.unitAddress ∧
    (grantRun r s).pins = s.pins ∧ (grantRun r s).mkd = s.mkd ∧ (grantRun r s).rqt.records = s.rqt.records ∧
    (grantRun r s).rqt.arrival = s.rqt.arrival ∧ (grantRun r s).rqt.halted = s.rqt.halted ∧
    (grantRun r s).trc.roll = s.trc.roll ∧ (grantRun r s).trc.profile = s.trc.profile ∧
    (grantRun r s).trc.counter = s.trc.counter ∧ (grantRun r s).trc.endPos = s.trc.endPos ∧
    (grantRun r s).trc.overrun = s.trc.overrun ∧ (grantRun r s).trc.verified = s.trc.verified ∧
    (grantRun r s).trc.slip = s.trc.slip ∧ (grantRun r s).trc.cause = s.trc.cause ∧
    (grantRun r s).trc.retension = s.trc.retension ∧ (grantRun r s).trc.parkDelay = s.trc.parkDelay ∧
    (grantRun r s).trc.wakeDelay = s.trc.wakeDelay ∧ (grantRun r s).fit.entries = s.fit.entries ∧
    (grantRun r s).fit.index = s.fit.index ∧ (grantRun r s).fit.p256 = s.fit.p256 ∧
    (grantRun r s).fit.splice = s.fit.splice ∧ (grantRun r s).fit.verify = s.fit.verify ∧
    (grantRun r s).fcc = s.fcc ∧ (grantRun r s).gtu.presentation = s.gtu.presentation ∧
    (grantRun r s).gtu.hold = s.gtu.hold ∧ (grantRun r s).gtu.exposure = s.gtu.exposure ∧
    (grantRun r s).gtu.trig = s.gtu.trig ∧ (grantRun r s).gtu.route = s.gtu.route ∧ (grantRun r s).ntu = s.ntu ∧
    (grantRun r s).lnk = s.lnk := by
  simp [grantRun]

@[simp] theorem chooseRecord_frame (s : State) :
    (chooseRecord s).pending = s.pending ∧ (chooseRecord s).freeCount = s.freeCount ∧
    (chooseRecord s).lensRead = s.lensRead ∧
    (chooseRecord s).resetHeld = s.resetHeld ∧ (chooseRecord s).unitAddress = s.unitAddress ∧
    (chooseRecord s).pins = s.pins ∧ (chooseRecord s).mkd = s.mkd ∧ (chooseRecord s).rqt.run = s.rqt.run ∧
    (chooseRecord s).rqt.arrival = s.rqt.arrival ∧ (chooseRecord s).rqt.halted = s.rqt.halted ∧
    (chooseRecord s).trc.roll = s.trc.roll ∧ (chooseRecord s).trc.profile = s.trc.profile ∧
    (chooseRecord s).trc.counter = s.trc.counter ∧ (chooseRecord s).trc.endPos = s.trc.endPos ∧
    (chooseRecord s).trc.overrun = s.trc.overrun ∧ (chooseRecord s).trc.verified = s.trc.verified ∧
    (chooseRecord s).trc.slip = s.trc.slip ∧ (chooseRecord s).trc.cause = s.trc.cause ∧
    (chooseRecord s).trc.retension = s.trc.retension ∧ (chooseRecord s).trc.parkDelay = s.trc.parkDelay ∧
    (chooseRecord s).trc.wakeDelay = s.trc.wakeDelay ∧ (chooseRecord s).fit.entries = s.fit.entries ∧
    (chooseRecord s).fit.index = s.fit.index ∧ (chooseRecord s).fit.p256 = s.fit.p256 ∧
    (chooseRecord s).fit.splice = s.fit.splice ∧ (chooseRecord s).fit.verify = s.fit.verify ∧
    (chooseRecord s).fcc = s.fcc ∧ (chooseRecord s).gtu.presentation = s.gtu.presentation ∧
    (chooseRecord s).gtu.hold = s.gtu.hold ∧ (chooseRecord s).gtu.exposure = s.gtu.exposure ∧
    (chooseRecord s).gtu.trig = s.gtu.trig ∧ (chooseRecord s).gtu.route = s.gtu.route ∧
    (chooseRecord s).ntu = s.ntu ∧ (chooseRecord s).lnk = s.lnk := by
  unfold chooseRecord
  split <;> simp

@[simp] theorem outclassRun_frame (s : State) :
    (outclassRun s).pending = s.pending ∧ (outclassRun s).freeCount = s.freeCount ∧
    (outclassRun s).lensRead = s.lensRead ∧
    (outclassRun s).resetHeld = s.resetHeld ∧ (outclassRun s).unitAddress = s.unitAddress ∧
    (outclassRun s).pins = s.pins ∧ (outclassRun s).mkd = s.mkd ∧ (outclassRun s).rqt.records = s.rqt.records ∧
    (outclassRun s).rqt.arrival = s.rqt.arrival ∧ (outclassRun s).rqt.halted = s.rqt.halted ∧
    (outclassRun s).rqt.grant = s.rqt.grant ∧ (outclassRun s).rqt.stopReason = s.rqt.stopReason ∧
    (outclassRun s).trc = s.trc ∧ (outclassRun s).fit = s.fit ∧ (outclassRun s).fcc = s.fcc ∧
    (outclassRun s).gtu = s.gtu ∧ (outclassRun s).ntu = s.ntu ∧ (outclassRun s).lnk = s.lnk := by
  simp [outclassRun]

@[simp] theorem chooseWork_frame (s : State) :
    (chooseWork s).pending = s.pending ∧ (chooseWork s).freeCount = s.freeCount ∧
    (chooseWork s).lensRead = s.lensRead ∧
    (chooseWork s).resetHeld = s.resetHeld ∧ (chooseWork s).unitAddress = s.unitAddress ∧
    (chooseWork s).pins = s.pins ∧ (chooseWork s).mkd = s.mkd ∧ (chooseWork s).rqt.arrival = s.rqt.arrival ∧
    (chooseWork s).rqt.halted = s.rqt.halted ∧ (chooseWork s).trc.roll = s.trc.roll ∧
    (chooseWork s).trc.profile = s.trc.profile ∧ (chooseWork s).trc.counter = s.trc.counter ∧
    (chooseWork s).trc.endPos = s.trc.endPos ∧ (chooseWork s).trc.overrun = s.trc.overrun ∧
    (chooseWork s).trc.verified = s.trc.verified ∧ (chooseWork s).trc.slip = s.trc.slip ∧
    (chooseWork s).trc.cause = s.trc.cause ∧ (chooseWork s).trc.retension = s.trc.retension ∧
    (chooseWork s).trc.parkDelay = s.trc.parkDelay ∧ (chooseWork s).trc.wakeDelay = s.trc.wakeDelay ∧
    (chooseWork s).fit.entries = s.fit.entries ∧ (chooseWork s).fit.index = s.fit.index ∧
    (chooseWork s).fit.p256 = s.fit.p256 ∧ (chooseWork s).fit.splice = s.fit.splice ∧
    (chooseWork s).fit.verify = s.fit.verify ∧ (chooseWork s).fcc = s.fcc ∧
    (chooseWork s).gtu.presentation = s.gtu.presentation ∧ (chooseWork s).gtu.hold = s.gtu.hold ∧
    (chooseWork s).gtu.exposure = s.gtu.exposure ∧ (chooseWork s).gtu.trig = s.gtu.trig ∧
    (chooseWork s).gtu.route = s.gtu.route ∧ (chooseWork s).ntu = s.ntu ∧ (chooseWork s).lnk = s.lnk := by
  unfold chooseWork
  repeat' split
  all_goals simp

@[simp] theorem examine_frame (w : Ctx) :
    (examine w).st.pending = w.st.pending ∧ (examine w).st.freeCount = w.st.freeCount ∧
    (examine w).st.lensRead = w.st.lensRead ∧
    (examine w).st.resetHeld = w.st.resetHeld ∧ (examine w).st.unitAddress = w.st.unitAddress ∧
    (examine w).st.pins = w.st.pins ∧ (examine w).st.mkd = w.st.mkd ∧ (examine w).st.rqt.arrival = w.st.rqt.arrival ∧
    (examine w).st.rqt.halted = w.st.rqt.halted ∧ (examine w).st.trc.roll = w.st.trc.roll ∧
    (examine w).st.trc.profile = w.st.trc.profile ∧ (examine w).st.trc.counter = w.st.trc.counter ∧
    (examine w).st.trc.endPos = w.st.trc.endPos ∧ (examine w).st.trc.overrun = w.st.trc.overrun ∧
    (examine w).st.trc.slip = w.st.trc.slip ∧ (examine w).st.trc.cause = w.st.trc.cause ∧
    (examine w).st.trc.retension = w.st.trc.retension ∧ (examine w).st.trc.parkDelay = w.st.trc.parkDelay ∧
    (examine w).st.trc.wakeDelay = w.st.trc.wakeDelay ∧ (examine w).st.fit.entries = w.st.fit.entries ∧
    (examine w).st.fit.index = w.st.fit.index ∧ (examine w).st.fit.p256 = w.st.fit.p256 ∧
    (examine w).st.fit.splice = w.st.fit.splice ∧ (examine w).st.fcc = w.st.fcc ∧
    (examine w).st.gtu.presentation = w.st.gtu.presentation ∧ (examine w).st.gtu.hold = w.st.gtu.hold ∧
    (examine w).st.gtu.exposure = w.st.gtu.exposure ∧ (examine w).st.gtu.trig = w.st.gtu.trig ∧
    (examine w).st.gtu.route = w.st.gtu.route ∧ (examine w).st.ntu.ports = w.st.ntu.ports ∧
    (∀ q, ((examine w).st.lnk.get q).rx = (w.st.lnk.get q).rx) ∧
    (∀ q, ((examine w).st.lnk.get q).part = (w.st.lnk.get q).part) ∧
    (∀ q, ((examine w).st.lnk.get q).inbox = (w.st.lnk.get q).inbox) ∧
    (∀ q, ((examine w).st.lnk.get q).awaitMark = (w.st.lnk.get q).awaitMark) ∧
    (∀ q, ((examine w).st.lnk.get q).byteTimer = (w.st.lnk.get q).byteTimer) ∧
    (∀ q, ((examine w).st.lnk.get q).resyncTimer = (w.st.lnk.get q).resyncTimer) ∧
    (∀ q, ((examine w).st.lnk.get q).outbox = (w.st.lnk.get q).outbox) ∧
    (∀ q, ((examine w).st.lnk.get q).released = (w.st.lnk.get q).released) ∧
    (∀ q, ((examine w).st.lnk.get q).txFifo = (w.st.lnk.get q).txFifo) ∧
    (∀ q, ((examine w).st.lnk.get q).txLine = (w.st.lnk.get q).txLine) ∧
    (∀ q, ((examine w).st.lnk.get q).driving = (w.st.lnk.get q).driving) ∧
    (∀ q, ((examine w).st.lnk.get q).rdyMode = (w.st.lnk.get q).rdyMode) ∧
    (∀ q, ((examine w).st.lnk.get q).threshold = (w.st.lnk.get q).threshold) ∧
    (∀ q, ((examine w).st.lnk.get q).ctsGating = (w.st.lnk.get q).ctsGating) ∧
    (∀ q, ((examine w).st.lnk.get q).gap = (w.st.lnk.get q).gap) ∧
    (∀ q, ((examine w).st.lnk.get q).flags = (w.st.lnk.get q).flags) ∧
    (∀ q, ((examine w).st.lnk.get q).cts = (w.st.lnk.get q).cts) ∧
    (∀ q, ((examine w).st.lnk.get q).outstanding = (w.st.lnk.get q).outstanding) := by
  unfold examine
  dsimp only
  repeat' split
  all_goals simp

@[simp] theorem syncPhase_frame (s : State) :
    (syncPhase s).pending = s.pending ∧ (syncPhase s).freeCount = s.freeCount ∧ (syncPhase s).lensRead = s.lensRead ∧
    (syncPhase s).resetHeld = s.resetHeld ∧ (syncPhase s).unitAddress = s.unitAddress ∧ (syncPhase s).pins = s.pins ∧
    (syncPhase s).mkd = s.mkd ∧ (syncPhase s).rqt = s.rqt ∧ (syncPhase s).trc = s.trc ∧ (syncPhase s).fit = s.fit ∧
    (syncPhase s).fcc = s.fcc ∧ (syncPhase s).gtu.inHand = s.gtu.inHand ∧
    (syncPhase s).gtu.presentation = s.gtu.presentation ∧ (syncPhase s).gtu.hold = s.gtu.hold ∧
    (syncPhase s).gtu.exposure = s.gtu.exposure ∧ (syncPhase s).gtu.trig = s.gtu.trig ∧
    (syncPhase s).gtu.route = s.gtu.route ∧ (syncPhase s).gtu.watches = s.gtu.watches ∧
    (syncPhase s).gtu.heldReport = s.gtu.heldReport ∧ (syncPhase s).ntu = s.ntu ∧ (syncPhase s).lnk = s.lnk := by
  unfold syncPhase
  repeat' split
  all_goals simp

@[simp] theorem syncTimers_frame (s : State) :
    (syncTimers s).pending = s.pending ∧ (syncTimers s).freeCount = s.freeCount ∧
    (syncTimers s).lensRead = s.lensRead ∧
    (syncTimers s).resetHeld = s.resetHeld ∧ (syncTimers s).unitAddress = s.unitAddress ∧
    (syncTimers s).pins = s.pins ∧ (syncTimers s).mkd = s.mkd ∧ (syncTimers s).rqt = s.rqt ∧
    (syncTimers s).trc.roll = s.trc.roll ∧ (syncTimers s).trc.profile = s.trc.profile ∧
    (syncTimers s).trc.counter = s.trc.counter ∧ (syncTimers s).trc.endPos = s.trc.endPos ∧
    (syncTimers s).trc.overrun = s.trc.overrun ∧ (syncTimers s).trc.motion = s.trc.motion ∧
    (syncTimers s).trc.travelDir = s.trc.travelDir ∧ (syncTimers s).trc.speed = s.trc.speed ∧
    (syncTimers s).trc.move = s.trc.move ∧ (syncTimers s).trc.epoch = s.trc.epoch ∧
    (syncTimers s).trc.verified = s.trc.verified ∧ (syncTimers s).trc.slip = s.trc.slip ∧
    (syncTimers s).trc.cause = s.trc.cause ∧ (syncTimers s).trc.retension = s.trc.retension ∧
    (syncTimers s).trc.parkDelay = s.trc.parkDelay ∧ (syncTimers s).trc.wakeDelay = s.trc.wakeDelay ∧
    (syncTimers s).trc.wakeFor = s.trc.wakeFor ∧ (syncTimers s).fit = s.fit ∧ (syncTimers s).fcc = s.fcc ∧
    (syncTimers s).gtu = s.gtu ∧ (syncTimers s).ntu = s.ntu ∧ (syncTimers s).lnk = s.lnk := by
  simp [syncTimers]

@[simp] theorem releaseWaiting_frame (s : State) :
    (releaseWaiting s).pending = s.pending ∧ (releaseWaiting s).freeCount = s.freeCount ∧
    (releaseWaiting s).lensRead = s.lensRead ∧
    (releaseWaiting s).resetHeld = s.resetHeld ∧ (releaseWaiting s).unitAddress = s.unitAddress ∧
    (releaseWaiting s).pins = s.pins ∧ (releaseWaiting s).mkd = s.mkd ∧ (releaseWaiting s).rqt = s.rqt ∧
    (releaseWaiting s).trc = s.trc ∧ (releaseWaiting s).fit = s.fit ∧ (releaseWaiting s).fcc = s.fcc ∧
    (releaseWaiting s).gtu = s.gtu ∧ (releaseWaiting s).ntu = s.ntu ∧
    (∀ q, ((releaseWaiting s).lnk.get q).rx = (s.lnk.get q).rx) ∧
    (∀ q, ((releaseWaiting s).lnk.get q).part = (s.lnk.get q).part) ∧
    (∀ q, ((releaseWaiting s).lnk.get q).inbox = (s.lnk.get q).inbox) ∧
    (∀ q, ((releaseWaiting s).lnk.get q).awaitMark = (s.lnk.get q).awaitMark) ∧
    (∀ q, ((releaseWaiting s).lnk.get q).byteTimer = (s.lnk.get q).byteTimer) ∧
    (∀ q, ((releaseWaiting s).lnk.get q).resyncTimer = (s.lnk.get q).resyncTimer) ∧
    (∀ q, ((releaseWaiting s).lnk.get q).outbox = (s.lnk.get q).outbox) ∧
    (∀ q, ((releaseWaiting s).lnk.get q).reserved = (s.lnk.get q).reserved) ∧
    (∀ q, ((releaseWaiting s).lnk.get q).txFifo = (s.lnk.get q).txFifo) ∧
    (∀ q, ((releaseWaiting s).lnk.get q).txLine = (s.lnk.get q).txLine) ∧
    (∀ q, ((releaseWaiting s).lnk.get q).driving = (s.lnk.get q).driving) ∧
    (∀ q, ((releaseWaiting s).lnk.get q).rdyMode = (s.lnk.get q).rdyMode) ∧
    (∀ q, ((releaseWaiting s).lnk.get q).threshold = (s.lnk.get q).threshold) ∧
    (∀ q, ((releaseWaiting s).lnk.get q).ctsGating = (s.lnk.get q).ctsGating) ∧
    (∀ q, ((releaseWaiting s).lnk.get q).gap = (s.lnk.get q).gap) ∧
    (∀ q, ((releaseWaiting s).lnk.get q).flags = (s.lnk.get q).flags) ∧
    (∀ q, ((releaseWaiting s).lnk.get q).cts = (s.lnk.get q).cts) ∧
    (∀ q, ((releaseWaiting s).lnk.get q).outstanding = (s.lnk.get q).outstanding) := by
  unfold releaseWaiting
  (repeat' split) <;> simp <;> (repeat' apply And.intro) <;> intro q <;> cases q <;> rfl

@[simp] theorem finish_frame (w : Ctx) :
    (finish w).pending = w.st.pending ∧ (finish w).freeCount = w.st.freeCount ∧ (finish w).lensRead = w.st.lensRead ∧
    (finish w).resetHeld = w.st.resetHeld ∧ (finish w).unitAddress = w.st.unitAddress ∧ (finish w).pins = w.st.pins ∧
    (finish w).mkd = w.st.mkd ∧ (finish w).rqt = w.st.rqt ∧ (finish w).trc.roll = w.st.trc.roll ∧
    (finish w).trc.profile = w.st.trc.profile ∧ (finish w).trc.counter = w.st.trc.counter ∧
    (finish w).trc.endPos = w.st.trc.endPos ∧ (finish w).trc.overrun = w.st.trc.overrun ∧
    (finish w).trc.motion = w.st.trc.motion ∧ (finish w).trc.travelDir = w.st.trc.travelDir ∧
    (finish w).trc.speed = w.st.trc.speed ∧ (finish w).trc.move = w.st.trc.move ∧
    (finish w).trc.epoch = w.st.trc.epoch ∧ (finish w).trc.verified = w.st.trc.verified ∧
    (finish w).trc.slip = w.st.trc.slip ∧ (finish w).trc.cause = w.st.trc.cause ∧
    (finish w).trc.retension = w.st.trc.retension ∧ (finish w).trc.parkDelay = w.st.trc.parkDelay ∧
    (finish w).trc.wakeDelay = w.st.trc.wakeDelay ∧ (finish w).trc.wakeFor = w.st.trc.wakeFor ∧
    (finish w).fit = w.st.fit ∧ (finish w).fcc = w.st.fcc ∧ (finish w).gtu.inHand = w.st.gtu.inHand ∧
    (finish w).gtu.presentation = w.st.gtu.presentation ∧ (finish w).gtu.hold = w.st.gtu.hold ∧
    (finish w).gtu.exposure = w.st.gtu.exposure ∧ (finish w).gtu.trig = w.st.gtu.trig ∧
    (finish w).gtu.route = w.st.gtu.route ∧ (finish w).gtu.watches = w.st.gtu.watches ∧
    (finish w).gtu.heldReport = w.st.gtu.heldReport ∧ (finish w).ntu.levels = w.st.ntu.levels ∧
    (∀ q, ((finish w).lnk.get q).rx = (w.st.lnk.get q).rx) ∧
    (∀ q, ((finish w).lnk.get q).part = (w.st.lnk.get q).part) ∧
    (∀ q, ((finish w).lnk.get q).inbox = (w.st.lnk.get q).inbox) ∧
    (∀ q, ((finish w).lnk.get q).awaitMark = (w.st.lnk.get q).awaitMark) ∧
    (∀ q, ((finish w).lnk.get q).byteTimer = (w.st.lnk.get q).byteTimer) ∧
    (∀ q, ((finish w).lnk.get q).resyncTimer = (w.st.lnk.get q).resyncTimer) ∧
    (∀ q, ((finish w).lnk.get q).reserved = (w.st.lnk.get q).reserved) ∧
    (∀ q, ((finish w).lnk.get q).txFifo = (w.st.lnk.get q).txFifo) ∧
    (∀ q, ((finish w).lnk.get q).txLine = (w.st.lnk.get q).txLine) ∧
    (∀ q, ((finish w).lnk.get q).driving = (w.st.lnk.get q).driving) ∧
    (∀ q, ((finish w).lnk.get q).rdyMode = (w.st.lnk.get q).rdyMode) ∧
    (∀ q, ((finish w).lnk.get q).threshold = (w.st.lnk.get q).threshold) ∧
    (∀ q, ((finish w).lnk.get q).ctsGating = (w.st.lnk.get q).ctsGating) ∧
    (∀ q, ((finish w).lnk.get q).gap = (w.st.lnk.get q).gap) ∧
    (∀ q, ((finish w).lnk.get q).cts = (w.st.lnk.get q).cts) ∧
    (∀ q, ((finish w).lnk.get q).outstanding = (w.st.lnk.get q).outstanding) := by
  simp [finish]

end Sys2Proof.Machine
end

