-- ==== Sys2Proof/Laws/FrameRequests.lean ====
section
/-! SUPPORT. What each operation of the accepted requests leaves unchanged: one frame for each, which later proofs cite instead of
unfolding it. -/

namespace Sys2Proof.Machine

@[simp] theorem finishQuiet_frame (w : Ctx) :
    (finishQuiet w).pending = w.st.pending ∧ (finishQuiet w).freeCount = w.st.freeCount ∧
    (finishQuiet w).lensRead = w.st.lensRead ∧
    (finishQuiet w).resetHeld = w.st.resetHeld ∧ (finishQuiet w).unitAddress = w.st.unitAddress ∧
    (finishQuiet w).pins = w.st.pins ∧ (finishQuiet w).mkd = w.st.mkd ∧ (finishQuiet w).rqt = w.st.rqt ∧
    (finishQuiet w).trc = w.st.trc ∧ (finishQuiet w).fit = w.st.fit ∧ (finishQuiet w).fcc = w.st.fcc ∧
    (finishQuiet w).gtu = w.st.gtu ∧ (finishQuiet w).ntu.levels = w.st.ntu.levels ∧
    (∀ q, ((finishQuiet w).lnk.get q).rx = (w.st.lnk.get q).rx) ∧
    (∀ q, ((finishQuiet w).lnk.get q).part = (w.st.lnk.get q).part) ∧
    (∀ q, ((finishQuiet w).lnk.get q).inbox = (w.st.lnk.get q).inbox) ∧
    (∀ q, ((finishQuiet w).lnk.get q).awaitMark = (w.st.lnk.get q).awaitMark) ∧
    (∀ q, ((finishQuiet w).lnk.get q).byteTimer = (w.st.lnk.get q).byteTimer) ∧
    (∀ q, ((finishQuiet w).lnk.get q).resyncTimer = (w.st.lnk.get q).resyncTimer) ∧
    (∀ q, ((finishQuiet w).lnk.get q).reserved = (w.st.lnk.get q).reserved) ∧
    (∀ q, ((finishQuiet w).lnk.get q).txFifo = (w.st.lnk.get q).txFifo) ∧
    (∀ q, ((finishQuiet w).lnk.get q).txLine = (w.st.lnk.get q).txLine) ∧
    (∀ q, ((finishQuiet w).lnk.get q).driving = (w.st.lnk.get q).driving) ∧
    (∀ q, ((finishQuiet w).lnk.get q).rdyMode = (w.st.lnk.get q).rdyMode) ∧
    (∀ q, ((finishQuiet w).lnk.get q).threshold = (w.st.lnk.get q).threshold) ∧
    (∀ q, ((finishQuiet w).lnk.get q).ctsGating = (w.st.lnk.get q).ctsGating) ∧
    (∀ q, ((finishQuiet w).lnk.get q).gap = (w.st.lnk.get q).gap) ∧
    (∀ q, ((finishQuiet w).lnk.get q).cts = (w.st.lnk.get q).cts) ∧
    (∀ q, ((finishQuiet w).lnk.get q).outstanding = (w.st.lnk.get q).outstanding) := by
  simp [finishQuiet]

@[simp] theorem refuse_frame (e : Env) (st : Status) (results : List Byte) (s : State) :
    (refuse e st results s).pending = s.pending ∧ (refuse e st results s).freeCount = s.freeCount ∧
    (refuse e st results s).lensRead = s.lensRead ∧
    (refuse e st results s).resetHeld = s.resetHeld ∧ (refuse e st results s).unitAddress = s.unitAddress ∧
    (refuse e st results s).pins = s.pins ∧ (refuse e st results s).mkd = s.mkd ∧
    (refuse e st results s).rqt = s.rqt ∧ (refuse e st results s).trc = s.trc ∧ (refuse e st results s).fit = s.fit ∧
    (refuse e st results s).fcc = s.fcc ∧ (refuse e st results s).gtu = s.gtu ∧
    (refuse e st results s).ntu.levels = s.ntu.levels ∧
    (∀ q, ((refuse e st results s).lnk.get q).rx = (s.lnk.get q).rx) ∧
    (∀ q, ((refuse e st results s).lnk.get q).part = (s.lnk.get q).part) ∧
    (∀ q, ((refuse e st results s).lnk.get q).inbox = (s.lnk.get q).inbox) ∧
    (∀ q, ((refuse e st results s).lnk.get q).awaitMark = (s.lnk.get q).awaitMark) ∧
    (∀ q, ((refuse e st results s).lnk.get q).byteTimer = (s.lnk.get q).byteTimer) ∧
    (∀ q, ((refuse e st results s).lnk.get q).resyncTimer = (s.lnk.get q).resyncTimer) ∧
    (∀ q, ((refuse e st results s).lnk.get q).reserved = (s.lnk.get q).reserved) ∧
    (∀ q, ((refuse e st results s).lnk.get q).txFifo = (s.lnk.get q).txFifo) ∧
    (∀ q, ((refuse e st results s).lnk.get q).txLine = (s.lnk.get q).txLine) ∧
    (∀ q, ((refuse e st results s).lnk.get q).driving = (s.lnk.get q).driving) ∧
    (∀ q, ((refuse e st results s).lnk.get q).rdyMode = (s.lnk.get q).rdyMode) ∧
    (∀ q, ((refuse e st results s).lnk.get q).threshold = (s.lnk.get q).threshold) ∧
    (∀ q, ((refuse e st results s).lnk.get q).ctsGating = (s.lnk.get q).ctsGating) ∧
    (∀ q, ((refuse e st results s).lnk.get q).gap = (s.lnk.get q).gap) ∧
    (∀ q, ((refuse e st results s).lnk.get q).cts = (s.lnk.get q).cts) ∧
    (∀ q, ((refuse e st results s).lnk.get q).outstanding = (s.lnk.get q).outstanding) := by
  simp [refuse]

@[simp] theorem reserve_frame (p : Port) (s : State) :
    (reserve p s).pending = s.pending ∧ (reserve p s).freeCount = s.freeCount ∧ (reserve p s).lensRead = s.lensRead ∧
    (reserve p s).resetHeld = s.resetHeld ∧ (reserve p s).unitAddress = s.unitAddress ∧ (reserve p s).pins = s.pins ∧
    (reserve p s).mkd = s.mkd ∧ (reserve p s).rqt = s.rqt ∧ (reserve p s).trc = s.trc ∧ (reserve p s).fit = s.fit ∧
    (reserve p s).fcc = s.fcc ∧ (reserve p s).gtu = s.gtu ∧ (reserve p s).ntu = s.ntu ∧
    (∀ q, ((reserve p s).lnk.get q).rx = (s.lnk.get q).rx) ∧
    (∀ q, ((reserve p s).lnk.get q).part = (s.lnk.get q).part) ∧
    (∀ q, ((reserve p s).lnk.get q).inbox = (s.lnk.get q).inbox) ∧
    (∀ q, ((reserve p s).lnk.get q).awaitMark = (s.lnk.get q).awaitMark) ∧
    (∀ q, ((reserve p s).lnk.get q).byteTimer = (s.lnk.get q).byteTimer) ∧
    (∀ q, ((reserve p s).lnk.get q).resyncTimer = (s.lnk.get q).resyncTimer) ∧
    (∀ q, ((reserve p s).lnk.get q).outbox = (s.lnk.get q).outbox) ∧
    (∀ q, ((reserve p s).lnk.get q).released = (s.lnk.get q).released) ∧
    (∀ q, ((reserve p s).lnk.get q).txFifo = (s.lnk.get q).txFifo) ∧
    (∀ q, ((reserve p s).lnk.get q).txLine = (s.lnk.get q).txLine) ∧
    (∀ q, ((reserve p s).lnk.get q).driving = (s.lnk.get q).driving) ∧
    (∀ q, ((reserve p s).lnk.get q).rdyMode = (s.lnk.get q).rdyMode) ∧
    (∀ q, ((reserve p s).lnk.get q).threshold = (s.lnk.get q).threshold) ∧
    (∀ q, ((reserve p s).lnk.get q).ctsGating = (s.lnk.get q).ctsGating) ∧
    (∀ q, ((reserve p s).lnk.get q).gap = (s.lnk.get q).gap) ∧
    (∀ q, ((reserve p s).lnk.get q).flags = (s.lnk.get q).flags) ∧
    (∀ q, ((reserve p s).lnk.get q).cts = (s.lnk.get q).cts) ∧
    (∀ q, ((reserve p s).lnk.get q).outstanding = (s.lnk.get q).outstanding) := by
  simp [reserve]
  (repeat' apply And.intro) <;> intro q <;> split <;> simp_all

@[simp] theorem reserveTimed_frame (e : Env) (k : TimedKind) (s : State) :
    (reserveTimed e k s).pending = s.pending ∧ (reserveTimed e k s).freeCount = s.freeCount ∧
    (reserveTimed e k s).lensRead = s.lensRead ∧
    (reserveTimed e k s).resetHeld = s.resetHeld ∧ (reserveTimed e k s).unitAddress = s.unitAddress ∧
    (reserveTimed e k s).pins = s.pins ∧ (reserveTimed e k s).mkd = s.mkd ∧ (reserveTimed e k s).rqt = s.rqt ∧
    (reserveTimed e k s).trc = s.trc ∧ (reserveTimed e k s).fit = s.fit ∧ (reserveTimed e k s).fcc = s.fcc ∧
    (reserveTimed e k s).gtu = s.gtu ∧ (reserveTimed e k s).ntu = s.ntu ∧
    (∀ q, ((reserveTimed e k s).lnk.get q).rx = (s.lnk.get q).rx) ∧
    (∀ q, ((reserveTimed e k s).lnk.get q).part = (s.lnk.get q).part) ∧
    (∀ q, ((reserveTimed e k s).lnk.get q).inbox = (s.lnk.get q).inbox) ∧
    (∀ q, ((reserveTimed e k s).lnk.get q).awaitMark = (s.lnk.get q).awaitMark) ∧
    (∀ q, ((reserveTimed e k s).lnk.get q).byteTimer = (s.lnk.get q).byteTimer) ∧
    (∀ q, ((reserveTimed e k s).lnk.get q).resyncTimer = (s.lnk.get q).resyncTimer) ∧
    (∀ q, ((reserveTimed e k s).lnk.get q).outbox = (s.lnk.get q).outbox) ∧
    (∀ q, ((reserveTimed e k s).lnk.get q).released = (s.lnk.get q).released) ∧
    (∀ q, ((reserveTimed e k s).lnk.get q).txFifo = (s.lnk.get q).txFifo) ∧
    (∀ q, ((reserveTimed e k s).lnk.get q).txLine = (s.lnk.get q).txLine) ∧
    (∀ q, ((reserveTimed e k s).lnk.get q).driving = (s.lnk.get q).driving) ∧
    (∀ q, ((reserveTimed e k s).lnk.get q).rdyMode = (s.lnk.get q).rdyMode) ∧
    (∀ q, ((reserveTimed e k s).lnk.get q).threshold = (s.lnk.get q).threshold) ∧
    (∀ q, ((reserveTimed e k s).lnk.get q).ctsGating = (s.lnk.get q).ctsGating) ∧
    (∀ q, ((reserveTimed e k s).lnk.get q).gap = (s.lnk.get q).gap) ∧
    (∀ q, ((reserveTimed e k s).lnk.get q).flags = (s.lnk.get q).flags) ∧
    (∀ q, ((reserveTimed e k s).lnk.get q).cts = (s.lnk.get q).cts) := by
  simp [reserveTimed]
  (repeat' apply And.intro) <;> intro q <;> split <;> simp_all

@[simp] theorem completeEachOnly_frame (o : OutcomeCode) (l : List Record) (w : Ctx) :
    (completeEachOnly o l w).st.pending = w.st.pending ∧ (completeEachOnly o l w).st.freeCount = w.st.freeCount ∧
    (completeEachOnly o l w).st.lensRead = w.st.lensRead ∧
    (completeEachOnly o l w).st.resetHeld = w.st.resetHeld ∧
    (completeEachOnly o l w).st.unitAddress = w.st.unitAddress ∧ (completeEachOnly o l w).st.pins = w.st.pins ∧
    (completeEachOnly o l w).st.mkd = w.st.mkd ∧ (completeEachOnly o l w).st.rqt.run = w.st.rqt.run ∧
    (completeEachOnly o l w).st.rqt.arrival = w.st.rqt.arrival ∧
    (completeEachOnly o l w).st.rqt.halted = w.st.rqt.halted ∧
    (completeEachOnly o l w).st.rqt.stopReason = w.st.rqt.stopReason ∧ (completeEachOnly o l w).st.trc = w.st.trc ∧
    (completeEachOnly o l w).st.fit = w.st.fit ∧ (completeEachOnly o l w).st.fcc = w.st.fcc ∧
    (completeEachOnly o l w).st.gtu = w.st.gtu ∧ (completeEachOnly o l w).st.ntu.ports = w.st.ntu.ports ∧
    (∀ q, ((completeEachOnly o l w).st.lnk.get q).rx = (w.st.lnk.get q).rx) ∧
    (∀ q, ((completeEachOnly o l w).st.lnk.get q).part = (w.st.lnk.get q).part) ∧
    (∀ q, ((completeEachOnly o l w).st.lnk.get q).inbox = (w.st.lnk.get q).inbox) ∧
    (∀ q, ((completeEachOnly o l w).st.lnk.get q).awaitMark = (w.st.lnk.get q).awaitMark) ∧
    (∀ q, ((completeEachOnly o l w).st.lnk.get q).byteTimer = (w.st.lnk.get q).byteTimer) ∧
    (∀ q, ((completeEachOnly o l w).st.lnk.get q).resyncTimer = (w.st.lnk.get q).resyncTimer) ∧
    (∀ q, ((completeEachOnly o l w).st.lnk.get q).outbox = (w.st.lnk.get q).outbox) ∧
    (∀ q, ((completeEachOnly o l w).st.lnk.get q).released = (w.st.lnk.get q).released) ∧
    (∀ q, ((completeEachOnly o l w).st.lnk.get q).txFifo = (w.st.lnk.get q).txFifo) ∧
    (∀ q, ((completeEachOnly o l w).st.lnk.get q).txLine = (w.st.lnk.get q).txLine) ∧
    (∀ q, ((completeEachOnly o l w).st.lnk.get q).driving = (w.st.lnk.get q).driving) ∧
    (∀ q, ((completeEachOnly o l w).st.lnk.get q).rdyMode = (w.st.lnk.get q).rdyMode) ∧
    (∀ q, ((completeEachOnly o l w).st.lnk.get q).threshold = (w.st.lnk.get q).threshold) ∧
    (∀ q, ((completeEachOnly o l w).st.lnk.get q).ctsGating = (w.st.lnk.get q).ctsGating) ∧
    (∀ q, ((completeEachOnly o l w).st.lnk.get q).gap = (w.st.lnk.get q).gap) ∧
    (∀ q, ((completeEachOnly o l w).st.lnk.get q).flags = (w.st.lnk.get q).flags) ∧
    (∀ q, ((completeEachOnly o l w).st.lnk.get q).cts = (w.st.lnk.get q).cts) ∧
    (∀ q, ((completeEachOnly o l w).st.lnk.get q).outstanding = (w.st.lnk.get q).outstanding) := by
  unfold completeEachOnly
  induction l generalizing w with
  | nil => simp
  | cons a l ih => simp [List.foldl_cons, ih]

@[simp] theorem unloadWork_frame (w : Ctx) :
    (unloadWork w).st.pending = w.st.pending ∧ (unloadWork w).st.freeCount = w.st.freeCount ∧
    (unloadWork w).st.lensRead = w.st.lensRead ∧
    (unloadWork w).st.resetHeld = w.st.resetHeld ∧ (unloadWork w).st.unitAddress = w.st.unitAddress ∧
    (unloadWork w).st.pins = w.st.pins ∧ (unloadWork w).st.mkd = w.st.mkd ∧
    (unloadWork w).st.rqt.arrival = w.st.rqt.arrival ∧ (unloadWork w).st.rqt.halted = w.st.rqt.halted ∧
    (unloadWork w).st.rqt.stopReason = w.st.rqt.stopReason ∧ (unloadWork w).st.trc = w.st.trc ∧
    (unloadWork w).st.fit = w.st.fit ∧ (unloadWork w).st.fcc = w.st.fcc ∧ (unloadWork w).st.gtu = w.st.gtu ∧
    (unloadWork w).st.ntu.ports = w.st.ntu.ports ∧ (∀ q, ((unloadWork w).st.lnk.get q).rx = (w.st.lnk.get q).rx) ∧
    (∀ q, ((unloadWork w).st.lnk.get q).part = (w.st.lnk.get q).part) ∧
    (∀ q, ((unloadWork w).st.lnk.get q).inbox = (w.st.lnk.get q).inbox) ∧
    (∀ q, ((unloadWork w).st.lnk.get q).awaitMark = (w.st.lnk.get q).awaitMark) ∧
    (∀ q, ((unloadWork w).st.lnk.get q).byteTimer = (w.st.lnk.get q).byteTimer) ∧
    (∀ q, ((unloadWork w).st.lnk.get q).resyncTimer = (w.st.lnk.get q).resyncTimer) ∧
    (∀ q, ((unloadWork w).st.lnk.get q).outbox = (w.st.lnk.get q).outbox) ∧
    (∀ q, ((unloadWork w).st.lnk.get q).released = (w.st.lnk.get q).released) ∧
    (∀ q, ((unloadWork w).st.lnk.get q).txFifo = (w.st.lnk.get q).txFifo) ∧
    (∀ q, ((unloadWork w).st.lnk.get q).txLine = (w.st.lnk.get q).txLine) ∧
    (∀ q, ((unloadWork w).st.lnk.get q).driving = (w.st.lnk.get q).driving) ∧
    (∀ q, ((unloadWork w).st.lnk.get q).rdyMode = (w.st.lnk.get q).rdyMode) ∧
    (∀ q, ((unloadWork w).st.lnk.get q).threshold = (w.st.lnk.get q).threshold) ∧
    (∀ q, ((unloadWork w).st.lnk.get q).ctsGating = (w.st.lnk.get q).ctsGating) ∧
    (∀ q, ((unloadWork w).st.lnk.get q).gap = (w.st.lnk.get q).gap) ∧
    (∀ q, ((unloadWork w).st.lnk.get q).flags = (w.st.lnk.get q).flags) ∧
    (∀ q, ((unloadWork w).st.lnk.get q).cts = (w.st.lnk.get q).cts) ∧
    (∀ q, ((unloadWork w).st.lnk.get q).outstanding = (w.st.lnk.get q).outstanding) := by
  unfold unloadWork
  split <;> simp

@[simp] theorem unloadClear_frame (s : State) :
    (unloadClear s).pending = s.pending ∧ (unloadClear s).freeCount = s.freeCount ∧
    (unloadClear s).lensRead = s.lensRead ∧
    (unloadClear s).resetHeld = s.resetHeld ∧ (unloadClear s).unitAddress = s.unitAddress ∧
    (unloadClear s).pins = s.pins ∧ (unloadClear s).rqt.records = s.rqt.records ∧
    (unloadClear s).rqt.run = s.rqt.run ∧ (unloadClear s).rqt.arrival = s.rqt.arrival ∧
    (unloadClear s).rqt.halted = s.rqt.halted ∧ (unloadClear s).trc.profile = s.trc.profile ∧
    (unloadClear s).trc.counter = s.trc.counter ∧ (unloadClear s).trc.endPos = s.trc.endPos ∧
    (unloadClear s).trc.overrun = s.trc.overrun ∧ (unloadClear s).trc.motion = s.trc.motion ∧
    (unloadClear s).trc.travelDir = s.trc.travelDir ∧ (unloadClear s).trc.speed = s.trc.speed ∧
    (unloadClear s).trc.move = s.trc.move ∧ (unloadClear s).trc.epoch = s.trc.epoch ∧
    (unloadClear s).trc.verified = s.trc.verified ∧ (unloadClear s).trc.cause = s.trc.cause ∧
    (unloadClear s).trc.retension = s.trc.retension ∧ (unloadClear s).trc.parkDelay = s.trc.parkDelay ∧
    (unloadClear s).trc.wakeDelay = s.trc.wakeDelay ∧ (unloadClear s).trc.wakeFor = s.trc.wakeFor ∧
    (unloadClear s).trc.timers = s.trc.timers ∧ (unloadClear s).fit.p256 = s.fit.p256 ∧
    (unloadClear s).fcc.lens = s.fcc.lens ∧ (unloadClear s).fcc.stage = s.fcc.stage ∧
    (unloadClear s).gtu.exposure = s.gtu.exposure ∧ (unloadClear s).gtu.trig = s.gtu.trig ∧
    (unloadClear s).gtu.route = s.gtu.route ∧ (unloadClear s).ntu = s.ntu ∧ (unloadClear s).lnk = s.lnk := by
  simp [unloadClear]

@[simp] theorem makeRecord_frame (e : Env) (work : Work) (cls : Nat) (w : Ctx) :
    (makeRecord e work cls w).st.pending = w.st.pending ∧ (makeRecord e work cls w).st.freeCount = w.st.freeCount ∧
    (makeRecord e work cls w).st.lensRead = w.st.lensRead ∧
    (makeRecord e work cls w).st.resetHeld = w.st.resetHeld ∧
    (makeRecord e work cls w).st.unitAddress = w.st.unitAddress ∧ (makeRecord e work cls w).st.pins = w.st.pins ∧
    (makeRecord e work cls w).st.mkd = w.st.mkd ∧ (makeRecord e work cls w).st.rqt.run = w.st.rqt.run ∧
    (makeRecord e work cls w).st.rqt.halted = w.st.rqt.halted ∧
    (makeRecord e work cls w).st.rqt.grant = w.st.rqt.grant ∧
    (makeRecord e work cls w).st.rqt.stopReason = w.st.rqt.stopReason ∧
    (makeRecord e work cls w).st.trc.roll = w.st.trc.roll ∧
    (makeRecord e work cls w).st.trc.profile = w.st.trc.profile ∧
    (makeRecord e work cls w).st.trc.counter = w.st.trc.counter ∧
    (makeRecord e work cls w).st.trc.endPos = w.st.trc.endPos ∧
    (makeRecord e work cls w).st.trc.overrun = w.st.trc.overrun ∧
    (makeRecord e work cls w).st.trc.motion = w.st.trc.motion ∧
    (makeRecord e work cls w).st.trc.travelDir = w.st.trc.travelDir ∧
    (makeRecord e work cls w).st.trc.speed = w.st.trc.speed ∧ (makeRecord e work cls w).st.trc.move = w.st.trc.move ∧
    (makeRecord e work cls w).st.trc.epoch = w.st.trc.epoch ∧
    (makeRecord e work cls w).st.trc.verified = w.st.trc.verified ∧
    (makeRecord e work cls w).st.trc.slip = w.st.trc.slip ∧ (makeRecord e work cls w).st.trc.cause = w.st.trc.cause ∧
    (makeRecord e work cls w).st.trc.retension = w.st.trc.retension ∧
    (makeRecord e work cls w).st.trc.parkDelay = w.st.trc.parkDelay ∧
    (makeRecord e work cls w).st.trc.wakeDelay = w.st.trc.wakeDelay ∧
    (makeRecord e work cls w).st.trc.wakeFor = w.st.trc.wakeFor ∧ (makeRecord e work cls w).st.fit = w.st.fit ∧
    (makeRecord e work cls w).st.fcc = w.st.fcc ∧ (makeRecord e work cls w).st.gtu = w.st.gtu ∧
    (makeRecord e work cls w).st.ntu.ports = w.st.ntu.ports ∧ (makeRecord e work cls w).st.lnk = w.st.lnk := by
  simp [makeRecord]

@[simp] theorem deferCancel_frame (s : State) :
    (deferCancel s).pending = s.pending ∧ (deferCancel s).freeCount = s.freeCount ∧
    (deferCancel s).lensRead = s.lensRead ∧
    (deferCancel s).resetHeld = s.resetHeld ∧ (deferCancel s).unitAddress = s.unitAddress ∧
    (deferCancel s).pins = s.pins ∧ (deferCancel s).mkd = s.mkd ∧ (deferCancel s).rqt = s.rqt ∧
    (deferCancel s).trc = s.trc ∧ (deferCancel s).fit = s.fit ∧ (deferCancel s).fcc = s.fcc ∧
    (deferCancel s).gtu.phase = s.gtu.phase ∧ (deferCancel s).gtu.inHand = s.gtu.inHand ∧
    (deferCancel s).gtu.hold = s.gtu.hold ∧ (deferCancel s).gtu.exposure = s.gtu.exposure ∧
    (deferCancel s).gtu.trig = s.gtu.trig ∧ (deferCancel s).gtu.route = s.gtu.route ∧
    (deferCancel s).gtu.watches = s.gtu.watches ∧ (deferCancel s).gtu.heldReport = s.gtu.heldReport ∧
    (deferCancel s).ntu = s.ntu ∧ (deferCancel s).lnk = s.lnk := by
  simp [deferCancel]

@[simp] theorem endGrantWork_frame (w : Ctx) :
    (endGrantWork w).st.pending = w.st.pending ∧ (endGrantWork w).st.freeCount = w.st.freeCount ∧
    (endGrantWork w).st.lensRead = w.st.lensRead ∧
    (endGrantWork w).st.resetHeld = w.st.resetHeld ∧ (endGrantWork w).st.unitAddress = w.st.unitAddress ∧
    (endGrantWork w).st.pins = w.st.pins ∧ (endGrantWork w).st.mkd = w.st.mkd ∧
    (endGrantWork w).st.rqt.arrival = w.st.rqt.arrival ∧ (endGrantWork w).st.rqt.halted = w.st.rqt.halted ∧
    (endGrantWork w).st.trc.roll = w.st.trc.roll ∧ (endGrantWork w).st.trc.profile = w.st.trc.profile ∧
    (endGrantWork w).st.trc.counter = w.st.trc.counter ∧ (endGrantWork w).st.trc.endPos = w.st.trc.endPos ∧
    (endGrantWork w).st.trc.overrun = w.st.trc.overrun ∧ (endGrantWork w).st.trc.travelDir = w.st.trc.travelDir ∧
    (endGrantWork w).st.trc.epoch = w.st.trc.epoch ∧ (endGrantWork w).st.trc.parkDelay = w.st.trc.parkDelay ∧
    (endGrantWork w).st.trc.wakeDelay = w.st.trc.wakeDelay ∧ (endGrantWork w).st.trc.wakeFor = w.st.trc.wakeFor ∧
    (endGrantWork w).st.trc.timers = w.st.trc.timers ∧ (endGrantWork w).st.fit.entries = w.st.fit.entries ∧
    (endGrantWork w).st.fit.index = w.st.fit.index ∧ (endGrantWork w).st.fit.p256 = w.st.fit.p256 ∧
    (endGrantWork w).st.fit.splice = w.st.fit.splice ∧ (endGrantWork w).st.fcc.lens = w.st.fcc.lens ∧
    (endGrantWork w).st.fcc.stage = w.st.fcc.stage ∧ (endGrantWork w).st.fcc.lines = w.st.fcc.lines ∧
    (endGrantWork w).st.fcc.lru = w.st.fcc.lru ∧ (endGrantWork w).st.gtu.route = w.st.gtu.route ∧
    (endGrantWork w).st.ntu.ports = w.st.ntu.ports ∧
    (∀ q, ((endGrantWork w).st.lnk.get q).rx = (w.st.lnk.get q).rx) ∧
    (∀ q, ((endGrantWork w).st.lnk.get q).part = (w.st.lnk.get q).part) ∧
    (∀ q, ((endGrantWork w).st.lnk.get q).inbox = (w.st.lnk.get q).inbox) ∧
    (∀ q, ((endGrantWork w).st.lnk.get q).awaitMark = (w.st.lnk.get q).awaitMark) ∧
    (∀ q, ((endGrantWork w).st.lnk.get q).byteTimer = (w.st.lnk.get q).byteTimer) ∧
    (∀ q, ((endGrantWork w).st.lnk.get q).resyncTimer = (w.st.lnk.get q).resyncTimer) ∧
    (∀ q, ((endGrantWork w).st.lnk.get q).outbox = (w.st.lnk.get q).outbox) ∧
    (∀ q, ((endGrantWork w).st.lnk.get q).released = (w.st.lnk.get q).released) ∧
    (∀ q, ((endGrantWork w).st.lnk.get q).txFifo = (w.st.lnk.get q).txFifo) ∧
    (∀ q, ((endGrantWork w).st.lnk.get q).txLine = (w.st.lnk.get q).txLine) ∧
    (∀ q, ((endGrantWork w).st.lnk.get q).driving = (w.st.lnk.get q).driving) ∧
    (∀ q, ((endGrantWork w).st.lnk.get q).rdyMode = (w.st.lnk.get q).rdyMode) ∧
    (∀ q, ((endGrantWork w).st.lnk.get q).threshold = (w.st.lnk.get q).threshold) ∧
    (∀ q, ((endGrantWork w).st.lnk.get q).ctsGating = (w.st.lnk.get q).ctsGating) ∧
    (∀ q, ((endGrantWork w).st.lnk.get q).gap = (w.st.lnk.get q).gap) ∧
    (∀ q, ((endGrantWork w).st.lnk.get q).flags = (w.st.lnk.get q).flags) ∧
    (∀ q, ((endGrantWork w).st.lnk.get q).cts = (w.st.lnk.get q).cts) := by
  unfold endGrantWork
  dsimp only
  repeat' split
  all_goals simp

@[simp] theorem cancelRecord_completeRecord_frame (r : Record) (w : Ctx) :
    (cancelRecord completeRecord r w).st.pending = w.st.pending ∧
    (cancelRecord completeRecord r w).st.freeCount = w.st.freeCount ∧
    (cancelRecord completeRecord r w).st.lensRead = w.st.lensRead ∧
    (cancelRecord completeRecord r w).st.resetHeld = w.st.resetHeld ∧
    (cancelRecord completeRecord r w).st.unitAddress = w.st.unitAddress ∧
    (cancelRecord completeRecord r w).st.pins = w.st.pins ∧ (cancelRecord completeRecord r w).st.mkd = w.st.mkd ∧
    (cancelRecord completeRecord r w).st.rqt.arrival = w.st.rqt.arrival ∧
    (cancelRecord completeRecord r w).st.rqt.halted = w.st.rqt.halted ∧
    (cancelRecord completeRecord r w).st.trc.roll = w.st.trc.roll ∧
    (cancelRecord completeRecord r w).st.trc.profile = w.st.trc.profile ∧
    (cancelRecord completeRecord r w).st.trc.counter = w.st.trc.counter ∧
    (cancelRecord completeRecord r w).st.trc.endPos = w.st.trc.endPos ∧
    (cancelRecord completeRecord r w).st.trc.overrun = w.st.trc.overrun ∧
    (cancelRecord completeRecord r w).st.trc.travelDir = w.st.trc.travelDir ∧
    (cancelRecord completeRecord r w).st.trc.epoch = w.st.trc.epoch ∧
    (cancelRecord completeRecord r w).st.trc.parkDelay = w.st.trc.parkDelay ∧
    (cancelRecord completeRecord r w).st.trc.wakeDelay = w.st.trc.wakeDelay ∧
    (cancelRecord completeRecord r w).st.trc.wakeFor = w.st.trc.wakeFor ∧
    (cancelRecord completeRecord r w).st.trc.timers = w.st.trc.timers ∧
    (cancelRecord completeRecord r w).st.fit.entries = w.st.fit.entries ∧
    (cancelRecord completeRecord r w).st.fit.index = w.st.fit.index ∧
    (cancelRecord completeRecord r w).st.fit.p256 = w.st.fit.p256 ∧
    (cancelRecord completeRecord r w).st.fit.splice = w.st.fit.splice ∧
    (cancelRecord completeRecord r w).st.fcc.lens = w.st.fcc.lens ∧
    (cancelRecord completeRecord r w).st.fcc.stage = w.st.fcc.stage ∧
    (cancelRecord completeRecord r w).st.fcc.lines = w.st.fcc.lines ∧
    (cancelRecord completeRecord r w).st.fcc.lru = w.st.fcc.lru ∧
    (cancelRecord completeRecord r w).st.gtu.route = w.st.gtu.route ∧
    (cancelRecord completeRecord r w).st.ntu.ports = w.st.ntu.ports ∧
    (∀ q, ((cancelRecord completeRecord r w).st.lnk.get q).rx = (w.st.lnk.get q).rx) ∧
    (∀ q, ((cancelRecord completeRecord r w).st.lnk.get q).part = (w.st.lnk.get q).part) ∧
    (∀ q, ((cancelRecord completeRecord r w).st.lnk.get q).inbox = (w.st.lnk.get q).inbox) ∧
    (∀ q, ((cancelRecord completeRecord r w).st.lnk.get q).awaitMark = (w.st.lnk.get q).awaitMark) ∧
    (∀ q, ((cancelRecord completeRecord r w).st.lnk.get q).byteTimer = (w.st.lnk.get q).byteTimer) ∧
    (∀ q, ((cancelRecord completeRecord r w).st.lnk.get q).resyncTimer = (w.st.lnk.get q).resyncTimer) ∧
    (∀ q, ((cancelRecord completeRecord r w).st.lnk.get q).outbox = (w.st.lnk.get q).outbox) ∧
    (∀ q, ((cancelRecord completeRecord r w).st.lnk.get q).released = (w.st.lnk.get q).released) ∧
    (∀ q, ((cancelRecord completeRecord r w).st.lnk.get q).txFifo = (w.st.lnk.get q).txFifo) ∧
    (∀ q, ((cancelRecord completeRecord r w).st.lnk.get q).txLine = (w.st.lnk.get q).txLine) ∧
    (∀ q, ((cancelRecord completeRecord r w).st.lnk.get q).driving = (w.st.lnk.get q).driving) ∧
    (∀ q, ((cancelRecord completeRecord r w).st.lnk.get q).rdyMode = (w.st.lnk.get q).rdyMode) ∧
    (∀ q, ((cancelRecord completeRecord r w).st.lnk.get q).threshold = (w.st.lnk.get q).threshold) ∧
    (∀ q, ((cancelRecord completeRecord r w).st.lnk.get q).ctsGating = (w.st.lnk.get q).ctsGating) ∧
    (∀ q, ((cancelRecord completeRecord r w).st.lnk.get q).gap = (w.st.lnk.get q).gap) ∧
    (∀ q, ((cancelRecord completeRecord r w).st.lnk.get q).flags = (w.st.lnk.get q).flags) ∧
    (∀ q, ((cancelRecord completeRecord r w).st.lnk.get q).cts = (w.st.lnk.get q).cts) := by
  unfold cancelRecord
  repeat' split
  all_goals simp

@[simp] theorem cancelRecord_completeRecordOnly_frame (r : Record) (w : Ctx) :
    (cancelRecord completeRecordOnly r w).st.pending = w.st.pending ∧
    (cancelRecord completeRecordOnly r w).st.freeCount = w.st.freeCount ∧
    (cancelRecord completeRecordOnly r w).st.lensRead = w.st.lensRead ∧
    (cancelRecord completeRecordOnly r w).st.resetHeld = w.st.resetHeld ∧
    (cancelRecord completeRecordOnly r w).st.unitAddress = w.st.unitAddress ∧
    (cancelRecord completeRecordOnly r w).st.pins = w.st.pins ∧
    (cancelRecord completeRecordOnly r w).st.mkd = w.st.mkd ∧
    (cancelRecord completeRecordOnly r w).st.rqt.arrival = w.st.rqt.arrival ∧
    (cancelRecord completeRecordOnly r w).st.rqt.halted = w.st.rqt.halted ∧
    (cancelRecord completeRecordOnly r w).st.trc.roll = w.st.trc.roll ∧
    (cancelRecord completeRecordOnly r w).st.trc.profile = w.st.trc.profile ∧
    (cancelRecord completeRecordOnly r w).st.trc.counter = w.st.trc.counter ∧
    (cancelRecord completeRecordOnly r w).st.trc.endPos = w.st.trc.endPos ∧
    (cancelRecord completeRecordOnly r w).st.trc.overrun = w.st.trc.overrun ∧
    (cancelRecord completeRecordOnly r w).st.trc.travelDir = w.st.trc.travelDir ∧
    (cancelRecord completeRecordOnly r w).st.trc.epoch = w.st.trc.epoch ∧
    (cancelRecord completeRecordOnly r w).st.trc.parkDelay = w.st.trc.parkDelay ∧
    (cancelRecord completeRecordOnly r w).st.trc.wakeDelay = w.st.trc.wakeDelay ∧
    (cancelRecord completeRecordOnly r w).st.trc.wakeFor = w.st.trc.wakeFor ∧
    (cancelRecord completeRecordOnly r w).st.trc.timers = w.st.trc.timers ∧
    (cancelRecord completeRecordOnly r w).st.fit.entries = w.st.fit.entries ∧
    (cancelRecord completeRecordOnly r w).st.fit.index = w.st.fit.index ∧
    (cancelRecord completeRecordOnly r w).st.fit.p256 = w.st.fit.p256 ∧
    (cancelRecord completeRecordOnly r w).st.fit.splice = w.st.fit.splice ∧
    (cancelRecord completeRecordOnly r w).st.fcc.lens = w.st.fcc.lens ∧
    (cancelRecord completeRecordOnly r w).st.fcc.stage = w.st.fcc.stage ∧
    (cancelRecord completeRecordOnly r w).st.fcc.lines = w.st.fcc.lines ∧
    (cancelRecord completeRecordOnly r w).st.fcc.lru = w.st.fcc.lru ∧
    (cancelRecord completeRecordOnly r w).st.gtu.route = w.st.gtu.route ∧
    (cancelRecord completeRecordOnly r w).st.ntu.ports = w.st.ntu.ports ∧
    (∀ q, ((cancelRecord completeRecordOnly r w).st.lnk.get q).rx = (w.st.lnk.get q).rx) ∧
    (∀ q, ((cancelRecord completeRecordOnly r w).st.lnk.get q).part = (w.st.lnk.get q).part) ∧
    (∀ q, ((cancelRecord completeRecordOnly r w).st.lnk.get q).inbox = (w.st.lnk.get q).inbox) ∧
    (∀ q, ((cancelRecord completeRecordOnly r w).st.lnk.get q).awaitMark = (w.st.lnk.get q).awaitMark) ∧
    (∀ q, ((cancelRecord completeRecordOnly r w).st.lnk.get q).byteTimer = (w.st.lnk.get q).byteTimer) ∧
    (∀ q, ((cancelRecord completeRecordOnly r w).st.lnk.get q).resyncTimer = (w.st.lnk.get q).resyncTimer) ∧
    (∀ q, ((cancelRecord completeRecordOnly r w).st.lnk.get q).outbox = (w.st.lnk.get q).outbox) ∧
    (∀ q, ((cancelRecord completeRecordOnly r w).st.lnk.get q).released = (w.st.lnk.get q).released) ∧
    (∀ q, ((cancelRecord completeRecordOnly r w).st.lnk.get q).txFifo = (w.st.lnk.get q).txFifo) ∧
    (∀ q, ((cancelRecord completeRecordOnly r w).st.lnk.get q).txLine = (w.st.lnk.get q).txLine) ∧
    (∀ q, ((cancelRecord completeRecordOnly r w).st.lnk.get q).driving = (w.st.lnk.get q).driving) ∧
    (∀ q, ((cancelRecord completeRecordOnly r w).st.lnk.get q).rdyMode = (w.st.lnk.get q).rdyMode) ∧
    (∀ q, ((cancelRecord completeRecordOnly r w).st.lnk.get q).threshold = (w.st.lnk.get q).threshold) ∧
    (∀ q, ((cancelRecord completeRecordOnly r w).st.lnk.get q).ctsGating = (w.st.lnk.get q).ctsGating) ∧
    (∀ q, ((cancelRecord completeRecordOnly r w).st.lnk.get q).gap = (w.st.lnk.get q).gap) ∧
    (∀ q, ((cancelRecord completeRecordOnly r w).st.lnk.get q).flags = (w.st.lnk.get q).flags) ∧
    (∀ q, ((cancelRecord completeRecordOnly r w).st.lnk.get q).cts = (w.st.lnk.get q).cts) := by
  unfold cancelRecord
  repeat' split
  all_goals simp

@[simp] theorem cancelRun_completeRun_frame (r : Run) (w : Ctx) :
    (cancelRun completeRun r w).st.pending = w.st.pending ∧
    (cancelRun completeRun r w).st.freeCount = w.st.freeCount ∧
    (cancelRun completeRun r w).st.lensRead = w.st.lensRead ∧
    (cancelRun completeRun r w).st.resetHeld = w.st.resetHeld ∧
    (cancelRun completeRun r w).st.unitAddress = w.st.unitAddress ∧ (cancelRun completeRun r w).st.pins = w.st.pins ∧
    (cancelRun completeRun r w).st.mkd = w.st.mkd ∧ (cancelRun completeRun r w).st.rqt.arrival = w.st.rqt.arrival ∧
    (cancelRun completeRun r w).st.rqt.halted = w.st.rqt.halted ∧
    (cancelRun completeRun r w).st.trc.roll = w.st.trc.roll ∧
    (cancelRun completeRun r w).st.trc.profile = w.st.trc.profile ∧
    (cancelRun completeRun r w).st.trc.counter = w.st.trc.counter ∧
    (cancelRun completeRun r w).st.trc.endPos = w.st.trc.endPos ∧
    (cancelRun completeRun r w).st.trc.overrun = w.st.trc.overrun ∧
    (cancelRun completeRun r w).st.trc.travelDir = w.st.trc.travelDir ∧
    (cancelRun completeRun r w).st.trc.epoch = w.st.trc.epoch ∧
    (cancelRun completeRun r w).st.trc.parkDelay = w.st.trc.parkDelay ∧
    (cancelRun completeRun r w).st.trc.wakeDelay = w.st.trc.wakeDelay ∧
    (cancelRun completeRun r w).st.trc.wakeFor = w.st.trc.wakeFor ∧
    (cancelRun completeRun r w).st.trc.timers = w.st.trc.timers ∧
    (cancelRun completeRun r w).st.fit.entries = w.st.fit.entries ∧
    (cancelRun completeRun r w).st.fit.index = w.st.fit.index ∧
    (cancelRun completeRun r w).st.fit.p256 = w.st.fit.p256 ∧
    (cancelRun completeRun r w).st.fit.splice = w.st.fit.splice ∧
    (cancelRun completeRun r w).st.fcc.lens = w.st.fcc.lens ∧
    (cancelRun completeRun r w).st.fcc.stage = w.st.fcc.stage ∧
    (cancelRun completeRun r w).st.fcc.lines = w.st.fcc.lines ∧
    (cancelRun completeRun r w).st.fcc.lru = w.st.fcc.lru ∧
    (cancelRun completeRun r w).st.gtu.route = w.st.gtu.route ∧
    (cancelRun completeRun r w).st.ntu.ports = w.st.ntu.ports ∧
    (∀ q, ((cancelRun completeRun r w).st.lnk.get q).rx = (w.st.lnk.get q).rx) ∧
    (∀ q, ((cancelRun completeRun r w).st.lnk.get q).part = (w.st.lnk.get q).part) ∧
    (∀ q, ((cancelRun completeRun r w).st.lnk.get q).inbox = (w.st.lnk.get q).inbox) ∧
    (∀ q, ((cancelRun completeRun r w).st.lnk.get q).awaitMark = (w.st.lnk.get q).awaitMark) ∧
    (∀ q, ((cancelRun completeRun r w).st.lnk.get q).byteTimer = (w.st.lnk.get q).byteTimer) ∧
    (∀ q, ((cancelRun completeRun r w).st.lnk.get q).resyncTimer = (w.st.lnk.get q).resyncTimer) ∧
    (∀ q, ((cancelRun completeRun r w).st.lnk.get q).outbox = (w.st.lnk.get q).outbox) ∧
    (∀ q, ((cancelRun completeRun r w).st.lnk.get q).released = (w.st.lnk.get q).released) ∧
    (∀ q, ((cancelRun completeRun r w).st.lnk.get q).txFifo = (w.st.lnk.get q).txFifo) ∧
    (∀ q, ((cancelRun completeRun r w).st.lnk.get q).txLine = (w.st.lnk.get q).txLine) ∧
    (∀ q, ((cancelRun completeRun r w).st.lnk.get q).driving = (w.st.lnk.get q).driving) ∧
    (∀ q, ((cancelRun completeRun r w).st.lnk.get q).rdyMode = (w.st.lnk.get q).rdyMode) ∧
    (∀ q, ((cancelRun completeRun r w).st.lnk.get q).threshold = (w.st.lnk.get q).threshold) ∧
    (∀ q, ((cancelRun completeRun r w).st.lnk.get q).ctsGating = (w.st.lnk.get q).ctsGating) ∧
    (∀ q, ((cancelRun completeRun r w).st.lnk.get q).gap = (w.st.lnk.get q).gap) ∧
    (∀ q, ((cancelRun completeRun r w).st.lnk.get q).flags = (w.st.lnk.get q).flags) ∧
    (∀ q, ((cancelRun completeRun r w).st.lnk.get q).cts = (w.st.lnk.get q).cts) := by
  unfold cancelRun
  repeat' split
  all_goals simp

@[simp] theorem cancelRun_completeRunOnly_frame (r : Run) (w : Ctx) :
    (cancelRun completeRunOnly r w).st.pending = w.st.pending ∧
    (cancelRun completeRunOnly r w).st.freeCount = w.st.freeCount ∧
    (cancelRun completeRunOnly r w).st.lensRead = w.st.lensRead ∧
    (cancelRun completeRunOnly r w).st.resetHeld = w.st.resetHeld ∧
    (cancelRun completeRunOnly r w).st.unitAddress = w.st.unitAddress ∧
    (cancelRun completeRunOnly r w).st.pins = w.st.pins ∧ (cancelRun completeRunOnly r w).st.mkd = w.st.mkd ∧
    (cancelRun completeRunOnly r w).st.rqt.arrival = w.st.rqt.arrival ∧
    (cancelRun completeRunOnly r w).st.rqt.halted = w.st.rqt.halted ∧
    (cancelRun completeRunOnly r w).st.trc.roll = w.st.trc.roll ∧
    (cancelRun completeRunOnly r w).st.trc.profile = w.st.trc.profile ∧
    (cancelRun completeRunOnly r w).st.trc.counter = w.st.trc.counter ∧
    (cancelRun completeRunOnly r w).st.trc.endPos = w.st.trc.endPos ∧
    (cancelRun completeRunOnly r w).st.trc.overrun = w.st.trc.overrun ∧
    (cancelRun completeRunOnly r w).st.trc.travelDir = w.st.trc.travelDir ∧
    (cancelRun completeRunOnly r w).st.trc.epoch = w.st.trc.epoch ∧
    (cancelRun completeRunOnly r w).st.trc.parkDelay = w.st.trc.parkDelay ∧
    (cancelRun completeRunOnly r w).st.trc.wakeDelay = w.st.trc.wakeDelay ∧
    (cancelRun completeRunOnly r w).st.trc.wakeFor = w.st.trc.wakeFor ∧
    (cancelRun completeRunOnly r w).st.trc.timers = w.st.trc.timers ∧
    (cancelRun completeRunOnly r w).st.fit.entries = w.st.fit.entries ∧
    (cancelRun completeRunOnly r w).st.fit.index = w.st.fit.index ∧
    (cancelRun completeRunOnly r w).st.fit.p256 = w.st.fit.p256 ∧
    (cancelRun completeRunOnly r w).st.fit.splice = w.st.fit.splice ∧
    (cancelRun completeRunOnly r w).st.fcc.lens = w.st.fcc.lens ∧
    (cancelRun completeRunOnly r w).st.fcc.stage = w.st.fcc.stage ∧
    (cancelRun completeRunOnly r w).st.fcc.lines = w.st.fcc.lines ∧
    (cancelRun completeRunOnly r w).st.fcc.lru = w.st.fcc.lru ∧
    (cancelRun completeRunOnly r w).st.gtu.route = w.st.gtu.route ∧
    (cancelRun completeRunOnly r w).st.ntu.ports = w.st.ntu.ports ∧
    (∀ q, ((cancelRun completeRunOnly r w).st.lnk.get q).rx = (w.st.lnk.get q).rx) ∧
    (∀ q, ((cancelRun completeRunOnly r w).st.lnk.get q).part = (w.st.lnk.get q).part) ∧
    (∀ q, ((cancelRun completeRunOnly r w).st.lnk.get q).inbox = (w.st.lnk.get q).inbox) ∧
    (∀ q, ((cancelRun completeRunOnly r w).st.lnk.get q).awaitMark = (w.st.lnk.get q).awaitMark) ∧
    (∀ q, ((cancelRun completeRunOnly r w).st.lnk.get q).byteTimer = (w.st.lnk.get q).byteTimer) ∧
    (∀ q, ((cancelRun completeRunOnly r w).st.lnk.get q).resyncTimer = (w.st.lnk.get q).resyncTimer) ∧
    (∀ q, ((cancelRun completeRunOnly r w).st.lnk.get q).outbox = (w.st.lnk.get q).outbox) ∧
    (∀ q, ((cancelRun completeRunOnly r w).st.lnk.get q).released = (w.st.lnk.get q).released) ∧
    (∀ q, ((cancelRun completeRunOnly r w).st.lnk.get q).txFifo = (w.st.lnk.get q).txFifo) ∧
    (∀ q, ((cancelRun completeRunOnly r w).st.lnk.get q).txLine = (w.st.lnk.get q).txLine) ∧
    (∀ q, ((cancelRun completeRunOnly r w).st.lnk.get q).driving = (w.st.lnk.get q).driving) ∧
    (∀ q, ((cancelRun completeRunOnly r w).st.lnk.get q).rdyMode = (w.st.lnk.get q).rdyMode) ∧
    (∀ q, ((cancelRun completeRunOnly r w).st.lnk.get q).threshold = (w.st.lnk.get q).threshold) ∧
    (∀ q, ((cancelRun completeRunOnly r w).st.lnk.get q).ctsGating = (w.st.lnk.get q).ctsGating) ∧
    (∀ q, ((cancelRun completeRunOnly r w).st.lnk.get q).gap = (w.st.lnk.get q).gap) ∧
    (∀ q, ((cancelRun completeRunOnly r w).st.lnk.get q).flags = (w.st.lnk.get q).flags) ∧
    (∀ q, ((cancelRun completeRunOnly r w).st.lnk.get q).cts = (w.st.lnk.get q).cts) := by
  unfold cancelRun
  repeat' split
  all_goals simp

@[simp] theorem cancelEach_frame (l : List Record) (w : Ctx) :
    (cancelEach l w).st.pending = w.st.pending ∧ (cancelEach l w).st.freeCount = w.st.freeCount ∧
    (cancelEach l w).st.lensRead = w.st.lensRead ∧
    (cancelEach l w).st.resetHeld = w.st.resetHeld ∧ (cancelEach l w).st.unitAddress = w.st.unitAddress ∧
    (cancelEach l w).st.pins = w.st.pins ∧ (cancelEach l w).st.mkd = w.st.mkd ∧
    (cancelEach l w).st.rqt.arrival = w.st.rqt.arrival ∧ (cancelEach l w).st.rqt.halted = w.st.rqt.halted ∧
    (cancelEach l w).st.trc.roll = w.st.trc.roll ∧ (cancelEach l w).st.trc.profile = w.st.trc.profile ∧
    (cancelEach l w).st.trc.counter = w.st.trc.counter ∧ (cancelEach l w).st.trc.endPos = w.st.trc.endPos ∧
    (cancelEach l w).st.trc.overrun = w.st.trc.overrun ∧ (cancelEach l w).st.trc.travelDir = w.st.trc.travelDir ∧
    (cancelEach l w).st.trc.epoch = w.st.trc.epoch ∧ (cancelEach l w).st.trc.parkDelay = w.st.trc.parkDelay ∧
    (cancelEach l w).st.trc.wakeDelay = w.st.trc.wakeDelay ∧ (cancelEach l w).st.trc.wakeFor = w.st.trc.wakeFor ∧
    (cancelEach l w).st.trc.timers = w.st.trc.timers ∧ (cancelEach l w).st.fit.entries = w.st.fit.entries ∧
    (cancelEach l w).st.fit.index = w.st.fit.index ∧ (cancelEach l w).st.fit.p256 = w.st.fit.p256 ∧
    (cancelEach l w).st.fit.splice = w.st.fit.splice ∧ (cancelEach l w).st.fcc.lens = w.st.fcc.lens ∧
    (cancelEach l w).st.fcc.stage = w.st.fcc.stage ∧ (cancelEach l w).st.fcc.lines = w.st.fcc.lines ∧
    (cancelEach l w).st.fcc.lru = w.st.fcc.lru ∧ (cancelEach l w).st.gtu.route = w.st.gtu.route ∧
    (cancelEach l w).st.ntu.ports = w.st.ntu.ports ∧
    (∀ q, ((cancelEach l w).st.lnk.get q).rx = (w.st.lnk.get q).rx) ∧
    (∀ q, ((cancelEach l w).st.lnk.get q).part = (w.st.lnk.get q).part) ∧
    (∀ q, ((cancelEach l w).st.lnk.get q).inbox = (w.st.lnk.get q).inbox) ∧
    (∀ q, ((cancelEach l w).st.lnk.get q).awaitMark = (w.st.lnk.get q).awaitMark) ∧
    (∀ q, ((cancelEach l w).st.lnk.get q).byteTimer = (w.st.lnk.get q).byteTimer) ∧
    (∀ q, ((cancelEach l w).st.lnk.get q).resyncTimer = (w.st.lnk.get q).resyncTimer) ∧
    (∀ q, ((cancelEach l w).st.lnk.get q).outbox = (w.st.lnk.get q).outbox) ∧
    (∀ q, ((cancelEach l w).st.lnk.get q).released = (w.st.lnk.get q).released) ∧
    (∀ q, ((cancelEach l w).st.lnk.get q).txFifo = (w.st.lnk.get q).txFifo) ∧
    (∀ q, ((cancelEach l w).st.lnk.get q).txLine = (w.st.lnk.get q).txLine) ∧
    (∀ q, ((cancelEach l w).st.lnk.get q).driving = (w.st.lnk.get q).driving) ∧
    (∀ q, ((cancelEach l w).st.lnk.get q).rdyMode = (w.st.lnk.get q).rdyMode) ∧
    (∀ q, ((cancelEach l w).st.lnk.get q).threshold = (w.st.lnk.get q).threshold) ∧
    (∀ q, ((cancelEach l w).st.lnk.get q).ctsGating = (w.st.lnk.get q).ctsGating) ∧
    (∀ q, ((cancelEach l w).st.lnk.get q).gap = (w.st.lnk.get q).gap) ∧
    (∀ q, ((cancelEach l w).st.lnk.get q).flags = (w.st.lnk.get q).flags) ∧
    (∀ q, ((cancelEach l w).st.lnk.get q).cts = (w.st.lnk.get q).cts) := by
  unfold cancelEach
  induction l generalizing w with
  | nil => simp
  | cons a l ih => simp [List.foldl_cons, ih]

@[simp] theorem setDeferred_frame (x : Presentation) (d : Deferred) (s : State) :
    (setDeferred x d s).pending = s.pending ∧ (setDeferred x d s).freeCount = s.freeCount ∧
    (setDeferred x d s).lensRead = s.lensRead ∧
    (setDeferred x d s).resetHeld = s.resetHeld ∧ (setDeferred x d s).unitAddress = s.unitAddress ∧
    (setDeferred x d s).pins = s.pins ∧ (setDeferred x d s).mkd = s.mkd ∧ (setDeferred x d s).rqt = s.rqt ∧
    (setDeferred x d s).trc = s.trc ∧ (setDeferred x d s).fit = s.fit ∧ (setDeferred x d s).fcc = s.fcc ∧
    (setDeferred x d s).gtu.phase = s.gtu.phase ∧ (setDeferred x d s).gtu.inHand = s.gtu.inHand ∧
    (setDeferred x d s).gtu.hold = s.gtu.hold ∧ (setDeferred x d s).gtu.exposure = s.gtu.exposure ∧
    (setDeferred x d s).gtu.trig = s.gtu.trig ∧ (setDeferred x d s).gtu.route = s.gtu.route ∧
    (setDeferred x d s).gtu.watches = s.gtu.watches ∧ (setDeferred x d s).gtu.heldReport = s.gtu.heldReport ∧
    (setDeferred x d s).ntu = s.ntu ∧ (setDeferred x d s).lnk = s.lnk := by
  simp [setDeferred]

@[simp] theorem haltTransport_frame (w : Ctx) :
    (haltTransport w).st.pending = w.st.pending ∧ (haltTransport w).st.freeCount = w.st.freeCount ∧
    (haltTransport w).st.lensRead = w.st.lensRead ∧
    (haltTransport w).st.resetHeld = w.st.resetHeld ∧ (haltTransport w).st.unitAddress = w.st.unitAddress ∧
    (haltTransport w).st.pins = w.st.pins ∧ (haltTransport w).st.mkd = w.st.mkd ∧
    (haltTransport w).st.rqt.arrival = w.st.rqt.arrival ∧ (haltTransport w).st.rqt.halted = w.st.rqt.halted ∧
    (haltTransport w).st.trc.roll = w.st.trc.roll ∧ (haltTransport w).st.trc.profile = w.st.trc.profile ∧
    (haltTransport w).st.trc.counter = w.st.trc.counter ∧ (haltTransport w).st.trc.endPos = w.st.trc.endPos ∧
    (haltTransport w).st.trc.overrun = w.st.trc.overrun ∧ (haltTransport w).st.trc.travelDir = w.st.trc.travelDir ∧
    (haltTransport w).st.trc.epoch = w.st.trc.epoch ∧ (haltTransport w).st.trc.parkDelay = w.st.trc.parkDelay ∧
    (haltTransport w).st.trc.wakeDelay = w.st.trc.wakeDelay ∧ (haltTransport w).st.trc.wakeFor = w.st.trc.wakeFor ∧
    (haltTransport w).st.trc.timers = w.st.trc.timers ∧ (haltTransport w).st.fit.entries = w.st.fit.entries ∧
    (haltTransport w).st.fit.index = w.st.fit.index ∧ (haltTransport w).st.fit.p256 = w.st.fit.p256 ∧
    (haltTransport w).st.fit.splice = w.st.fit.splice ∧ (haltTransport w).st.fcc.lens = w.st.fcc.lens ∧
    (haltTransport w).st.fcc.stage = w.st.fcc.stage ∧ (haltTransport w).st.fcc.lines = w.st.fcc.lines ∧
    (haltTransport w).st.fcc.lru = w.st.fcc.lru ∧ (haltTransport w).st.gtu.route = w.st.gtu.route ∧
    (haltTransport w).st.ntu.ports = w.st.ntu.ports ∧
    (∀ q, ((haltTransport w).st.lnk.get q).rx = (w.st.lnk.get q).rx) ∧
    (∀ q, ((haltTransport w).st.lnk.get q).part = (w.st.lnk.get q).part) ∧
    (∀ q, ((haltTransport w).st.lnk.get q).inbox = (w.st.lnk.get q).inbox) ∧
    (∀ q, ((haltTransport w).st.lnk.get q).awaitMark = (w.st.lnk.get q).awaitMark) ∧
    (∀ q, ((haltTransport w).st.lnk.get q).byteTimer = (w.st.lnk.get q).byteTimer) ∧
    (∀ q, ((haltTransport w).st.lnk.get q).resyncTimer = (w.st.lnk.get q).resyncTimer) ∧
    (∀ q, ((haltTransport w).st.lnk.get q).outbox = (w.st.lnk.get q).outbox) ∧
    (∀ q, ((haltTransport w).st.lnk.get q).released = (w.st.lnk.get q).released) ∧
    (∀ q, ((haltTransport w).st.lnk.get q).txFifo = (w.st.lnk.get q).txFifo) ∧
    (∀ q, ((haltTransport w).st.lnk.get q).txLine = (w.st.lnk.get q).txLine) ∧
    (∀ q, ((haltTransport w).st.lnk.get q).driving = (w.st.lnk.get q).driving) ∧
    (∀ q, ((haltTransport w).st.lnk.get q).rdyMode = (w.st.lnk.get q).rdyMode) ∧
    (∀ q, ((haltTransport w).st.lnk.get q).threshold = (w.st.lnk.get q).threshold) ∧
    (∀ q, ((haltTransport w).st.lnk.get q).ctsGating = (w.st.lnk.get q).ctsGating) ∧
    (∀ q, ((haltTransport w).st.lnk.get q).gap = (w.st.lnk.get q).gap) ∧
    (∀ q, ((haltTransport w).st.lnk.get q).flags = (w.st.lnk.get q).flags) ∧
    (∀ q, ((haltTransport w).st.lnk.get q).cts = (w.st.lnk.get q).cts) := by
  unfold haltTransport
  repeat' split
  all_goals simp

@[simp] theorem resumeRewind_frame (w : Ctx) :
    (resumeRewind w).st.pending = w.st.pending ∧ (resumeRewind w).st.freeCount = w.st.freeCount ∧
    (resumeRewind w).st.lensRead = w.st.lensRead ∧
    (resumeRewind w).st.resetHeld = w.st.resetHeld ∧ (resumeRewind w).st.unitAddress = w.st.unitAddress ∧
    (resumeRewind w).st.pins = w.st.pins ∧ (resumeRewind w).st.mkd = w.st.mkd ∧ (resumeRewind w).st.rqt = w.st.rqt ∧
    (resumeRewind w).st.trc.overrun = w.st.trc.overrun ∧ (resumeRewind w).st.trc.slip = w.st.trc.slip ∧
    (resumeRewind w).st.trc.cause = w.st.trc.cause ∧ (resumeRewind w).st.trc.retension = w.st.trc.retension ∧
    (resumeRewind w).st.trc.parkDelay = w.st.trc.parkDelay ∧ (resumeRewind w).st.trc.wakeDelay = w.st.trc.wakeDelay ∧
    (resumeRewind w).st.trc.wakeFor = w.st.trc.wakeFor ∧ (resumeRewind w).st.trc.timers = w.st.trc.timers ∧
    (resumeRewind w).st.fit.entries = w.st.fit.entries ∧ (resumeRewind w).st.fit.index = w.st.fit.index ∧
    (resumeRewind w).st.fit.splice = w.st.fit.splice ∧ (resumeRewind w).st.fit.verify = w.st.fit.verify ∧
    (resumeRewind w).st.fcc = w.st.fcc ∧ (resumeRewind w).st.gtu.phase = w.st.gtu.phase ∧
    (resumeRewind w).st.gtu.inHand = w.st.gtu.inHand ∧ (resumeRewind w).st.gtu.presentation = w.st.gtu.presentation ∧
    (resumeRewind w).st.gtu.hold = w.st.gtu.hold ∧ (resumeRewind w).st.gtu.exposure = w.st.gtu.exposure ∧
    (resumeRewind w).st.gtu.trig = w.st.gtu.trig ∧ (resumeRewind w).st.gtu.route = w.st.gtu.route ∧
    (resumeRewind w).st.gtu.heldReport = w.st.gtu.heldReport ∧ (resumeRewind w).st.ntu.ports = w.st.ntu.ports ∧
    (∀ q, ((resumeRewind w).st.lnk.get q).rx = (w.st.lnk.get q).rx) ∧
    (∀ q, ((resumeRewind w).st.lnk.get q).part = (w.st.lnk.get q).part) ∧
    (∀ q, ((resumeRewind w).st.lnk.get q).inbox = (w.st.lnk.get q).inbox) ∧
    (∀ q, ((resumeRewind w).st.lnk.get q).awaitMark = (w.st.lnk.get q).awaitMark) ∧
    (∀ q, ((resumeRewind w).st.lnk.get q).byteTimer = (w.st.lnk.get q).byteTimer) ∧
    (∀ q, ((resumeRewind w).st.lnk.get q).resyncTimer = (w.st.lnk.get q).resyncTimer) ∧
    (∀ q, ((resumeRewind w).st.lnk.get q).outbox = (w.st.lnk.get q).outbox) ∧
    (∀ q, ((resumeRewind w).st.lnk.get q).released = (w.st.lnk.get q).released) ∧
    (∀ q, ((resumeRewind w).st.lnk.get q).txFifo = (w.st.lnk.get q).txFifo) ∧
    (∀ q, ((resumeRewind w).st.lnk.get q).txLine = (w.st.lnk.get q).txLine) ∧
    (∀ q, ((resumeRewind w).st.lnk.get q).driving = (w.st.lnk.get q).driving) ∧
    (∀ q, ((resumeRewind w).st.lnk.get q).rdyMode = (w.st.lnk.get q).rdyMode) ∧
    (∀ q, ((resumeRewind w).st.lnk.get q).threshold = (w.st.lnk.get q).threshold) ∧
    (∀ q, ((resumeRewind w).st.lnk.get q).ctsGating = (w.st.lnk.get q).ctsGating) ∧
    (∀ q, ((resumeRewind w).st.lnk.get q).gap = (w.st.lnk.get q).gap) ∧
    (∀ q, ((resumeRewind w).st.lnk.get q).flags = (w.st.lnk.get q).flags) ∧
    (∀ q, ((resumeRewind w).st.lnk.get q).cts = (w.st.lnk.get q).cts) := by
  unfold resumeRewind
  split <;> simp

@[simp] theorem parkNow_frame (s : State) :
    (parkNow s).pending = s.pending ∧ (parkNow s).freeCount = s.freeCount ∧ (parkNow s).lensRead = s.lensRead ∧
    (parkNow s).resetHeld = s.resetHeld ∧
    (parkNow s).unitAddress = s.unitAddress ∧ (parkNow s).pins = s.pins ∧ (parkNow s).mkd = s.mkd ∧
    (parkNow s).rqt = s.rqt ∧ (parkNow s).trc.roll = s.trc.roll ∧ (parkNow s).trc.profile = s.trc.profile ∧
    (parkNow s).trc.counter = s.trc.counter ∧ (parkNow s).trc.endPos = s.trc.endPos ∧
    (parkNow s).trc.overrun = s.trc.overrun ∧ (parkNow s).trc.travelDir = s.trc.travelDir ∧
    (parkNow s).trc.speed = s.trc.speed ∧ (parkNow s).trc.move = s.trc.move ∧ (parkNow s).trc.epoch = s.trc.epoch ∧
    (parkNow s).trc.verified = s.trc.verified ∧ (parkNow s).trc.slip = s.trc.slip ∧
    (parkNow s).trc.cause = s.trc.cause ∧ (parkNow s).trc.retension = s.trc.retension ∧
    (parkNow s).trc.parkDelay = s.trc.parkDelay ∧ (parkNow s).trc.wakeDelay = s.trc.wakeDelay ∧
    (parkNow s).trc.wakeFor = s.trc.wakeFor ∧ (parkNow s).trc.timers = s.trc.timers ∧
    (parkNow s).fit.entries = s.fit.entries ∧ (parkNow s).fit.index = s.fit.index ∧
    (parkNow s).fit.p256 = s.fit.p256 ∧ (parkNow s).fit.splice = s.fit.splice ∧
    (parkNow s).fit.verify = s.fit.verify ∧ (parkNow s).fcc = s.fcc ∧ (parkNow s).gtu = s.gtu ∧
    (parkNow s).ntu = s.ntu ∧ (parkNow s).lnk = s.lnk := by
  simp [parkNow]

@[simp] theorem parkIfDue_frame (s : State) :
    (parkIfDue s).pending = s.pending ∧ (parkIfDue s).freeCount = s.freeCount ∧ (parkIfDue s).lensRead = s.lensRead ∧
    (parkIfDue s).resetHeld = s.resetHeld ∧ (parkIfDue s).unitAddress = s.unitAddress ∧ (parkIfDue s).pins = s.pins ∧
    (parkIfDue s).mkd = s.mkd ∧ (parkIfDue s).rqt = s.rqt ∧ (parkIfDue s).trc.roll = s.trc.roll ∧
    (parkIfDue s).trc.profile = s.trc.profile ∧ (parkIfDue s).trc.counter = s.trc.counter ∧
    (parkIfDue s).trc.endPos = s.trc.endPos ∧ (parkIfDue s).trc.overrun = s.trc.overrun ∧
    (parkIfDue s).trc.travelDir = s.trc.travelDir ∧ (parkIfDue s).trc.speed = s.trc.speed ∧
    (parkIfDue s).trc.move = s.trc.move ∧ (parkIfDue s).trc.epoch = s.trc.epoch ∧
    (parkIfDue s).trc.verified = s.trc.verified ∧ (parkIfDue s).trc.slip = s.trc.slip ∧
    (parkIfDue s).trc.cause = s.trc.cause ∧ (parkIfDue s).trc.retension = s.trc.retension ∧
    (parkIfDue s).trc.parkDelay = s.trc.parkDelay ∧ (parkIfDue s).trc.wakeDelay = s.trc.wakeDelay ∧
    (parkIfDue s).trc.wakeFor = s.trc.wakeFor ∧ (parkIfDue s).trc.timers = s.trc.timers ∧
    (parkIfDue s).fit.entries = s.fit.entries ∧ (parkIfDue s).fit.index = s.fit.index ∧
    (parkIfDue s).fit.p256 = s.fit.p256 ∧ (parkIfDue s).fit.splice = s.fit.splice ∧
    (parkIfDue s).fit.verify = s.fit.verify ∧ (parkIfDue s).fcc = s.fcc ∧ (parkIfDue s).gtu = s.gtu ∧
    (parkIfDue s).ntu = s.ntu ∧ (parkIfDue s).lnk = s.lnk := by
  unfold parkIfDue
  repeat' split
  all_goals simp

@[simp] theorem correctReply_frame (e : Env) (w : Ctx) :
    (correctReply e w).st.pending = w.st.pending ∧ (correctReply e w).st.freeCount = w.st.freeCount ∧
    (correctReply e w).st.lensRead = w.st.lensRead ∧
    (correctReply e w).st.resetHeld = w.st.resetHeld ∧ (correctReply e w).st.unitAddress = w.st.unitAddress ∧
    (correctReply e w).st.pins = w.st.pins ∧ (correctReply e w).st.mkd = w.st.mkd ∧
    (correctReply e w).st.rqt = w.st.rqt ∧ (correctReply e w).st.trc = w.st.trc ∧
    (correctReply e w).st.fit = w.st.fit ∧ (correctReply e w).st.fcc = w.st.fcc ∧
    (correctReply e w).st.gtu = w.st.gtu ∧ (correctReply e w).st.ntu = w.st.ntu ∧ (correctReply e w).st.lnk = w.st.lnk := by
  simp [correctReply]

@[simp] theorem resetExposure_frame (p : Port) (w : Ctx) :
    (resetExposure p w).st.pending = w.st.pending ∧ (resetExposure p w).st.freeCount = w.st.freeCount ∧
    (resetExposure p w).st.lensRead = w.st.lensRead ∧
    (resetExposure p w).st.resetHeld = w.st.resetHeld ∧ (resetExposure p w).st.unitAddress = w.st.unitAddress ∧
    (resetExposure p w).st.pins = w.st.pins ∧ (resetExposure p w).st.mkd = w.st.mkd ∧
    (resetExposure p w).st.rqt.arrival = w.st.rqt.arrival ∧ (resetExposure p w).st.rqt.halted = w.st.rqt.halted ∧
    (resetExposure p w).st.rqt.grant = w.st.rqt.grant ∧ (resetExposure p w).st.rqt.stopReason = w.st.rqt.stopReason ∧
    (resetExposure p w).st.trc = w.st.trc ∧ (resetExposure p w).st.fit = w.st.fit ∧
    (resetExposure p w).st.fcc.lens = w.st.fcc.lens ∧ (resetExposure p w).st.fcc.lines = w.st.fcc.lines ∧
    (resetExposure p w).st.fcc.lru = w.st.fcc.lru ∧ (resetExposure p w).st.fcc.sweep = w.st.fcc.sweep ∧
    (resetExposure p w).st.gtu.route = w.st.gtu.route ∧ (resetExposure p w).st.ntu = w.st.ntu ∧
    (resetExposure p w).st.lnk = w.st.lnk := by
  unfold resetExposure
  dsimp only
  repeat' split
  all_goals simp

@[simp] theorem resetPresentation_frame (p : Port) (s : State) :
    (resetPresentation p s).pending = s.pending ∧ (resetPresentation p s).freeCount = s.freeCount ∧
    (resetPresentation p s).lensRead = s.lensRead ∧
    (resetPresentation p s).resetHeld = s.resetHeld ∧ (resetPresentation p s).unitAddress = s.unitAddress ∧
    (resetPresentation p s).pins = s.pins ∧ (resetPresentation p s).mkd = s.mkd ∧
    (resetPresentation p s).rqt = s.rqt ∧ (resetPresentation p s).trc = s.trc ∧ (resetPresentation p s).fit = s.fit ∧
    (resetPresentation p s).fcc = s.fcc ∧ (resetPresentation p s).gtu.inHand = s.gtu.inHand ∧
    (resetPresentation p s).gtu.exposure = s.gtu.exposure ∧ (resetPresentation p s).gtu.trig = s.gtu.trig ∧
    (resetPresentation p s).gtu.route = s.gtu.route ∧ (resetPresentation p s).gtu.watches = s.gtu.watches ∧
    (resetPresentation p s).gtu.heldReport = s.gtu.heldReport ∧ (resetPresentation p s).ntu = s.ntu ∧
    (resetPresentation p s).lnk = s.lnk := by
  unfold resetPresentation
  repeat' split
  all_goals simp

@[simp] theorem removePortWork_frame (p : Port) (s : State) :
    (removePortWork p s).pending = s.pending ∧ (removePortWork p s).freeCount = s.freeCount ∧
    (removePortWork p s).lensRead = s.lensRead ∧
    (removePortWork p s).resetHeld = s.resetHeld ∧ (removePortWork p s).unitAddress = s.unitAddress ∧
    (removePortWork p s).pins = s.pins ∧ (removePortWork p s).mkd = s.mkd ∧
    (removePortWork p s).rqt.arrival = s.rqt.arrival ∧ (removePortWork p s).rqt.halted = s.rqt.halted ∧
    (removePortWork p s).rqt.stopReason = s.rqt.stopReason ∧ (removePortWork p s).trc = s.trc ∧
    (removePortWork p s).fit = s.fit ∧ (removePortWork p s).fcc = s.fcc ∧ (removePortWork p s).gtu = s.gtu ∧
    (removePortWork p s).ntu = s.ntu ∧ (removePortWork p s).lnk = s.lnk := by
  simp [removePortWork]

@[simp] theorem noteReading_frame (s : State) :
    (noteReading s).pending = s.pending ∧ (noteReading s).resetHeld = s.resetHeld ∧
    (noteReading s).unitAddress = s.unitAddress ∧ (noteReading s).pins = s.pins ∧ (noteReading s).mkd = s.mkd ∧
    (noteReading s).rqt = s.rqt ∧ (noteReading s).trc = s.trc ∧ (noteReading s).fit = s.fit ∧
    (noteReading s).fcc = s.fcc ∧ (noteReading s).gtu = s.gtu ∧ (noteReading s).ntu = s.ntu ∧
    (noteReading s).lnk = s.lnk := by
  simp [noteReading]

@[simp] theorem settleAlmostFull_frame (s : State) :
    (settleAlmostFull s).pending = s.pending ∧ (settleAlmostFull s).freeCount = s.freeCount ∧
    (settleAlmostFull s).lensRead = s.lensRead ∧ (settleAlmostFull s).resetHeld = s.resetHeld ∧
    (settleAlmostFull s).unitAddress = s.unitAddress ∧ (settleAlmostFull s).pins = s.pins ∧
    (settleAlmostFull s).mkd = s.mkd ∧ (settleAlmostFull s).rqt = s.rqt ∧ (settleAlmostFull s).trc = s.trc ∧
    (settleAlmostFull s).fit = s.fit ∧ (settleAlmostFull s).fcc = s.fcc ∧ (settleAlmostFull s).gtu = s.gtu ∧
    (settleAlmostFull s).lnk = s.lnk ∧ (settleAlmostFull s).ntu.ports = s.ntu.ports ∧
    (settleAlmostFull s).ntu.levels.fault = s.ntu.levels.fault ∧
    (settleAlmostFull s).ntu.levels.halted = s.ntu.levels.halted ∧
    (settleAlmostFull s).ntu.levels.unverified = s.ntu.levels.unverified ∧
    (settleAlmostFull s).ntu.levels.rollState = s.ntu.levels.rollState := by
  simp [settleAlmostFull]

@[simp] theorem portReset_frame (p : Port) (w : Ctx) :
    (portReset p w).st.pending = w.st.pending ∧ (portReset p w).st.freeCount = w.st.freeCount ∧
    (portReset p w).st.lensRead = w.st.lensRead ∧
    (portReset p w).st.resetHeld = w.st.resetHeld ∧ (portReset p w).st.unitAddress = w.st.unitAddress ∧
    (portReset p w).st.pins = w.st.pins ∧ (portReset p w).st.mkd = w.st.mkd ∧
    (portReset p w).st.rqt.arrival = w.st.rqt.arrival ∧ (portReset p w).st.rqt.halted = w.st.rqt.halted ∧
    (portReset p w).st.trc.roll = w.st.trc.roll ∧ (portReset p w).st.trc.profile = w.st.trc.profile ∧
    (portReset p w).st.trc.counter = w.st.trc.counter ∧ (portReset p w).st.trc.endPos = w.st.trc.endPos ∧
    (portReset p w).st.trc.overrun = w.st.trc.overrun ∧ (portReset p w).st.trc.parkDelay = w.st.trc.parkDelay ∧
    (portReset p w).st.trc.wakeDelay = w.st.trc.wakeDelay ∧ (portReset p w).st.fit.entries = w.st.fit.entries ∧
    (portReset p w).st.fit.index = w.st.fit.index ∧ (portReset p w).st.fit.p256 = w.st.fit.p256 ∧
    (portReset p w).st.fit.splice = w.st.fit.splice ∧ (portReset p w).st.fcc.lens = w.st.fcc.lens ∧
    (portReset p w).st.fcc.lines = w.st.fcc.lines ∧ (portReset p w).st.fcc.lru = w.st.fcc.lru ∧
    (portReset p w).st.gtu.route = w.st.gtu.route := by
  unfold portReset
  dsimp only
  repeat' split
  all_goals simp

end Sys2Proof.Machine
end

