-- ==== Sys2Proof/Laws/FrameLink.lean ====
section
/-! SUPPORT. What each operation of the links leaves unchanged: one frame for each, which later proofs cite instead of
unfolding it. -/

namespace Sys2Proof.Machine

@[simp] theorem linkError_frame (p : Port) (c : LinkCause) (rx : RxState) (s : State) :
    (linkError p c rx s).pending = s.pending ∧ (linkError p c rx s).freeCount = s.freeCount ∧
    (linkError p c rx s).lensRead = s.lensRead ∧
    (linkError p c rx s).resetHeld = s.resetHeld ∧ (linkError p c rx s).unitAddress = s.unitAddress ∧
    (linkError p c rx s).pins = s.pins ∧ (linkError p c rx s).mkd = s.mkd ∧ (linkError p c rx s).rqt = s.rqt ∧
    (linkError p c rx s).trc = s.trc ∧ (linkError p c rx s).fit = s.fit ∧ (linkError p c rx s).fcc = s.fcc ∧
    (linkError p c rx s).gtu = s.gtu ∧ (linkError p c rx s).ntu.levels = s.ntu.levels ∧
    (∀ q, ((linkError p c rx s).lnk.get q).inbox = (s.lnk.get q).inbox) ∧
    (∀ q, ((linkError p c rx s).lnk.get q).awaitMark = (s.lnk.get q).awaitMark) ∧
    (∀ q, ((linkError p c rx s).lnk.get q).byteTimer = (s.lnk.get q).byteTimer) ∧
    (∀ q, ((linkError p c rx s).lnk.get q).resyncTimer = (s.lnk.get q).resyncTimer) ∧
    (∀ q, ((linkError p c rx s).lnk.get q).reserved = (s.lnk.get q).reserved) ∧
    (∀ q, ((linkError p c rx s).lnk.get q).txFifo = (s.lnk.get q).txFifo) ∧
    (∀ q, ((linkError p c rx s).lnk.get q).txLine = (s.lnk.get q).txLine) ∧
    (∀ q, ((linkError p c rx s).lnk.get q).driving = (s.lnk.get q).driving) ∧
    (∀ q, ((linkError p c rx s).lnk.get q).rdyMode = (s.lnk.get q).rdyMode) ∧
    (∀ q, ((linkError p c rx s).lnk.get q).threshold = (s.lnk.get q).threshold) ∧
    (∀ q, ((linkError p c rx s).lnk.get q).ctsGating = (s.lnk.get q).ctsGating) ∧
    (∀ q, ((linkError p c rx s).lnk.get q).gap = (s.lnk.get q).gap) ∧
    (∀ q, ((linkError p c rx s).lnk.get q).cts = (s.lnk.get q).cts) ∧
    (∀ q, ((linkError p c rx s).lnk.get q).outstanding = (s.lnk.get q).outstanding) := by
  simp [linkError]
  (repeat' apply And.intro) <;> intro q <;> split <;> simp_all

@[simp] theorem setRx_frame (p : Port) (rx : RxState) (s : State) :
    (setRx p rx s).pending = s.pending ∧ (setRx p rx s).freeCount = s.freeCount ∧
    (setRx p rx s).lensRead = s.lensRead ∧
    (setRx p rx s).resetHeld = s.resetHeld ∧ (setRx p rx s).unitAddress = s.unitAddress ∧
    (setRx p rx s).pins = s.pins ∧ (setRx p rx s).mkd = s.mkd ∧ (setRx p rx s).rqt = s.rqt ∧
    (setRx p rx s).trc = s.trc ∧ (setRx p rx s).fit = s.fit ∧ (setRx p rx s).fcc = s.fcc ∧
    (setRx p rx s).gtu = s.gtu ∧ (setRx p rx s).ntu = s.ntu ∧
    (∀ q, ((setRx p rx s).lnk.get q).part = (s.lnk.get q).part) ∧
    (∀ q, ((setRx p rx s).lnk.get q).inbox = (s.lnk.get q).inbox) ∧
    (∀ q, ((setRx p rx s).lnk.get q).awaitMark = (s.lnk.get q).awaitMark) ∧
    (∀ q, ((setRx p rx s).lnk.get q).byteTimer = (s.lnk.get q).byteTimer) ∧
    (∀ q, ((setRx p rx s).lnk.get q).resyncTimer = (s.lnk.get q).resyncTimer) ∧
    (∀ q, ((setRx p rx s).lnk.get q).outbox = (s.lnk.get q).outbox) ∧
    (∀ q, ((setRx p rx s).lnk.get q).reserved = (s.lnk.get q).reserved) ∧
    (∀ q, ((setRx p rx s).lnk.get q).released = (s.lnk.get q).released) ∧
    (∀ q, ((setRx p rx s).lnk.get q).txFifo = (s.lnk.get q).txFifo) ∧
    (∀ q, ((setRx p rx s).lnk.get q).txLine = (s.lnk.get q).txLine) ∧
    (∀ q, ((setRx p rx s).lnk.get q).driving = (s.lnk.get q).driving) ∧
    (∀ q, ((setRx p rx s).lnk.get q).rdyMode = (s.lnk.get q).rdyMode) ∧
    (∀ q, ((setRx p rx s).lnk.get q).threshold = (s.lnk.get q).threshold) ∧
    (∀ q, ((setRx p rx s).lnk.get q).ctsGating = (s.lnk.get q).ctsGating) ∧
    (∀ q, ((setRx p rx s).lnk.get q).gap = (s.lnk.get q).gap) ∧
    (∀ q, ((setRx p rx s).lnk.get q).flags = (s.lnk.get q).flags) ∧
    (∀ q, ((setRx p rx s).lnk.get q).cts = (s.lnk.get q).cts) ∧
    (∀ q, ((setRx p rx s).lnk.get q).outstanding = (s.lnk.get q).outstanding) := by
  simp [setRx]
  (repeat' apply And.intro) <;> intro q <;> split <;> simp_all

@[simp] theorem restartTimers_frame (p : Port) (s : State) :
    (restartTimers p s).pending = s.pending ∧ (restartTimers p s).freeCount = s.freeCount ∧
    (restartTimers p s).lensRead = s.lensRead ∧
    (restartTimers p s).resetHeld = s.resetHeld ∧ (restartTimers p s).unitAddress = s.unitAddress ∧
    (restartTimers p s).pins = s.pins ∧ (restartTimers p s).mkd = s.mkd ∧ (restartTimers p s).rqt = s.rqt ∧
    (restartTimers p s).trc = s.trc ∧ (restartTimers p s).fit = s.fit ∧ (restartTimers p s).fcc = s.fcc ∧
    (restartTimers p s).gtu = s.gtu ∧ (restartTimers p s).ntu = s.ntu ∧
    (∀ q, ((restartTimers p s).lnk.get q).rx = (s.lnk.get q).rx) ∧
    (∀ q, ((restartTimers p s).lnk.get q).part = (s.lnk.get q).part) ∧
    (∀ q, ((restartTimers p s).lnk.get q).inbox = (s.lnk.get q).inbox) ∧
    (∀ q, ((restartTimers p s).lnk.get q).awaitMark = (s.lnk.get q).awaitMark) ∧
    (∀ q, ((restartTimers p s).lnk.get q).outbox = (s.lnk.get q).outbox) ∧
    (∀ q, ((restartTimers p s).lnk.get q).reserved = (s.lnk.get q).reserved) ∧
    (∀ q, ((restartTimers p s).lnk.get q).released = (s.lnk.get q).released) ∧
    (∀ q, ((restartTimers p s).lnk.get q).txFifo = (s.lnk.get q).txFifo) ∧
    (∀ q, ((restartTimers p s).lnk.get q).txLine = (s.lnk.get q).txLine) ∧
    (∀ q, ((restartTimers p s).lnk.get q).driving = (s.lnk.get q).driving) ∧
    (∀ q, ((restartTimers p s).lnk.get q).rdyMode = (s.lnk.get q).rdyMode) ∧
    (∀ q, ((restartTimers p s).lnk.get q).threshold = (s.lnk.get q).threshold) ∧
    (∀ q, ((restartTimers p s).lnk.get q).ctsGating = (s.lnk.get q).ctsGating) ∧
    (∀ q, ((restartTimers p s).lnk.get q).gap = (s.lnk.get q).gap) ∧
    (∀ q, ((restartTimers p s).lnk.get q).flags = (s.lnk.get q).flags) ∧
    (∀ q, ((restartTimers p s).lnk.get q).cts = (s.lnk.get q).cts) ∧
    (∀ q, ((restartTimers p s).lnk.get q).outstanding = (s.lnk.get q).outstanding) := by
  simp [restartTimers]
  (repeat' apply And.intro) <;> intro q <;> split <;> simp_all

@[simp] theorem storeByte_frame (p : Port) (f : RxFrame) (b : Byte) (s : State) :
    (storeByte p f b s).pending = s.pending ∧ (storeByte p f b s).freeCount = s.freeCount ∧
    (storeByte p f b s).lensRead = s.lensRead ∧
    (storeByte p f b s).resetHeld = s.resetHeld ∧ (storeByte p f b s).unitAddress = s.unitAddress ∧
    (storeByte p f b s).pins = s.pins ∧ (storeByte p f b s).mkd = s.mkd ∧ (storeByte p f b s).rqt = s.rqt ∧
    (storeByte p f b s).trc = s.trc ∧ (storeByte p f b s).fit = s.fit ∧ (storeByte p f b s).fcc = s.fcc ∧
    (storeByte p f b s).gtu = s.gtu ∧ (storeByte p f b s).ntu = s.ntu ∧
    (∀ q, ((storeByte p f b s).lnk.get q).part = (s.lnk.get q).part) ∧
    (∀ q, ((storeByte p f b s).lnk.get q).inbox = (s.lnk.get q).inbox) ∧
    (∀ q, ((storeByte p f b s).lnk.get q).awaitMark = (s.lnk.get q).awaitMark) ∧
    (∀ q, ((storeByte p f b s).lnk.get q).byteTimer = (s.lnk.get q).byteTimer) ∧
    (∀ q, ((storeByte p f b s).lnk.get q).resyncTimer = (s.lnk.get q).resyncTimer) ∧
    (∀ q, ((storeByte p f b s).lnk.get q).outbox = (s.lnk.get q).outbox) ∧
    (∀ q, ((storeByte p f b s).lnk.get q).reserved = (s.lnk.get q).reserved) ∧
    (∀ q, ((storeByte p f b s).lnk.get q).released = (s.lnk.get q).released) ∧
    (∀ q, ((storeByte p f b s).lnk.get q).txFifo = (s.lnk.get q).txFifo) ∧
    (∀ q, ((storeByte p f b s).lnk.get q).txLine = (s.lnk.get q).txLine) ∧
    (∀ q, ((storeByte p f b s).lnk.get q).driving = (s.lnk.get q).driving) ∧
    (∀ q, ((storeByte p f b s).lnk.get q).rdyMode = (s.lnk.get q).rdyMode) ∧
    (∀ q, ((storeByte p f b s).lnk.get q).threshold = (s.lnk.get q).threshold) ∧
    (∀ q, ((storeByte p f b s).lnk.get q).ctsGating = (s.lnk.get q).ctsGating) ∧
    (∀ q, ((storeByte p f b s).lnk.get q).gap = (s.lnk.get q).gap) ∧
    (∀ q, ((storeByte p f b s).lnk.get q).cts = (s.lnk.get q).cts) ∧
    (∀ q, ((storeByte p f b s).lnk.get q).outstanding = (s.lnk.get q).outstanding) := by
  unfold storeByte
  dsimp only
  repeat' split
  all_goals simp
  all_goals (repeat' apply And.intro) <;> intro q <;> split <;> simp_all

@[simp] theorem addressArrives_frame (p : Port) (b : Byte) (s : State) :
    (addressArrives p b s).pending = s.pending ∧ (addressArrives p b s).freeCount = s.freeCount ∧
    (addressArrives p b s).lensRead = s.lensRead ∧
    (addressArrives p b s).resetHeld = s.resetHeld ∧ (addressArrives p b s).unitAddress = s.unitAddress ∧
    (addressArrives p b s).pins = s.pins ∧ (addressArrives p b s).mkd = s.mkd ∧ (addressArrives p b s).rqt = s.rqt ∧
    (addressArrives p b s).trc = s.trc ∧ (addressArrives p b s).fit = s.fit ∧ (addressArrives p b s).fcc = s.fcc ∧
    (addressArrives p b s).gtu = s.gtu ∧ (addressArrives p b s).ntu.levels = s.ntu.levels ∧
    (∀ q, ((addressArrives p b s).lnk.get q).inbox = (s.lnk.get q).inbox) ∧
    (∀ q, ((addressArrives p b s).lnk.get q).awaitMark = (s.lnk.get q).awaitMark) ∧
    (∀ q, ((addressArrives p b s).lnk.get q).byteTimer = (s.lnk.get q).byteTimer) ∧
    (∀ q, ((addressArrives p b s).lnk.get q).resyncTimer = (s.lnk.get q).resyncTimer) ∧
    (∀ q, ((addressArrives p b s).lnk.get q).reserved = (s.lnk.get q).reserved) ∧
    (∀ q, ((addressArrives p b s).lnk.get q).txFifo = (s.lnk.get q).txFifo) ∧
    (∀ q, ((addressArrives p b s).lnk.get q).txLine = (s.lnk.get q).txLine) ∧
    (∀ q, ((addressArrives p b s).lnk.get q).driving = (s.lnk.get q).driving) ∧
    (∀ q, ((addressArrives p b s).lnk.get q).rdyMode = (s.lnk.get q).rdyMode) ∧
    (∀ q, ((addressArrives p b s).lnk.get q).threshold = (s.lnk.get q).threshold) ∧
    (∀ q, ((addressArrives p b s).lnk.get q).ctsGating = (s.lnk.get q).ctsGating) ∧
    (∀ q, ((addressArrives p b s).lnk.get q).gap = (s.lnk.get q).gap) ∧
    (∀ q, ((addressArrives p b s).lnk.get q).cts = (s.lnk.get q).cts) ∧
    (∀ q, ((addressArrives p b s).lnk.get q).outstanding = (s.lnk.get q).outstanding) := by
  unfold addressArrives
  dsimp only
  repeat' split
  all_goals simp

@[simp] theorem frameEnd_frame (p : Port) (f : RxFrame) (s : State) :
    (frameEnd p f s).pending = s.pending ∧ (frameEnd p f s).freeCount = s.freeCount ∧
    (frameEnd p f s).lensRead = s.lensRead ∧
    (frameEnd p f s).resetHeld = s.resetHeld ∧ (frameEnd p f s).unitAddress = s.unitAddress ∧
    (frameEnd p f s).pins = s.pins ∧ (frameEnd p f s).mkd = s.mkd ∧ (frameEnd p f s).rqt = s.rqt ∧
    (frameEnd p f s).trc = s.trc ∧ (frameEnd p f s).fit = s.fit ∧ (frameEnd p f s).fcc = s.fcc ∧
    (frameEnd p f s).gtu = s.gtu ∧ (frameEnd p f s).ntu.levels = s.ntu.levels ∧
    (∀ q, ((frameEnd p f s).lnk.get q).awaitMark = (s.lnk.get q).awaitMark) ∧
    (∀ q, ((frameEnd p f s).lnk.get q).byteTimer = (s.lnk.get q).byteTimer) ∧
    (∀ q, ((frameEnd p f s).lnk.get q).resyncTimer = (s.lnk.get q).resyncTimer) ∧
    (∀ q, ((frameEnd p f s).lnk.get q).reserved = (s.lnk.get q).reserved) ∧
    (∀ q, ((frameEnd p f s).lnk.get q).txFifo = (s.lnk.get q).txFifo) ∧
    (∀ q, ((frameEnd p f s).lnk.get q).txLine = (s.lnk.get q).txLine) ∧
    (∀ q, ((frameEnd p f s).lnk.get q).driving = (s.lnk.get q).driving) ∧
    (∀ q, ((frameEnd p f s).lnk.get q).rdyMode = (s.lnk.get q).rdyMode) ∧
    (∀ q, ((frameEnd p f s).lnk.get q).threshold = (s.lnk.get q).threshold) ∧
    (∀ q, ((frameEnd p f s).lnk.get q).ctsGating = (s.lnk.get q).ctsGating) ∧
    (∀ q, ((frameEnd p f s).lnk.get q).gap = (s.lnk.get q).gap) ∧
    (∀ q, ((frameEnd p f s).lnk.get q).cts = (s.lnk.get q).cts) ∧
    (∀ q, ((frameEnd p f s).lnk.get q).outstanding = (s.lnk.get q).outstanding) := by
  unfold frameEnd
  dsimp only
  repeat' split
  all_goals simp
  all_goals (repeat' apply And.intro) <;> intro q <;> split <;> simp_all

@[simp] theorem frameByte_frame (p : Port) (f : RxFrame) (b : Byte) (s : State) :
    (frameByte p f b s).pending = s.pending ∧ (frameByte p f b s).freeCount = s.freeCount ∧
    (frameByte p f b s).lensRead = s.lensRead ∧
    (frameByte p f b s).resetHeld = s.resetHeld ∧ (frameByte p f b s).unitAddress = s.unitAddress ∧
    (frameByte p f b s).pins = s.pins ∧ (frameByte p f b s).mkd = s.mkd ∧ (frameByte p f b s).rqt = s.rqt ∧
    (frameByte p f b s).trc = s.trc ∧ (frameByte p f b s).fit = s.fit ∧ (frameByte p f b s).fcc = s.fcc ∧
    (frameByte p f b s).gtu = s.gtu ∧ (frameByte p f b s).ntu.levels = s.ntu.levels ∧
    (∀ q, ((frameByte p f b s).lnk.get q).awaitMark = (s.lnk.get q).awaitMark) ∧
    (∀ q, ((frameByte p f b s).lnk.get q).byteTimer = (s.lnk.get q).byteTimer) ∧
    (∀ q, ((frameByte p f b s).lnk.get q).resyncTimer = (s.lnk.get q).resyncTimer) ∧
    (∀ q, ((frameByte p f b s).lnk.get q).reserved = (s.lnk.get q).reserved) ∧
    (∀ q, ((frameByte p f b s).lnk.get q).txFifo = (s.lnk.get q).txFifo) ∧
    (∀ q, ((frameByte p f b s).lnk.get q).txLine = (s.lnk.get q).txLine) ∧
    (∀ q, ((frameByte p f b s).lnk.get q).driving = (s.lnk.get q).driving) ∧
    (∀ q, ((frameByte p f b s).lnk.get q).rdyMode = (s.lnk.get q).rdyMode) ∧
    (∀ q, ((frameByte p f b s).lnk.get q).threshold = (s.lnk.get q).threshold) ∧
    (∀ q, ((frameByte p f b s).lnk.get q).ctsGating = (s.lnk.get q).ctsGating) ∧
    (∀ q, ((frameByte p f b s).lnk.get q).gap = (s.lnk.get q).gap) ∧
    (∀ q, ((frameByte p f b s).lnk.get q).cts = (s.lnk.get q).cts) ∧
    (∀ q, ((frameByte p f b s).lnk.get q).outstanding = (s.lnk.get q).outstanding) := by
  unfold frameByte
  dsimp only
  repeat' split
  all_goals simp

@[simp] theorem byteArrives_frame (p : Port) (b : Byte) (s : State) :
    (byteArrives p b s).pending = s.pending ∧ (byteArrives p b s).freeCount = s.freeCount ∧
    (byteArrives p b s).lensRead = s.lensRead ∧
    (byteArrives p b s).resetHeld = s.resetHeld ∧ (byteArrives p b s).unitAddress = s.unitAddress ∧
    (byteArrives p b s).pins = s.pins ∧ (byteArrives p b s).mkd = s.mkd ∧ (byteArrives p b s).rqt = s.rqt ∧
    (byteArrives p b s).trc = s.trc ∧ (byteArrives p b s).fit = s.fit ∧ (byteArrives p b s).fcc = s.fcc ∧
    (byteArrives p b s).gtu = s.gtu ∧ (byteArrives p b s).ntu.levels = s.ntu.levels ∧
    (∀ q, ((byteArrives p b s).lnk.get q).awaitMark = (s.lnk.get q).awaitMark) ∧
    (∀ q, ((byteArrives p b s).lnk.get q).byteTimer = (s.lnk.get q).byteTimer) ∧
    (∀ q, ((byteArrives p b s).lnk.get q).resyncTimer = (s.lnk.get q).resyncTimer) ∧
    (∀ q, ((byteArrives p b s).lnk.get q).reserved = (s.lnk.get q).reserved) ∧
    (∀ q, ((byteArrives p b s).lnk.get q).txFifo = (s.lnk.get q).txFifo) ∧
    (∀ q, ((byteArrives p b s).lnk.get q).txLine = (s.lnk.get q).txLine) ∧
    (∀ q, ((byteArrives p b s).lnk.get q).driving = (s.lnk.get q).driving) ∧
    (∀ q, ((byteArrives p b s).lnk.get q).rdyMode = (s.lnk.get q).rdyMode) ∧
    (∀ q, ((byteArrives p b s).lnk.get q).threshold = (s.lnk.get q).threshold) ∧
    (∀ q, ((byteArrives p b s).lnk.get q).ctsGating = (s.lnk.get q).ctsGating) ∧
    (∀ q, ((byteArrives p b s).lnk.get q).gap = (s.lnk.get q).gap) ∧
    (∀ q, ((byteArrives p b s).lnk.get q).cts = (s.lnk.get q).cts) ∧
    (∀ q, ((byteArrives p b s).lnk.get q).outstanding = (s.lnk.get q).outstanding) := by
  unfold byteArrives
  split <;> simp

@[simp] theorem byteTimerExpires_frame (p : Port) (s : State) :
    (byteTimerExpires p s).pending = s.pending ∧ (byteTimerExpires p s).freeCount = s.freeCount ∧
    (byteTimerExpires p s).lensRead = s.lensRead ∧
    (byteTimerExpires p s).resetHeld = s.resetHeld ∧ (byteTimerExpires p s).unitAddress = s.unitAddress ∧
    (byteTimerExpires p s).pins = s.pins ∧ (byteTimerExpires p s).mkd = s.mkd ∧ (byteTimerExpires p s).rqt = s.rqt ∧
    (byteTimerExpires p s).trc = s.trc ∧ (byteTimerExpires p s).fit = s.fit ∧ (byteTimerExpires p s).fcc = s.fcc ∧
    (byteTimerExpires p s).gtu = s.gtu ∧ (byteTimerExpires p s).ntu.levels = s.ntu.levels ∧
    (∀ q, ((byteTimerExpires p s).lnk.get q).inbox = (s.lnk.get q).inbox) ∧
    (∀ q, ((byteTimerExpires p s).lnk.get q).awaitMark = (s.lnk.get q).awaitMark) ∧
    (∀ q, ((byteTimerExpires p s).lnk.get q).reserved = (s.lnk.get q).reserved) ∧
    (∀ q, ((byteTimerExpires p s).lnk.get q).txFifo = (s.lnk.get q).txFifo) ∧
    (∀ q, ((byteTimerExpires p s).lnk.get q).txLine = (s.lnk.get q).txLine) ∧
    (∀ q, ((byteTimerExpires p s).lnk.get q).driving = (s.lnk.get q).driving) ∧
    (∀ q, ((byteTimerExpires p s).lnk.get q).rdyMode = (s.lnk.get q).rdyMode) ∧
    (∀ q, ((byteTimerExpires p s).lnk.get q).threshold = (s.lnk.get q).threshold) ∧
    (∀ q, ((byteTimerExpires p s).lnk.get q).ctsGating = (s.lnk.get q).ctsGating) ∧
    (∀ q, ((byteTimerExpires p s).lnk.get q).gap = (s.lnk.get q).gap) ∧
    (∀ q, ((byteTimerExpires p s).lnk.get q).cts = (s.lnk.get q).cts) ∧
    (∀ q, ((byteTimerExpires p s).lnk.get q).outstanding = (s.lnk.get q).outstanding) := by
  unfold byteTimerExpires
  repeat' split
  all_goals simp

@[simp] theorem spaceAtStop_frame (p : Port) (s : State) :
    (spaceAtStop p s).pending = s.pending ∧ (spaceAtStop p s).freeCount = s.freeCount ∧
    (spaceAtStop p s).lensRead = s.lensRead ∧
    (spaceAtStop p s).resetHeld = s.resetHeld ∧ (spaceAtStop p s).unitAddress = s.unitAddress ∧
    (spaceAtStop p s).pins = s.pins ∧ (spaceAtStop p s).mkd = s.mkd ∧ (spaceAtStop p s).rqt = s.rqt ∧
    (spaceAtStop p s).trc = s.trc ∧ (spaceAtStop p s).fit = s.fit ∧ (spaceAtStop p s).fcc = s.fcc ∧
    (spaceAtStop p s).gtu = s.gtu ∧ (spaceAtStop p s).ntu.levels = s.ntu.levels ∧
    (∀ q, ((spaceAtStop p s).lnk.get q).inbox = (s.lnk.get q).inbox) ∧
    (∀ q, ((spaceAtStop p s).lnk.get q).awaitMark = (s.lnk.get q).awaitMark) ∧
    (∀ q, ((spaceAtStop p s).lnk.get q).reserved = (s.lnk.get q).reserved) ∧
    (∀ q, ((spaceAtStop p s).lnk.get q).txFifo = (s.lnk.get q).txFifo) ∧
    (∀ q, ((spaceAtStop p s).lnk.get q).txLine = (s.lnk.get q).txLine) ∧
    (∀ q, ((spaceAtStop p s).lnk.get q).driving = (s.lnk.get q).driving) ∧
    (∀ q, ((spaceAtStop p s).lnk.get q).rdyMode = (s.lnk.get q).rdyMode) ∧
    (∀ q, ((spaceAtStop p s).lnk.get q).threshold = (s.lnk.get q).threshold) ∧
    (∀ q, ((spaceAtStop p s).lnk.get q).ctsGating = (s.lnk.get q).ctsGating) ∧
    (∀ q, ((spaceAtStop p s).lnk.get q).gap = (s.lnk.get q).gap) ∧
    (∀ q, ((spaceAtStop p s).lnk.get q).cts = (s.lnk.get q).cts) ∧
    (∀ q, ((spaceAtStop p s).lnk.get q).outstanding = (s.lnk.get q).outstanding) := by
  unfold spaceAtStop
  repeat' split
  all_goals simp

@[simp] theorem resyncEnds_frame (p : Port) (s : State) :
    (resyncEnds p s).pending = s.pending ∧ (resyncEnds p s).freeCount = s.freeCount ∧
    (resyncEnds p s).lensRead = s.lensRead ∧
    (resyncEnds p s).resetHeld = s.resetHeld ∧ (resyncEnds p s).unitAddress = s.unitAddress ∧
    (resyncEnds p s).pins = s.pins ∧ (resyncEnds p s).mkd = s.mkd ∧ (resyncEnds p s).rqt = s.rqt ∧
    (resyncEnds p s).trc = s.trc ∧ (resyncEnds p s).fit = s.fit ∧ (resyncEnds p s).fcc = s.fcc ∧
    (resyncEnds p s).gtu = s.gtu ∧ (resyncEnds p s).ntu = s.ntu ∧
    (∀ q, ((resyncEnds p s).lnk.get q).part = (s.lnk.get q).part) ∧
    (∀ q, ((resyncEnds p s).lnk.get q).inbox = (s.lnk.get q).inbox) ∧
    (∀ q, ((resyncEnds p s).lnk.get q).awaitMark = (s.lnk.get q).awaitMark) ∧
    (∀ q, ((resyncEnds p s).lnk.get q).outbox = (s.lnk.get q).outbox) ∧
    (∀ q, ((resyncEnds p s).lnk.get q).reserved = (s.lnk.get q).reserved) ∧
    (∀ q, ((resyncEnds p s).lnk.get q).released = (s.lnk.get q).released) ∧
    (∀ q, ((resyncEnds p s).lnk.get q).txFifo = (s.lnk.get q).txFifo) ∧
    (∀ q, ((resyncEnds p s).lnk.get q).txLine = (s.lnk.get q).txLine) ∧
    (∀ q, ((resyncEnds p s).lnk.get q).driving = (s.lnk.get q).driving) ∧
    (∀ q, ((resyncEnds p s).lnk.get q).rdyMode = (s.lnk.get q).rdyMode) ∧
    (∀ q, ((resyncEnds p s).lnk.get q).threshold = (s.lnk.get q).threshold) ∧
    (∀ q, ((resyncEnds p s).lnk.get q).ctsGating = (s.lnk.get q).ctsGating) ∧
    (∀ q, ((resyncEnds p s).lnk.get q).gap = (s.lnk.get q).gap) ∧
    (∀ q, ((resyncEnds p s).lnk.get q).flags = (s.lnk.get q).flags) ∧
    (∀ q, ((resyncEnds p s).lnk.get q).cts = (s.lnk.get q).cts) ∧
    (∀ q, ((resyncEnds p s).lnk.get q).outstanding = (s.lnk.get q).outstanding) := by
  unfold resyncEnds
  split <;> simp

@[simp] theorem markReturns_frame (p : Port) (s : State) :
    (markReturns p s).pending = s.pending ∧ (markReturns p s).freeCount = s.freeCount ∧
    (markReturns p s).lensRead = s.lensRead ∧
    (markReturns p s).resetHeld = s.resetHeld ∧ (markReturns p s).unitAddress = s.unitAddress ∧
    (markReturns p s).pins = s.pins ∧ (markReturns p s).mkd = s.mkd ∧ (markReturns p s).rqt = s.rqt ∧
    (markReturns p s).trc = s.trc ∧ (markReturns p s).fit = s.fit ∧ (markReturns p s).fcc = s.fcc ∧
    (markReturns p s).gtu = s.gtu ∧ (markReturns p s).ntu = s.ntu ∧
    (∀ q, ((markReturns p s).lnk.get q).part = (s.lnk.get q).part) ∧
    (∀ q, ((markReturns p s).lnk.get q).inbox = (s.lnk.get q).inbox) ∧
    (∀ q, ((markReturns p s).lnk.get q).byteTimer = (s.lnk.get q).byteTimer) ∧
    (∀ q, ((markReturns p s).lnk.get q).resyncTimer = (s.lnk.get q).resyncTimer) ∧
    (∀ q, ((markReturns p s).lnk.get q).outbox = (s.lnk.get q).outbox) ∧
    (∀ q, ((markReturns p s).lnk.get q).reserved = (s.lnk.get q).reserved) ∧
    (∀ q, ((markReturns p s).lnk.get q).released = (s.lnk.get q).released) ∧
    (∀ q, ((markReturns p s).lnk.get q).txFifo = (s.lnk.get q).txFifo) ∧
    (∀ q, ((markReturns p s).lnk.get q).txLine = (s.lnk.get q).txLine) ∧
    (∀ q, ((markReturns p s).lnk.get q).driving = (s.lnk.get q).driving) ∧
    (∀ q, ((markReturns p s).lnk.get q).rdyMode = (s.lnk.get q).rdyMode) ∧
    (∀ q, ((markReturns p s).lnk.get q).threshold = (s.lnk.get q).threshold) ∧
    (∀ q, ((markReturns p s).lnk.get q).ctsGating = (s.lnk.get q).ctsGating) ∧
    (∀ q, ((markReturns p s).lnk.get q).gap = (s.lnk.get q).gap) ∧
    (∀ q, ((markReturns p s).lnk.get q).flags = (s.lnk.get q).flags) ∧
    (∀ q, ((markReturns p s).lnk.get q).cts = (s.lnk.get q).cts) ∧
    (∀ q, ((markReturns p s).lnk.get q).outstanding = (s.lnk.get q).outstanding) := by
  unfold markReturns
  repeat' split
  all_goals simp
  all_goals (repeat' apply And.intro) <;> intro q <;> split <;> simp_all

@[simp] theorem sendCharacter_frame (p : Port) (s : State) :
    (sendCharacter p s).pending = s.pending ∧ (sendCharacter p s).freeCount = s.freeCount ∧
    (sendCharacter p s).lensRead = s.lensRead ∧
    (sendCharacter p s).resetHeld = s.resetHeld ∧ (sendCharacter p s).unitAddress = s.unitAddress ∧
    (sendCharacter p s).pins = s.pins ∧ (sendCharacter p s).mkd = s.mkd ∧ (sendCharacter p s).rqt = s.rqt ∧
    (sendCharacter p s).trc = s.trc ∧ (sendCharacter p s).fit = s.fit ∧ (sendCharacter p s).fcc = s.fcc ∧
    (sendCharacter p s).gtu = s.gtu ∧ (sendCharacter p s).ntu = s.ntu ∧
    (∀ q, ((sendCharacter p s).lnk.get q).rx = (s.lnk.get q).rx) ∧
    (∀ q, ((sendCharacter p s).lnk.get q).part = (s.lnk.get q).part) ∧
    (∀ q, ((sendCharacter p s).lnk.get q).inbox = (s.lnk.get q).inbox) ∧
    (∀ q, ((sendCharacter p s).lnk.get q).awaitMark = (s.lnk.get q).awaitMark) ∧
    (∀ q, ((sendCharacter p s).lnk.get q).byteTimer = (s.lnk.get q).byteTimer) ∧
    (∀ q, ((sendCharacter p s).lnk.get q).resyncTimer = (s.lnk.get q).resyncTimer) ∧
    (∀ q, ((sendCharacter p s).lnk.get q).outbox = (s.lnk.get q).outbox) ∧
    (∀ q, ((sendCharacter p s).lnk.get q).reserved = (s.lnk.get q).reserved) ∧
    (∀ q, ((sendCharacter p s).lnk.get q).released = (s.lnk.get q).released) ∧
    (∀ q, ((sendCharacter p s).lnk.get q).rdyMode = (s.lnk.get q).rdyMode) ∧
    (∀ q, ((sendCharacter p s).lnk.get q).threshold = (s.lnk.get q).threshold) ∧
    (∀ q, ((sendCharacter p s).lnk.get q).ctsGating = (s.lnk.get q).ctsGating) ∧
    (∀ q, ((sendCharacter p s).lnk.get q).gap = (s.lnk.get q).gap) ∧
    (∀ q, ((sendCharacter p s).lnk.get q).flags = (s.lnk.get q).flags) ∧
    (∀ q, ((sendCharacter p s).lnk.get q).cts = (s.lnk.get q).cts) ∧
    (∀ q, ((sendCharacter p s).lnk.get q).outstanding = (s.lnk.get q).outstanding) := by
  unfold sendCharacter
  dsimp only
  repeat' split
  all_goals simp
  all_goals (repeat' apply And.intro) <;> intro q <;> split <;> simp_all

@[simp] theorem setCts_frame (p : Port) (active : Bool) (s : State) :
    (setCts p active s).pending = s.pending ∧ (setCts p active s).freeCount = s.freeCount ∧
    (setCts p active s).lensRead = s.lensRead ∧
    (setCts p active s).resetHeld = s.resetHeld ∧ (setCts p active s).unitAddress = s.unitAddress ∧
    (setCts p active s).pins = s.pins ∧ (setCts p active s).mkd = s.mkd ∧ (setCts p active s).rqt = s.rqt ∧
    (setCts p active s).trc = s.trc ∧ (setCts p active s).fit = s.fit ∧ (setCts p active s).fcc = s.fcc ∧
    (setCts p active s).gtu = s.gtu ∧ (setCts p active s).ntu = s.ntu ∧
    (∀ q, ((setCts p active s).lnk.get q).rx = (s.lnk.get q).rx) ∧
    (∀ q, ((setCts p active s).lnk.get q).part = (s.lnk.get q).part) ∧
    (∀ q, ((setCts p active s).lnk.get q).inbox = (s.lnk.get q).inbox) ∧
    (∀ q, ((setCts p active s).lnk.get q).awaitMark = (s.lnk.get q).awaitMark) ∧
    (∀ q, ((setCts p active s).lnk.get q).byteTimer = (s.lnk.get q).byteTimer) ∧
    (∀ q, ((setCts p active s).lnk.get q).resyncTimer = (s.lnk.get q).resyncTimer) ∧
    (∀ q, ((setCts p active s).lnk.get q).outbox = (s.lnk.get q).outbox) ∧
    (∀ q, ((setCts p active s).lnk.get q).reserved = (s.lnk.get q).reserved) ∧
    (∀ q, ((setCts p active s).lnk.get q).released = (s.lnk.get q).released) ∧
    (∀ q, ((setCts p active s).lnk.get q).txFifo = (s.lnk.get q).txFifo) ∧
    (∀ q, ((setCts p active s).lnk.get q).txLine = (s.lnk.get q).txLine) ∧
    (∀ q, ((setCts p active s).lnk.get q).driving = (s.lnk.get q).driving) ∧
    (∀ q, ((setCts p active s).lnk.get q).rdyMode = (s.lnk.get q).rdyMode) ∧
    (∀ q, ((setCts p active s).lnk.get q).threshold = (s.lnk.get q).threshold) ∧
    (∀ q, ((setCts p active s).lnk.get q).ctsGating = (s.lnk.get q).ctsGating) ∧
    (∀ q, ((setCts p active s).lnk.get q).gap = (s.lnk.get q).gap) ∧
    (∀ q, ((setCts p active s).lnk.get q).flags = (s.lnk.get q).flags) ∧
    (∀ q, ((setCts p active s).lnk.get q).outstanding = (s.lnk.get q).outstanding) := by
  simp [setCts]
  (repeat' apply And.intro) <;> intro q <;> split <;> simp_all

end Sys2Proof.Machine
end

