-- ==== Sys2Proof/Laws/FrameFilm.lean ====
section
/-! SUPPORT. What each operation of the film events leaves unchanged: one frame for each, which later proofs cite instead of
unfolding it. -/

namespace Sys2Proof.Machine

@[simp] theorem threadedState_frame (track0 : Byte) (track1 : Byte) (s : State) :
    (threadedState track0 track1 s).pending = s.pending ∧ (threadedState track0 track1 s).freeCount = s.freeCount ∧
    (threadedState track0 track1 s).lensRead = s.lensRead ∧
    (threadedState track0 track1 s).resetHeld = s.resetHeld ∧
    (threadedState track0 track1 s).unitAddress = s.unitAddress ∧ (threadedState track0 track1 s).rqt = s.rqt ∧
    (threadedState track0 track1 s).trc.profile = s.trc.profile ∧
    (threadedState track0 track1 s).trc.travelDir = s.trc.travelDir ∧
    (threadedState track0 track1 s).trc.speed = s.trc.speed ∧ (threadedState track0 track1 s).trc.move = s.trc.move ∧
    (threadedState track0 track1 s).trc.epoch = s.trc.epoch ∧
    (threadedState track0 track1 s).trc.cause = s.trc.cause ∧
    (threadedState track0 track1 s).trc.retension = s.trc.retension ∧
    (threadedState track0 track1 s).trc.parkDelay = s.trc.parkDelay ∧
    (threadedState track0 track1 s).trc.wakeDelay = s.trc.wakeDelay ∧
    (threadedState track0 track1 s).trc.wakeFor = s.trc.wakeFor ∧ (threadedState track0 track1 s).fcc = s.fcc ∧
    (threadedState track0 track1 s).gtu = s.gtu ∧ (threadedState track0 track1 s).ntu = s.ntu ∧
    (threadedState track0 track1 s).lnk = s.lnk := by
  simp [threadedState]

@[simp] theorem retensioned_frame (s : State) :
    (retensioned s).pending = s.pending ∧ (retensioned s).freeCount = s.freeCount ∧
    (retensioned s).lensRead = s.lensRead ∧
    (retensioned s).resetHeld = s.resetHeld ∧ (retensioned s).unitAddress = s.unitAddress ∧
    (retensioned s).pins = s.pins ∧ (retensioned s).mkd = s.mkd ∧ (retensioned s).rqt = s.rqt ∧
    (retensioned s).trc.roll = s.trc.roll ∧ (retensioned s).trc.profile = s.trc.profile ∧
    (retensioned s).trc.counter = s.trc.counter ∧ (retensioned s).trc.endPos = s.trc.endPos ∧
    (retensioned s).trc.overrun = s.trc.overrun ∧ (retensioned s).trc.travelDir = s.trc.travelDir ∧
    (retensioned s).trc.speed = s.trc.speed ∧ (retensioned s).trc.move = s.trc.move ∧
    (retensioned s).trc.epoch = s.trc.epoch ∧ (retensioned s).trc.verified = s.trc.verified ∧
    (retensioned s).trc.slip = s.trc.slip ∧ (retensioned s).trc.parkDelay = s.trc.parkDelay ∧
    (retensioned s).trc.wakeDelay = s.trc.wakeDelay ∧ (retensioned s).trc.wakeFor = s.trc.wakeFor ∧
    (retensioned s).trc.timers = s.trc.timers ∧ (retensioned s).fit.entries = s.fit.entries ∧
    (retensioned s).fit.index = s.fit.index ∧ (retensioned s).fit.p256 = s.fit.p256 ∧
    (retensioned s).fit.splice = s.fit.splice ∧ (retensioned s).fit.verify = s.fit.verify ∧
    (retensioned s).fcc = s.fcc ∧ (retensioned s).gtu = s.gtu ∧ (retensioned s).ntu = s.ntu ∧
    (retensioned s).lnk = s.lnk := by
  simp [retensioned]

@[simp] theorem takeReading_frame (x : Sample) (s : State) :
    (takeReading x s).pending = s.pending ∧ (takeReading x s).freeCount = s.freeCount ∧
    (takeReading x s).lensRead = s.lensRead ∧
    (takeReading x s).resetHeld = s.resetHeld ∧ (takeReading x s).unitAddress = s.unitAddress ∧
    (takeReading x s).mkd = s.mkd ∧ (takeReading x s).rqt = s.rqt ∧ (takeReading x s).trc.roll = s.trc.roll ∧
    (takeReading x s).trc.profile = s.trc.profile ∧ (takeReading x s).trc.counter = s.trc.counter ∧
    (takeReading x s).trc.endPos = s.trc.endPos ∧ (takeReading x s).trc.overrun = s.trc.overrun ∧
    (takeReading x s).trc.motion = s.trc.motion ∧ (takeReading x s).trc.travelDir = s.trc.travelDir ∧
    (takeReading x s).trc.move = s.trc.move ∧ (takeReading x s).trc.epoch = s.trc.epoch ∧
    (takeReading x s).trc.verified = s.trc.verified ∧ (takeReading x s).trc.slip = s.trc.slip ∧
    (takeReading x s).trc.cause = s.trc.cause ∧ (takeReading x s).trc.retension = s.trc.retension ∧
    (takeReading x s).trc.parkDelay = s.trc.parkDelay ∧ (takeReading x s).trc.wakeDelay = s.trc.wakeDelay ∧
    (takeReading x s).trc.wakeFor = s.trc.wakeFor ∧ (takeReading x s).fit = s.fit ∧ (takeReading x s).fcc = s.fcc ∧
    (takeReading x s).gtu = s.gtu ∧ (takeReading x s).ntu = s.ntu ∧ (takeReading x s).lnk = s.lnk := by
  simp [takeReading]

@[simp] theorem endFound_frame (w : Ctx) :
    (endFound w).st.pending = w.st.pending ∧ (endFound w).st.freeCount = w.st.freeCount ∧
    (endFound w).st.lensRead = w.st.lensRead ∧
    (endFound w).st.resetHeld = w.st.resetHeld ∧ (endFound w).st.unitAddress = w.st.unitAddress ∧
    (endFound w).st.pins = w.st.pins ∧ (endFound w).st.mkd = w.st.mkd ∧ (endFound w).st.rqt = w.st.rqt ∧
    (endFound w).st.trc.roll = w.st.trc.roll ∧ (endFound w).st.trc.profile = w.st.trc.profile ∧
    (endFound w).st.trc.counter = w.st.trc.counter ∧ (endFound w).st.trc.overrun = w.st.trc.overrun ∧
    (endFound w).st.trc.motion = w.st.trc.motion ∧ (endFound w).st.trc.travelDir = w.st.trc.travelDir ∧
    (endFound w).st.trc.speed = w.st.trc.speed ∧ (endFound w).st.trc.move = w.st.trc.move ∧
    (endFound w).st.trc.epoch = w.st.trc.epoch ∧ (endFound w).st.trc.verified = w.st.trc.verified ∧
    (endFound w).st.trc.slip = w.st.trc.slip ∧ (endFound w).st.trc.cause = w.st.trc.cause ∧
    (endFound w).st.trc.retension = w.st.trc.retension ∧ (endFound w).st.trc.parkDelay = w.st.trc.parkDelay ∧
    (endFound w).st.trc.wakeDelay = w.st.trc.wakeDelay ∧ (endFound w).st.trc.wakeFor = w.st.trc.wakeFor ∧
    (endFound w).st.trc.timers = w.st.trc.timers ∧ (endFound w).st.fit.entries = w.st.fit.entries ∧
    (endFound w).st.fit.p256 = w.st.fit.p256 ∧ (endFound w).st.fit.splice = w.st.fit.splice ∧
    (endFound w).st.fit.verify = w.st.fit.verify ∧ (endFound w).st.fcc = w.st.fcc ∧ (endFound w).st.gtu = w.st.gtu ∧
    (endFound w).st.ntu = w.st.ntu ∧ (endFound w).st.lnk = w.st.lnk := by
  simp [endFound]

@[simp] theorem endReplan_frame (m : Move) (s : State) :
    (endReplan m s).pending = s.pending ∧ (endReplan m s).freeCount = s.freeCount ∧
    (endReplan m s).lensRead = s.lensRead ∧
    (endReplan m s).resetHeld = s.resetHeld ∧ (endReplan m s).unitAddress = s.unitAddress ∧
    (endReplan m s).pins = s.pins ∧ (endReplan m s).mkd = s.mkd ∧ (endReplan m s).rqt = s.rqt ∧
    (endReplan m s).trc.roll = s.trc.roll ∧ (endReplan m s).trc.profile = s.trc.profile ∧
    (endReplan m s).trc.counter = s.trc.counter ∧ (endReplan m s).trc.endPos = s.trc.endPos ∧
    (endReplan m s).trc.overrun = s.trc.overrun ∧ (endReplan m s).trc.travelDir = s.trc.travelDir ∧
    (endReplan m s).trc.speed = s.trc.speed ∧ (endReplan m s).trc.epoch = s.trc.epoch ∧
    (endReplan m s).trc.verified = s.trc.verified ∧ (endReplan m s).trc.slip = s.trc.slip ∧
    (endReplan m s).trc.cause = s.trc.cause ∧ (endReplan m s).trc.retension = s.trc.retension ∧
    (endReplan m s).trc.parkDelay = s.trc.parkDelay ∧ (endReplan m s).trc.wakeDelay = s.trc.wakeDelay ∧
    (endReplan m s).trc.wakeFor = s.trc.wakeFor ∧ (endReplan m s).trc.timers = s.trc.timers ∧
    (endReplan m s).fit.entries = s.fit.entries ∧ (endReplan m s).fit.index = s.fit.index ∧
    (endReplan m s).fit.p256 = s.fit.p256 ∧ (endReplan m s).fit.splice = s.fit.splice ∧
    (endReplan m s).fit.verify = s.fit.verify ∧ (endReplan m s).fcc = s.fcc ∧ (endReplan m s).gtu = s.gtu ∧
    (endReplan m s).ntu = s.ntu ∧ (endReplan m s).lnk = s.lnk := by
  simp [endReplan]

@[simp] theorem endMotion_frame (m : Move) (w : Ctx) :
    (endMotion m w).st.pending = w.st.pending ∧ (endMotion m w).st.freeCount = w.st.freeCount ∧
    (endMotion m w).st.lensRead = w.st.lensRead ∧
    (endMotion m w).st.resetHeld = w.st.resetHeld ∧ (endMotion m w).st.unitAddress = w.st.unitAddress ∧
    (endMotion m w).st.pins = w.st.pins ∧ (endMotion m w).st.mkd = w.st.mkd ∧
    (endMotion m w).st.rqt.arrival = w.st.rqt.arrival ∧ (endMotion m w).st.rqt.halted = w.st.rqt.halted ∧
    (endMotion m w).st.trc.roll = w.st.trc.roll ∧ (endMotion m w).st.trc.profile = w.st.trc.profile ∧
    (endMotion m w).st.trc.counter = w.st.trc.counter ∧ (endMotion m w).st.trc.endPos = w.st.trc.endPos ∧
    (endMotion m w).st.trc.overrun = w.st.trc.overrun ∧ (endMotion m w).st.trc.travelDir = w.st.trc.travelDir ∧
    (endMotion m w).st.trc.epoch = w.st.trc.epoch ∧ (endMotion m w).st.trc.parkDelay = w.st.trc.parkDelay ∧
    (endMotion m w).st.trc.wakeDelay = w.st.trc.wakeDelay ∧ (endMotion m w).st.trc.wakeFor = w.st.trc.wakeFor ∧
    (endMotion m w).st.trc.timers = w.st.trc.timers ∧ (endMotion m w).st.fit.entries = w.st.fit.entries ∧
    (endMotion m w).st.fit.index = w.st.fit.index ∧ (endMotion m w).st.fit.p256 = w.st.fit.p256 ∧
    (endMotion m w).st.fit.splice = w.st.fit.splice ∧ (endMotion m w).st.fcc.lens = w.st.fcc.lens ∧
    (endMotion m w).st.fcc.stage = w.st.fcc.stage ∧ (endMotion m w).st.fcc.lines = w.st.fcc.lines ∧
    (endMotion m w).st.fcc.lru = w.st.fcc.lru ∧ (endMotion m w).st.gtu.route = w.st.gtu.route ∧
    (endMotion m w).st.ntu.ports = w.st.ntu.ports ∧ (∀ q, ((endMotion m w).st.lnk.get q).rx = (w.st.lnk.get q).rx) ∧
    (∀ q, ((endMotion m w).st.lnk.get q).part = (w.st.lnk.get q).part) ∧
    (∀ q, ((endMotion m w).st.lnk.get q).inbox = (w.st.lnk.get q).inbox) ∧
    (∀ q, ((endMotion m w).st.lnk.get q).awaitMark = (w.st.lnk.get q).awaitMark) ∧
    (∀ q, ((endMotion m w).st.lnk.get q).byteTimer = (w.st.lnk.get q).byteTimer) ∧
    (∀ q, ((endMotion m w).st.lnk.get q).resyncTimer = (w.st.lnk.get q).resyncTimer) ∧
    (∀ q, ((endMotion m w).st.lnk.get q).outbox = (w.st.lnk.get q).outbox) ∧
    (∀ q, ((endMotion m w).st.lnk.get q).released = (w.st.lnk.get q).released) ∧
    (∀ q, ((endMotion m w).st.lnk.get q).txFifo = (w.st.lnk.get q).txFifo) ∧
    (∀ q, ((endMotion m w).st.lnk.get q).txLine = (w.st.lnk.get q).txLine) ∧
    (∀ q, ((endMotion m w).st.lnk.get q).driving = (w.st.lnk.get q).driving) ∧
    (∀ q, ((endMotion m w).st.lnk.get q).rdyMode = (w.st.lnk.get q).rdyMode) ∧
    (∀ q, ((endMotion m w).st.lnk.get q).threshold = (w.st.lnk.get q).threshold) ∧
    (∀ q, ((endMotion m w).st.lnk.get q).ctsGating = (w.st.lnk.get q).ctsGating) ∧
    (∀ q, ((endMotion m w).st.lnk.get q).gap = (w.st.lnk.get q).gap) ∧
    (∀ q, ((endMotion m w).st.lnk.get q).flags = (w.st.lnk.get q).flags) ∧
    (∀ q, ((endMotion m w).st.lnk.get q).cts = (w.st.lnk.get q).cts) := by
  unfold endMotion
  dsimp only
  repeat' split
  all_goals simp

@[simp] theorem afterLeg_frame (m : Move) (s : State) :
    (afterLeg m s).pending = s.pending ∧ (afterLeg m s).freeCount = s.freeCount ∧
    (afterLeg m s).lensRead = s.lensRead ∧
    (afterLeg m s).resetHeld = s.resetHeld ∧ (afterLeg m s).unitAddress = s.unitAddress ∧
    (afterLeg m s).pins = s.pins ∧ (afterLeg m s).mkd = s.mkd ∧ (afterLeg m s).rqt = s.rqt ∧
    (afterLeg m s).trc.roll = s.trc.roll ∧ (afterLeg m s).trc.profile = s.trc.profile ∧
    (afterLeg m s).trc.counter = s.trc.counter ∧ (afterLeg m s).trc.endPos = s.trc.endPos ∧
    (afterLeg m s).trc.overrun = s.trc.overrun ∧ (afterLeg m s).trc.epoch = s.trc.epoch ∧
    (afterLeg m s).trc.verified = s.trc.verified ∧ (afterLeg m s).trc.slip = s.trc.slip ∧
    (afterLeg m s).trc.cause = s.trc.cause ∧ (afterLeg m s).trc.retension = s.trc.retension ∧
    (afterLeg m s).trc.parkDelay = s.trc.parkDelay ∧ (afterLeg m s).trc.wakeDelay = s.trc.wakeDelay ∧
    (afterLeg m s).trc.wakeFor = s.trc.wakeFor ∧ (afterLeg m s).fit.entries = s.fit.entries ∧
    (afterLeg m s).fit.index = s.fit.index ∧ (afterLeg m s).fit.p256 = s.fit.p256 ∧
    (afterLeg m s).fit.splice = s.fit.splice ∧ (afterLeg m s).fit.verify = s.fit.verify ∧
    (afterLeg m s).fcc = s.fcc ∧ (afterLeg m s).gtu = s.gtu ∧ (afterLeg m s).ntu = s.ntu ∧ (afterLeg m s).lnk = s.lnk := by
  unfold afterLeg
  repeat' split
  all_goals simp

@[simp] theorem atRest_frame (s : State) :
    (atRest s).pending = s.pending ∧ (atRest s).freeCount = s.freeCount ∧ (atRest s).lensRead = s.lensRead ∧
    (atRest s).resetHeld = s.resetHeld ∧
    (atRest s).unitAddress = s.unitAddress ∧ (atRest s).pins = s.pins ∧ (atRest s).mkd = s.mkd ∧
    (atRest s).rqt = s.rqt ∧ (atRest s).trc.roll = s.trc.roll ∧ (atRest s).trc.profile = s.trc.profile ∧
    (atRest s).trc.counter = s.trc.counter ∧ (atRest s).trc.endPos = s.trc.endPos ∧
    (atRest s).trc.overrun = s.trc.overrun ∧ (atRest s).trc.motion = s.trc.motion ∧
    (atRest s).trc.travelDir = s.trc.travelDir ∧ (atRest s).trc.move = s.trc.move ∧
    (atRest s).trc.epoch = s.trc.epoch ∧ (atRest s).trc.verified = s.trc.verified ∧
    (atRest s).trc.slip = s.trc.slip ∧ (atRest s).trc.cause = s.trc.cause ∧
    (atRest s).trc.retension = s.trc.retension ∧ (atRest s).trc.parkDelay = s.trc.parkDelay ∧
    (atRest s).trc.wakeDelay = s.trc.wakeDelay ∧ (atRest s).trc.wakeFor = s.trc.wakeFor ∧
    (atRest s).trc.timers = s.trc.timers ∧ (atRest s).fit = s.fit ∧ (atRest s).fcc = s.fcc ∧ (atRest s).gtu = s.gtu ∧
    (atRest s).ntu = s.ntu ∧ (atRest s).lnk = s.lnk := by
  simp [atRest]

@[simp] theorem settleRetry_frame (m : Move) (s : State) :
    (settleRetry m s).pending = s.pending ∧ (settleRetry m s).freeCount = s.freeCount ∧
    (settleRetry m s).lensRead = s.lensRead ∧
    (settleRetry m s).resetHeld = s.resetHeld ∧ (settleRetry m s).unitAddress = s.unitAddress ∧
    (settleRetry m s).pins = s.pins ∧ (settleRetry m s).mkd = s.mkd ∧ (settleRetry m s).rqt = s.rqt ∧
    (settleRetry m s).trc.roll = s.trc.roll ∧ (settleRetry m s).trc.profile = s.trc.profile ∧
    (settleRetry m s).trc.counter = s.trc.counter ∧ (settleRetry m s).trc.endPos = s.trc.endPos ∧
    (settleRetry m s).trc.overrun = s.trc.overrun ∧ (settleRetry m s).trc.verified = s.trc.verified ∧
    (settleRetry m s).trc.slip = s.trc.slip ∧ (settleRetry m s).trc.cause = s.trc.cause ∧
    (settleRetry m s).trc.retension = s.trc.retension ∧ (settleRetry m s).trc.parkDelay = s.trc.parkDelay ∧
    (settleRetry m s).trc.wakeDelay = s.trc.wakeDelay ∧ (settleRetry m s).trc.wakeFor = s.trc.wakeFor ∧
    (settleRetry m s).fit.entries = s.fit.entries ∧ (settleRetry m s).fit.index = s.fit.index ∧
    (settleRetry m s).fit.p256 = s.fit.p256 ∧ (settleRetry m s).fit.splice = s.fit.splice ∧
    (settleRetry m s).fit.verify = s.fit.verify ∧ (settleRetry m s).fcc = s.fcc ∧
    (settleRetry m s).gtu.phase = s.gtu.phase ∧ (settleRetry m s).gtu.inHand = s.gtu.inHand ∧
    (settleRetry m s).gtu.presentation = s.gtu.presentation ∧ (settleRetry m s).gtu.hold = s.gtu.hold ∧
    (settleRetry m s).gtu.exposure = s.gtu.exposure ∧ (settleRetry m s).gtu.trig = s.gtu.trig ∧
    (settleRetry m s).gtu.route = s.gtu.route ∧ (settleRetry m s).gtu.heldReport = s.gtu.heldReport ∧
    (settleRetry m s).ntu = s.ntu ∧ (settleRetry m s).lnk = s.lnk := by
  simp [settleRetry]

@[simp] theorem wakeEnds_frame (w : Ctx) :
    (wakeEnds w).st.pending = w.st.pending ∧ (wakeEnds w).st.freeCount = w.st.freeCount ∧
    (wakeEnds w).st.lensRead = w.st.lensRead ∧
    (wakeEnds w).st.resetHeld = w.st.resetHeld ∧ (wakeEnds w).st.unitAddress = w.st.unitAddress ∧
    (wakeEnds w).st.pins = w.st.pins ∧ (wakeEnds w).st.mkd = w.st.mkd ∧ (wakeEnds w).st.rqt = w.st.rqt ∧
    (wakeEnds w).st.trc.overrun = w.st.trc.overrun ∧ (wakeEnds w).st.trc.slip = w.st.trc.slip ∧
    (wakeEnds w).st.trc.cause = w.st.trc.cause ∧ (wakeEnds w).st.trc.retension = w.st.trc.retension ∧
    (wakeEnds w).st.trc.parkDelay = w.st.trc.parkDelay ∧ (wakeEnds w).st.trc.wakeDelay = w.st.trc.wakeDelay ∧
    (wakeEnds w).st.trc.wakeFor = w.st.trc.wakeFor ∧ (wakeEnds w).st.fit.entries = w.st.fit.entries ∧
    (wakeEnds w).st.fit.index = w.st.fit.index ∧ (wakeEnds w).st.fit.splice = w.st.fit.splice ∧
    (wakeEnds w).st.fit.verify = w.st.fit.verify ∧ (wakeEnds w).st.fcc = w.st.fcc ∧
    (wakeEnds w).st.gtu.phase = w.st.gtu.phase ∧ (wakeEnds w).st.gtu.inHand = w.st.gtu.inHand ∧
    (wakeEnds w).st.gtu.presentation = w.st.gtu.presentation ∧ (wakeEnds w).st.gtu.hold = w.st.gtu.hold ∧
    (wakeEnds w).st.gtu.exposure = w.st.gtu.exposure ∧ (wakeEnds w).st.gtu.trig = w.st.gtu.trig ∧
    (wakeEnds w).st.gtu.route = w.st.gtu.route ∧ (wakeEnds w).st.gtu.heldReport = w.st.gtu.heldReport ∧
    (wakeEnds w).st.ntu.ports = w.st.ntu.ports ∧ (∀ q, ((wakeEnds w).st.lnk.get q).rx = (w.st.lnk.get q).rx) ∧
    (∀ q, ((wakeEnds w).st.lnk.get q).part = (w.st.lnk.get q).part) ∧
    (∀ q, ((wakeEnds w).st.lnk.get q).inbox = (w.st.lnk.get q).inbox) ∧
    (∀ q, ((wakeEnds w).st.lnk.get q).awaitMark = (w.st.lnk.get q).awaitMark) ∧
    (∀ q, ((wakeEnds w).st.lnk.get q).byteTimer = (w.st.lnk.get q).byteTimer) ∧
    (∀ q, ((wakeEnds w).st.lnk.get q).resyncTimer = (w.st.lnk.get q).resyncTimer) ∧
    (∀ q, ((wakeEnds w).st.lnk.get q).outbox = (w.st.lnk.get q).outbox) ∧
    (∀ q, ((wakeEnds w).st.lnk.get q).released = (w.st.lnk.get q).released) ∧
    (∀ q, ((wakeEnds w).st.lnk.get q).txFifo = (w.st.lnk.get q).txFifo) ∧
    (∀ q, ((wakeEnds w).st.lnk.get q).txLine = (w.st.lnk.get q).txLine) ∧
    (∀ q, ((wakeEnds w).st.lnk.get q).driving = (w.st.lnk.get q).driving) ∧
    (∀ q, ((wakeEnds w).st.lnk.get q).rdyMode = (w.st.lnk.get q).rdyMode) ∧
    (∀ q, ((wakeEnds w).st.lnk.get q).threshold = (w.st.lnk.get q).threshold) ∧
    (∀ q, ((wakeEnds w).st.lnk.get q).ctsGating = (w.st.lnk.get q).ctsGating) ∧
    (∀ q, ((wakeEnds w).st.lnk.get q).gap = (w.st.lnk.get q).gap) ∧
    (∀ q, ((wakeEnds w).st.lnk.get q).flags = (w.st.lnk.get q).flags) ∧
    (∀ q, ((wakeEnds w).st.lnk.get q).cts = (w.st.lnk.get q).cts) := by
  unfold wakeEnds
  dsimp only
  repeat' split
  all_goals simp

end Sys2Proof.Machine
end

