-- ==== Sys2Proof/Laws/FramePath.lean ====
section
/-! SUPPORT. What the acceptance path, the decoder and the receiver leave of every request: the queue, the RESET pin, the unit
address and the input levels. -/

namespace Sys2Proof.Machine

/-- What no request, and no event of a link, changes. -/
def State.sameWorld (s t : State) : Prop :=
  t.pending = s.pending ∧ t.resetHeld = s.resetHeld ∧ t.unitAddress = s.unitAddress ∧ t.pins = s.pins

theorem sameWorld_refl (s : State) : s.sameWorld s := ⟨rfl, rfl, rfl, rfl⟩

theorem sameWorld_trans {s t u : State} (h : s.sameWorld t) (k : t.sameWorld u) : s.sameWorld u := by
  simp_all [State.sameWorld]

@[simp] theorem mapSources_frame (f : EventSource → EventSlot → EventSlot) (p : Port) (s : State) :
    (mapSources f p s).pending = s.pending ∧ (mapSources f p s).freeCount = s.freeCount ∧
    (mapSources f p s).lensRead = s.lensRead ∧
    (mapSources f p s).resetHeld = s.resetHeld ∧ (mapSources f p s).unitAddress = s.unitAddress ∧
    (mapSources f p s).pins = s.pins ∧ (mapSources f p s).lnk = s.lnk ∧ (mapSources f p s).rqt = s.rqt ∧
    (mapSources f p s).trc = s.trc ∧ (mapSources f p s).mkd = s.mkd ∧ (mapSources f p s).fit = s.fit ∧
    (mapSources f p s).fcc = s.fcc ∧ (mapSources f p s).gtu = s.gtu ∧
    (mapSources f p s).ntu.levels = s.ntu.levels := by
  unfold mapSources
  generalize allSources = l
  induction l generalizing s with
  | nil => simp
  | cons k l ih => simpa [List.foldl_cons] using ih (s.setSlot p k (f k (s.slot p k)))

@[simp] theorem finish_sameWorld (s : State) (w : Ctx) : s.sameWorld (finish w) ↔ s.sameWorld w.st := by
  simp [State.sameWorld]

@[simp] theorem finishQuiet_sameWorld (s : State) (w : Ctx) : s.sameWorld (finishQuiet w) ↔ s.sameWorld w.st := by
  simp [State.sameWorld]

@[simp] theorem refuse_sameWorld (e : Env) (st : Status) (r : List Byte) (s : State) :
    s.sameWorld (refuse e st r s) := by simp [State.sameWorld]

/-- An accepted request. -/
theorem perform_sameWorld (e : Env) (a : Action) (s : State) : s.sameWorld (perform e a s) := by
  unfold perform
  cases a with
  | correct c =>
    cases c <;>
      simp only [doMerge, doSplit, doMove, doClearTaken] <;> (repeat' split) <;> simp [State.sameWorld]
  | _ =>
    simp only [doLoad, doUnload, doPresent, doRun, doJog, doBarrier, doCancel, doCancelAll, doTake, doRelease, doWatch,
      doExpose, doGateStatus, doHalt, doResume, doClearFault, doReadIndex, doIndexStatus, doFocusLock, doFocusUnlock,
      doFocusFree, doFocusSet, doFocusRead, doConfigureLink, doLinkStatus, doResetLink, doSetNotices, doReadEvents,
      doClearEvents, doAckAttn, doSetStation, doneQuiet, setNotices]
    repeat' split
    all_goals simp [State.sameWorld]

@[simp] theorem releaseAll_sameWorld (e : Env) (s t : State) : s.sameWorld (releaseAll e t) ↔ s.sameWorld t := by
  unfold releaseAll; split <;> simp [State.sameWorld]

/-- The acceptance path. -/
theorem handle_sameWorld (e : Env) (body : List Byte) (s : State) : s.sameWorld (handle e body s) := by
  unfold handle acceptKind
  repeat' split
  all_goals simp [sameWorld_refl, perform_sameWorld]

/-- The decoder. -/
theorem drainN_sameWorld (n : Nat) (p : Port) (s : State) : s.sameWorld (drainN n p s) := by
  induction n generalizing s with
  | zero => exact sameWorld_refl s
  | succ n ih =>
    unfold drainN
    repeat' split
    · exact sameWorld_refl s
    · exact sameWorld_trans (sameWorld_trans (t := s.setLink p _) ⟨rfl, rfl, rfl, rfl⟩ (handle_sameWorld _ _ _)) (ih _)
    · exact sameWorld_refl s

@[simp] theorem drain_sameWorld (p : Port) (s t : State) (h : s.sameWorld t) : s.sameWorld (drain p t) := by
  have := sameWorld_trans h (drainN_sameWorld (t.link p).inbox.length p t)
  simpa [drain, State.sameWorld] using this

/-- A request row. -/
theorem requestArrives_sameWorld (code : Nat) (r : Request) (s : State) : s.sameWorld (requestArrives code r s) := by
  unfold requestArrives
  dsimp only
  repeat' split
  · exact sameWorld_refl s
  · exact handle_sameWorld _ _ _
  · exact drain_sameWorld _ _ _ ⟨rfl, rfl, rfl, rfl⟩
  · simp [State.sameWorld]

/-- A received byte. -/
theorem receive_sameWorld (p : Port) (b : Byte) (s : State) : s.sameWorld (receive p b s) := by
  unfold receive
  split
  · exact sameWorld_refl s
  · exact drain_sameWorld _ _ _ (by simp [State.sameWorld])

/-- The outbox. -/
theorem moveHead_sameWorld (p : Port) (s : State) : s.sameWorld (moveHead p s) := by
  unfold moveHead
  repeat' split
  · exact sameWorld_refl s
  · exact drain_sameWorld _ _ _ ⟨rfl, rfl, rfl, rfl⟩
  · exact sameWorld_refl s

/-- A break. -/
theorem breakTaken_sameWorld (p : Port) (s : State) : s.sameWorld (breakTaken p s) := by
  unfold breakTaken
  split
  · exact sameWorld_refl s
  · simp [State.sameWorld]

end Sys2Proof.Machine
end

