-- ==== Sys2Proof/Laws/Exec.lean ====
section
/-! SUPPORT. What `exec` answers for each row, in one equation each, and for the request rows together. -/

namespace Sys2Proof.Machine

@[simp] theorem exec_resetPinHeld (s : State) : exec (.resetPinHeld) s = .next (onResetPinHeld s) := rfl
@[simp] theorem exec_fullReset (straps : BitVec 7) (s : State) :
    exec (.fullReset straps) s = .next (onFullReset straps s) := rfl
@[simp] theorem exec_load (r : Request) (s : State) : exec (.load r) s = .next (requestArrives 1 r s) := rfl
@[simp] theorem exec_unload (r : Request) (s : State) : exec (.unload r) s = .next (requestArrives 2 r s) := rfl
@[simp] theorem exec_present (r : Request) (s : State) : exec (.present r) s = .next (requestArrives 3 r s) := rfl
@[simp] theorem exec_run (r : Request) (s : State) : exec (.run r) s = .next (requestArrives 4 r s) := rfl
@[simp] theorem exec_jog (r : Request) (s : State) : exec (.jog r) s = .next (requestArrives 5 r s) := rfl
@[simp] theorem exec_barrier (r : Request) (s : State) : exec (.barrier r) s = .next (requestArrives 6 r s) := rfl
@[simp] theorem exec_cancel (r : Request) (s : State) : exec (.cancel r) s = .next (requestArrives 7 r s) := rfl
@[simp] theorem exec_cancelAll (r : Request) (s : State) : exec (.cancelAll r) s = .next (requestArrives 8 r s) := rfl
@[simp] theorem exec_take (r : Request) (s : State) : exec (.take r) s = .next (requestArrives 9 r s) := rfl
@[simp] theorem exec_release (r : Request) (s : State) : exec (.release r) s = .next (requestArrives 10 r s) := rfl
@[simp] theorem exec_watch (r : Request) (s : State) : exec (.watch r) s = .next (requestArrives 11 r s) := rfl
@[simp] theorem exec_expose (r : Request) (s : State) : exec (.expose r) s = .next (requestArrives 12 r s) := rfl
@[simp] theorem exec_gateStatus (r : Request) (s : State) :
    exec (.gateStatus r) s = .next (requestArrives 13 r s) := rfl
@[simp] theorem exec_halt (r : Request) (s : State) : exec (.halt r) s = .next (requestArrives 14 r s) := rfl
@[simp] theorem exec_resume (r : Request) (s : State) : exec (.resume r) s = .next (requestArrives 15 r s) := rfl
@[simp] theorem exec_clearFault (r : Request) (s : State) :
    exec (.clearFault r) s = .next (requestArrives 16 r s) := rfl
@[simp] theorem exec_correctMerge (r : Request) (s : State) :
    exec (.correctMerge r) s = .next (requestArrives 17 { r with body := 0 :: r.body } s) := rfl
@[simp] theorem exec_correctSplit (r : Request) (s : State) :
    exec (.correctSplit r) s = .next (requestArrives 17 { r with body := 1 :: r.body } s) := rfl
@[simp] theorem exec_correctMove (r : Request) (s : State) :
    exec (.correctMove r) s = .next (requestArrives 17 { r with body := 2 :: r.body } s) := rfl
@[simp] theorem exec_correctClearTaken (r : Request) (s : State) :
    exec (.correctClearTaken r) s = .next (requestArrives 17 { r with body := 3 :: r.body } s) := rfl
@[simp] theorem exec_readIndex (r : Request) (s : State) :
    exec (.readIndex r) s = .next (requestArrives 18 r s) := rfl
@[simp] theorem exec_indexStatus (r : Request) (s : State) :
    exec (.indexStatus r) s = .next (requestArrives 19 r s) := rfl
@[simp] theorem exec_focusLock (r : Request) (s : State) :
    exec (.focusLock r) s = .next (requestArrives 20 r s) := rfl
@[simp] theorem exec_focusUnlock (r : Request) (s : State) :
    exec (.focusUnlock r) s = .next (requestArrives 21 r s) := rfl
@[simp] theorem exec_focusFree (r : Request) (s : State) :
    exec (.focusFree r) s = .next (requestArrives 22 r s) := rfl
@[simp] theorem exec_focusSet (r : Request) (s : State) : exec (.focusSet r) s = .next (requestArrives 23 r s) := rfl
@[simp] theorem exec_focusRead (r : Request) (s : State) :
    exec (.focusRead r) s = .next (requestArrives 24 r s) := rfl
@[simp] theorem exec_configureLink (r : Request) (s : State) :
    exec (.configureLink r) s = .next (requestArrives 25 r s) := rfl
@[simp] theorem exec_linkStatus (r : Request) (s : State) :
    exec (.linkStatus r) s = .next (requestArrives 26 r s) := rfl
@[simp] theorem exec_resetLink (r : Request) (s : State) :
    exec (.resetLink r) s = .next (requestArrives 27 r s) := rfl
@[simp] theorem exec_setNotices (r : Request) (s : State) :
    exec (.setNotices r) s = .next (requestArrives 28 r s) := rfl
@[simp] theorem exec_readEvents (r : Request) (s : State) :
    exec (.readEvents r) s = .next (requestArrives 29 r s) := rfl
@[simp] theorem exec_clearEvents (r : Request) (s : State) :
    exec (.clearEvents r) s = .next (requestArrives 30 r s) := rfl
@[simp] theorem exec_ackAttn (r : Request) (s : State) : exec (.ackAttn r) s = .next (requestArrives 31 r s) := rfl
@[simp] theorem exec_setStation (r : Request) (s : State) :
    exec (.setStation r) s = .next (requestArrives 32 r s) := rfl
@[simp] theorem exec_unknownKind (kind : BitVec 7) (r : Request) (s : State) :
    exec (.unknownKind kind r) s = .next (requestArrives kind.toNat r s) := rfl
@[simp] theorem exec_receiveByte (p : Port) (byte : Byte) (s : State) :
    exec (.receiveByte p byte) s = .next (onReceiveByte p byte s) := rfl
@[simp] theorem exec_stopBitAtSpace (p : Port) (s : State) :
    exec (.stopBitAtSpace p) s = .next (onStopBitAtSpace p s) := rfl
@[simp] theorem exec_lineBreak (p : Port) (s : State) : exec (.lineBreak p) s = .next (onLineBreak p s) := rfl
@[simp] theorem exec_byteTimeout (p : Port) (s : State) : exec (.byteTimeout p) s = .next (onByteTimeout p s) := rfl
@[simp] theorem exec_resyncEnd (p : Port) (s : State) : exec (.resyncEnd p) s = .next (onResyncEnd p s) := rfl
@[simp] theorem exec_outboxMessageMove (p : Port) (s : State) :
    exec (.outboxMessageMove p) s = .next (onOutboxMessageMove p s) := rfl
@[simp] theorem exec_transmitCharacter (p : Port) (s : State) :
    exec (.transmitCharacter p) s = .next (onTransmitCharacter p s) := rfl
@[simp] theorem exec_ctsChange (p : Port) (active : Bool) (s : State) :
    exec (.ctsChange p active) s = .next (onCtsChange p active s) := rfl
@[simp] theorem exec_tensionArmReading (arm : Arm) (reading : Byte) (s : State) :
    exec (.tensionArmReading arm reading) s = .next (onTensionArmReading arm reading s) := rfl
@[simp] theorem exec_threadingSuccess (track0 : Byte) (track1 : Byte) (s : State) :
    exec (.threadingSuccess track0 track1) s = .next (onThreadingSuccess track0 track1 s) := rfl
@[simp] theorem exec_threadingTimeout (s : State) : exec (.threadingTimeout) s = .next (onThreadingTimeout s) := rfl
@[simp] theorem exec_retensionSuccess (s : State) : exec (.retensionSuccess) s = .next (onRetensionSuccess s) := rfl
@[simp] theorem exec_retensionFail (s : State) : exec (.retensionFail) s = .next (onRetensionFail s) := rfl
@[simp] theorem exec_tensionPersistenceExpiry (s : State) :
    exec (.tensionPersistenceExpiry) s = .next (onTensionPersistenceExpiry s) := rfl
@[simp] theorem exec_stallTimerExpiry (s : State) : exec (.stallTimerExpiry) s = .next (onStallTimerExpiry s) := rfl
@[simp] theorem exec_leaderTimerExpiry (s : State) :
    exec (.leaderTimerExpiry) s = .next (onLeaderTimerExpiry s) := rfl
@[simp] theorem exec_encoderCount (d : Dir) (sample : Sample) (s : State) :
    exec (.encoderCount d sample) s = .next (onEncoderCount d sample s) := rfl
@[simp] theorem exec_leaderFall (s : State) : exec (.leaderFall) s = .next (onLeaderFall s) := rfl
@[simp] theorem exec_endRising (s : State) : exec (.endRising) s = .next (onEndRising s) := rfl
@[simp] theorem exec_spliceRising (s : State) : exec (.spliceRising) s = .next (onSpliceRising s) := rfl
@[simp] theorem exec_travelLegRest (s : State) : exec (.travelLegRest) s = .next (onTravelLegRest s) := rfl
@[simp] theorem exec_creepRest (s : State) : exec (.creepRest) s = .next (onCreepRest s) := rfl
@[simp] theorem exec_stopRampRest (s : State) : exec (.stopRampRest) s = .next (onStopRampRest s) := rfl
@[simp] theorem exec_boundRest (s : State) : exec (.boundRest) s = .next (onBoundRest s) := rfl
@[simp] theorem exec_settleTimerExpiry (s : State) :
    exec (.settleTimerExpiry) s = .next (onSettleTimerExpiry s) := rfl
@[simp] theorem exec_settleLimitExpiry (s : State) :
    exec (.settleLimitExpiry) s = .next (onSettleLimitExpiry s) := rfl
@[simp] theorem exec_parkTimerExpiry (s : State) : exec (.parkTimerExpiry) s = .next (onParkTimerExpiry s) := rfl
@[simp] theorem exec_wakeTimerExpiry (s : State) : exec (.wakeTimerExpiry) s = .next (onWakeTimerExpiry s) := rfl
@[simp] theorem exec_lensMoveComplete (s : State) : exec (.lensMoveComplete) s = .next (onLensMoveComplete s) := rfl
@[simp] theorem exec_lensHomingComplete (s : State) :
    exec (.lensHomingComplete) s = .next (onLensHomingComplete s) := rfl
@[simp] theorem exec_focusLineArrival (late : Bool) (line : List (BitVec 10)) (s : State) :
    exec (.focusLineArrival late line) s = .next (onFocusLineArrival late line s) := rfl
@[simp] theorem exec_focusSampleTimeout (s : State) :
    exec (.focusSampleTimeout) s = .next (onFocusSampleTimeout s) := rfl
@[simp] theorem exec_holdTimerExpiry (s : State) : exec (.holdTimerExpiry) s = .next (onHoldTimerExpiry s) := rfl
@[simp] theorem exec_expdoneRising (s : State) : exec (.expdoneRising) s = .next (onExpdoneRising s) := rfl
@[simp] theorem exec_exposureTimerExpiry (s : State) :
    exec (.exposureTimerExpiry) s = .next (onExposureTimerExpiry s) := rfl
@[simp] theorem exec_lineReturnsToMark (p : Port) (s : State) :
    exec (.lineReturnsToMark p) s = .next (onLineReturnsToMark p s) := rfl

/-- A request row is the arrival of its message. -/
theorem exec_message {c : Instr} {code : Nat} {r : Request} (h : c.message? = some (code, r)) (s : State) :
    exec c s = .next (requestArrives code r s) := by
  cases c <;> simp only [Instr.message?, Option.some.injEq, Prod.mk.injEq, reduceCtorEq] at h <;>
    obtain ⟨rfl, rfl⟩ := h <;> rfl

/-- A request that the decoder takes at once goes to the acceptance path. -/
theorem requestArrives_taken {code : Nat} {r : Request} {s : State} (h : s.takesNow r) :
    requestArrives code r s = handle (requestEnv code r) r.body s := by
  obtain ⟨h1, h2, h3, h4⟩ := h
  have hh : s.hears (sourceBroadcast r.source) = true := by
    rcases h4 with h4 | ⟨h4, -⟩
    · rw [State.hears, h4, Bool.true_or]
    · rw [State.hears, decide_eq_true (show s.unitAddress ≠ Config.broadcastAddress from h4), Bool.or_true]
  have ht : (s.link (sourcePort r.source)).takes (sourceBroadcast r.source) = true := by
    rcases h4 with h4 | ⟨-, h4⟩
    · rw [Link.takes, h4, Bool.true_or]
    · rw [Link.takes, decide_eq_true h4, Bool.or_true]
  simp only [requestArrives, h1, h2, h3, hh, ht, Bool.or_self, Bool.not_true, Bool.false_eq_true, ↓reduceIte,
    List.isEmpty_nil, Bool.and_self, requestEnv]

/-- An addressed request to a unit without an address of its own is skipped (R179). -/
theorem requestArrives_deaf {code : Nat} {r : Request} {s : State} (b : sourceBroadcast r.source = false)
    (u : s.unitAddress = 127) : requestArrives code r s = s := by
  have hh : s.hears (sourceBroadcast r.source) = false := by simp [State.hears, b, u, Config.broadcastAddress]
  simp only [requestArrives, hh, Bool.not_false, Bool.or_true, ↓reduceIte]

end Sys2Proof.Machine
end

