-- ==== Sys2Proof/Laws/Outbox.lean ====
section
/-! SUPPORT. What the end of a command adds to an outbox, and what an operation on all sources of a port does to each of them:
the lemmas to cite in place of unfolding finish, queueAll, latchAll and mapSources. -/

namespace Sys2Proof.Machine

/-- The messages of a list that are meant for a port. -/
def messagesFor (p : Port) (l : List (Port × OutMsg)) : List OutMsg := (l.filter fun x => decide (x.1 = p)).map (·.2)

/-- Queued messages join the tail of their outboxes in order (R189). -/
theorem queueAll_outbox (l : List (Port × OutMsg)) (p : Port) (s : State) :
    ((queueAll l s).link p).outbox = (s.link p).outbox ++ messagesFor p l := by
  unfold queueAll
  induction l generalizing s with
  | nil => simp [messagesFor]
  | cons x l ih =>
    rw [List.foldl_cons, ih]
    by_cases h : x.1 = p
    · subst h; simp [queueMsg, messagesFor]
    · simp [queueMsg, messagesFor, h]

/-- An offered notice joins the outbox of its port where a place is free (R190). -/
theorem offerNotice_outbox (p q : Port) (m : OutMsg) (s : State) :
    ((offerNotice p m s).link q).outbox =
      (s.link q).outbox ++ if q = p ∧ p ≠ .c ∧ (s.link p).free ≠ 0 then [m] else [] := by
  unfold offerNotice
  cases p <;> cases q <;> by_cases h : (s.lnk.get Port.a).free = 0 <;> by_cases k : (s.lnk.get Port.b).free = 0 <;>
    simp [h, k]

/-- An occurrence adds at most its notice to an outbox (R202). -/
theorem latchOne_outbox (o : Occ) (p : Port) (s : State) :
    ∃ n, ((latchOne o s).link p).outbox = (s.link p).outbox ++ n ∧ ∀ m ∈ n, m = noticeMsg o ∧ p = o.port ∧ p ≠ .c := by
  unfold latchOne
  dsimp only
  split
  · refine ⟨_, offerNotice_outbox _ _ _ _, ?_⟩
    intro m h
    split at h
    case isTrue k => exact ⟨by simpa using h, k.1, k.1 ▸ k.2.1⟩
    case isFalse => simp at h
  · exact ⟨[], by simp⟩

/-- Occurrences add only notices to an outbox (R202). -/
theorem latchAll_outbox (l : List Occ) (p : Port) (s : State) :
    ∃ n, ((latchAll l s).link p).outbox = (s.link p).outbox ++ n ∧ ∀ m ∈ n, m.tag = 0 ∧ m.kind = 255 ∧ p ≠ .c := by
  unfold latchAll
  generalize sortOccs l = l
  induction l generalizing s with
  | nil => exact ⟨[], by simp⟩
  | cons o l ih =>
    obtain ⟨n, hn, hm⟩ := latchOne_outbox o p s
    obtain ⟨k, hk, hl⟩ := ih (latchOne o s)
    refine ⟨n ++ k, by rw [List.foldl_cons, hk, hn, List.append_assoc], ?_⟩
    intro m h
    rcases List.mem_append.mp h with h | h
    · obtain ⟨rfl, -, h⟩ := hm m h; exact ⟨rfl, rfl, h⟩
    · exact hl m h

/-- The end of a command: its messages for a port in order, and then its notices there (R189, R202). -/
theorem finish_outbox (w : Ctx) (p : Port) :
    ∃ n, ((finish w).link p).outbox = (w.st.link p).outbox ++ messagesFor p w.sends ++ n ∧
      ∀ m ∈ n, m.tag = 0 ∧ m.kind = 255 ∧ p ≠ .c := by
  obtain ⟨n, hn, hm⟩ := latchAll_outbox w.occs p (queueAll w.sends w.st)
  refine ⟨n, ?_, hm⟩
  rw [queueAll_outbox] at hn
  rw [← hn]
  cases p <;> simp [finish]

/-- The quiet end of a command adds the same. -/
theorem finishQuiet_outbox (w : Ctx) (p : Port) :
    ∃ n, ((finishQuiet w).link p).outbox = (w.st.link p).outbox ++ messagesFor p w.sends ++ n ∧
      ∀ m ∈ n, m.tag = 0 ∧ m.kind = 255 ∧ p ≠ .c := by
  obtain ⟨n, hn, hm⟩ := latchAll_outbox w.occs p (queueAll w.sends w.st)
  refine ⟨n, ?_, hm⟩
  rw [queueAll_outbox] at hn
  rw [← hn]
  cases p <;> simp [finishQuiet]

/-- An operation on all sources of a port applies to each of them once. -/
theorem mapSources_slot (f : EventSource → EventSlot → EventSlot) (p : Port) (k : EventSource) (s : State) :
    ((mapSources f p s).ntu.ports.get p).get k = f k ((s.ntu.ports.get p).get k) := by
  cases k <;> simp [mapSources, allSources]

/-- An operation on the sources of a port leaves those of the others. -/
theorem mapSources_other (f : EventSource → EventSlot → EventSlot) {p q : Port} (h : q ≠ p) (s : State) :
    (mapSources f p s).ntu.ports.get q = s.ntu.ports.get q := by
  unfold mapSources
  generalize allSources = l
  induction l generalizing s with
  | nil => rfl
  | cons k l ih => rw [List.foldl_cons, ih]; simp [h.symm]

end Sys2Proof.Machine
end

