-- ==== Sys2Proof/Laws/Path.lean ====
section
/-! SUPPORT. The acceptance path, said once: what one answer is, and the way of a request that passes every check. -/

namespace Sys2Proof.Machine

/-- The state that a quiet end makes of one answer and of nothing else. -/
theorem finishQuiet_reply (e : Env) (st : Status) (res : List Byte) (s t : State) :
    finishQuiet { (e.reply st res (Ctx.start s)) with st := t } =
      releaseWaiting (if e.bc then t else queueMsg e.port (replyMsg e.tag e.code (st.code :: res)) t) := by
  unfold Env.reply finishQuiet
  split <;> rfl

/-- A refusal is one answer (R211). -/
theorem releaseAll_refuse (e : Env) (st : Status) (res : List Byte) (s : State) :
    releaseAll e (refuse e st res s) = s.replied e st res := by
  unfold refuse State.replied
  rw [← finishQuiet_reply e st res s s]
  unfold Env.reply
  split <;> rfl

/-- A request that reports, or that has the effect `f` at once, is that effect and one answer (R216). -/
theorem releaseAll_doneQuiet (e : Env) (res : List Byte) (f : State → State) (s : State) :
    releaseAll e (doneQuiet e res f s) = (f s).replied e .done res := by
  unfold doneQuiet State.replied
  rw [← finishQuiet_reply e .done res s (f s)]
  unfold Env.reply
  split <;> rfl

/-- The answer of a request whose effect has already made the state `t`. -/
theorem releaseAll_finishQuiet_start (e : Env) (res : List Byte) (t : State) :
    releaseAll e (finishQuiet (e.reply .done res (Ctx.start t))) = t.replied e .done res := by
  unfold State.replied
  rw [← finishQuiet_reply e .done res t t]
  unfold Env.reply
  split <;> rfl

/-- The codes of R209 name their kinds. -/
@[simp] theorem ofCode_code (k : Kind) : Kind.ofCode k.code = some k := by cases k <;> decide

/-- The whole way of a request that passes every check of R211. -/
theorem handle_accepted {e : Env} {k : Kind} {body : List Byte} {a : Action} {s : State} (hk : Kind.ofCode e.code = some k)
    (hb : e.bc = false ∨ k.timed = false) (hl : k.lengthOk body = true) (hp : k.permitted e.port = true)
    (ht : k.timed = false ∨ s.tagInUse e.port e.tag = false) (ha : k.parse body = .ok a)
    (hr : rollRefusal k s = none) (hc : capacityRefusal k e.port s = none) :
    handle e body s = releaseAll e (perform e a s) := by
  have h1 : (e.bc && k.timed) = false := by rcases hb with h | h <;> simp [h]
  have h2 : (k.timed && s.tagInUse e.port e.tag) = false := by rcases ht with h | h <;> simp [h]
  simp [handle, acceptKind, hk, h1, hl, hp, h2, ha, hr, hc]

end Sys2Proof.Machine
end

