-- ==== Sys2Proof/WellFormed.lean ====
section
/-! DEFINITION. Which commands the surroundings of the part can send at all. `exec` is total and needs none of this. -/

namespace Sys2Proof

/-- A request fits a message of four frames (R181). -/
def Request.wellFormed (r : Request) : Bool := decide (r.body.length ≤ Config.messageBody)

/-- A CORRECT row: the form byte of R212 stands in front of its operands. -/
def Request.correctWellFormed (r : Request) : Bool := decide (r.body.length + 1 ≤ Config.messageBody)

/-- KIND 0 or 33..127 (R209): the kinds that the part does not know. -/
def unknownKindCode (k : BitVec 7) : Bool := decide (k.toNat = 0 ∨ 33 ≤ k.toNat)

/-- A command is well-formed when a message, a kind, a measured speed and a focus line of it can occur. -/
def Instr.wellFormed : Instr → Bool
  | .unknownKind k r => unknownKindCode k && r.wellFormed
  | .correctMerge r | .correctSplit r | .correctMove r | .correctClearTaken r => r.correctWellFormed
  | .load r | .unload r | .present r | .run r | .jog r | .barrier r | .cancel r | .cancelAll r | .take r | .release r
  | .watch r | .expose r | .gateStatus r | .halt r | .resume r | .clearFault r | .readIndex r | .indexStatus r
  | .focusLock r | .focusUnlock r | .focusFree r | .focusSet r | .focusRead r | .configureLink r | .linkStatus r
  | .resetLink r | .setNotices r | .readEvents r | .clearEvents r | .ackAttn r | .setStation r => r.wellFormed
  | .focusLineArrival _ line => decide (line.length = 128)
  | .resetPinHeld | .fullReset _ | .receiveByte _ _ | .stopBitAtSpace _ | .lineBreak _ | .byteTimeout _ | .resyncEnd _
  | .outboxMessageMove _ | .transmitCharacter _ | .ctsChange _ _ | .tensionArmReading _ _ | .threadingSuccess _ _
  | .threadingTimeout | .retensionSuccess | .retensionFail | .tensionPersistenceExpiry | .stallTimerExpiry
  | .leaderTimerExpiry | .encoderCount _ _ | .leaderFall | .endRising | .spliceRising | .travelLegRest | .creepRest
  | .stopRampRest | .boundRest | .settleTimerExpiry | .settleLimitExpiry | .parkTimerExpiry | .wakeTimerExpiry
  | .lensMoveComplete | .lensHomingComplete | .focusSampleTimeout | .holdTimerExpiry
  | .expdoneRising | .exposureTimerExpiry | .lineReturnsToMark _ => true

end Sys2Proof
end

