-- ==== Sys2Proof/Laws/PerInstr.lean ====
section
/-! SUPPORT. A statement for all commands, command by command: the message of a well-formed request row has a request KIND and
fits the four frames of R181. -/

namespace Sys2Proof.Laws.MessageFits

/-- The message that a well-formed row brings has a KIND below 128 and a body of at most 228 bytes (R180, R181). -/
def Statement (i : Instr) : Prop :=
  i.wellFormed = true → ∀ code r, i.message? = some (code, r) → code < 128 ∧ r.body.length ≤ 228

/-- A row that brings no message. -/
theorem of_none {i : Instr} (h : i.message? = none) : Statement i := by
  intro _ code r hm
  simp [h] at hm

/-- A row that brings its request as the whole message. -/
theorem of_whole {i : Instr} {n : Nat} {q : Request} (hn : n < 128) (hm : i.message? = some (n, q))
    (hw : i.wellFormed = q.wellFormed) : Statement i := by
  intro h code r hc
  rw [hm] at hc
  obtain ⟨rfl, rfl⟩ := by simpa using hc
  rw [hw] at h
  exact ⟨hn, of_decide_eq_true h⟩

/-- A CORRECT row: its form byte counts in the message. -/
theorem of_correct {i : Instr} {b : Byte} {q : Request} (hm : i.message? = some (17, { q with body := b :: q.body }))
    (hw : i.wellFormed = q.correctWellFormed) : Statement i := by
  intro h code r hc
  rw [hm] at hc
  obtain ⟨rfl, rfl⟩ := by simpa using hc
  rw [hw] at h
  exact ⟨by decide, of_decide_eq_true h⟩

theorem resetPinHeld : Statement .resetPinHeld := of_none rfl

theorem fullReset (straps : BitVec 7) : Statement (.fullReset straps) := of_none rfl

theorem load (r : Request) : Statement (.load r) := of_whole (by decide) rfl rfl

theorem unload (r : Request) : Statement (.unload r) := of_whole (by decide) rfl rfl

theorem present (r : Request) : Statement (.present r) := of_whole (by decide) rfl rfl

theorem run (r : Request) : Statement (.run r) := of_whole (by decide) rfl rfl

theorem jog (r : Request) : Statement (.jog r) := of_whole (by decide) rfl rfl

theorem barrier (r : Request) : Statement (.barrier r) := of_whole (by decide) rfl rfl

theorem cancel (r : Request) : Statement (.cancel r) := of_whole (by decide) rfl rfl

theorem cancelAll (r : Request) : Statement (.cancelAll r) := of_whole (by decide) rfl rfl

theorem take (r : Request) : Statement (.take r) := of_whole (by decide) rfl rfl

theorem release (r : Request) : Statement (.release r) := of_whole (by decide) rfl rfl

theorem watch (r : Request) : Statement (.watch r) := of_whole (by decide) rfl rfl

theorem expose (r : Request) : Statement (.expose r) := of_whole (by decide) rfl rfl

theorem gateStatus (r : Request) : Statement (.gateStatus r) := of_whole (by decide) rfl rfl

theorem halt (r : Request) : Statement (.halt r) := of_whole (by decide) rfl rfl

theorem resume (r : Request) : Statement (.resume r) := of_whole (by decide) rfl rfl

theorem clearFault (r : Request) : Statement (.clearFault r) := of_whole (by decide) rfl rfl

theorem correctMerge (r : Request) : Statement (.correctMerge r) := of_correct rfl rfl

theorem correctSplit (r : Request) : Statement (.correctSplit r) := of_correct rfl rfl

theorem correctMove (r : Request) : Statement (.correctMove r) := of_correct rfl rfl

theorem correctClearTaken (r : Request) : Statement (.correctClearTaken r) := of_correct rfl rfl

theorem readIndex (r : Request) : Statement (.readIndex r) := of_whole (by decide) rfl rfl

theorem indexStatus (r : Request) : Statement (.indexStatus r) := of_whole (by decide) rfl rfl

theorem focusLock (r : Request) : Statement (.focusLock r) := of_whole (by decide) rfl rfl

theorem focusUnlock (r : Request) : Statement (.focusUnlock r) := of_whole (by decide) rfl rfl

theorem focusFree (r : Request) : Statement (.focusFree r) := of_whole (by decide) rfl rfl

theorem focusSet (r : Request) : Statement (.focusSet r) := of_whole (by decide) rfl rfl

theorem focusRead (r : Request) : Statement (.focusRead r) := of_whole (by decide) rfl rfl

theorem configureLink (r : Request) : Statement (.configureLink r) := of_whole (by decide) rfl rfl

theorem linkStatus (r : Request) : Statement (.linkStatus r) := of_whole (by decide) rfl rfl

theorem resetLink (r : Request) : Statement (.resetLink r) := of_whole (by decide) rfl rfl

theorem setNotices (r : Request) : Statement (.setNotices r) := of_whole (by decide) rfl rfl

theorem readEvents (r : Request) : Statement (.readEvents r) := of_whole (by decide) rfl rfl

theorem clearEvents (r : Request) : Statement (.clearEvents r) := of_whole (by decide) rfl rfl

theorem ackAttn (r : Request) : Statement (.ackAttn r) := of_whole (by decide) rfl rfl

theorem setStation (r : Request) : Statement (.setStation r) := of_whole (by decide) rfl rfl

theorem unknownKind (kind : BitVec 7) (r : Request) : Statement (.unknownKind kind r) := by
  intro h code q hc
  obtain ⟨rfl, rfl⟩ := by simpa [Instr.message?] using hc
  simp only [Instr.wellFormed, Bool.and_eq_true] at h
  exact ⟨kind.isLt, of_decide_eq_true h.2⟩

theorem receiveByte (p : Port) (byte : Byte) : Statement (.receiveByte p byte) := of_none rfl

theorem stopBitAtSpace (p : Port) : Statement (.stopBitAtSpace p) := of_none rfl

theorem lineBreak (p : Port) : Statement (.lineBreak p) := of_none rfl

theorem byteTimeout (p : Port) : Statement (.byteTimeout p) := of_none rfl

theorem resyncEnd (p : Port) : Statement (.resyncEnd p) := of_none rfl

theorem outboxMessageMove (p : Port) : Statement (.outboxMessageMove p) := of_none rfl

theorem transmitCharacter (p : Port) : Statement (.transmitCharacter p) := of_none rfl

theorem ctsChange (p : Port) (active : Bool) : Statement (.ctsChange p active) := of_none rfl

theorem tensionArmReading (arm : Arm) (reading : Byte) : Statement (.tensionArmReading arm reading) := of_none rfl

theorem threadingSuccess (track0 : Byte) (track1 : Byte) : Statement (.threadingSuccess track0 track1) := of_none rfl

theorem threadingTimeout : Statement .threadingTimeout := of_none rfl

theorem retensionSuccess : Statement .retensionSuccess := of_none rfl

theorem retensionFail : Statement .retensionFail := of_none rfl

theorem tensionPersistenceExpiry : Statement .tensionPersistenceExpiry := of_none rfl

theorem stallTimerExpiry : Statement .stallTimerExpiry := of_none rfl

theorem leaderTimerExpiry : Statement .leaderTimerExpiry := of_none rfl

theorem encoderCount (d : Dir) (sample : Sample) : Statement (.encoderCount d sample) := of_none rfl

theorem leaderFall : Statement .leaderFall := of_none rfl

theorem endRising : Statement .endRising := of_none rfl

theorem spliceRising : Statement .spliceRising := of_none rfl

theorem travelLegRest : Statement .travelLegRest := of_none rfl

theorem creepRest : Statement .creepRest := of_none rfl

theorem stopRampRest : Statement .stopRampRest := of_none rfl

theorem boundRest : Statement .boundRest := of_none rfl

theorem settleTimerExpiry : Statement .settleTimerExpiry := of_none rfl

theorem settleLimitExpiry : Statement .settleLimitExpiry := of_none rfl

theorem parkTimerExpiry : Statement .parkTimerExpiry := of_none rfl

theorem wakeTimerExpiry : Statement .wakeTimerExpiry := of_none rfl

theorem lensMoveComplete : Statement .lensMoveComplete := of_none rfl

theorem lensHomingComplete : Statement .lensHomingComplete := of_none rfl

theorem focusLineArrival (late : Bool) (line : List (BitVec 10)) : Statement (.focusLineArrival late line) := of_none rfl

theorem focusSampleTimeout : Statement .focusSampleTimeout := of_none rfl

theorem holdTimerExpiry : Statement .holdTimerExpiry := of_none rfl

theorem expdoneRising : Statement .expdoneRising := of_none rfl

theorem exposureTimerExpiry : Statement .exposureTimerExpiry := of_none rfl

theorem lineReturnsToMark (p : Port) : Statement (.lineReturnsToMark p) := of_none rfl

end Sys2Proof.Laws.MessageFits
end

