-- ==== Sys2Proof/Tests/Slice0.lean ====
section
/-! SUPPORT. Tests. The expected values come from the worked examples and the numbered rules of spec/, named in each docstring. A
`test_` theorem is one step on a small state; a `witness_` theorem shows that the hypotheses of an obligation can be met. -/

set_option maxRecDepth 20000

namespace Sys2Proof.Tests
open Sys2Proof.Machine

/-! ### Small states -/

/-- The state a command leaves. -/
def after (c : Instr) (s : State) : State :=
  match exec c s with
  | .next t => t
  | .fault _ => s
  | .refused _ => s

/-- What a command added to the outbox of a port, as tag, kind and body. -/
def sent (p : Port) (c : Instr) (s : State) : List (Byte × Byte × List Byte) :=
  (((after c s).link p).outbox.drop (s.link p).outbox.length).map fun m => (m.tag, m.kind, m.body)

/-- The profile of the worked examples (03 Worked case; 04; 07; 02). -/
def prof : Profile :=
  { label := [65], track := 0, pitchNominal := 190, pitchMin := 180, pitchMax := 200, markOn := 140, markOff := 100
    markStrong := 180, widthMin := 20, widthMax := 60, gateOffset := 600, tolerance := 4, scanSpeed := 4000
    indexSpeed := 12000, window := 8, rounding := .halfUp, defaultFocus := 2048, sweepSpan := 16, coarseStep := 4
    contrastFloor := 20000, holdTime := 5000, tensionLow := 80, tensionHigh := 176 }

def obs (m : Nat) : Entry := ⟨m, .observed, false, false, false, false, false⟩
def fil (m : Nat) : Entry := ⟨m, .filled, false, false, false, false, false⟩
def man (m : Nat) : Entry := ⟨m, .manual, false, false, false, false, false⟩

/-- A roll LOADED at rest, with an index. -/
def rollAt (c : Nat) (l : List Entry) (p256 : Nat) : State :=
  { State.reset with
    trc := { Trc.reset with roll := .loaded, profile := some prof, motion := .idle, counter := c }
    fit := { Fit.reset with entries := l, index := if l.isEmpty then .empty else .opened, p256 := p256 }
    fcc := { Fcc.reset with stage := .idle }
    mkd := .armed
    ntu := { Ntu.reset with levels := { Ntu.reset.levels with rollState := true } } }

/-- The index of the worked case of 03_index_marks_and_the_frame_index.md, before its last sighting. -/
def worked : List Entry := [obs 1000, obs 1192, fil 1383, fil 1573, obs 1764]

/-- The film at rest at `c` with the worked index. -/
def still (c : Nat) : State := rollAt c worked 48717

/-- The film in motion under a move. -/
def moving (mo : Motion) (m : Move) (s : State) : State := { s with trc.motion := mo, trc.move := some m }

/-- A move with a target. -/
def toward (j : Job) (t : Nat) : Move := targetMove j t .shuttle

/-- A request. -/
def rq (src : Source) (tag : Byte) (body : List Byte) : Request := ⟨src, tag, body⟩

/-- A sighting. -/
def sight (m : Nat) : Sighting := ⟨m, 37, 200, false, .forward, true⟩

/-- A PRESENT record. -/
def recOf (p : Port) (t : Byte) (n cls : Nat) (arrival : BitVec 32) (x : RecState) : Record :=
  ⟨p, t, .present n .normal none, cls, 0, arrival, x⟩

/-- Frame 4 presented to port B, tag 12 (07 Worked example: from grant to TAKE). -/
def presented : State :=
  { still 2365 with
    trc.epoch := 501
    rqt.records := [recOf .b 12 4 2 7 .atGate]
    rqt.grant := .record .b 12
    gtu := { Gtu.reset with
      phase := .presented, presentation := some ⟨.record .b 12, 4, 501, .table, 5000, .none⟩, hold := some 3820
      watches := ⟨false, true, false⟩ }
    lnk.b.reserved := 1 }

/-- The same frame EXPOSING since EXPOSE tag 13. -/
def exposing : State :=
  { presented with
    gtu := { presented.gtu with
      phase := .exposing, hold := none, trig := true, route := some .b
      exposure := some ⟨.b, 13, some 4, 501, true, 0⟩ }
    lnk.b.reserved := 2
    lnk.b.outstanding := [(13, .expose)] }

/-! ### WellFormed: each check refuses an ill-formed command (R181, R209, R212, 92) -/

theorem test_wellFormed_body : (Instr.load (rq .a 1 (List.replicate 228 0))).wellFormed = true ∧
    (Instr.load (rq .a 1 (List.replicate 229 0))).wellFormed = false := by decide

theorem test_wellFormed_correct : (Instr.correctMerge (rq .a 1 (List.replicate 227 0))).wellFormed = true ∧
    (Instr.correctMerge (rq .a 1 (List.replicate 228 0))).wellFormed = false := by decide

theorem test_wellFormed_kind : (Instr.unknownKind 33 (rq .a 1 [])).wellFormed = true ∧
    (Instr.unknownKind 0 (rq .a 1 [])).wellFormed = true ∧
    (Instr.unknownKind 1 (rq .a 1 [])).wellFormed = false ∧ (Instr.unknownKind 32 (rq .a 1 [])).wellFormed = false := by
  decide

theorem test_wellFormed_line : (Instr.focusLineArrival false (List.replicate 128 0)).wellFormed = true ∧
    (Instr.focusLineArrival false (List.replicate 127 0)).wellFormed = false := by decide

/-- No row of the table has bits, so no word spells a command. -/
theorem test_no_table_words : decodeTableWord 0 0 = none ∧ State.reset.withFetchWord 8 1 = State.reset := by decide

/-! ### Reset and roll sessions -/

/-- R3, R94, R178: a full reset from a state at work; the straps are read. -/
theorem test_fullReset : (after (.fullReset 22) exposing).unitAddress = 22 ∧
    (after (.fullReset 22) exposing).trc.roll = .empty ∧ (after (.fullReset 22) exposing).trc.motion = .off ∧
    (after (.fullReset 22) exposing).fcc.stage = .homing ∧ (after (.fullReset 22) exposing).gtu.trig = false := by decide

/-- R178: while RESET is held no request is taken. -/
theorem test_resetPinHeld : (after .resetPinHeld (still 1000)).resetHeld = true ∧
    after (.watch (rq .a 1 [])) (after .resetPinHeld (still 1000)) = after .resetPinHeld (still 1000) := by decide

/-- The LOAD of 11 Example: a LOAD with clamps and a refused LOAD. -/
def loadBytes (pitchMin : Byte) : List Byte :=
  [2, 0, 190, 3, 0, pitchMin, 4, 0, 200, 5, 150, 6, 90, 7, 170, 8, 0, 20, 9, 0, 60, 10, 2, 88, 14, 0, 60, 18, 40, 20, 0, 50,
   22, 70]

/-- 11 Example: ACCEPTED with the clamped list 14, 18, 20, 22, and the roll THREADING. -/
theorem test_load : sent .c (.load (rq .c 1 (loadBytes 180))) State.reset = [(1, 129, [0, 14, 18, 20, 22])] ∧
    (after (.load (rq .c 1 (loadBytes 180))) State.reset).trc.roll = .threading ∧
    (after (.load (rq .c 1 (loadBytes 180))) State.reset).lnk.c.outstanding = [(1, .load)] := by decide

/-- 11 Example: with pitch_min 200 the LOAD is refused BAD-PARAM, CONSISTENCY, 0; from port B it is NOT-PERMITTED. -/
theorem test_load_refused : sent .c (.load (rq .c 1 (loadBytes 200))) State.reset = [(1, 129, [5, 4, 0])] ∧
    (after (.load (rq .c 1 (loadBytes 200))) State.reset).trc.roll = .empty ∧
    sent .b (.load (rq .b 1 (loadBytes 180))) State.reset = [(1, 129, [4])] := by decide

/-- THREADING of that roll. -/
def threading : State :=
  let s := after (.load (rq .c 1 (loadBytes 180))) State.reset
  { s with trc.timers.inWindow := some 100 }

/-- R10, R45 and 11 Example: LOADED completes with the label (none here) and P256 = 48,640; track 0 decides the detector. -/
theorem test_threadingSuccess :
    sent .c (.threadingSuccess 151 0) threading = [(1, 129, [75, 0, 0, 190, 0])] ∧
    (after (.threadingSuccess 151 0) threading).mkd = .blocked ∧
    (after (.threadingSuccess 149 255) threading).mkd = .armed := by decide

/-- R9, R22: the reel brakes are released during threading, the capstan brake stays applied; OFF applies both. -/
theorem test_brakes : threading.reelBrakes = false ∧ threading.capstanBrake = true ∧ State.reset.reelBrakes = true := by
  decide

/-- R11: THREAD-FAIL, and the roll is EMPTY again. -/
theorem test_threadingTimeout : sent .c .threadingTimeout threading = [(1, 129, [76])] ∧
    (after .threadingTimeout threading).trc.roll = .empty := by decide

/-- R13, R15, R161 and 01 Example: UNLOAD during a presentation: the record completes UNLOADED after ACCEPTED to the UNLOAD,
and the rewind begins. -/
theorem test_unload : sent .a (.unload (rq .a 9 [])) presented = [(9, 130, [0])] ∧
    (sent .b (.unload (rq .a 9 [])) presented).head? = some (12, 131, [72, 0, 4, 1, 245]) ∧
    (after (.unload (rq .a 9 [])) presented).trc.roll = .rewinding ∧
    (after (.unload (rq .a 9 [])) presented).trc.motion = .accel := by decide

/-- The rewind at position 0. -/
def rewinding : State :=
  { moving .cruise (openMove .rewind .reverse .shuttle none) (still 0) with
    trc.roll := .rewinding, lnk.a.outstanding := [(9, .unload)], lnk.a.reserved := 1 }

/-- R16: the leader falls at 0 and the UNLOAD completes DONE. -/
theorem test_leaderFall : sent .a .leaderFall rewinding = [(9, 130, [78])] ∧
    (after .leaderFall rewinding).trc.roll = .empty ∧ (after .leaderFall rewinding).trc.motion = .off := by decide

/-- R16, R36: the leader does not fall: STALL. -/
theorem test_leaderTimer :
    (after .leaderTimerExpiry { rewinding with trc.timers.leader := some 5000 }).trc.cause = .stall := by decide

/-- R17, 01 Example: END in an index-forward move at 2,000,000 counts makes E, closes the index and stops the film. -/
theorem test_endRising :
    (after .endRising (moving .cruise (openMove .forward .forward .index none) (still 5000))).trc.endPos = some 5000 ∧
    (after .endRising (moving .cruise (openMove .forward .forward .index none) (still 5000))).fit.index = .closed ∧
    after .endRising (still 5000) = still 5000 := by decide

/-- R64: a splice is recorded only while the building flag is set. -/
theorem test_splice : (after .spliceRising { still 0 with fit.building := true }).fit.splice = true ∧
    (after .spliceRising (still 0)).fit.splice = false := by decide

/-! ### Tension and faults -/

/-- R35: a reading of 190 leaves the window 80..176 and the persistence timer starts. -/
theorem test_armReading : (after (.tensionArmReading .arm2 190) (still 0)).trc.timers.persistence = some 0 ∧
    (after (.tensionArmReading .arm2 176) (still 0)).trc.timers.persistence = none := by decide

/-- 02 Example: a tension fault during a presentation. -/
def slack : State :=
  { presented with
    trc.counter := 421870, trc.slip := 1, pins.arm2 := 190, trc.timers.persistence := some 50
    rqt.run := some ⟨5, 1, 3, 2300, none, 0, none, false, none, .suspended⟩ }

theorem test_tensionFault : (after .tensionPersistenceExpiry slack).trc.motion = .faulted ∧
    (after .tensionPersistenceExpiry slack).trc.verified = false ∧ (after .tensionPersistenceExpiry slack).trc.slip = 0 ∧
    (after .tensionPersistenceExpiry slack).gtu.phase = .idle ∧ (after .tensionPersistenceExpiry slack).rqt.records = [] ∧
    (after .tensionPersistenceExpiry slack).rqt.run.map (·.state) = some .suspended ∧
    (after .tensionPersistenceExpiry slack).gtu.watches = PerPort.all false := by decide

/-- 10 Worked example: port B is offered its FAULT completion, then the notices FAULT and UNVERIFIED with 421,870. -/
theorem test_tensionFault_sent : sent .b .tensionPersistenceExpiry slack =
    [(12, 131, [71, 0, 4, 1, 245]), (0, 255, [0, 1, 1, 0, 0, 0, 0, 0, 0]), (0, 255, [2, 1, 0, 6, 111, 238, 0, 0, 0])] := by
  decide

/-- R36: no count within 200 ms in motion. -/
theorem test_stall : (after .stallTimerExpiry
    { moving .cruise (toward .present 5000) (still 0) with trc.timers.stall := some 200 }).trc.cause = .stall := by decide

/-- 11 Example: tags of outstanding requests: CLEAR-FAULT 9 is ACCEPTED, CLEAR-FAULT 10 then BUSY. -/
def faulted : State := { still 500 with trc.motion := .faulted, trc.cause := .stall, ntu.levels.fault := true }

theorem test_clearFault : sent .c (.clearFault (rq .c 9 [])) faulted = [(9, 144, [0])] ∧
    sent .c (.clearFault (rq .c 10 [])) (after (.clearFault (rq .c 9 [])) faulted) = [(10, 144, [19])] := by decide

/-- R39: success completes DONE with cause NONE, failure FAULT with cause TENSION. -/
def tensioning : State :=
  let s := after (.clearFault (rq .c 9 [])) faulted
  { s with trc.timers.inWindow := some 100 }

theorem test_retensionSuccess : (sent .c .retensionSuccess tensioning).head? = some (9, 144, [78, 0]) ∧
    (after .retensionSuccess tensioning).trc.motion = .idle ∧
    (after .retensionSuccess tensioning).ntu.levels.fault = false := by decide

theorem test_retensionFail : sent .c .retensionFail tensioning = [(9, 144, [71, 1])] ∧
    (after .retensionFail tensioning).trc.motion = .faulted ∧ (after .retensionFail tensioning).trc.cause = .tension := by
  decide

/-! ### Counts, marks, the index -/

/-- A count at a track level. -/
def count (d : Dir) (level : Byte) : Instr := .encoderCount d ⟨level, 0, 4000, true⟩

/-- R20: a count forward, and the bound at 4,194,303, which leaves the position unverified. -/
theorem test_encoderCount :
    (after (count .forward 0) (moving .cruise (toward .present 5000) (still 1000))).trc.counter = 1001 ∧
    (after (count .forward 0) (moving .cruise (toward .jog 5000) (still 4194303))).trc.counter = 4194303 ∧
    (after (count .forward 0) (moving .cruise (toward .jog 5000) (still 4194303))).trc.verified = false := by decide

/-- 03 Example: one mark read in both rounding modes: centre 2,019 under HALF-UP, 2,018 under HALF-EVEN, WEAK. -/
theorem test_mark : (sampleMark .forward 145 true (rollAt 2000 [] 48640)).1.mkd =
      .inMark ⟨2000, .forward, 145, false, false, false⟩ ∧
    endMark prof ⟨2000, .forward, 171, false, false, true⟩ 2037 = some ⟨2019, 37, 171, true, .forward, true⟩ ∧
    (endMark { prof with rounding := .halfEven } ⟨2000, .forward, 171, false, false, true⟩ 2037).map (·.centre) =
      some 2018 := by decide

/-- 03 Worked case: 1,192 is NORMAL, 1,764 a GAP of three, 1,800 an EXTRA. -/
theorem test_building : (buildSighting (sight 1192) (Ctx.start (rollAt 1200 [obs 1000] 48640))).st.fit.p256 = 48704 ∧
    (buildSighting (sight 1764) (Ctx.start (rollAt 1770 [obs 1000, obs 1192] 48704))).st.fit.entries = worked ∧
    (buildSighting (sight 1764) (Ctx.start (rollAt 1770 [obs 1000, obs 1192] 48704))).st.fit.p256 = 48717 ∧
    (buildSighting (sight 1800) (Ctx.start (still 1810))).st.fit.entries.map (·.extraFollows) =
      [false, false, false, false, true] := by decide

/-- 03 Example: rounding a negative update; 03 Example: the clamp at pitch_max. -/
theorem test_rounding :
    (buildSighting (sight 1192) (Ctx.start (rollAt 1200 [obs 1000] 49164))).st.fit.p256 = 49163 ∧
    (buildSighting (sight 1192) (Ctx.start
      { rollAt 1200 [obs 1000] 49164 with trc.profile := some { prof with rounding := .halfEven } })).st.fit.p256 = 49162 ∧
    (buildSighting (sight 1192) (Ctx.start (rollAt 1200 [obs 1000] 49172))).st.fit.p256 = 49170 ∧
    (buildSighting (sight 1210) (Ctx.start (rollAt 1200 [obs 1000] 51200))).st.fit.p256 = 51200 := by decide

/-- 03 Example: a break: 3,600 counts beyond L. -/
theorem test_break :
    ((buildSighting (sight 5364) (Ctx.start (still 5370))).st.fit.entries.getLast?.map fun e => (e.pos, e.breakBefore)) =
      some (5364, true) ∧
    (buildSighting (sight 5364) (Ctx.start (still 5370))).st.fit.p256 = 48717 := by decide

/-- 03 Example: the frame at the gate. -/
theorem test_frameAtGate : (still 1860).frameAtGate = some 1 ∧ (still 1888).frameAtGate = some 2 ∧
    (still 2460).frameAtGate = none ∧ ({ still 1860 with trc.verified := false } : State).frameAtGate = none := by decide

/-- 04 Example: slips lead to a VERIFY move: MATCH corrects by −6, a FILLED entry is confirmed, the third slip is the end of
the verified position. -/
theorem test_resync : (resync (sight 1770) (Ctx.start (still 1800))).st.trc.counter = 1794 ∧
    (resync (sight 1566) (Ctx.start (still 1600))).st.fit.entries = [obs 1000, obs 1192, fil 1383, obs 1566, obs 1764] ∧
    (resync (sight 1404) (Ctx.start (still 1500))).st.trc.slip = 1 ∧
    (resync (sight 1031) (Ctx.start { still 1100 with trc.slip := 2 })).st.trc.verified = false := by decide

/-- 04 Example: the VERIFY move is granted forward, and the sighting at 1,034 matches anchor 0. -/
theorem test_verify :
    (grantVerify { still 800 with trc.verified := false }).fit.verify = some ⟨.forward, .frontier, false⟩ ∧
    (verifySighting ⟨.forward, .frontier, false⟩ (sight 1034) (Ctx.start
      { still 1040 with trc.verified := false, rqt.grant := .verify })).st.trc.counter = 1006 ∧
    (verifySighting ⟨.forward, .frontier, false⟩ (sight 1034) (Ctx.start
      { still 1040 with trc.verified := false, rqt.grant := .verify })).st.trc.verified = true := by decide

/-! ### Legs and moves -/

/-- 02 Example: a move to a frame within the indexed span: T = 50,000 from 10,000. -/
def far : State :=
  { rollAt 10000 [obs 49400] 48640 with trc.epoch := 311, gtu.watches := ⟨false, true, false⟩ }

theorem test_present_grant :
    (after (.present (rq .b 12 [0, 0])) far).trc.epoch = 312 ∧
    (after (.present (rq .b 12 [0, 0])) far).trc.motion = .accel ∧
    (after (.present (rq .b 12 [0, 0])) far).gtu.watches = PerPort.all false ∧
    (after (.present (rq .b 12 [0, 0])) far).gtu.phase = .positioning ∧
    sent .b (.present (rq .b 12 [0, 0])) far = [(12, 131, [0, 2, 0, 0])] := by decide

/-- R21, R30: a JOG that rests beyond its settle band, past its target, goes back to it. -/
theorem test_jogOvershoot :
    (after .travelLegRest (moving .decel (toward .jog 100) (still 105))).trc.motion = .accel ∧
      (after .travelLegRest (moving .decel (toward .jog 100) (still 104))).trc.motion = .settling := by decide

theorem test_travelLegRest :
    (after .travelLegRest (moving .decel (toward .present 50000) (still 49960))).trc.motion = .creepIn := by decide

/-- R26: one count before the rest CREEP-IN goes into DECEL; at rest it settles. -/
theorem test_creepRest :
    (after (count .forward 0) (moving .creepIn { toward .present 50000 with creepIn := true } (still 49998))).trc.motion =
      .decel ∧
    (after .creepRest (moving .decel { toward .present 50000 with creepIn := true } (still 50001))).trc.motion =
      .settling := by decide

/-- R21, R30: a sighting that corrects a creeping film past its target makes it ramp to rest. -/
theorem test_creepOvershoot :
    (applyCorrection (-6) (moving .creepIn { toward .present 1000 with creepIn := true } (still 998))).trc.motion =
      .creepIn ∧
    (applyCorrection 6 (moving .creepIn { toward .present 1000 with creepIn := true } (still 998))).trc.motion =
      .decel := by decide

/-- R21: a correction leaves CRUISE as it is, and a DECEL that has room again returns to ACCEL below its class speed. -/
theorem test_correctedLeg :
    (applyCorrection (-6) { moving .cruise (toward .present 50000) (still 998) with trc.speed := 11999 }).trc.motion =
      .cruise ∧
    (applyCorrection (-6) { moving .decel (toward .present 50000) (still 998) with trc.speed := 11999 }).trc.motion =
      .accel := by decide

/-- R21, R30: the CREEP leg of a settle retry that rests past A is an overshoot; the next leg has the speed class of the move. -/
theorem test_retryOvershoot :
    ((after .travelLegRest (moving .decel { toward .present 50000 with dir := .reverse, legSpeed := .creep, retried := true }
      (still 49955))).trc.move.map fun m => (m.dir, m.legSpeed)) = some (.forward, .shuttle) := by decide

/-- R28 and 02 Example: a settle retry: at 49,997 a reverse CREEP leg to A, a motion start that keeps the travel direction. -/
def unsettled : State :=
  let s := moving .settling (toward .present 50000) (still 49997)
  { s with trc.epoch := 313, trc.travelDir := .reverse, gtu.watches := ⟨false, false, true⟩ }

theorem test_settleLimit : (after .settleLimitExpiry unsettled).trc.motion = .accel ∧
    (after .settleLimitExpiry unsettled).trc.epoch = 314 ∧
    (after .settleLimitExpiry unsettled).trc.travelDir = .reverse ∧
    (after .settleLimitExpiry unsettled).trc.move.map (·.legSpeed) = some .creep ∧
    (after .settleLimitExpiry unsettled).gtu.watches = PerPort.all false := by decide

/-- R28: the second failure ends the move POSITION-FAIL. -/
theorem test_settleLimit_second : sent .b .settleLimitExpiry
    { unsettled with
      trc.move := some { toward .present 50000 with retried := true }
      rqt.records := [recOf .b 12 0 2 7 .granted]
      rqt.grant := .record .b 12
      gtu.inHand := some ⟨.record .b 12, 0, .normal, none, .shuttle⟩
      gtu.phase := .settling } = [(12, 131, [70, 0, 0, 1, 57])] := by decide

/-- 07 Worked example: SETTLED at 2,365 with frame 4 at the gate; in HOLD mode the frame is presented at once (R142). -/
def settling (mode : FocusMode) : State :=
  { moving .settling (toward .present 2364) (still 2365) with
    trc.epoch := 501
    rqt.records := [⟨.b, 12, .present 4 mode none, 2, 0, 7, .granted⟩]
    rqt.grant := .record .b 12
    gtu.inHand := some ⟨.record .b 12, 4, mode, none, .shuttle⟩
    gtu.phase := .settling
    fcc.lens := 2052
    fcc.lines := ⟨true, 0, false, 2040, .sweep, false⟩ :: List.replicate 15 FocusLine.invalid
    lnk.b.reserved := 1 }

theorem test_settle_hold : (after .settleTimerExpiry (settling .hold)).gtu.phase = .presented ∧
    (after .settleTimerExpiry (settling .hold)).gtu.hold = some 5000 ∧
    sent .b .settleTimerExpiry (settling .hold) = [(0, 255, [3, 12, 0, 4, 4, 1, 245, 0, 0])] := by decide

/-- 07 Worked example: a TABLE hit on sector 0: the lens goes from 2,052 to 2,040. -/
theorem test_settle_normal : (after .settleTimerExpiry (settling .normal)).gtu.phase = .focusing ∧
    (after .settleTimerExpiry (settling .normal)).fcc.running = some ⟨2040, .final .table⟩ := by decide

/-- 07 Worked example: the lens move completes: PRESENTED, and the notice to port B. -/
theorem test_lensMove : sent .b .lensMoveComplete (after .settleTimerExpiry (settling .normal)) =
      [(0, 255, [3, 12, 0, 4, 1, 1, 245, 0, 0])] ∧
    (after .lensMoveComplete (after .settleTimerExpiry (settling .normal))).gtu.watches = ⟨false, true, false⟩ := by decide

/-- R90: homing ends at 0. -/
theorem test_lensHoming : (after .lensHomingComplete State.reset).fcc.stage = .idle ∧
    (after .lensHomingComplete State.reset).fcc.lens = 0 := by decide

/-- R31, R131: the stop ramp of a granted record comes to rest: the record waits again. -/
def stopping : State :=
  { moving .decel { toward .present 50000 with ramp := .stop } (still 1000) with
    rqt := ⟨[recOf .b 21 4 2 301 .granted], none, 302, true, .record .b 21, .halt⟩
    gtu.inHand := some ⟨.record .b 21, 4, .normal, none, .shuttle⟩
    gtu.phase := .positioning }

theorem test_stopRampRest : (after .stopRampRest stopping).rqt.records.map (·.state) = [.waiting] ∧
    (after .stopRampRest stopping).rqt.grant = .none ∧ (after .stopRampRest stopping).trc.motion = .idle ∧
    (after .stopRampRest stopping).gtu.phase = .idle := by decide

/-- R121, R130: an index-forward move at its bound: NOT-FOUND. -/
def bounded : State :=
  { moving .decel { openMove .forward .forward .index none with ramp := .bound } (still 4194303) with
    rqt := ⟨[recOf .b 21 900 2 301 .granted], none, 302, true, .record .b 21, .none⟩
    gtu.inHand := some ⟨.record .b 21, 900, .normal, none, .shuttle⟩
    gtu.phase := .positioning }

theorem test_boundRest : sent .b .boundRest bounded = [(21, 131, [68, 3, 132, 0, 0])] ∧
    (after .boundRest bounded).trc.motion = .idle := by decide

/-- R40: the park timer; R42: the wake of an order is a motion start. -/
theorem test_park : (after .parkTimerExpiry { still 0 with trc.timers.park := some 120000 }).trc.motion = .parked ∧
    (after .parkTimerExpiry { presented with trc.timers.park := some 120000 }).trc.motion = .idle := by decide

theorem test_wake : (after .wakeTimerExpiry (moving .waking (toward .present 50000) (still 0))).trc.motion = .accel ∧
    (after .wakeTimerExpiry (moving .waking (toward .present 50000) (still 0))).trc.epoch = 1 := by decide

/-! ### The request table -/

/-- 06 Example: CANCEL against a BARRIER. -/
def queueB : State :=
  { moving .cruise (toward .present 50000) (still 1000) with
    rqt :=
      ⟨[recOf .b 20 4100 2 300 .waiting, recOf .b 21 4090 2 301 .granted, ⟨.b, 22, .barrier, 2, 0, 302, .waiting⟩,
        recOf .b 23 7000 2 303 .waiting], none, 304, false, .record .b 21, .none⟩
    gtu.inHand := some ⟨.record .b 21, 4090, .normal, none, .shuttle⟩
    gtu.phase := .positioning
    lnk.b.reserved := 4 }

theorem test_cancel_granted : sent .b (.cancel (rq .b 1 [21])) queueB = [(1, 135, [1]), (21, 131, [67, 15, 250, 0, 0])] ∧
    (after (.cancel (rq .b 1 [21])) queueB).trc.motion = .decel ∧
    (after (.cancel (rq .b 1 [21])) queueB).rqt.grant = .none := by decide

theorem test_cancel_barrier : sent .b (.cancel (rq .b 2 [20])) (after (.cancel (rq .b 1 [21])) queueB) =
      [(2, 135, [1]), (20, 131, [67, 16, 4, 0, 0]), (22, 134, [78])] ∧
    (after (.cancel (rq .b 2 [20])) (after (.cancel (rq .b 1 [21])) queueB)).rqt.records.map (·.tag) = [23] := by decide

/-- The same with CANCEL-ALL: DONE with 4, then CANCELLED for tags 20 to 23. -/
theorem test_cancelAll : (sent .b (.cancelAll (rq .b 1 [])) queueB).map (fun x => (x.1, x.2.2.head?)) =
    [(1, some 1), (20, some 67), (21, some 67), (22, some 67), (23, some 67)] ∧
    (sent .b (.cancelAll (rq .b 1 [])) queueB).head? = some (1, 136, [1, 4]) := by decide

/-- R134: a BARRIER behind nothing is ACCEPTED and DONE. -/
theorem test_barrier : sent .b (.barrier (rq .b 22 [])) (still 0) = [(22, 134, [0]), (22, 134, [78])] ∧
    sent .b (.barrier (rq .b 30 [])) queueB = [(30, 134, [0])] := by decide

/-- 06 Example: seek order, passes and promotion. -/
def seek : State :=
  { rollAt 100000 [] 48640 with
    rqt.records := [⟨.a, 1, .jog (-88000), 1, 3, 49, .waiting⟩, ⟨.b, 3, .jog 200000, 2, 0, 50, .waiting⟩,
      ⟨.b, 5, .jog (-60000), 2, 6, 51, .waiting⟩, ⟨.c, 8, .jog 80000, 2, 0, 52, .waiting⟩] }

theorem test_seek : seek.chosen.map (·.tag) = some 8 ∧
    (chooseRecord seek).rqt.records.map (fun r => (r.tag, r.cls, r.passes)) =
      [(1, 1, 3), (3, 2, 1), (5, 2, 7), (8, 2, 0)] ∧
    passOver 2 ⟨.b, 5, .jog (-60000), 2, 7, 51, .waiting⟩ = ⟨.b, 5, .jog (-60000), 3, 0, 51, .waiting⟩ := by decide

/-- 11 Example: acceptance near the limits of the table: tags and frames of PRESENT, the clamp of a class. -/
theorem test_present_refused : sent .b (.present (rq .b 21 [0, 200])) queueB = [(21, 131, [6])] ∧
    sent .b (.present (rq .b 50 [78, 32])) queueB = [(50, 131, [12, 0, 0])] ∧
    sent .b (.present (rq .b 50 [3, 132, 3, 1])) queueB = [(50, 131, [0, 2, 0, 0])] := by decide

/-- 11 Example: RUN of 50 frames from 1,000: class 1, hold 0. -/
theorem test_run : sent .a (.run (rq .a 5 [3, 232, 0, 50])) queueB = [(5, 132, [0, 1, 0, 0])] ∧
    (after (.run (rq .a 5 [3, 232, 0, 50])) queueB).rqt.run.map (fun r => (r.next, r.remaining, r.state)) =
      some (1000, some 50, .ready) := by decide

/-- 09 Example: a jog and a halt on port C: ACCEPTED with the delta is released, and one place is reserved. -/
theorem test_jog : sent .c (.jog (rq .c 3 [0, 19, 136])) queueB = [(3, 133, [0, 0, 19, 136])] ∧
    (after (.jog (rq .c 3 [0, 19, 136])) queueB).lnk.c.released = 1 ∧
    (after (.jog (rq .c 3 [0, 19, 136])) queueB).lnk.c.reserved = 1 := by decide

/-- 09 Example, R33: a broadcast HALT stops the film and is not answered. -/
theorem test_halt : sent .c (.halt (rq .cBroadcast 4 [])) queueB = [] ∧
    (after (.halt (rq .cBroadcast 4 [])) queueB).rqt.halted = true ∧
    (after (.halt (rq .cBroadcast 4 [])) queueB).trc.motion = .decel ∧
    sent .b (.halt (rq .b 22 [])) queueB = [(22, 142, [4])] := by decide

/-- R34: RESUME lets the next opportunity be taken. -/
theorem test_resume : (after (.resume (rq .c 4 [])) { seek with rqt.halted := true }).rqt.grant = .record .c 8 ∧
    (after (.resume (rq .c 4 [])) { seek with rqt.halted := true }).trc.motion = .accel := by decide

/-! ### The gate -/

/-- 07 Worked example: TAKE 12 from port B: DONE to the TAKE, then TAKEN with frame 4 and epoch 501; entry 4 carries TAKEN. -/
theorem test_take : sent .b (.take (rq .b 14 [12])) presented = [(14, 137, [1]), (12, 131, [64, 0, 4, 1, 245])] ∧
    (after (.take (rq .b 14 [12])) presented).fit.entries.map (·.taken) = [false, false, false, false, true] ∧
    (after (.take (rq .b 14 [12])) presented).gtu.phase = .idle := by decide

/-- R148, R150: RELEASE leaves TAKEN; while EXPOSING it waits. -/
theorem test_release : sent .b (.release (rq .b 14 [12])) presented = [(14, 138, [1]), (12, 131, [65, 0, 4, 1, 245])] ∧
    sent .b (.release (rq .b 14 [12])) exposing = [(14, 138, [1])] ∧
    (after (.release (rq .b 14 [12])) exposing).gtu.presentation.map (·.deferred) = some .released := by decide

/-- R152: WATCH sets the watch and reports frame 4 at the gate, counter 2,365, verified, epoch 501, IDLE, phase PRESENTED. -/
theorem test_watch : sent .c (.watch (rq .c 1 [])) presented = [(1, 139, [1, 0, 4, 0, 9, 61, 1, 1, 245, 1, 4])] ∧
    (after (.watch (rq .c 1 [])) presented).gtu.watches = ⟨false, true, true⟩ := by decide

/-- 07 Worked example: EXPOSE tag 13 asserts TRIG and stops the hold timer; without a watch it is NO-WATCH. R155: the route of port
B is ROUTE1 high, ROUTE0 low. -/
theorem test_expose : (after (.expose (rq .b 13 [])) presented).gtu = exposing.gtu ∧
    (exposing.route1, exposing.route0) = (true, false) ∧
    sent .a (.expose (rq .a 13 [])) presented = [(13, 140, [18])] := by decide

/-- 07 Worked example: EXPDONE: the EXPOSE completes DONE with frame 4 and epoch 501, and the hold restarts in full. -/
theorem test_expdone : sent .b .expdoneRising exposing = [(13, 140, [78, 0, 4, 1, 245])] ∧
    (after .expdoneRising exposing).gtu.phase = .presented ∧ (after .expdoneRising exposing).gtu.hold = some 5000 := by
  decide

/-- 07 Example: a deferred release and an exposure timeout: EXPOSE-TIMEOUT, then RELEASED. -/
theorem test_exposureTimer : sent .b .exposureTimerExpiry (after (.release (rq .b 14 [12])) exposing) =
    [(13, 140, [77, 0, 4, 1, 245]), (12, 131, [65, 0, 4, 1, 245])] := by decide

/-- R146: the hold expires: LAPSED, with its notice. -/
theorem test_hold : sent .b .holdTimerExpiry presented =
      [(12, 131, [66, 0, 4, 1, 245]), (0, 255, [4, 12, 0, 4, 0, 0, 0, 0, 0])] ∧
    (after .holdTimerExpiry presented).gtu.phase = .idle := by decide

/-- R160, R196: GATE-STATUS of that presentation, byte by byte. -/
theorem test_gateStatus : sent .b (.gateStatus (rq .b 61 [])) presented =
    [(61, 141, [1, 4, 2, 12, 0, 4, 0, 4, 128, 9, 61, 1, 245, 1, 1, 14, 236, 0, 128, 0])] := by decide

/-! ### The index requests -/

/-- 04 Example: a SPLIT while a frame is presented. -/
def splitAt : State :=
  let s := rollAt 2166 [obs 1000, obs 1192, fil 1383, obs 1566, obs 1764] 48717
  { s with
    trc.epoch := 915
    rqt.records := [recOf .b 12 3 2 7 .atGate]
    rqt.grant := .record .b 12
    rqt.halted := true
    gtu := { Gtu.reset with
      phase := .presented, presentation := some ⟨.record .b 12, 3, 915, .table, 5000, .none⟩, hold := some 2400
      watches := ⟨true, true, false⟩ } }

theorem test_split_refused : sent .a (.correctSplit (rq .a 1 [0, 1, 0, 5, 20])) splitAt = [(1, 145, [12])] := by decide

theorem test_split : sent .a (.correctSplit (rq .a 1 [0, 1, 0, 5, 8])) splitAt = [(1, 145, [1, 1, 0, 5])] ∧
    (after (.correctSplit (rq .a 1 [0, 1, 0, 5, 8])) splitAt).fit.entries =
      [obs 1000, obs 1192, man 1288, fil 1383, obs 1566, obs 1764] ∧
    (after (.correctSplit (rq .a 1 [0, 1, 0, 5, 8])) splitAt).rqt.records.map (·.state) = [.waiting] ∧
    (after (.correctSplit (rq .a 1 [0, 1, 0, 5, 8])) splitAt).gtu.watches = PerPort.all false ∧
    (after (.correctSplit (rq .a 1 [0, 1, 0, 5, 8])) splitAt).frameAtGate = some 4 := by decide

/-- R81: MERGE removes an entry. -/
theorem test_merge : (after (.correctMerge (rq .a 1 [0, 2])) (still 0)).fit.entries =
    [obs 1000, obs 1192, fil 1573, obs 1764] := by decide

/-- R83: MOVE makes the entry MANUAL. -/
theorem test_move : (after (.correctMove (rq .a 1 [0, 2, 0, 5, 100])) (still 0)).fit.entries =
    [obs 1000, obs 1192, man 1380, fil 1573, obs 1764] := by decide

/-- R84: CLEAR-TAKEN clears the flag of frame 4. -/
theorem test_clearTaken : (after (.correctClearTaken (rq .a 1 [0, 0, 0, 4]))
    (after (.take (rq .b 14 [12])) presented)).fit.entries = worked := by decide

/-- R87, R196: READ-INDEX of frame 2: OPEN, F = 4, then frame 2 at 1,383, FILLED. -/
theorem test_readIndex : sent .b (.readIndex (rq .b 1 [0, 2, 1])) (still 0) =
    [(1, 146, [1, 1, 0, 4, 0, 2, 0, 2, 0, 5, 103, 1])] := by decide

/-- R88: INDEX-STATUS: OPEN, F 4, L 1,764, five entries, P256 48,717, no E. -/
theorem test_indexStatus : (sent .b (.indexStatus (rq .b 1 [])) (still 2365)).map (fun x => x.2.2.take 14) =
    [[1, 1, 0, 4, 0, 6, 228, 0, 5, 0, 190, 77, 255, 255]] := by decide

/-! ### Focus -/

/-- 05 Worked example: the lock limit: sectors 0 to 11 locked, 40 and 41 not, two invalid lines. -/
def lockedUp : State :=
  let locked := (List.range 12).map fun x => (⟨true, x, true, 0, .sweep, true⟩ : FocusLine)
  { still 0 with
    fcc.lines := locked ++ [⟨true, 40, false, 9, .sweep, false⟩, ⟨true, 41, false, 9, .sweep, false⟩, FocusLine.invalid,
      FocusLine.invalid] }

theorem test_focusLock : sent .a (.focusLock (rq .a 1 [11])) lockedUp = [(1, 148, [1, 11, 1, 12])] ∧
    sent .a (.focusLock (rq .a 1 [40])) lockedUp = [(1, 148, [15])] ∧
    sent .a (.focusLock (rq .a 1 [50])) lockedUp = [(1, 148, [15])] := by decide

/-- The least recent invalid line, 14, becomes tag 50, PENDING; then the remaining one takes sector 51. -/
theorem test_focusUnlock_set : sent .c (.focusUnlock (rq .c 1 [50])) lockedUp = [(1, 149, [1, 14, 1, 12])] ∧
    sent .c (.focusSet (rq .c 2 [51, 8, 52])) (after (.focusUnlock (rq .c 1 [50])) lockedUp) =
      [(2, 151, [1, 15, 8, 52])] := by decide

/-- FOCUS-FREE: DONE with 12. -/
theorem test_focusFree : sent .a (.focusFree (rq .a 1 [])) lockedUp = [(1, 150, [1, 12])] ∧
    (after (.focusFree (rq .a 1 [])) lockedUp).fcc.lines.countP (·.locked) = 0 := by decide

/-- R108: FOCUS-READ at 2,052: lens, stage IDLE, no sweep, none locked, then line 15, the most recent. -/
theorem test_focusRead : (sent .b (.focusRead (rq .b 1 [])) (settling .normal)).map (fun x => x.2.2.take 10) =
    [[1, 8, 4, 1, 255, 255, 255, 255, 0, 15]] := by decide

/-- 05 Worked example: a sweep for an absent sector: centre 513, nine coarse positions, seven fine ones, f = 2,055. -/
def sweepTable : State :=
  { still 0 with
    fcc.lines := [⟨true, 3, false, 2000, .sweep, false⟩, ⟨true, 5, false, 2050, .sweep, false⟩,
      ⟨true, 9, false, 1900, .sweep, false⟩, ⟨true, 12, true, 0, .sweep, false⟩] }

theorem test_sweep : sweepTable.sweepCentre 7 = 513 ∧
    coarsePositions 513 16 4 = [497, 501, 505, 509, 513, 517, 521, 525, 529] ∧
    finePositions 513 4 = [510, 511, 512, 513, 514, 515, 516] ∧
    refineFocus .halfUp [(513, 106800), (514, 107300), (515, 105900)] 514 107300 = 2055 := by decide

/-- A sweep that waits for its sample at 497. -/
def sweeping : State :=
  { still 0 with
    fcc.sweep := some ⟨.record .b 1, 1850, 7, 513, .coarse, [497, 501], [497, 501], [], none, false, 16, 4, 20000⟩
    fcc.sampleTimer := some 10
    fcc.lens := 1988 }

/-- R92, R98: the sharpness 9 + 16 of a line is the sample at 497; the lens goes on to 2,004. -/
theorem test_focusLine : (after (.focusLineArrival false [1, 4, 0]) sweeping).fcc.sweep.map (·.samples) =
      some [(497, 25)] ∧
    (after (.focusLineArrival false [1, 4, 0]) sweeping).fcc.running = some ⟨2004, .sample⟩ := by decide

/-- R91: one repeat, then the default focus, 2,048. -/
theorem test_sampleTimeout : (after .focusSampleTimeout sweeping).fcc.sweep.map (·.repeatUsed) = some true ∧
    (after .focusSampleTimeout (after .focusSampleTimeout sweeping)).fcc.running = some ⟨2048, .final .default⟩ := by
  decide

/-! ### Links and notices -/

/-- R180, R188: the bytes of a GATE-STATUS, tag 9, to unit 22: CHECK is 256 − (22 + 3 + 9 + 13); the request is answered. -/
theorem test_receive :
    (([22, 3, 9, 13, 209] : List Byte).foldl (fun s b => after (.receiveByte .b b) s)
      { still 0 with unitAddress := 22 }).lnk.b.outbox.map (fun m => (m.tag, m.kind)) = [(9, 141)] ∧
    framed 22 ⟨9, 13, []⟩ = [22, 3, 9, 13, 209] := by decide

/-- R179: unit 23, with four ones, is sent as 151; R181: a body of 198 bytes takes 218 bytes on the line. -/
theorem test_framing : (framed 23 ⟨9, 13, []⟩).head? = some 151 ∧
    (framed 22 ⟨9, 146, List.replicate 198 0⟩).length = 218 := by decide

/-- R179: with straps of 127 an addressed request is skipped, and port C takes a broadcast. -/
theorem test_straps127 :
    after (.gateStatus (rq .c 9 [])) { still 0 with unitAddress := 127 } = { still 0 with unitAddress := 127 } ∧
    (after (.halt (rq .cBroadcast 9 [])) { still 0 with unitAddress := 127 }).rqt.halted = true := by decide

/-- R183: a wrong CHECK latches CHECK and LINK-ERROR with cause 1. -/
theorem test_check : (([22, 3, 9, 13, 210] : List Byte).foldl (fun s b => after (.receiveByte .b b) s)
      { still 0 with unitAddress := 22 }).lnk.b.flags.check = true ∧
    (([22, 3, 9, 13, 210] : List Byte).foldl (fun s b => after (.receiveByte .b b) s)
      { still 0 with unitAddress := 22 }).lnk.b.outbox.map (fun m => m.body.take 2) = [[11, 1]] := by decide

/-- A request frame that is still coming in. -/
def midFrame : State := after (.receiveByte .b 3) (after (.receiveByte .b 22) { still 0 with unitAddress := 22 })

/-- R183: a stop bit at space within a frame latches FRAME and goes to RESYNC; R184: a gap latches TIMEOUT. -/
theorem test_stopBit : (after (.stopBitAtSpace .b) midFrame).lnk.b.flags.frame = true ∧
    (after (.stopBitAtSpace .b) midFrame).lnk.b.rx = .resync ∧
    (after (.resyncEnd .b) (after (.stopBitAtSpace .b) midFrame)).lnk.b.rx = .idle := by decide

/-- R185: a bad LEN that finds the FIFO full ends with OVERRUN in place of FRAME. -/
theorem test_overrun :
    (let s := after (.receiveByte .b 22)
      { still 0 with unitAddress := 22, lnk.b.part := some ⟨false, 1, 13, [], 1, 255⟩, lnk.b.rx := .awaitNext };
    (s.lnk.b.flags.overrun, (after (.receiveByte .b 62) s).lnk.b.flags.overrun,
      (after (.receiveByte .b 62) s).lnk.b.flags.frame)) = (false, true, false) := by decide

theorem test_byteTimeout : (after (.byteTimeout .b) midFrame).lnk.b.flags.timeout = true ∧
    (after (.byteTimeout .b) midFrame).lnk.b.rx = .idle := by decide

/-- R186: a break resets the port, and LINE_RETURNS_TO_MARK ends it. -/
theorem test_break_line : (after (.lineBreak .b) presented).rqt.records = [] ∧
    (after (.lineBreak .b) presented).gtu.presentation = none ∧ (after (.lineBreak .b) presented).lnk.b.awaitMark = true ∧
    (after (.lineReturnsToMark .b) (after (.lineBreak .b) presented)).lnk.b.awaitMark = false := by decide

/-- R191, R192: a message moves and its first character goes out; port C holds back what is not released. -/
def waitingOut : State := { still 0 with unitAddress := 22, lnk.b.outbox := [⟨9, 145, [1]⟩], lnk.c.outbox := [⟨9, 145, [1]⟩] }

theorem test_outbox : (after (.outboxMessageMove .b) waitingOut).lnk.b.txFifo = [22, 4, 9, 145, 1, 75] ∧
    (after (.transmitCharacter .b) (after (.outboxMessageMove .b) waitingOut)).lnk.b.txLine = some 22 ∧
    (after (.outboxMessageMove .c) waitingOut).lnk.c.txFifo = [] := by decide

/-- R191: with CTS gating no character begins while CTS is inactive. -/
theorem test_cts : (after (.ctsChange .b false) waitingOut).lnk.b.cts = false ∧
    (after (.transmitCharacter .b) { waitingOut with lnk.b.cts := false, lnk.b.ctsGating := true, lnk.b.txFifo := [1] }).lnk.b.txFifo =
      [1] := by decide

/-- R193: a given threshold of 0 becomes 1; mode 3 is BAD-PARAM at place 1. -/
theorem test_configureLink : sent .a (.configureLink (rq .a 1 [2, 0, 0, 0, 0])) (still 0) = [(1, 153, [1, 0, 1, 0, 0])] ∧
    sent .a (.configureLink (rq .a 1 [1, 3, 0, 0, 0])) (still 0) = [(1, 153, [5, 0, 1])] := by decide

/-- 10 Worked example: missed notices on port A: LINK-STATUS reports NOTICES-MISSED and clears it. -/
def missed : State :=
  latchOne ⟨.slip, .a, pad8 [16, 6, 0, 17, 0, 2]⟩
    { still 0 with
      lnk.a.outbox := List.replicate 7 ⟨1, 1, []⟩
      lnk.a.reserved := 17
      ntu.ports.a.slip := ⟨true, false, some ⟨pad8 [16, 5, 0, 14, 0, 1], 1⟩⟩ }

theorem test_missed : (missed.slot .a .slip).latch = some ⟨pad8 [16, 6, 0, 17, 0, 2], 2⟩ ∧
    missed.lnk.a.flags.noticesMissed = true ∧ missed.lnk.a.outbox.length = 7 := by decide

/-- After three messages have moved out: the flags byte 32 is reported and cleared; 4 messages, 17 reservations, 3 free. -/
theorem test_linkStatus :
    (sent .a (.linkStatus (rq .a 1 [])) { missed with lnk.a.outbox := List.replicate 4 ⟨1, 1, []⟩ }).map
      (fun x => x.2.2.take 9) = [[1, 32, 0, 0, 0, 0, 4, 17, 3]] ∧
    (after (.linkStatus (rq .a 1 [])) { missed with lnk.a.outbox := List.replicate 4 ⟨1, 1, []⟩ }).lnk.a.flags =
      LinkFlags.clear := by decide

/-- The same with room in the outbox. -/
def roomy : State := { missed with lnk.a.reserved := 0 }

/-- R195: DONE to the RESET-LINK is the first message of the emptied outbox. -/
theorem test_resetLink : (after (.resetLink (rq .a 1 [])) roomy).lnk.a.outbox = [⟨1, 155, [1]⟩] ∧
    (after (.resetLink (rq .a 1 [])) roomy).lnk.a.reserved = 0 := by decide

/-- R205: with the enable of SLIP cleared its latch goes; ROLL-STATE becomes FALLING (10 Worked example). -/
theorem test_setNotices : sent .a (.setNotices (rq .a 1 [3, 15, 191, 0, 32])) roomy =
      [(1, 156, [1, 15, 191, 0, 32, 0, 0])] ∧
    ((after (.setNotices (rq .a 1 [3, 15, 191, 0, 32])) roomy).slot .a .slip).latch = none := by decide

/-- R207: CLEAR-EVENTS of SLIP; R206: READ-EVENTS begins with enables, polarities and latches. -/
theorem test_clearEvents : sent .a (.clearEvents (rq .a 1 [0, 64])) roomy = [(1, 158, [1, 0, 0])] := by decide

theorem test_readEvents : sent .a (.readEvents (rq .a 1 [])) roomy =
    [(1, 157, [1, 15, 255, 0, 0, 0, 64, 0, 0, 0, 1, 0, 0, 6, 2, 16, 6, 0, 17, 0, 2, 0, 0])] := by decide

/-- 10 Worked example: the panel collects a fault: source 0, high, TENSION; count 1; remaining 1. -/
theorem test_ackAttn : sent .c (.ackAttn (rq .c 7 [])) (after .tensionPersistenceExpiry slack) =
      [(7, 159, [1, 0, 1, 1, 0, 0, 0, 0, 0, 0, 1, 1])] ∧
    sent .c (.ackAttn (rq .c 7 [])) (still 0) = [(7, 159, [1, 255, 0, 0, 0, 0, 0, 0, 0, 0, 0, 0])] := by decide

/-- R43: a park delay of 3,601 and a wake delay of 49 are clamped to 3,600 and 50. -/
theorem test_setStation : sent .c (.setStation (rq .c 1 [3, 14, 17, 0, 49])) (still 0) =
    [(1, 160, [1, 14, 16, 0, 50, 3])] := by decide

/-- R209: KIND 33 is of no known kind. -/
theorem test_unknownKind : sent .a (.unknownKind 33 (rq .a 1 [])) State.reset = [(1, 161, [3])] := by decide

/-- The idle step is one millisecond (log entry 2): the hold timer of a presentation runs. -/
theorem test_idle_step : (match step presented with | .next t => t.gtu.hold | _ => none) = some 3819 := by decide

/-! ### Witnesses: the hypotheses of each obligation are met together

Each theorem below names the obligation and gives, clause by clause, a concrete state and operands for which all the hypotheses
of the clause hold, at a boundary of a range where the clause has one. -/

theorem takes {r : Request} {s : State}
    (h : s.resetHeld = false ∧ (s.link (sourcePort r.source)).awaitMark = false ∧
      (s.link (sourcePort r.source)).inbox = [] ∧
      (sourceBroadcast r.source = true ∨ s.unitAddress ≠ 127 ∧ 2 ≤ (s.link (sourcePort r.source)).free)) : s.takesNow r := h

/-- The table law of a state with no run, by its decidable parts. -/
theorem tableLaw_of {s : State} (h : s.rqt.records.length ≤ 32)
    (a : [Port.a, .b, .c].all (fun p => decide ((s.rqt.records.countP fun r => decide (r.port = p)) ≤ 16)) = true)
    (d : (s.rqt.records.map fun r => (r.port, r.tag)).Pairwise (· ≠ ·)) (n : s.rqt.run = none) : s.tableLaw := by
  refine ⟨h, fun p => ?_, d, by simp [n]⟩
  simp only [List.all_cons, List.all_nil, Bool.and_true, Bool.and_eq_true, decide_eq_true_eq] at a
  cases p
  · exact a.1
  · exact a.2.1
  · exact a.2.2

/-- The table law with a run that shares no tag with a record of port A. -/
theorem tableLaw_withRun {s : State} {x : Run} (h : ({ s with rqt.run := none } : State).tableLaw) (n : s.rqt.run = some x)
    (d : ∀ r ∈ s.rqt.records, r.port = .a → r.tag ≠ x.tag) : s.tableLaw :=
  ⟨h.1, h.2.1, h.2.2.1, by intro y hy; rw [n] at hy; cases hy; exact d⟩

/-- The grant law where nothing is granted. -/
theorem grantLaw_of {s : State} (g : s.rqt.grant = .none) (w : ∀ r ∈ s.rqt.records, r.state = .waiting)
    (n : ∀ x, s.rqt.run = some x → x.state ≠ .granted ∧ x.state ≠ .atGate) : s.grantLaw := by
  simp only [State.grantLaw, g]
  refine ⟨fun r h _ => w r h, fun r h => by simp [w r h], by simp, fun x h => by simp [n x h], by simp⟩

/-- The nearest entry, by a check of each entry. -/
theorem nearest_of {s : State} {ok : Entry → Bool} {c n : Nat} {e : Entry} (h : s.fit.entries[n]? = some e)
    (o : ok e = true)
    (a : s.fit.entries.zipIdx.all (fun x => !ok x.1 ||
      decide (absDiff c e.pos < absDiff c x.1.pos ∨ absDiff c e.pos = absDiff c x.1.pos ∧ n ≤ x.2)) = true) :
    s.nearestIs ok c n e := by
  refine ⟨h, o, fun j x hj hx => ?_⟩
  have := List.all_eq_true.mp a (x, j) (List.mk_mem_zipIdx_iff_getElem?.mpr hj)
  simpa [hx] using this

/-- The index law of the worked index. -/
theorem still_indexLaw (c : Nat) : (still c).indexLaw := by
  refine ⟨by simp [still, rollAt, worked], by simp [still, rollAt, worked, obs, fil], by simp [still, rollAt, worked],
    by simp [still, rollAt, worked], by simp [still, rollAt, worked], ?_, fun _ => rfl, fun _ => ?_, fun _ => ?_,
    by simp [still, rollAt]⟩
  · intro p h
    cases h
    decide
  · show 256 * 180 ≤ 48717 ∧ 48717 ≤ 256 * 200
    decide
  · intro n a b ha hb
    rcases n with _ | _ | _ | _ | n
    · cases ha; cases hb; exact (by decide : 1000 + (180 + 1) / 2 ≤ 1192)
    · cases ha; cases hb; exact (by decide : 1192 + (180 + 1) / 2 ≤ 1383)
    · cases ha; cases hb; exact (by decide : 1383 + (180 + 1) / 2 ≤ 1573)
    · cases ha; cases hb; exact (by decide : 1573 + (180 + 1) / 2 ≤ 1764)
    · simp [still, rollAt, worked] at hb

/-- The focus law, by its decidable parts. -/
theorem focusLaw_of {s : State} (h : s.fcc.lines.length = 16) (p : s.fcc.lru.Perm (List.range 16))
    (k : s.fcc.lines.countP (·.locked) ≤ 12) (v : s.fcc.lines.all (fun l => l.valid || !l.locked) = true)
    (d : ((s.fcc.lines.filter (·.valid)).map (·.sector)).Pairwise (· ≠ ·)) : s.focusLaw := by
  refine ⟨h, p, k, fun l hl hv => ?_, d⟩
  have := List.all_eq_true.mp v l hl
  simpa [hv] using this

/-- The gate law of a state at rest in IDLE. -/
theorem gateLaw_of {s : State} (p : s.gtu.phase = .idle) (i : s.gtu.inHand = none) (x : s.gtu.presentation = none)
    (m : s.trc.move = none) (w : ∀ r ∈ s.rqt.records, r.state = .waiting) (n : s.rqt.run = none) : s.gateLaw := by
  simp only [State.gateLaw, p, i, x, m, n]
  refine ⟨by simp, by simp, by simp, by simp, fun r hr h => absurd (w r hr) h, by simp, by simp, by simp, by simp⟩

theorem still_focusLaw : (still 0).focusLaw :=
  focusLaw_of (by decide) (by decide) (by decide) (by decide) (by decide)

theorem lockedUp_focusLaw : lockedUp.focusLaw :=
  focusLaw_of (by decide) (by decide) (by decide) (by decide) (by decide)

theorem still_gateLaw (c : Nat) : (still c).gateLaw :=
  gateLaw_of rfl rfl rfl rfl (by intro r h; cases h) rfl

/-- The state of `presented` meets the table, grant and gate laws. -/
theorem presented_tableLaw : presented.tableLaw := tableLaw_of (by decide) (by decide) (by decide) rfl

theorem presented_grantLaw : presented.grantLaw := by
  refine ⟨by decide, by decide, ?_, (by intro x h; cases h), (by intro h; cases h)⟩
  intro p t h
  obtain ⟨rfl, rfl⟩ : Port.b = p ∧ (12 : Byte) = t := by
    have h' : Grant.record .b 12 = .record p t := h
    exact ⟨by injection h', by injection h'⟩
  exact ⟨recOf .b 12 4 2 7 .atGate, by decide, rfl, rfl⟩

theorem presented_gateLaw : presented.gateLaw := by
  refine ⟨by decide, by decide, (by intro g h; cases h), ?_, by decide, (by intro x h; cases h), by decide,
    (by intro m h; cases h), by decide⟩
  intro x h
  cases h
  rfl

theorem presented_laws : presented.tableLaw ∧ presented.grantLaw ∧ presented.gateLaw :=
  ⟨presented_tableLaw, presented_grantLaw, presented_gateLaw⟩

theorem witness_IdleStepIsOneMillisecond : presented.pending = [] := rfl

theorem witness_EveryCommandCompletes : (Instr.watch (rq .a 1 [])).isReset = false ∧
    (Instr.watch (rq .a 1 [])).readsPins = false := by decide

theorem witness_RequestRowsReachTheAcceptancePath :
    ((Instr.correctMerge (rq .a 1 [0, 2])).message? = some (17, rq .a 1 [0, 0, 2]) ∧
      (still 0).takesNow (rq .a 1 [0, 0, 2])) ∧
    ((still 0).takesNow (rq .cBroadcast 1 []) ∧ ((0 : BitVec 7).toNat = 0 ∨ 33 ≤ (0 : BitVec 7).toNat)) ∧
    ((33 : BitVec 7).toNat = 0 ∨ 33 ≤ (33 : BitVec 7).toNat) ∧
    ((Instr.watch (rq .c 1 [])).message? = some (11, rq .c 1 []) ∧ sourceBroadcast (rq .c 1 []).source = false ∧
      ({ still 0 with unitAddress := 127 } : State).unitAddress = 127) :=
  ⟨⟨rfl, takes (by decide)⟩, ⟨takes (by decide), by decide⟩, by decide, by decide⟩

theorem witness_AcceptanceChecksInOrder :
    Kind.ofCode 33 = none ∧
    (Kind.ofCode 3 = some .present ∧ Kind.present.timed = true) ∧
    (Kind.ofCode 13 = some .gateStatus ∧ ¬(true = true ∧ Kind.gateStatus.timed = true)) ∧
    Kind.present.lengthOk [0] = false ∧
    (Kind.halt.lengthOk [] = true ∧ Kind.halt.permitted .b = false) ∧
    (Kind.present.lengthOk [0, 0] = true ∧ Kind.present.permitted .b = true ∧ presented.tagInUse .b 12 = true) ∧
    (¬(Kind.present.timed = true ∧ presented.tagInUse .b 50 = true) ∧
      (∃ x, Kind.present.parse [78, 32] = .error x) ∧
      (∃ a, Kind.present.parse [0, 4] = .ok a) ∧
      rollRefusal .present State.reset = some .noRoll ∧ rollRefusal .load presented = some .rollLoaded ∧
      rollRefusal .present presented = none ∧
      capacityRefusal .run .a slack = some .runActive ∧ capacityRefusal .present .b presented = none) :=
  ⟨by decide, by decide, by decide, by decide, by decide, by decide,
    by decide, ⟨_, by rfl⟩, ⟨_, by rfl⟩, by decide, by decide, by decide, by decide, by decide⟩

theorem witness_OneReplyAndNothingElse :
    ((⟨.c, false, 1, 13⟩ : Env).bc = false ∧ (⟨.c, false, 1, 13⟩ : Env).port = .c) ∧
    ¬((⟨.c, true, 1, 13⟩ : Env).bc = false ∧ (⟨.c, true, 1, 13⟩ : Env).port = .c) := by decide

theorem witness_ResetValuesAndTheHeldPart : (after .resetPinHeld presented).resetHeld = true ∧
    (Instr.halt (rq .c 1 [])).message? = some (14, rq .c 1 []) := ⟨rfl, rfl⟩

theorem witness_WatchSetsTheWatchAndReports : presented.takesNow (rq .c 1 []) ∧ (rq .c 1 []).body = [] :=
  ⟨takes (by decide), rfl⟩

theorem witness_ReportsChangeNothing :
    (presented.takesNow (rq .b 61 []) ∧
      (∃ x, presented.gtu.presentation = some x) ∧ presented.gtu.phase = .presented ∧ presented.gtu.exposure = none) ∧
    ((still 0).takesNow (rq .b 61 []) ∧ (still 0).gtu.presentation = none ∧ (still 0).gtu.inHand = none ∧
      (still 0).gtu.phase = .idle ∧ (still 0).gtu.exposure = none) ∧
    ((still 0).takesNow (rq .b 61 (be 2 16383)) ∧ 16383 ≤ 16383) ∧
    ((still 0).takesNow (rq .b 61 (be 2 16383 ++ [0]))  ∧ (1 = if (0 : Byte).toNat = 0 then 1 else min (0 : Byte).toNat 32)) ∧
    (32 = if (255 : Byte).toNat = 0 then 1 else min (255 : Byte).toNat 32) :=
  ⟨⟨takes (by decide), ⟨_, rfl⟩, rfl, rfl⟩, ⟨takes (by decide), rfl, rfl, rfl, rfl⟩, ⟨takes (by decide), by decide⟩,
    ⟨takes (by decide), by decide⟩, by decide⟩

/-- The panel after the fault of 10 Worked example: sources 0 and 2 are latched, 0 is the most urgent. -/
theorem witness_AckAttnCollectsTheMostUrgent :
    ((still 0).takesNow (rq .c 7 []) ∧
      ∀ k, ¬(((still 0).slot .c k).enabled = true ∧ ((still 0).slot .c k).latch.isSome = true)) ∧
    (missed.takesNow (rq .c 7 []) ∧ roomy.takesNow (rq .a 7 []) ∧ roomy.takesNow (rq .cBroadcast 7 []) ∧
      (roomy.slot .a .slip).enabled = true ∧ (roomy.slot .a .slip).latch = some ⟨pad8 [16, 6, 0, 17, 0, 2], 2⟩ ∧
      ∀ j, j.num < EventSource.slip.num →
        ¬((roomy.slot .a j).enabled = true ∧ (roomy.slot .a j).latch.isSome = true)) ∧
    ((latchOne ⟨.fault, .c, pad8 [1, 1]⟩ (still 0)).slot .c .fault).latch = some ⟨pad8 [1, 1], 1⟩ ∧
    (latchOne ⟨.fault, .c, pad8 [1, 1]⟩ (still 0)).takesNow (rq .cBroadcast 7 []) :=
  ⟨⟨takes (by decide), fun k => by cases k <;> decide⟩,
    ⟨takes (by decide), takes (by decide), takes (by decide), by decide, by decide, fun j => by cases j <;> decide⟩,
    by decide, takes (by decide)⟩

theorem witness_ClearEventsAndSetNotices :
    (roomy.takesNow (rq .a 1 (be 2 65535)) ∧ 65535 < 65536) ∧
    roomy.takesNow (rq .a 1 ([3] ++ be 2 65535 ++ be 2 65535)) ∧ roomy.takesNow (rq .a 1 ([0] ++ be 2 0 ++ be 2 0)) :=
  ⟨⟨takes (by decide), by decide⟩, takes (by decide), takes (by decide)⟩

theorem witness_OccurrenceLatchesAndNotifies :
    ((({ still 0 with ntu.ports.a.slip := ⟨false, false, none⟩ } : State).slot .a .slip).enabled = false) ∧
    (((still 0).slot .a .slip).enabled = true ∧ Port.a ≠ .c ∧ 0 < ((still 0).link .a).free) ∧
    ((missed.slot .a .slip).enabled = true ∧ (missed.link .a).free = 0) ∧ ((still 0).slot .c .slip).enabled = true := by
  decide

theorem witness_LinkSettingsAndStatus :
    ((still 0).takesNow (rq .a 1 [15, 3, 0, 2, 0]) ∧ (15 : Byte).getLsbD 0 = true ∧ 2 < (3 : Byte).toNat) ∧
    (((15 : Byte).getLsbD 0 = true → (2 : Byte).toNat ≤ 2) ∧ (15 : Byte).getLsbD 2 = true ∧ 1 < (2 : Byte).toNat) ∧
    (((15 : Byte).getLsbD 2 = true → (1 : Byte).toNat ≤ 1)) ∧ (still 0).takesNow (rq .a 1 []) :=
  ⟨⟨takes (by decide), by decide, by decide⟩, by decide, by decide, takes (by decide)⟩

/-- Port B in HALTED, with and without an exposure in progress; a record of another port stays in the table. -/
theorem witness_PortResetClearsThePort :
    (presented.takesNow (rq .b 1 []) ∧ presented.takesNow (rq .cBroadcast 1 []) ∧ presented.gateLaw) ∧
    (presented.resetHeld = false ∧ (presented.link .b).awaitMark = false) ∧
    (let s : State := { presented with rqt.halted := true };
      s.takesNow (rq .c 1 []) ∧ s.gateLaw ∧ s.rqt.halted = true ∧ s.gtu.exposure = none ∧
      s.rqt.records.filter (fun r => decide (r.port ≠ .c)) = [recOf .b 12 4 2 7 .atGate]) :=
  ⟨⟨takes (by decide), takes (by decide), presented_laws.2.2⟩, ⟨rfl, rfl⟩, takes (by decide), presented_laws.2.2, rfl, rfl,
    by decide⟩

/-- A full FIFO but for the six bytes of the message, a FIFO with one byte less, and port C before and after its mark. -/
theorem witness_OutboxTransmitterAndLines :
    (waitingOut.resetHeld = false ∧ (waitingOut.link .b).outbox = [⟨9, 145, [1]⟩] ∧ (waitingOut.link .b).inbox = [] ∧
      waitingOut.lnk.c.inbox = [] ∧ (framed waitingOut.unitAddress ⟨9, 145, [1]⟩).length = 6 ∧ 250 + 6 ≤ 256 ∧
      256 < 251 + 6) ∧
    ((waitingOut.link .c).outbox = [⟨9, 145, [1]⟩] ∧ (waitingOut.link .c).released = 0) ∧
    ((({ waitingOut with lnk.b.txFifo := [1], lnk.b.ctsGating := true, lnk.b.cts := false } : State).link .b).txFifo = [1]) ∧
    (({ waitingOut with lnk.b.inbox := [⟨false, 1, 13, [], 5⟩], lnk.b.reserved := 23 } : State).link .b).inbox ≠ [] ∧
    (waitingOut.link .b).txFifo = [] ∧ ((after (.lineBreak .b) presented).link .b).awaitMark = true ∧
    (presented.link .b).awaitMark = false := by decide

theorem witness_ReceiverEndsAndErrors :
    (midFrame.resetHeld = false ∧ midFrame.rdy .b = true ∧ (midFrame.link .b).awaitMark = false ∧
      ∃ f, (midFrame.link .b).rx = .inFrame f ∧ f.stored = true) ∧
    (∃ f, ((after (.receiveByte .b 21) { still 0 with unitAddress := 22 }).link .b).rx = .inFrame f ∧ f.stored = false) ∧
    ((({ midFrame with lnk.b.rx := .awaitNext } : State).link .b).rx = .awaitNext) ∧
    (({ midFrame with lnk.b.rdyMode := .forcedDeasserted } : State).rdy .b = false) ∧
    ((after (.stopBitAtSpace .b) midFrame).link .b).rx = .resync ∧
    (((still 0).link .b).rx = .idle ∧ ((still 0).link .b).inbox = [] ∧
      ((List.range 8).countP fun i => (3 : Byte).getLsbD i) % 2 = 0) :=
  ⟨⟨rfl, by decide, rfl, _, rfl, rfl⟩, ⟨_, rfl, rfl⟩, rfl, by decide, rfl, rfl, rfl, by decide⟩

/-- A stored frame before its fifth and last byte. -/
def lastByte (l : List Byte) (continuing lost : Bool) (part : Option Partial) : State :=
  { waitingOut with lnk.b.rx := .inFrame ⟨true, false, continuing, 4, 3, l, 4, lost⟩, lnk.b.part := part }

/-- A lost byte, a FIFO of 256 and of 255 bytes, a sum of 1, a KIND of 128, a CONTINUATION flag set in IDLE, another TAG, a fifth
frame, and a frame that passes with MORE clear and set. -/
theorem witness_ReceiverEndsAndErrors_frameEnd :
    (let s := lastByte [22, 3, 9, 13] false true none;
      s.resetHeld = false ∧ (s.link .b).awaitMark = false ∧ (s.link .b).inbox = [] ∧ s.lnk.c.inbox = [] ∧ (2 : Nat) ≤ 4 ∧
      3 + 2 ≤ 4 + 1) ∧
    (256 ≤ ((lastByte [22, 3, 9, 13] true false (some ⟨false, 9, 13, [], 1, 252⟩)).link .b).rxBytes ∧
      ((lastByte [22, 67, 9, 13] true false (some ⟨false, 9, 13, [], 1, 251⟩)).link .b).rxBytes < 256) ∧
    byteSum [22, 3, 9, 13, 210] ≠ 0 ∧
    (byteSum [22, 3, 9, 128, 94] = 0 ∧ 128 ≤ (128 : Byte).toNat) ∧
    (byteSum [22, 67, 9, 13, 145] = 0 ∧ (67 : Byte).getLsbD 6 ≠ false) ∧
    (∃ m, ((lastByte [22, 67, 9, 13] true false (some ⟨false, 8, 13, [], 1, 5⟩)).link .b).part = some m ∧ m.tag ≠ 9) ∧
    (∃ m, ((lastByte [22, 67, 9, 13] true false (some ⟨false, 9, 13, [], 4, 5⟩)).link .b).part = some m ∧ 4 ≤ m.frames) ∧
    (byteSum [22, 3, 9, 13, 209] = 0 ∧ (13 : Byte).toNat < 128 ∧ (3 : Byte).getLsbD 6 = false ∧ (3 : Byte).getLsbD 7 = false) ∧
    (byteSum [22, 131, 9, 13, 81] = 0 ∧ (131 : Byte).getLsbD 6 = false ∧ (131 : Byte).getLsbD 7 = true) :=
  ⟨by decide, by decide, by decide, by decide, by decide, ⟨_, rfl, by decide⟩, ⟨_, rfl, by decide⟩, by decide, by decide⟩

/-- A stored frame that has seen `n` bytes, before a FIFO that holds `held` bytes of an earlier message. -/
def inFrame (n held : Nat) (lost : Bool) : State :=
  { waitingOut with
    lnk.b.rx := .inFrame ⟨true, false, false, n, if n = 1 then 0 else 5, List.replicate n 22, n, lost⟩
    lnk.b.part := some ⟨false, 1, 13, [], 1, held⟩ }

/-- The FIFO at 255 and at 256 bytes, LEN at 2, 3, 60 and 61, a skipped frame; the longest message, on port B and on port C. -/
theorem witness_FramedMessageIsReceived :
    (waitingOut.resetHeld = false ∧ (waitingOut.link .b).awaitMark = false ∧ (waitingOut.link .b).inbox = [] ∧
      waitingOut.lnk.c.inbox = [] ∧ (waitingOut.link .b).rx = .idle ∧ (waitingOut.link .b).part = none ∧
      waitingOut.unitAddress ≠ 127 ∧ (waitingOut.link .b).rxBytes < 256) ∧
    (∃ f, ((inFrame 1 254 false).link .b).rx = .inFrame f ∧ f.stored = true ∧ f.seen = 1 ∧ f.overrun = false ∧
      ((inFrame 1 254 false).link .b).rxBytes = 255 ∧ ((inFrame 1 255 false).link .b).rxBytes = 256 ∧
      3 ≤ (3 : Byte).toNat % 64 ∧ (60 : Byte).toNat % 64 ≤ 60 ∧ (2 : Byte).toNat % 64 < 3 ∧ 60 < (61 : Byte).toNat % 64) ∧
    (∃ f, ((inFrame 2 253 false).link .b).rx = .inFrame f ∧ f.stored = true ∧ f.overrun = false ∧ 2 ≤ f.seen ∧
      f.seen + 1 < f.len + 2 ∧ ((inFrame 2 253 false).link .b).rxBytes < 256 ∧
      256 ≤ ((inFrame 2 254 false).link .b).rxBytes) ∧
    (∃ f, ((inFrame 2 253 true).link .b).rx = .inFrame f ∧ f.stored = true ∧ f.overrun = true ∧
      ((inFrame 2 253 true).link .b).rxBytes < 256) ∧
    (∃ f, ((after (.receiveByte .b 3) (after (.receiveByte .b 21) waitingOut)).link .b).rx = .inFrame f ∧
      f.stored = false ∧ 2 ≤ f.seen ∧ f.seen + 1 < f.len + 2) ∧
    ((127 : Byte).toNat < 128 ∧ (List.replicate 228 (0 : Byte)).length ≤ 228 ∧ (waitingOut.link .c).rx = .idle ∧
      (waitingOut.link .c).part = none ∧ (waitingOut.link .c).inbox = []) :=
  ⟨by decide, ⟨_, rfl, by decide⟩, ⟨_, rfl, by decide⟩, ⟨_, rfl, by decide⟩, ⟨_, rfl, by decide⟩, by decide⟩

theorem witness_CorrectEditsOrRefuses :
    (splitAt.takesNow (rq .a 1 (be 2 1)) ∧ splitAt.takesNow (rq .c 1 (be 2 1 ++ be 3 1288)) ∧
      splitAt.takesNow (rq .c 1 (be 2 4 ++ be 2 4)) ∧ sourcePort (rq .a 1 []).source ≠ .b ∧
      1 < splitAt.fit.entries.length ∧ splitAt.fit.entries.length ≤ 16384 ∧ splitAt.trc.roll = .loaded ∧
      splitAt.fit.building = false ∧ splitAt.fit.index ≠ .full ∧ splitAt.fit.entries.length < 16384 ∧
      splitAt.splitFits 1 1288 = true ∧ splitAt.trc.verified = true ∧ splitAt.moveFits 2 1380 = true ∧
      4 < splitAt.fit.entries.length) ∧
    (splitAt.takesNow (rq .a 1 (be 2 5)) ∧ splitAt.fit.entries.length ≤ 5 ∧
      ({ splitAt with fit.building := true } : State).fit.building = true) :=
  ⟨⟨takes (by decide), takes (by decide), takes (by decide), by decide, by decide, by decide, rfl, rfl, by decide, by decide,
    by decide, rfl, by decide, by decide⟩, takes (by decide), by decide, rfl⟩

theorem witness_FocusLockAndUnlock :
    (lockedUp.takesNow (rq .a 1 [11]) ∧ lockedUp.focusLaw ∧ lockedUp.trc.roll = .loaded ∧ lockedUp.lockedCount = 12 ∧
      lockedUp.lineOf 11 = some 11 ∧ (lockedUp.focusLine 11).locked = true ∧ lockedUp.lineOf 40 = some 12 ∧
      (lockedUp.focusLine 12).locked = false ∧ lockedUp.lineOf 63 = none ∧ (63 : Byte).toNat ≤ 63) ∧
    ((still 0).focusLaw ∧ (still 0).lineOf 63 = none ∧ (still 0).lockedCount < 12) :=
  ⟨⟨takes (by decide), lockedUp_focusLaw, rfl, by decide, by decide, by decide, by decide, by decide, by decide, by decide⟩,
    still_focusLaw, by decide, by decide⟩

theorem witness_VictimIsLeastRecentFree :
    lockedUp.focusLaw ∧ (lockedUp.focusLine lockedUp.victim).valid = false ∧
    ({ lockedUp with fcc.lines := lockedUp.fcc.lines.take 14 ++
        [⟨true, 50, true, 0, .sweep, false⟩, ⟨true, 51, true, 0, .sweep, false⟩] } : State).focusLaw :=
  ⟨lockedUp_focusLaw, by decide, focusLaw_of (by decide) (by decide) (by decide) (by decide) (by decide)⟩

theorem witness_FocusFreeUnlocksEveryLine :
    lockedUp.takesNow (rq .a 1 []) ∧ sourcePort (rq .a 1 []).source ≠ .b ∧ lockedUp.trc.roll = .loaded ∧
    (still 0).takesNow (rq .c 1 []) ∧ (still 0).fcc.lines.countP (·.locked) = 0 :=
  ⟨takes (by decide), by decide, rfl, takes (by decide), by decide⟩

theorem witness_FocusSetStoresTheValue :
    lockedUp.takesNow (rq .c 1 ([63] ++ be 2 65535)) ∧ sourcePort (rq .c 1 []).source = .c ∧ lockedUp.focusLaw ∧
    lockedUp.lineOf 63 = none ∧ lockedUp.lineOf 11 = some 11 ∧ lockedUp.trc.roll = .loaded :=
  ⟨takes (by decide), rfl, lockedUp_focusLaw, by decide, by decide, rfl⟩

theorem witness_FocusReadReportsOnly :
    (settling .normal).takesNow (rq .b 1 []) ∧ (settling .normal).fcc.stage ≠ .moving ∧
    (after .settleTimerExpiry (settling .normal)).fcc.running = some ⟨2040, .final .table⟩ :=
  ⟨takes (by decide), by decide, by decide⟩

theorem witness_SharpnessIsTheSumOfSquaredDifferences : (List.replicate 128 (1023 : BitVec 10)).length = 128 := by decide

theorem witness_LensStageComesToRest :
    (let s := after .settleTimerExpiry (settling .normal);
      s.fcc.stage = .moving ∧ s.fcc.running = some ⟨2040, .final .table⟩ ∧ s.fcc.held = none ∧ s.gtu.phase = .focusing ∧
      s.gtu.inHand = some ⟨.record .b 12, 4, .normal, none, .shuttle⟩ ∧ s.gtu.exposure = none) ∧
    (let s := after (.focusLineArrival false [1, 4, 0]) sweeping;
      s.fcc.stage = .moving ∧ s.fcc.running = some ⟨2004, .sample⟩ ∧ s.fcc.held = none ∧ s.fcc.sweep.isSome = true) ∧
    (State.reset.fcc.stage = .homing ∧ State.reset.fcc.running = none ∧ State.reset.resetHeld = false) := by decide

/-- The last position, 501, of a pass whose best sample so far is 25 at 497. -/
def passEnd (pass : Pass) (floor : Nat) : State :=
  { still 0 with
    fcc.sweep := some ⟨.record .b 1, 1850, 7, 513, pass, [497, 501], [501], [(497, 25)], some (497, 25), false, 16, 4, floor⟩
    fcc.sampleTimer := some 10
    fcc.lens := 2004 }

/-- The end of a pass: a best of 25 against the floors 26 and 25, and after the fine pass. -/
theorem witness_SweepTakesItsSamples_ends :
    (∃ sw, (passEnd .coarse 26).fcc.sweep = some sw ∧ sw.pass = .coarse ∧ sw.next = [501] ∧
      (sw.best = some (497, 25) ∧ ((497, 25) : Nat × Nat) =
        if 25 < sharpness [1, 4, 0] then (501, sharpness [1, 4, 0]) else (497, 25)) ∧ 25 < sw.floor) ∧
    (∃ sw, (passEnd .coarse 25).fcc.sweep = some sw ∧ sw.floor ≤ 25 ∧ 497 ≤ 1023 ∧ 1 ≤ sw.step) ∧
    (∃ sw, (passEnd .fine 25).fcc.sweep = some sw ∧ sw.pass = .fine ∧ sw.next = [501] ∧
      refineFocus (passEnd .fine 25).profile.rounding (sw.samples ++ [(501, sharpness [1, 4, 0])]) 497 25 = 1988 ∧
      1988 ≠ (passEnd .fine 25).fcc.lens) ∧
    ((passEnd .coarse 25).fcc.sampleTimer.isSome = true ∧ (passEnd .coarse 25).fcc.stage = .idle ∧
      (passEnd .coarse 25).gtu.exposure = none ∧
      (passEnd .coarse 25).profile.defaultFocus ≠ (passEnd .coarse 25).fcc.lens) ∧
    (sampleAt [(513, 106800), (514, 107300), (515, 105900)] 513 = some 106800 ∧
      sampleAt [(513, 106800), (514, 107300), (515, 105900)] 515 = some 105900 ∧ sampleAt [(513, 5)] 514 = none) :=
  ⟨⟨_, rfl, by decide⟩, ⟨_, rfl, by decide⟩, ⟨_, rfl, by decide⟩, by decide, by decide⟩

theorem witness_SweepTakesItsSamples :
    (∃ sw, sweeping.fcc.sweep = some sw ∧ sw.next = 497 :: 501 :: [] ∧ sw.repeatUsed = false ∧ sw.best = none) ∧
    sweeping.fcc.sampleTimer.isSome = true ∧ sweeping.fcc.stage = .idle ∧ sweeping.gtu.exposure = none ∧
    4 * 501 ≠ sweeping.fcc.lens ∧ sweeping.profile.defaultFocus ≠ sweeping.fcc.lens ∧
    (∃ sw, (after .focusSampleTimeout sweeping).fcc.sweep = some sw ∧ sw.repeatUsed = true) ∧
    (after .focusSampleTimeout sweeping).fcc.sampleTimer.isSome = true :=
  ⟨⟨_, rfl, rfl, rfl, rfl⟩, rfl, rfl, rfl, by decide, by decide, ⟨_, rfl, rfl⟩, rfl⟩

theorem witness_SetStationSetsTheDelays :
    (still 0).takesNow (rq .c 1 ([3] ++ be 2 65535 ++ be 2 0)) ∧ sourcePort (rq .c 1 []).source = .c ∧
    (let s : State := { still 0 with trc.timers.park := some 60000 };
      s.trc.timers.park = some 60000 ∧ 1000 * min 60 3600 ≤ 60000 ∧ s.mayPark = true) :=
  ⟨takes (by decide), rfl, rfl, by decide, by decide⟩

/-- The run presented at frame 16,382. -/
def runShown (left : Option Nat) : State :=
  { still 0 with
    rqt.run := some ⟨5, 1, 3, 16382, left, 1, some 16382, false, none, .atGate⟩
    rqt.grant := .run
    rqt.halted := true
    gtu.phase := .presented
    gtu.presentation := some ⟨.run 5, 16382, 501, .held, 5000, .none⟩ }

/-- The run on its way to a frame. -/
def runMoving : State :=
  { moving .cruise (toward .present 50000) (still 1000) with
    rqt.run := some ⟨5, 1, 3, 4, some 2, 1, some 3, false, none, .granted⟩
    rqt.grant := .run
    gtu.inHand := some ⟨.run 5, 4, .normal, none, .shuttle⟩
    gtu.phase := .positioning }

theorem witness_HaltStopsTheFilm :
    (queueB.takesNow (rq .c 1 []) ∧ ∃ m, queueB.trc.move = some m ∧ m.ramp ≠ .stop ∧ m.job ≠ .rewind ∧
      queueB.trc.motion.moving = true) ∧
    ((settling .hold).takesNow (rq .cBroadcast 1 []) ∧ (∃ m, (settling .hold).trc.move = some m ∧ m.ramp ≠ .stop ∧
      m.job ≠ .rewind) ∧ (settling .hold).trc.motion = .settling ∧ (settling .hold).rqt.grant = .record .b 12) ∧
    (still 0).trc.move = none :=
  ⟨⟨takes (by decide), _, rfl, by decide, by decide, rfl⟩,
    ⟨takes (by decide), ⟨_, rfl, by decide, by decide⟩, rfl, rfl⟩, rfl⟩

/-- HALT in WAKING, with the grant a record's and the run's, and on a rewind, moving and at the rest of its stop ramp. -/
theorem witness_HaltStopsTheFilm_more :
    (let s : State := { settling .hold with trc.motion := .waking };
      s.takesNow (rq .c 1 []) ∧ (∃ m, s.trc.move = some m ∧ m.ramp ≠ .stop ∧ m.job ≠ .rewind) ∧ s.trc.motion = .waking ∧
      s.rqt.grant = .record .b 12) ∧
    (let s : State := { runMoving with trc.motion := .waking };
      s.takesNow (rq .c 1 []) ∧ (∃ m, s.trc.move = some m ∧ m.ramp ≠ .stop ∧ m.job ≠ .rewind) ∧ s.trc.motion = .waking ∧
      s.rqt.grant = .run ∧ s.rqt.run.isSome = true) ∧
    (rewinding.takesNow (rq .c 1 []) ∧ (∃ m, rewinding.trc.move = some m ∧ m.job = .rewind ∧ m.ramp = .none) ∧
      rewinding.trc.motion.moving = true) ∧
    (let s := moving .decel { openMove .rewind .reverse .shuttle none with ramp := .stop }
        { rewinding with rqt.halted := true };
      (∃ m, s.trc.move = some m ∧ m.job = .rewind ∧ m.ramp = .stop) ∧ s.trc.motion.moving = true ∧
      s.trc.roll = .rewinding ∧ s.rqt.halted = true) :=
  ⟨⟨takes (by decide), ⟨_, rfl, by decide, by decide⟩, rfl, rfl⟩,
    ⟨takes (by decide), ⟨_, rfl, by decide, by decide⟩, rfl, rfl, rfl⟩,
    ⟨takes (by decide), ⟨_, rfl, rfl, rfl⟩, rfl⟩, ⟨_, rfl, rfl, rfl⟩, rfl, rfl, rfl⟩

theorem witness_ResumeClearsHalted :
    ((still 0).takesNow (rq .c 1 []) ∧ (still 0).trc.roll = .loaded ∧ (still 0).trc.verified = true ∧
      (still 0).rqt.records = [] ∧ (still 0).rqt.run = none) ∧
    (let s : State := { still 500 with trc.roll := .rewinding, rqt.halted := true };
      s.takesNow (rq .c 1 []) ∧ s.trc.motion = .idle ∧ 0 < s.trc.counter) :=
  ⟨⟨takes (by decide), rfl, rfl, rfl, rfl⟩, takes (by decide), rfl, by decide⟩

theorem witness_ClearFaultAndItsEnd :
    ((still 0).takesNow (rq .c 9 []) ∧ (still 0).tagInUse .c 9 = false ∧ (still 0).trc.motion ≠ .faulted) ∧
    (faulted.takesNow (rq .c 9 []) ∧ faulted.tagInUse .c 9 = false ∧ faulted.trc.motion = .faulted ∧
      faulted.trc.retension = false) ∧
    (tensioning.takesNow (rq .c 10 []) ∧ tensioning.tagInUse .c 10 = false ∧ tensioning.trc.retension = true ∧
      tensioning.trc.timers.inWindow.isSome = true ∧ tensioning.trc.timers.threading.isSome = true ∧
      tensioning.outstandingTag .c .clearFault = some 9 ∧ tensioning.outstandingTag .a .clearFault = none ∧
      tensioning.outstandingTag .b .clearFault = none) :=
  ⟨⟨takes (by decide), by decide, by decide⟩, ⟨takes (by decide), by decide, rfl, rfl⟩,
    takes (by decide), by decide, by decide, by decide, by decide, by decide, by decide, by decide⟩

theorem witness_ArmReadingsAndSupervision :
    slack.resetHeld = false ∧ slack.trigLaw ∧ slack.trc.roll = .loaded ∧ slack.trc.motion = .idle ∧
    slack.armsInWindow = false ∧ slack.trc.timers.persistence.isSome = true ∧ slack.rqt.grant = .record .b 12 ∧
    slack.findRecord .b 12 = some (recOf .b 12 4 2 7 .atGate) ∧
    ({ slack with trc.motion := .parked, pins.arm1 := 8 } : State).filmBroken = true ∧
    (moving .cruise (toward .present 5000) (still 0)).trc.motion.moving = true ∧
    ({ rewinding with trc.timers.leader := some 5000 } : State).leaderAwaited = true ∧ rewinding.trigLaw :=
  ⟨rfl, rfl, rfl, rfl, by decide, rfl, rfl, by decide, by decide, rfl, by decide, rfl⟩

theorem witness_LoadStartsThreading :
    State.reset.takesNow (rq .c 1 (loadBytes 180)) ∧ Kind.load.lengthOk (loadBytes 180) = true ∧
    (∃ p l, Kind.load.parse (loadBytes 180) = .ok (.load p l)) ∧ State.reset.tagInUse .c 1 = false ∧
    State.reset.trc.roll = .empty ∧ (still 0).trc.roll ≠ .empty ∧ (still 0).takesNow (rq .a 7 (loadBytes 180)) :=
  ⟨takes (by decide), by decide, ⟨_, _, rfl⟩, by decide, rfl, by decide, takes (by decide)⟩

theorem witness_OperandsOfLoadPresentAndRun :
    (16383 ≤ 16383 ∧ 65535 < 65536 ∧ (1 : Byte).toNat ≤ 1) ∧ (∃ p l, parseLoad (loadBytes 180) = .ok (.load p l)) :=
  ⟨by decide, _, _, rfl⟩

/-- The fields of 11 Example as a list, with a pitch_min. -/
def loadFields (pitchMin : Byte) : List (Nat × List Byte) :=
  [(0, [65, 200]), (2, [0, 190]), (3, [0, pitchMin]), (4, [0, 200]), (5, [150]), (6, [90]), (7, [170]), (8, [0, 20]), (9, [0, 60]),
    (10, [2, 88]), (14, [0, 60]), (18, [40]), (20, [0, 50]), (22, [70])]

/-- A list of fields that is stored with a clamped list, and one that fails the first consistency check. -/
theorem witness_OperandsOfLoadPresentAndRun_fields :
    (∀ b : Byte, (b = 180 ∨ b = 200) → (∀ x ∈ loadFields b, fieldFits x.1 x.2) ∧
      ((loadFields b).map (·.1)).Pairwise (· ≠ ·) ∧ (∀ n, 2 ≤ n → n ≤ 10 → n ∈ (loadFields b).map (·.1))) ∧
    (∃ p, Kind.load.parse (loadBody (loadFields 180)) = .ok (.load p [14, 18, 20, 22]) ∧ p.label = [65, 63]) ∧
    Kind.load.parse (loadBody (loadFields 200)) = .error ⟨.badParam, 4, 0⟩ := by
  refine ⟨?_, ⟨_, rfl, rfl⟩, rfl⟩
  rintro b (rfl | rfl) <;>
    exact ⟨by unfold fieldFits; decide, by decide, fun n l h => by interval_cases n <;> decide⟩

theorem witness_ThreadingEnds :
    threading.trc.roll = .threading ∧ threading.trc.timers.inWindow.isSome = true ∧ threading.rqt.records = [] ∧
    threading.rqt.run = none ∧ threading.outstandingTag .c .load = some 1 ∧ threading.trc.timers.threading.isSome = true ∧
    (∀ q, q ≠ Port.c → threading.outstandingTag q .load = none) :=
  ⟨by decide, by decide, by decide, by decide, by decide, by decide, fun q => by cases q <;> decide⟩

theorem witness_UnloadEndsTheSession :
    presented.takesNow (rq .a 9 []) ∧ presented.tagInUse .a 9 = false ∧ presented.trc.roll = .loaded ∧
    presented.tableLaw ∧ presented.trigLaw ∧ 0 < presented.trc.counter ∧ presented.rqt.halted = false ∧
    presented.trc.motion = .idle ∧ faulted.takesNow (rq .c 9 []) ∧ faulted.trc.motion = .faulted ∧
    faulted.tableLaw ∧ ({ still 1 with trc.motion := .parked } : State).tableLaw :=
  ⟨takes (by decide), by decide, rfl, presented_laws.1, rfl, by decide, rfl, rfl, takes (by decide), rfl,
    tableLaw_of (by decide) (by decide) (by decide) rfl, tableLaw_of (by decide) (by decide) (by decide) rfl⟩

theorem witness_LeaderFallEndsTheRewind :
    (rewinding.resetHeld = false ∧ rewinding.trc.roll = .rewinding ∧ rewinding.rewindRuns = true ∧
      rewinding.trc.counter = 0 ∧ rewinding.outstandingTag .a .unload = some 9 ∧
      (∀ q, q ≠ Port.a → rewinding.outstandingTag q .unload = none)) ∧
    ¬((still 0).trc.roll = .rewinding ∧ (still 0).rewindRuns = true ∧ (still 0).trc.counter = 0) :=
  ⟨⟨rfl, rfl, by decide, rfl, by decide, fun q => by cases q <;> decide⟩, by decide⟩

theorem witness_EndAndSpliceRising :
    (let s := moving .cruise (openMove .forward .forward .index none) (still 5000);
      ∃ m, s.trc.move = some m ∧ s.trc.roll = .loaded ∧ s.trc.motion.moving = true ∧ m.dir = .forward ∧ m.job ≠ .rewind ∧
        m.ramp ≠ .stop ∧ s.trc.endPos = none) ∧
    (∃ m, (moving .cruise (openMove .verify .reverse .index none) (still 9)).trc.move = some m ∧ m.dir = .reverse) ∧
    ({ still 0 with fit.building := true } : State).fit.building = true :=
  ⟨⟨_, rfl, rfl, rfl, rfl, by decide, by decide, rfl⟩, ⟨_, rfl, rfl⟩, rfl⟩

/-- The counter at 0, at E, at 4,194,303 and with an overrun. -/
theorem witness_EncoderCountMovesTheCounter :
    (let s := moving .cruise (toward .jog 5000) (still 4194303);
      s.resetHeld = false ∧ s.trc.roll = .loaded ∧ (∀ m, s.mkd ≠ .inMark m) ∧ s.trc.endPos = none ∧
      s.trc.motion.moving = true ∧ s.trc.verified = true ∧ 4194303 ≤ s.trc.counter) ∧
    (let s : State := { still 600 with trc.endPos := some 600 };
      (∀ m, s.mkd ≠ .inMark m) ∧ 600 ≤ s.trc.counter) ∧
    (∀ m, ({ still 600 with trc.endPos := some 600, trc.overrun := 1 } : State).mkd ≠ .inMark m) ∧
    (still 0).trc.overrun = 0 ∧
    ({ moving .cruise (toward .jog 5000) (still 9) with trc.timers.stall := some 199 } : State).trc.timers.stall.isSome =
      true :=
  ⟨⟨rfl, rfl, (by intro m h; cases h), rfl, rfl, rfl, by decide⟩, ⟨(by intro m h; cases h), by decide⟩,
    (by intro m h; cases h), rfl, rfl⟩

/-- A mark that a count at mark_off goes on with, one below it ends, and one of the other direction abandons; BLOCKED. -/
theorem witness_EncoderCountMovesTheCounter_marks :
    (let s : State := { moving .cruise (toward .jog 5000) (still 1000) with mkd := .inMark ⟨980, .forward, 171, true, false, false⟩ };
      s.resetHeld = false ∧ s.trc.roll = .loaded ∧ s.profile.markOff ≤ (100 : Byte).toNat ∧
      (99 : Byte).toNat < s.profile.markOff) ∧
    (let s : State := { still 1000 with mkd := .blocked };
      s.resetHeld = false ∧ s.trc.roll = .loaded ∧ s.mkd = .blocked ∧ s.profile.markOff ≤ (100 : Byte).toNat ∧
      (99 : Byte).toNat < s.profile.markOff) := by decide

/-- A mark about to end at a width of 20. -/
def ending : State :=
  { moving .cruise (openMove .forward .forward .index none) (rollAt 1009 [] 48640) with
    mkd := .inMark ⟨990, .forward, 171, false, false, true⟩, fit.building := true }

/-- Marks and building: the levels 140 and 139, the first frame, a GAP of three at 2 and at 16,383 entries. -/
theorem witness_SightingsBuildConfirmAndCorrect_building :
    (let s := moving .cruise (toward .jog 5000) (still 1000);
      s.resetHeld = false ∧ s.trc.roll = .loaded ∧ s.mkd = .armed ∧ s.trc.motion.moving = true ∧
      s.profile.markOn ≤ (140 : Byte).toNat ∧ (139 : Byte).toNat < s.profile.markOn) ∧
    (ending.mkd = .inMark ⟨990, .forward, 171, false, false, true⟩ ∧ ending.trc.motion.moving = true ∧
      ending.trc.verified = true ∧ ending.trc.overrun = 0 ∧ ending.trc.endPos = none ∧ ending.trc.counter < 4194303 ∧
      ending.fit.index = .empty ∧ ending.fit.entries = [] ∧ ending.fit.verify = none ∧ ending.trc.roll = .loaded ∧
      (99 : Byte).toNat < ending.profile.markOff ∧ 990 ≤ ending.trc.counter + 1 ∧
      ending.profile.widthMin ≤ ending.trc.counter + 1 - 990 ∧ ending.trc.counter + 1 - 990 ≤ ending.profile.widthMax) ∧
    (let s := moving .cruise (openMove .forward .forward .index none) (rollAt 1770 [obs 1000, obs 1192] 48704);
      s.fit.index = .opened ∧ s.frontierPos = some 1192 ∧ 0 < s.fit.p256 ∧ 3 * (s.fit.p256 : Int) < 512 * (1764 - 1192) ∧
      (3 : Int) = roundQuot s.profile.rounding (256 * (1764 - 1192)) (s.fit.p256 : Int) ∧
      s.trc.motion.moving = true ∧ s.fit.entries.length + 3 < 16384) :=
  ⟨by decide, by decide, by decide⟩

/-- An index with room for one frame. -/
def nearlyFull : State :=
  moving .cruise (openMove .forward .forward .index none)
    { rollAt 3112700 [] 48640 with
      fit.index := .opened, fit.building := true, fit.entries := (List.range 16383).map fun n => obs (190 * n) }

theorem witness_SightingsBuildConfirmAndCorrect_full :
    nearlyFull.fit.index = .opened ∧ nearlyFull.frontierPos = some 3112580 ∧ nearlyFull.fit.entries.length = 16383 ∧
    16384 < nearlyFull.fit.entries.length + 3 ∧ (nearlyFull.fit.entries.map (·.pos)).Pairwise (· < ·) ∧
    (3 : Int) = roundQuot nearlyFull.profile.rounding (256 * (3113150 - 3112580)) (nearlyFull.fit.p256 : Int) := by
  refine ⟨rfl, ?_, ?_, ?_, ?_, by decide⟩
  · simp [nearlyFull, moving, rollAt, State.frontierPos, List.getLast?_map, List.getLast?_range, obs]
  · simp [nearlyFull, moving, rollAt]
  · simp [nearlyFull, moving, rollAt]
  · simp only [nearlyFull, moving, rollAt, List.map_map, List.pairwise_map, Function.comp_def, obs]
    exact List.pairwise_lt_range.imp fun h => by omega

/-- Re-sync: a MATCH at 8 counts with an OBSERVED and with a FILLED entry, FILLED entries whose neighbours stand too near,
slips at 9 counts, and 96 counts, which is more than half a pitch. -/
theorem witness_SightingsBuildConfirmAndCorrect_resync :
    ((still 1800).fit.verify = none ∧ (still 1800).trc.verified = true ∧ (still 1800).fit.building = false ∧
      (still 1800).profile.window = 8 ∧ (still 1800).fit.p256 = 48717 ∧ (rollAt 0 [] 48640).fit.entries = []) ∧
    (still 1800).nearestIs (fun _ => true) 1772 4 (obs 1764) ∧ (still 1800).nearestIs (fun _ => true) 1391 2 (fil 1383) ∧
    (192 + 1000 + (180 + 1) / 2 ≤ 1391 ∧ 1391 + (180 + 1) / 2 ≤ 1573) ∧
    (rollAt 1100 [obs 1000, fil 1080] 48640).nearestIs (fun _ => true) 1080 1 (fil 1080) ∧ 1080 < 1000 + (180 + 1) / 2 ∧
    (rollAt 1100 [fil 1000, obs 1080] 48640).nearestIs (fun _ => true) 1000 0 (fil 1000) ∧ 1080 < 1000 + (180 + 1) / 2 ∧
    (still 1800).nearestIs (fun _ => true) 1773 4 (obs 1764) ∧ 512 * 9 < 48717 ∧
    (still 1800).nearestIs (fun _ => true) 1860 4 (obs 1764) ∧ 48717 ≤ 512 * 96 ∧
    ((still 1800).trc.slip < 2 ∧ 2 ≤ ({ still 1800 with trc.slip := 2 } : State).trc.slip ∧
      ({ still 1800 with trc.verified := false } : State).trc.verified = false) :=
  ⟨by decide, nearest_of rfl rfl (by decide), nearest_of rfl rfl (by decide), by decide, nearest_of rfl rfl (by decide),
    by decide, nearest_of rfl rfl (by decide), by decide, nearest_of rfl rfl (by decide), by decide,
    nearest_of rfl rfl (by decide), by decide, by decide⟩

/-- A VERIFY move up to the frontier. -/
def verifying (c : Nat) : State :=
  { moving .cruise (openMove .verify .forward .index none) (still c) with
    trc.verified := false, rqt.grant := .verify, fit.verify := some ⟨.forward, .frontier, false⟩ }

/-- VERIFY: 95 counts from anchor 0, 96 from anchors 0 and 1, no anchor, and the first count beyond the limit. -/
theorem witness_SightingsBuildConfirmAndCorrect_verify :
    (verifying 1100).nearestIs (fun x => decide (x.kind ≠ .filled)) 1095 0 (obs 1000) ∧ 512 * 95 < (verifying 1100).fit.p256 ∧
    (verifying 1100).nearestIs (fun x => decide (x.kind ≠ .filled)) 1096 0 (obs 1000) ∧ (verifying 1100).fit.p256 ≤ 512 * 96 ∧
    (∃ m, (verifying 1100).trc.move = some m ∧ m.ramp ≠ .stop ∧ m.job = .verify ∧
      (verifying 1100).trc.motion.moving = true) ∧
    (∀ e ∈ (rollAt 1100 [fil 1000] 48640).fit.entries, e.kind = .filled) ∧
    ((verifying 2744).resetHeld = false ∧ (verifying 2744).trc.roll = .loaded ∧ (verifying 2744).mkd = .armed ∧
      (verifying 2744).frontierPos = some 1764 ∧ (verifying 2744).trc.endPos = none ∧
      ((verifying 2744).fit.p256 : Int) < 128 * (2744 + 1 - 1764 - 600) ∧
      ¬((verifying 2744).fit.p256 : Int) < 128 * (2743 + 1 - 1764 - 600)) :=
  ⟨nearest_of rfl rfl (by decide), by decide, nearest_of rfl rfl (by decide), by decide, ⟨_, rfl, by decide⟩, by decide,
    by decide⟩

theorem witness_NormalSightingMakesTheNextEntry :
    let s := rollAt 1200 [obs 1000] 48640
    s.fit.index = .opened ∧ s.frontierPos = some 1000 ∧ s.fit.entries.length < 16384 ∧
    (s.fit.p256 : Int) ≤ 512 * (((sight 1095).centre : Int) - 1000) ∧
    512 * (((sight 1285).centre : Int) - 1000) ≤ 3 * (s.fit.p256 : Int) ∧
    512 * (((sight 1095).centre : Int) - 1000) ≤ 3 * (s.fit.p256 : Int) := by decide

theorem witness_BreakSightingMakesOneEntry :
    (still 5370).fit.index = .opened ∧ (still 5370).frontierPos = some 1764 ∧ 0 < (still 5370).fit.p256 ∧
    (still 5370).fit.entries.length < 16384 ∧
    16 < roundQuot (still 5370).profile.rounding (256 * (((sight 5364).centre : Int) - 1764)) ((still 5370).fit.p256 : Int) := by
  decide

theorem witness_ExtraSightingOnlyFlagsTheFrontier :
    (still 1810).frontierPos = some 1764 ∧ 512 * (((sight 1859).centre : Int) - 1764) < ((still 1810).fit.p256 : Int) := by
  decide

theorem witness_RecordsAndTheRunAreMade :
    (queueB.takesNow (rq .b 50 [63, 255, 3, 1]) ∧ Kind.present.lengthOk [63, 255, 3, 1] = true ∧
      Kind.present.parse [63, 255, 3, 1] = .ok (.present 16383 (some 3) .hold none) ∧ queueB.tagInUse .b 50 = false ∧
      queueB.trc.roll = .loaded ∧ capacityRefusal .present .b queueB = none ∧ queueB.opportunity = false) ∧
    (queueB.takesNow (rq .c 3 (be 3 16777215)) ∧ queueB.tagInUse .c 3 = false ∧ capacityRefusal .jog .c queueB = none) ∧
    (queueB.takesNow (rq .a 5 [3, 232, 0, 50]) ∧ Kind.run.lengthOk [3, 232, 0, 50] = true ∧
      Kind.run.parse [3, 232, 0, 50] = .ok (.run 1000 50 1 false none) ∧ queueB.tagInUse .a 5 = false ∧
      queueB.rqt.run = none) :=
  ⟨⟨takes (by decide), by decide, rfl, by decide, rfl, by decide, by decide⟩, ⟨takes (by decide), by decide, by decide⟩,
    takes (by decide), by decide, rfl, by decide, rfl⟩

theorem witness_BarrierWaitsForItsElders :
    ((still 0).takesNow (rq .a 22 []) ∧ (still 0).tagInUse .a 22 = false ∧ capacityRefusal .barrier .a (still 0) = none ∧
      (∀ x ∈ (still 0).rqt.records, x.port ≠ .a) ∧ (still 0).rqt.run = none) ∧
    (let s : State := { still 0 with rqt.records := [recOf .b 20 4 2 0 .waiting], rqt.arrival := 1 };
      s.takesNow (rq .b 22 []) ∧ s.tagInUse .b 22 = false ∧ capacityRefusal .barrier .b s = none ∧
      (∃ x ∈ s.rqt.records, x.port = .b ∧ older x.arrival s.rqt.arrival = true ∧ x.work ≠ .barrier) ∧
      (∀ x ∈ s.rqt.records, x.port = .b → x.work ≠ .barrier)) :=
  ⟨⟨takes (by decide), by decide, by decide, by decide, rfl⟩, takes (by decide), by decide, by decide, by decide, by decide⟩

theorem witness_OpportunityGrantsThePresent :
    (far.takesNow (rq .b 12 [0, 0]) ∧ Kind.present.lengthOk [0, 0] = true ∧
      Kind.present.parse [0, 0] = .ok (.present 0 none .normal none) ∧ far.tagInUse .b 12 = false ∧
      far.opportunity = true ∧ far.rqt.records = [] ∧ far.rqt.run = none ∧ far.trc.verified = true ∧
      far.gateTarget 0 = some 50000 ∧ far.trc.motion = .idle ∧ far.trc.counter < 50000 - 40) ∧
    (let s : State := { far with trc.counter := 50100, trc.motion := .parked };
      s.opportunity = true ∧ s.gateTarget 0 = some 50000 ∧ 50000 - 40 < s.trc.counter) :=
  ⟨⟨takes (by decide), by decide, rfl, by decide, by decide, rfl, rfl, rfl, by decide, rfl, by decide⟩, by decide⟩

/-- A PRESENT of a frame not yet indexed, one count before the frontier, at it, and with an EMPTY index. -/
theorem witness_OpportunityGrantsThePresent_forward :
    ((still 1763).takesNow (rq .b 12 [0, 5]) ∧ Kind.present.parse [0, 5] = .ok (.present 5 none .normal none) ∧
      (still 1763).opportunity = true ∧ (still 1763).trc.motion = .idle ∧ (still 1763).fit.entries.length ≤ 5 ∧
      (still 1763).fit.index = .opened ∧ (still 1763).frontierPos = some 1764 ∧
      (still 1763).trc.counter < (still 1763).trc.endPos.getD 4194303) ∧
    ((still 1764).takesNow (rq .b 12 [0, 5]) ∧ (still 1764).opportunity = true ∧ 1764 ≤ (still 1764).trc.counter) ∧
    ((rollAt 0 [] 48640).takesNow (rq .b 12 [0, 0]) ∧ (rollAt 0 [] 48640).opportunity = true ∧
      (rollAt 0 [] 48640).fit.index = .empty ∧ (rollAt 0 [] 48640).fit.entries = []) :=
  ⟨⟨takes (by decide), rfl, by decide⟩, ⟨takes (by decide), by decide⟩, takes (by decide), by decide⟩

/-- The records of the example of 06 Seek order, with a run of a class. -/
def contest (cls : Nat) : State :=
  { seek with
    rqt.halted := true, rqt.run := some ⟨5, cls, 48, 0, none, 0, none, false, none, .ready⟩ }

theorem contest_laws : ((contest 1).tableLaw ∧ (contest 1).grantLaw) ∧ (contest 2).tableLaw ∧ (contest 2).grantLaw :=
  ⟨⟨tableLaw_withRun (tableLaw_of (by decide) (by decide) (by decide) rfl) rfl (by decide),
      grantLaw_of rfl (by decide) (by intro x h; cases h; decide)⟩,
    tableLaw_withRun (tableLaw_of (by decide) (by decide) (by decide) rfl) rfl (by decide),
    grantLaw_of rfl (by decide) (by intro x h; cases h; decide)⟩

/-- The arbiter's choice: a run of class 2 before records of class 2 at most, a run of class 1 behind the JOG 80,000 ahead. -/
theorem witness_OpportunityGrantsThePresent_arbiter :
    ((contest 2).takesNow (rq .c 4 []) ∧ (contest 2).tableLaw ∧ (contest 2).grantLaw ∧ (contest 2).trc.roll = .loaded ∧
      (contest 2).trc.motion = .idle ∧ (contest 2).gtu.phase = .idle ∧ (contest 2).gtu.exposure = none ∧
      (contest 2).rqt.grant = .none ∧ (contest 2).indexShut = false ∧ (contest 2).trc.verified = true ∧
      (∃ x, (contest 2).rqt.run = some x ∧ x.skipTaken = false ∧ x.next < 16384 ∧
        ∀ b ∈ (contest 2).rqt.records, b.work ≠ .barrier → b.cls ≤ x.cls)) ∧
    ((contest 1).takesNow (rq .c 4 []) ∧ (contest 1).tableLaw ∧ (contest 1).grantLaw ∧
      ∃ w ∈ (contest 1).rqt.records, w.work ≠ .barrier ∧ 1 < w.cls ∧
        ∀ b ∈ (contest 1).rqt.records, b.work ≠ .barrier →
          b.cls < w.cls ∨ b.cls = w.cls ∧ (b = w ∨ (contest 1).comesBefore w b)) := by
  refine ⟨⟨takes (by decide), contest_laws.2.1, contest_laws.2.2, rfl, rfl, rfl, rfl, rfl, by decide, rfl, _, rfl,
    by decide, by decide, by decide⟩, takes (by decide), contest_laws.1.1, contest_laws.1.2,
    ⟨.c, 8, .jog 80000, 2, 0, 52, .waiting⟩, by decide, by decide, by decide, ?_⟩
  unfold State.comesBefore State.liesAhead
  decide

/-- The VERIFY grant at L + G and one count beyond it, and a roll without an anchor. -/
theorem witness_OpportunityGrantsThePresent_verify :
    (let s : State := { still 2364 with trc.verified := false };
      s.takesNow (rq .c 4 []) ∧ s.tableLaw ∧ s.grantLaw ∧ (∃ e ∈ s.fit.entries, e.kind ≠ .filled) ∧
      s.frontierPos = some 1764 ∧ s.trc.counter ≤ 1764 + s.profile.gateOffset ∧ s.indexShut = false ∧ s.rqt.run = none) ∧
    (let s : State := { still 2365 with trc.verified := false, trc.motion := .parked };
      s.takesNow (rq .c 4 []) ∧ s.tableLaw ∧ s.grantLaw ∧ 1764 + s.profile.gateOffset < s.trc.counter) ∧
    (let s : State := { rollAt 0 [fil 1000] 48640 with trc.verified := false };
      s.takesNow (rq .c 4 []) ∧ s.tableLaw ∧ s.grantLaw ∧ (∀ e ∈ s.fit.entries, e.kind = .filled) ∧ s.rqt.records = [] ∧
      s.rqt.run = none) ∧
    ((still 0).gateTarget 4 = some 2364 ∧ (still 0).gateTarget 5 = none ∧ ((still 0).estimate 5).isSome = true) :=
  ⟨⟨takes (by decide), tableLaw_of (by decide) (by decide) (by decide) rfl, grantLaw_of rfl (by decide) (by intro x h; cases h),
      by decide, rfl, by decide, by decide, rfl⟩,
    ⟨takes (by decide), tableLaw_of (by decide) (by decide) (by decide) rfl,
      grantLaw_of rfl (by decide) (by intro x h; cases h), by decide⟩,
    ⟨takes (by decide), tableLaw_of (by decide) (by decide) (by decide) rfl,
      grantLaw_of rfl (by decide) (by intro x h; cases h), by decide, rfl, rfl⟩, by decide⟩

theorem queueB_tableLaw : queueB.tableLaw := tableLaw_of (by decide) (by decide) (by decide) rfl

theorem witness_CancelEndsThePortsWork :
    (queueB.takesNow (rq .b 1 [21]) ∧ queueB.tableLaw ∧
      queueB.findRecord .b 21 = some (recOf .b 21 4090 2 301 .granted) ∧ queueB.gtu.phase ≠ .focusing ∧
      queueB.trc.motion.moving = true ∧ queueB.rqt.grant = .record .b 21 ∧
      (∃ m, queueB.trc.move = some m ∧ m.ramp ≠ .stop)) ∧
    (queueB.findRecord .b 99 = none ∧ queueB.runTagged .b 99 = none) ∧
    (exposing.takesNow (rq .b 1 [12]) ∧ exposing.tableLaw ∧
      exposing.findRecord .b 12 = some (recOf .b 12 4 2 7 .atGate) ∧ exposing.gtu.phase = .exposing ∧
      ∃ z, exposing.gtu.presentation = some z ∧ z.deferred = .none) ∧
    (queueB.takesNow (rq .b 1 []) ∧ queueB.gtu.phase ≠ .exposing) :=
  ⟨⟨takes (by decide), queueB_tableLaw, by decide, by decide, rfl, rfl, _, rfl, by decide⟩, by decide,
    ⟨takes (by decide), tableLaw_of (by decide) (by decide) (by decide) rfl, by decide, rfl, _, rfl, rfl⟩,
    takes (by decide), by decide⟩

/-- CANCEL of the run's tag: on the way, AT-GATE, and while it is EXPOSING; CANCEL-ALL of port A ends it. -/
theorem witness_CancelEndsThePortsWork_run :
    (runMoving.takesNow (rq .a 1 [5]) ∧ runMoving.tableLaw ∧ runMoving.gtu.phase ≠ .focusing ∧
      (∃ m, runMoving.trc.move = some m ∧ m.ramp ≠ .stop) ∧ runMoving.trc.motion.moving = true ∧
      runMoving.rqt.grant = .run) ∧
    ((runShown none).takesNow (rq .a 1 [5]) ∧ (runShown none).tableLaw ∧ (runShown none).gtu.phase ≠ .exposing) ∧
    (let s : State := { runShown none with gtu.phase := .exposing };
      s.takesNow (rq .a 1 [5]) ∧ s.tableLaw ∧ ∃ z, s.gtu.presentation = some z ∧ z.deferred = .none) ∧
    (runMoving.takesNow (rq .a 1 []) ∧ runMoving.gtu.phase ≠ .exposing ∧ sourcePort (rq .a 1 []).source = .a) :=
  ⟨⟨takes (by decide), tableLaw_withRun (tableLaw_of (by decide) (by decide) (by decide) rfl) rfl (by decide), by decide,
      ⟨_, rfl, by decide⟩, rfl, rfl⟩,
    ⟨takes (by decide), tableLaw_withRun (tableLaw_of (by decide) (by decide) (by decide) rfl) rfl (by decide), by decide⟩,
    ⟨takes (by decide), tableLaw_withRun (tableLaw_of (by decide) (by decide) (by decide) rfl) rfl (by decide), _, rfl, rfl⟩,
    takes (by decide), by decide, rfl⟩

theorem witness_TakeAndReleaseEndThePresentation :
    (presented.takesNow (rq .a 14 [12]) ∧
      ∀ x, presented.gtu.presentation = some x → ¬(x.holder.port = .a ∧ x.holder.tag = 12)) ∧
    (exposing.takesNow (rq .b 14 [12]) ∧ (∃ x, exposing.gtu.presentation = some x ∧ x.holder.port = .b ∧
      x.holder.tag = 12 ∧ x.deferred = .none) ∧ exposing.gtu.phase = .exposing) ∧
    (presented.takesNow (rq .b 14 [12]) ∧ (∃ x, presented.gtu.presentation = some x ∧ x.holder = .record .b 12) ∧
      presented.gtu.phase = .presented ∧ ∃ y, presented.findRecord .b 12 = some y ∧ y.work.code = 3) ∧
    ((runShown (some 1)).takesNow (rq .a 14 [5]) ∧ (runShown (some 2)).takesNow (rq .a 14 [5]) ∧
      (∃ x, (runShown (some 1)).gtu.presentation = some x ∧ x.holder = .run 5 ∧ x.frame < 16383) ∧
      (∃ y, (runShown (some 1)).rqt.run = some y ∧ y.skipTaken = false ∧ y.remaining = some 1) ∧
      (∃ y, (runShown (some 2)).rqt.run = some y ∧ ∀ n, y.remaining = some n → 2 ≤ n) ∧
      (runShown none).fit.index = .opened) :=
  ⟨⟨takes (by decide), by intro x h; cases h; decide⟩, ⟨takes (by decide), ⟨_, rfl, rfl, rfl, rfl⟩, rfl⟩,
    ⟨takes (by decide), ⟨_, rfl, rfl⟩, rfl, _, rfl, rfl⟩,
    takes (by decide), takes (by decide), ⟨_, rfl, rfl, by decide⟩, ⟨_, rfl, rfl, rfl⟩,
    ⟨_, rfl, by intro n h; cases h; decide⟩, rfl⟩

theorem witness_ExposeStartsAnExposure :
    (presented.takesNow (rq .a 13 []) ∧ presented.tagInUse .a 13 = false ∧ presented.trc.roll = .loaded ∧
      presented.gtu.watches.get .a = false) ∧
    (let s : State := { presented with gtu.watches := ⟨true, true, true⟩ };
      s.takesNow (rq .a 13 []) ∧ ∃ x, s.gtu.presentation = some x ∧ x.holder.port ≠ .a) ∧
    (presented.takesNow (rq .b 13 []) ∧ presented.gtu.watches.get .b = true ∧ presented.gtu.exposure = none ∧
      ∀ x, presented.gtu.presentation = some x → x.holder.port = .b) ∧
    (exposing.takesNow (rq .b 15 []) ∧ exposing.tagInUse .b 15 = false ∧ exposing.gtu.exposure.isSome = true ∧
      exposing.gtu.watches.get .b = true) :=
  ⟨⟨takes (by decide), by decide, rfl, rfl⟩, ⟨takes (by decide), _, rfl, by decide⟩,
    ⟨takes (by decide), rfl, rfl, by intro x h; cases h; rfl⟩, takes (by decide), by decide, rfl, rfl⟩

theorem witness_ExposureEnds :
    (∃ e x, exposing.gtu.exposure = some e ∧ e.withPresentation = true ∧ exposing.gtu.presentation = some x ∧
      x.deferred = .none ∧ exposing.gtu.heldReport = none) ∧
    (let s := after (.take (rq .b 14 [12])) exposing;
      ∃ e x, s.gtu.exposure = some e ∧ e.withPresentation = true ∧ s.gtu.presentation = some x ∧ x.deferred ≠ .none ∧
        s.gtu.heldReport = none ∧ s.fcc.held = none) ∧
    presented.gtu.exposure = none :=
  ⟨⟨_, _, rfl, rfl, rfl, rfl, rfl⟩, ⟨_, _, rfl, rfl, rfl, by decide, rfl, rfl⟩, rfl⟩

theorem witness_HoldExpiryLapsesThePresentation :
    (∃ x, presented.gtu.presentation = some x ∧ x.holder = .record .b 12) ∧ presented.gtu.phase = .presented ∧
    presented.gtu.hold.isSome = true ∧ (∃ y, presented.findRecord .b 12 = some y) ∧
    (presented.slot .b .lapsed).enabled = true ∧ ({ presented with rqt.halted := true } : State).rqt.halted = true ∧
    (let s : State := { runShown none with gtu.hold := some 0 };
      (∃ x, s.gtu.presentation = some x ∧ x.holder = .run 5) ∧ s.gtu.phase = .presented ∧ s.gtu.hold.isSome = true ∧
      s.rqt.run.isSome = true ∧ s.rqt.halted = true ∧ s.rqt.grant = .run ∧ (s.slot .a .lapsed).enabled = true) :=
  ⟨⟨_, rfl, rfl⟩, rfl, rfl, ⟨_, rfl⟩, rfl, rfl, ⟨_, rfl, rfl⟩, rfl, rfl, rfl, rfl, rfl, rfl⟩

theorem witness_LegsGoOnToSettling :
    (let s := moving .decel (toward .present 50000) (still 49960);
      ∃ m, s.trc.move = some m ∧ m.ramp = .none ∧ m.creepIn = false ∧ m.job = .present ∧ s.trc.counter = m.target - 40 ∧
        s.trc.counter < m.target ∧ s.trc.motion = .decel) ∧
    (let s := moving .decel (toward .returnL 0) (still 0);
      ∃ m, s.trc.move = some m ∧ m.job = .returnL ∧ s.trc.counter = m.target - 40 ∧ m.target ≤ s.trc.counter) ∧
    (let s := moving .decel (toward .jog 7) (still 9);
      ∃ m, s.trc.move = some m ∧ m.ramp = .none ∧ m.creepIn = false ∧ m.job = .jog ∧ s.trc.motion = .decel ∧
        absDiff s.trc.counter m.target ≤ s.profile.tolerance) ∧
    (∀ c : Nat, let s := moving .creepIn { toward .present 1000 with creepIn := true } (still c);
      ∃ m, s.trc.move = some m ∧ m.creepIn = true ∧ m.ramp = .none ∧ s.trc.motion = .creepIn ∧ s.resetHeld = false ∧
        s.trc.roll = .loaded ∧ s.mkd = .armed ∧ (139 : Byte).toNat < s.profile.markOn ∧ s.fit.verify = none ∧
        s.trc.endPos = none) :=
  ⟨⟨_, rfl, rfl, rfl, rfl, by decide, by decide, rfl⟩, ⟨_, rfl, rfl, by decide, by decide⟩,
    ⟨_, rfl, rfl, rfl, rfl, rfl, by decide⟩, fun _ => ⟨_, rfl, rfl, rfl, rfl, rfl, rfl, rfl, (by decide : 139 < 140), rfl, rfl⟩⟩

/-- The ramps of a VERIFY move that comes to rest, after a match and without one. -/
def verifyRamp (hit : Bool) (why : StopReason) : State :=
  { moving .decel { openMove .verify .forward .index none with ramp := .stop } (still 1000) with
    rqt.grant := .verify, rqt.stopReason := why, rqt.halted := decide (why = .halt), fit.verify := some ⟨.forward, .frontier, hit⟩ }

theorem witness_LegsGoOnToSettling_ramps :
    (∃ m, stopping.trc.move = some m ∧ stopping.trc.motion.moving = true ∧ m.ramp = .stop ∧ m.job ≠ .rewind ∧
      stopping.rqt.grant = .record .b 21 ∧ stopping.rqt.halted = true) ∧
    (let s := moving .decel { toward .present 50000 with ramp := .replan } (still 100);
      ∃ m, s.trc.move = some m ∧ s.trc.motion.moving = true ∧ m.ramp = .replan ∧ m.job = .present ∧
        s.trc.counter < m.target - 40) ∧
    (let s := verifyRamp true .matched;
      ∃ m v, s.trc.move = some m ∧ m.ramp = .stop ∧ m.job = .verify ∧ s.rqt.grant = .verify ∧ s.fit.verify = some v ∧
        v.hit = true ∧ s.trc.verified = true ∧ s.rqt.records = [] ∧ s.rqt.run = none ∧ s.trc.motion.moving = true) ∧
    (∃ v, (verifyRamp false .halt).fit.verify = some v ∧ v.hit = false ∧ (verifyRamp false .halt).rqt.stopReason = .halt ∧
      (verifyRamp false .halt).rqt.halted = true) ∧
    (∃ v, (verifyRamp false .limit).fit.verify = some v ∧ v.hit = false ∧ (verifyRamp false .limit).trigLaw ∧
      (verifyRamp false .limit).rqt.stopReason ≠ .halt) :=
  ⟨⟨_, rfl, rfl, rfl, by decide, rfl, rfl⟩, ⟨_, rfl, rfl, rfl, rfl, by decide⟩, ⟨_, _, rfl, rfl, rfl, rfl, rfl, rfl, rfl, rfl, rfl, rfl⟩,
    ⟨_, rfl, rfl, rfl, rfl⟩,
    ⟨_, rfl, rfl, rfl, by decide⟩⟩

/-- The bound of a record's move with HALTED clear, of the run's, and of a VERIFY move. -/
theorem witness_LegsGoOnToSettling_bounds :
    (let s : State := { bounded with rqt.halted := false };
      ∃ m y, s.trc.move = some m ∧ s.trc.motion.moving = true ∧ m.ramp = .bound ∧ m.job = .forward ∧
        s.rqt.grant = .record y.port y.tag ∧ s.rqt.records = [y] ∧ s.rqt.run = none ∧ s.trc.verified = true) ∧
    (let s : State := { runMoving with
        trc.motion := .decel, trc.move := some { openMove .forward .forward .index none with ramp := .bound } };
      ∃ m x, s.trc.move = some m ∧ s.trc.motion.moving = true ∧ m.ramp = .bound ∧ m.job = .forward ∧ s.rqt.grant = .run ∧
        s.rqt.run = some x ∧ s.rqt.records = [] ∧ s.trc.verified = true) ∧
    (let s : State := { verifying 0 with
        trc.motion := .decel, trc.move := some { openMove .verify .reverse .index none with ramp := .bound } };
      ∃ m v, s.trc.move = some m ∧ m.ramp = .bound ∧ m.job = .verify ∧ s.rqt.grant = .verify ∧ s.fit.verify = some v ∧
        v.hit = false ∧ s.trigLaw) :=
  ⟨⟨_, _, rfl, rfl, rfl, rfl, rfl, rfl, rfl, rfl⟩, ⟨_, _, rfl, rfl, rfl, rfl, rfl, rfl, rfl, rfl⟩,
    ⟨_, _, rfl, rfl, rfl, rfl, rfl, rfl, rfl⟩⟩

theorem witness_IndexLawKept : (moving .cruise (openMove .forward .forward .index none) (still 1000)).indexLaw ∧
    ∃ t, step { moving .cruise (openMove .forward .forward .index none) (still 1000) with pending := [.endRising] } = .next t :=
  ⟨still_indexLaw 1000, _, rfl⟩

/-- A JOG that settles in its band's last count. -/
def jogged : State :=
  { moving .settling (toward .jog 1004) (still 1000) with
    rqt := ⟨[⟨.c, 3, .jog 4, 3, 0, 1, .granted⟩], none, 2, false, .record .c 3, .none⟩ }

theorem witness_SettlingEndsTheMove :
    (∃ m y, jogged.trc.move = some m ∧ jogged.trc.motion = .settling ∧ m.job = .jog ∧ jogged.inBand m.target = true ∧
      jogged.rqt.grant = .record .c 3 ∧ jogged.findRecord .c 3 = some y ∧ jogged.rqt.records = [y] ∧
      jogged.rqt.run = none ∧ jogged.trc.verified = true ∧ m.retried = false) ∧
    (∃ m g, (settling .hold).trc.move = some m ∧ m.job = .present ∧ (settling .hold).inBand m.target = true ∧
      (settling .hold).gtu.inHand = some g ∧ g.mode = .hold ∧ (settling .hold).frameAtGate = some g.frame ∧
      (settling .hold).gtu.exposure = none ∧ ((settling .hold).slot g.holder.port .presented).enabled = true) ∧
    (let s := moving .settling { toward .jog 1004 with retried := true } jogged;
      ∃ m y, s.trc.move = some m ∧ s.trc.motion = .settling ∧ m.retried = true ∧ s.rqt.grant = .record .c 3 ∧
        s.findRecord .c 3 = some y ∧ s.rqt.records = [y]) :=
  ⟨⟨_, _, rfl, rfl, rfl, by decide, rfl, rfl, rfl, rfl, rfl, rfl⟩, ⟨_, _, rfl, rfl, by decide, rfl, rfl, by decide, rfl, rfl⟩,
    ⟨_, _, rfl, rfl, rfl, rfl, rfl, rfl⟩⟩

/-- A settled move in NORMAL mode: the line at another value and at the lens, PENDING and absent, and the first position at the
lens. -/
theorem witness_SettlingEndsTheMove_focus :
    (let s := settling .normal;
      (∃ m g, s.trc.move = some m ∧ s.trc.motion = .settling ∧ m.job = .present ∧ s.inBand m.target = true ∧
        s.gtu.inHand = some g ∧ g.mode = .normal ∧ s.frameAtGate = some g.frame ∧ g.frame / 256 = 0) ∧
      s.gtu.exposure = none ∧ s.fcc.stage = .idle ∧ s.lineOf 0 = some 0 ∧ (s.focusLine 0).pending = false ∧
      (s.focusLine 0).value ≠ s.fcc.lens ∧
      ({ s with fcc.lens := 2040 } : State).fcc.lens = (s.focusLine 0).value) ∧
    (let s : State := { settling .normal with fcc.lines := [⟨true, 0, true, 0, .sweep, false⟩] };
      s.lineOf 0 = some 0 ∧ (s.focusLine 0).pending = true) ∧
    (let s : State := { settling .normal with fcc.lines := [] };
      s.lineOf 0 = none ∧ (coarsePositions (s.sweepCentre 0) s.profile.sweepSpan s.profile.coarseStep).head? = some 496 ∧
      4 * 496 ≠ s.fcc.lens ∧ 4 * 496 = ({ s with fcc.lens := 1984 } : State).fcc.lens) :=
  ⟨⟨⟨_, _, rfl, rfl, rfl, by decide, rfl, rfl, by decide, rfl⟩, by decide⟩, by decide, by decide⟩

/-- The nearest of the VALUE lines, no VALUE line, and the least and the greatest of the positions' bounds. -/
theorem witness_SettlingEndsTheMove_centre :
    (settling .normal).focusLaw ∧ (⟨true, 0, false, 2040, .sweep, false⟩ : FocusLine) ∈ (settling .normal).fcc.lines ∧
    ((settling .normal).fcc.lines.all fun k => !k.valid || k.pending || decide (k.sector = 0)) = true ∧
    (still 0).focusLaw ∧ ((still 0).fcc.lines.all fun k => !k.valid || k.pending) = true ∧
    coarsePositions 0 8 8 = [0, 8] ∧ coarsePositions 1023 8 8 = [1015, 1023] :=
  ⟨focusLaw_of (by decide) (by decide) (by decide) (by decide) (by decide), by decide, by decide, still_focusLaw, by decide,
    by decide, by decide⟩

theorem witness_ParkingAndWaking :
    (let s : State := { still 0 with trc.timers.park := some 120000 };
      s.mayPark = true ∧ s.trc.timers.park.isSome = true) ∧
    (let s := moving .waking (toward .present 50000) (still 0);
      ∃ m, s.trc.motion = .waking ∧ s.trc.roll = .loaded ∧ s.trc.move = some m ∧ m.job = .present ∧
        s.trc.counter < min m.target s.posBound - 40) ∧
    (let s : State := { still 0 with trc.motion := .waking, rqt.halted := true };
      s.trc.motion = .waking ∧ s.trc.roll = .loaded ∧ s.trc.move = none ∧ s.rqt.halted = true) :=
  ⟨by decide, ⟨_, rfl, rfl, rfl, rfl, by decide⟩, by decide⟩

theorem witness_TableLawKept : queueB.tableLaw ∧
    ∃ t, step { queueB with pending := [.cancelAll (rq .b 1 [])] } = .next t := ⟨queueB_tableLaw, _, rfl⟩

theorem witness_FocusLawKept : lockedUp.focusLaw ∧
    ∃ t, step { lockedUp with pending := [.focusUnlock (rq .c 1 [50])] } = .next t := ⟨lockedUp_focusLaw, _, rfl⟩

theorem witness_GrantAndGateLawsKept : presented.tableLaw ∧ presented.grantLaw ∧ presented.gateLaw ∧
    ∃ t, step { presented with pending := [.take (rq .b 14 [12])] } = .next t :=
  ⟨presented_laws.1, presented_laws.2.1, presented_laws.2.2, _, rfl⟩

theorem exposing_levelLaw : exposing.levelLaw := by unfold State.levelLaw; decide

theorem exposing_rollLaw : exposing.rollLaw := by unfold State.rollLaw; decide

theorem witness_LevelAndTrigLawsKept : exposing.levelLaw ∧ exposing.trigLaw ∧ exposing.rollLaw ∧
    ∃ t, step { exposing with pending := [.expdoneRising] } = .next t :=
  ⟨exposing_levelLaw, rfl, exposing_rollLaw, _, rfl⟩

end Sys2Proof.Tests
end

section
/-! SUPPORT. Building the index from a sighting (R54 to R64): what making entries does to FIT while the index has room for
them, which entries a sighting of each interval class makes, and the statements about a NORMAL sighting, a sighting more than
16 pitches beyond the frontier and an EXTRA sighting. -/

namespace Sys2Proof.Machine

/-! ### The frontier (R51) -/

section frontier
variable {s : State} {l : List Entry} {e : Entry}

theorem frontier_of_concat (h : s.fit.entries = l ++ [e]) : s.frontier = some l.length := by
  simp [State.frontier, h]

theorem frontierPos_of_concat (h : s.fit.entries = l ++ [e]) : s.frontierPos = some e.pos := by
  simp [State.frontierPos, h]

theorem exists_concat_of_frontierPos {x : Nat} (h : s.frontierPos = some x) :
    ∃ l e, s.fit.entries = l ++ [e] ∧ e.pos = x := by
  obtain ⟨e, he, hx⟩ := Option.map_eq_some_iff.mp h
  exact ⟨s.fit.entries.dropLast, e, (List.dropLast_append_getLast? e he).symm, hx⟩

end frontier

/-! ### Making entries (R62 to R64) -/

/-- With room for all of them, every entry is made: the first takes the pending splice, and the estimate is updated. -/
theorem makeEntries_of_room {new : List Entry} {s : State} (p256 : Nat)
    (room : s.fit.entries.length + new.length ≤ Config.maxEntries) :
    (makeEntries new p256 s).fit.entries = s.fit.entries ++ spliceFirst s.fit.splice new ∧
    (makeEntries new p256 s).fit.p256 = p256 ∧
    (makeEntries new p256 s).fit.splice = (s.fit.splice && new.isEmpty) := by
  have all : new.take (Config.maxEntries - s.fit.entries.length) = new := List.take_of_length_le (by omega)
  unfold makeEntries
  dsimp only
  rw [all]
  split <;> simp

/-- Announcements, notices and a move that lost its frame leave the entries, the estimate and the pending splice as they were
made (R63). -/
theorem buildEntries_fit (new : List Entry) (p256 : Nat) (w : Ctx) :
    (buildEntries new p256 w).st.fit.entries = (makeEntries new p256 w.st).fit.entries ∧
    (buildEntries new p256 w).st.fit.p256 = (makeEntries new p256 w.st).fit.p256 ∧
    (buildEntries new p256 w).st.fit.splice = (makeEntries new p256 w.st).fit.splice := by
  unfold buildEntries
  dsimp only
  repeat' split
  all_goals simp

/-- Building one entry at a mark in an index with room: the entry joins the index as its frontier with the pending splice. -/
theorem buildEntries_observed (m : Nat) (weak brk : Bool) (p256 : Nat) {w : Ctx}
    (room : w.st.fit.entries.length < Config.maxEntries) :
    ∃ t, (buildEntries [observedEntry m weak brk] p256 w).st = t ∧
      t.fit.entries = w.st.fit.entries ++ [⟨m, .observed, weak, false, w.st.fit.splice, brk, false⟩] ∧
      t.frontier = some w.st.fit.entries.length ∧ t.frontierPos = some m ∧ t.fit.splice = false ∧
      t.fit.p256 = p256 := by
  obtain ⟨entries, estimate, splice⟩ := buildEntries_fit [observedEntry m weak brk] p256 w
  obtain ⟨made, updated, taken⟩ := makeEntries_of_room (new := [observedEntry m weak brk]) p256 room
  have one : spliceFirst w.st.fit.splice [observedEntry m weak brk] =
      [⟨m, .observed, weak, false, w.st.fit.splice, brk, false⟩] := by
    cases w.st.fit.splice <;> rfl
  have grown := (entries.trans made).trans (congrArg _ one)
  exact ⟨_, rfl, grown, frontier_of_concat grown, frontierPos_of_concat grown, by simp [splice, taken],
    estimate.trans updated⟩

/-! ### The interval classes of a sighting (R56) -/

/-- An interval that rounds to more than 16 pitches lies far above the NORMAL class, in either rounding mode. -/
theorem three_mul_lt_of_sixteen_lt_roundQuot {mode : Rounding} {i est : Int} (pos : 0 < est)
    (far : 16 < roundQuot mode (256 * i) est) : 3 * est < 512 * i := by
  have tooFar : 16 * est < 256 * i + est := by
    cases mode with
    | halfUp =>
      simp only [roundQuot, roundHalfUp, not_lt.mpr pos.le, if_false] at far
      have := (Int.le_ediv_iff_mul_le (by omega)).mp (Int.add_one_le_of_lt far)
      omega
    | halfEven =>
      simp only [roundQuot, roundHalfEven, not_lt.mpr pos.le, if_false] at far
      have whole : 16 ≤ 256 * i / est := by
        split_ifs at far <;> omega
      have := (Int.le_ediv_iff_mul_le pos).mp whole
      omega
  omega

section classes
variable {g : Sighting} {l : Nat} {w : Ctx} (hl : w.st.frontierPos = some l)
include hl

/-- EXTRA: under half the estimate beyond the frontier, nothing happens but that the frontier entry is flagged (R57). -/
theorem buildSighting_extra (near : 512 * ((g.centre : Int) - l) < w.st.fit.p256) {before : List Entry} {e : Entry}
    (he : w.st.fit.entries = before ++ [e]) :
    buildSighting g w =
      w.upd fun s => { s with fit.entries := before ++ [{ e with extraFollows := true }] } := by
  simp only [buildSighting, hl, if_pos near]
  simp [Ctx.upd, he, List.modify_eq_take_drop]

/-- NORMAL: from half the estimate to one and a half, one entry is made and the estimate is updated (R58). -/
theorem buildSighting_normal (low : (w.st.fit.p256 : Int) ≤ 512 * ((g.centre : Int) - l))
    (high : 512 * ((g.centre : Int) - l) ≤ 3 * (w.st.fit.p256 : Int)) :
    buildSighting g w = buildEntries [observedEntry g.centre g.weak false]
      (clampP256 w.st.profile ((w.st.fit.p256 : Int) +
        roundQuot w.st.profile.rounding (256 * ((g.centre : Int) - l) - (w.st.fit.p256 : Int)) 8)) w := by
  simp only [buildSighting, hl, if_neg (not_lt.mpr low), if_pos high]

/-- More than 16 pitches: one entry is made, with BREAK-BEFORE, and the estimate stays (R60). -/
theorem buildSighting_break (pos : 0 < w.st.fit.p256)
    (far : 16 < roundQuot w.st.profile.rounding (256 * ((g.centre : Int) - l)) (w.st.fit.p256 : Int)) :
    buildSighting g w = buildEntries [observedEntry g.centre g.weak true] w.st.fit.p256 w := by
  have beyond := three_mul_lt_of_sixteen_lt_roundQuot (Int.natCast_pos.mpr pos) far
  have notExtra : ¬ 512 * ((g.centre : Int) - l) < w.st.fit.p256 := by omega
  have notFilled :
      ¬ (roundQuot w.st.profile.rounding (256 * ((g.centre : Int) - l)) (w.st.fit.p256 : Int)).toNat ≤ 16 := by omega
  simp only [buildSighting, hl, if_neg notExtra, if_neg (not_le.mpr beyond), if_neg notFilled]

end classes

/-! ### The statements -/

/-- Settles O40: a NORMAL sighting builds one entry with the updated estimate (`buildSighting_normal`). -/
theorem normalSightingMakesTheNextEntry : Obligations.NormalSightingMakesTheNextEntry := by
  intro g l s _ hl room low high
  obtain ⟨t, ht, entries, frontier, pos, splice, estimate⟩ :=
    buildEntries_observed g.centre g.weak false
      (clampP256 s.profile ((s.fit.p256 : Int) +
        roundQuot s.profile.rounding (256 * ((g.centre : Int) - l) - (s.fit.p256 : Int)) 8))
      (w := Ctx.start s) room
  have built : (buildSighting g (Ctx.start s)).st = t := by rw [buildSighting_normal hl low high]; exact ht
  have counter : t.trc.counter = s.trc.counter := by simp [← built]
  exact ⟨t, built, entries, frontier, pos, splice, estimate, counter⟩

/-- Settles O41: beyond 16 pitches a sighting builds one entry with BREAK-BEFORE (`buildSighting_break`). -/
theorem breakSightingMakesOneEntry : Obligations.BreakSightingMakesOneEntry := by
  intro g l s _ hl pos room far
  rw [buildSighting_break hl pos far]
  exact buildEntries_observed g.centre g.weak true s.fit.p256 (w := Ctx.start s) room

/-- Settles O42: only the flag of the last entry is touched (`buildSighting_extra`), so the number of entries and the last
position stay. -/
theorem extraSightingOnlyFlagsTheFrontier : Obligations.ExtraSightingOnlyFlagsTheFrontier := by
  intro g l s hl near
  obtain ⟨before, e, he, -⟩ := exists_concat_of_frontierPos hl
  rw [buildSighting_extra hl near he]
  refine ⟨?_, ?_, ?_⟩
  · simp [Ctx.upd, Ctx.start, he]
  · exact (frontier_of_concat rfl).trans (frontier_of_concat he).symm
  · exact (frontierPos_of_concat (e := { e with extraFollows := true }) rfl).trans (frontierPos_of_concat he).symm

end Sys2Proof.Machine
end

section
/-! SUPPORT. FOCUS-FREE (R106): freeing the lines of the focus table, and the statement about the request. -/

namespace Sys2Proof.Machine

/-- Check 6 refuses no request but LOAD while the roll is LOADED (R4, R211). -/
theorem rollRefusal_of_loaded {k : Kind} {s : State} (hk : k ≠ .load) (loaded : s.trc.roll = .loaded) :
    rollRefusal k s = none := by
  simp [rollRefusal, hk, loaded]

/-- The effect of FOCUS-FREE on the lines leaves them alone when none is locked. -/
theorem map_unlocked_of_countP_eq_zero {lines : List FocusLine} (none_locked : lines.countP (·.locked) = 0) :
    lines.map (fun l => { l with locked := false }) = lines := by
  refine (List.map_congr_left fun l hl => ?_).trans (List.map_id lines)
  have unlocked : l.locked = false := by simpa using List.countP_eq_zero.mp none_locked l hl
  exact congrArg (FocusLine.mk l.valid l.sector l.pending l.value l.source) unlocked.symm

/-- The acceptance path takes FOCUS-FREE from port A or C with the roll LOADED to its effect and one DONE (R211, R216). -/
theorem handle_focusFree {r : Request} {s : State} (port : sourcePort r.source ≠ .b) (loaded : s.trc.roll = .loaded) :
    handle (requestEnv 22 r) [] s =
      State.replied (requestEnv 22 r) .done [BitVec.ofNat 8 s.lockedCount]
        { s with fcc.lines := s.fcc.lines.map fun l => { l with locked := false } } := by
  have permitted : Kind.focusFree.permitted (requestEnv 22 r).port = true := decide_eq_true port
  rw [handle_accepted (ofCode_code .focusFree) (.inr rfl) rfl permitted (.inl rfl) rfl
    (rollRefusal_of_loaded (by decide) loaded) rfl]
  exact releaseAll_doneQuiet _ _ _ s

/-- Settles O21: the accepted request has its effect and its count (`handle_focusFree`), and that effect is none on lines of
which none is locked (`map_unlocked_of_countP_eq_zero`). -/
theorem focusFreeUnlocksEveryLine : Obligations.FocusFreeUnlocksEveryLine := by
  intro r s takes port body loaded
  have freed : exec (.focusFree r) s =
      .next (State.replied (requestEnv 22 r) .done [BitVec.ofNat 8 s.lockedCount]
        { s with fcc.lines := s.fcc.lines.map fun l => { l with locked := false } }) := by
    rw [exec_focusFree, requestArrives_taken takes, body, handle_focusFree port loaded]
  refine ⟨freed, fun none_locked => ?_⟩
  have count : s.lockedCount = 0 := none_locked
  rw [freed, count, map_unlocked_of_countP_eq_zero none_locked]
  rfl

end Sys2Proof.Machine
end

section
/-! SUPPORT. One step, said once for every law: what a command does to the part of the state that the laws speak of. A law is kept
by every step when it is kept by what an accepted request performs, by a port reset, and by each event of the film, the lens, the
gate and the camera; framing, queueing, latching and the timers leave it alone. -/

namespace Sys2Proof.Machine

/-! ### Frames of the two operations that answer a pair -/

@[simp] theorem sampleMark_frame (d : Dir) (level : Nat) (tallied : Bool) (s : State) :
    (sampleMark d level tallied s).1.pending = s.pending ∧ (sampleMark d level tallied s).1.freeCount = s.freeCount ∧
    (sampleMark d level tallied s).1.lensRead = s.lensRead ∧
    (sampleMark d level tallied s).1.resetHeld = s.resetHeld ∧
    (sampleMark d level tallied s).1.unitAddress = s.unitAddress ∧ (sampleMark d level tallied s).1.pins = s.pins ∧
    (sampleMark d level tallied s).1.lnk = s.lnk ∧ (sampleMark d level tallied s).1.rqt = s.rqt ∧
    (sampleMark d level tallied s).1.trc = s.trc ∧ (sampleMark d level tallied s).1.fit = s.fit ∧
    (sampleMark d level tallied s).1.fcc = s.fcc ∧ (sampleMark d level tallied s).1.gtu = s.gtu ∧
    (sampleMark d level tallied s).1.ntu = s.ntu := by
  unfold sampleMark
  dsimp only
  repeat' split
  all_goals simp

@[simp] theorem countStep_frame (d : Dir) (s : State) :
    (countStep d s).1.pending = s.pending ∧ (countStep d s).1.freeCount = s.freeCount ∧
    (countStep d s).1.lensRead = s.lensRead ∧ (countStep d s).1.resetHeld = s.resetHeld ∧
    (countStep d s).1.unitAddress = s.unitAddress ∧ (countStep d s).1.pins = s.pins ∧ (countStep d s).1.lnk = s.lnk ∧
    (countStep d s).1.rqt = s.rqt ∧ (countStep d s).1.mkd = s.mkd ∧ (countStep d s).1.fit = s.fit ∧
    (countStep d s).1.fcc = s.fcc ∧ (countStep d s).1.gtu = s.gtu ∧ (countStep d s).1.ntu = s.ntu ∧
    (countStep d s).1.trc.roll = s.trc.roll ∧ (countStep d s).1.trc.profile = s.trc.profile ∧
    (countStep d s).1.trc.endPos = s.trc.endPos ∧ (countStep d s).1.trc.motion = s.trc.motion ∧
    (countStep d s).1.trc.travelDir = s.trc.travelDir ∧ (countStep d s).1.trc.speed = s.trc.speed ∧
    (countStep d s).1.trc.move = s.trc.move ∧ (countStep d s).1.trc.epoch = s.trc.epoch ∧
    (countStep d s).1.trc.verified = s.trc.verified ∧ (countStep d s).1.trc.slip = s.trc.slip ∧
    (countStep d s).1.trc.cause = s.trc.cause ∧ (countStep d s).1.trc.retension = s.trc.retension ∧
    (countStep d s).1.trc.parkDelay = s.trc.parkDelay ∧ (countStep d s).1.trc.wakeDelay = s.trc.wakeDelay ∧
    (countStep d s).1.trc.wakeFor = s.trc.wakeFor ∧ (countStep d s).1.trc.timers = s.trc.timers := by
  unfold countStep
  repeat' split
  all_goals simp

/-! ### The part of the state that the laws speak of -/

/-- POSITIONING and SETTLING as one phase: the end of a command moves between them (R140). -/
def Phase.rough : Phase → Phase
  | .settling => .positioning
  | p => p

/-- The state without what no law speaks of: queue, pins, links, latches, timers, delays, watches, the lens. -/
def State.core (s : State) : State :=
  { State.reset with
    rqt := s.rqt
    trc := { s.trc with timers := Timers.stopped, speed := 0, parkDelay := 0, wakeDelay := 0, wakeFor := 0 }
    mkd := s.mkd
    fit := { Fit.reset with entries := s.fit.entries, index := s.fit.index, p256 := s.fit.p256 }
    fcc := { Fcc.reset with lines := s.fcc.lines, lru := s.fcc.lru }
    gtu :=
      { Gtu.reset with
        phase := s.gtu.phase.rough
        inHand := s.gtu.inHand
        presentation := s.gtu.presentation
        exposure := s.gtu.exposure.map fun e => { e with ms := 0 }
        trig := s.gtu.trig }
    ntu.levels := s.ntu.levels }

theorem rough_ite (b : Bool) : Phase.rough (if b = true then .settling else .positioning) = .positioning := by
  cases b <;> rfl

theorem syncPhase_rough (s : State) : (syncPhase s).gtu.phase.rough = s.gtu.phase.rough := by
  unfold syncPhase
  split
  · rfl
  · split
    case _ h | _ h =>
      dsimp only
      rw [h]
      exact rough_ite _
    all_goals rfl

/-- The end of a command changes nothing that a law speaks of. -/
theorem finish_core (w : Ctx) : (finish w).core = w.st.core := by
  have phase : (finish w).gtu.phase.rough = w.st.gtu.phase.rough := by simp [finish, syncPhase_rough]
  simp [State.core, phase]

theorem finishQuiet_core (w : Ctx) : (finishQuiet w).core = w.st.core := by simp [State.core]

theorem refuse_core (e : Env) (st : Status) (res : List Byte) (s : State) : (refuse e st res s).core = s.core := by
  simp [State.core]

theorem releaseAll_core (e : Env) (s : State) : (releaseAll e s).core = s.core := by
  unfold releaseAll
  split <;> rfl

theorem releaseWaiting_core (s : State) : (releaseWaiting s).core = s.core := by simp [State.core]

theorem setLink_core (s : State) (p : Port) (l : Link) : (s.setLink p l).core = s.core := rfl

theorem tick_core (s : State) : (tick s).core = s.core := by
  simp only [tick, State.core, Option.map_map]
  rfl

/-! ### The acceptance path (R211) -/

/-- A request has passed the checks of R211 with its parameters read as `a`. -/
structure State.Accepts (s : State) (e : Env) (k : Kind) (body : List Byte) (a : Action) : Prop where
  length : k.lengthOk body = true
  permitted : k.permitted e.port = true
  tagFree : k.timed = true → s.tagInUse e.port e.tag = false
  parsed : k.parse body = .ok a
  roll : rollRefusal k s = none
  room : capacityRefusal k e.port s = none

/-- A request is discarded or refused, and then no law sees it, or it is accepted and performed. -/
theorem handle_cases (e : Env) (body : List Byte) (s : State) :
    (handle e body s).core = s.core ∨
      ∃ k a, s.Accepts e k body a ∧ handle e body s = releaseAll e (perform e a s) := by
  unfold handle
  split
  · left; rw [releaseAll_core, refuse_core]
  · rename_i k _
    split
    · left; rfl
    · simp only [acceptKind]
      split
      · left; rw [releaseAll_core, refuse_core]
      · split
        · left; rw [releaseAll_core, refuse_core]
        · split
          · left; rw [releaseAll_core, refuse_core]
          · split
            · left; rw [releaseAll_core, refuse_core]
            · split
              · left; rw [releaseAll_core, refuse_core]
              · split
                · left; rw [releaseAll_core, refuse_core]
                · right
                  rename_i hl hp ht _ a ha _ hr _ hc
                  refine ⟨k, a, ⟨by simpa using hl, by simpa using hp, fun timed => ?_, ha, hr, hc⟩, rfl⟩
                  simpa [timed] using ht

/-! ### Laws that every command keeps -/

/-- The events that change more than links, queues, latches, timers and pins. -/
def isEvent : Instr → Bool
  | .threadingSuccess _ _ | .threadingTimeout | .retensionSuccess | .retensionFail | .tensionPersistenceExpiry
  | .stallTimerExpiry | .leaderTimerExpiry | .encoderCount _ _ | .leaderFall | .endRising | .travelLegRest | .creepRest
  | .stopRampRest | .boundRest | .settleTimerExpiry | .settleLimitExpiry | .parkTimerExpiry | .wakeTimerExpiry
  | .lensMoveComplete | .lensHomingComplete | .focusLineArrival _ _ | .focusSampleTimeout | .holdTimerExpiry
  | .expdoneRising | .exposureTimerExpiry => true
  | _ => false

/-- A property of states that the acceptance path, a port reset, a full reset and every event keep. -/
structure KeptByCommands (P : State → Prop) : Prop where
  core : ∀ s, P s.core ↔ P s
  reset : ∀ held unit s, P (resetTo held unit s)
  perform : ∀ e k body a s, s.Accepts e k body a → P s → P (perform e a s)
  portReset : ∀ p s, P s → P (portReset p (Ctx.start s)).st
  event : ∀ c s t, isEvent c = true → P s → exec c s = .next t → P t

namespace KeptByCommands

variable {P : State → Prop} (keeps : KeptByCommands P)
include keeps

theorem of_core {s t : State} (h : t.core = s.core) (hs : P s) : P t := by
  rw [← keeps.core, h, keeps.core]; exact hs

theorem handle (e : Env) (body : List Byte) {s : State} (hs : P s) : P (handle e body s) := by
  rcases handle_cases e body s with h | ⟨k, a, accepted, h⟩
  · exact keeps.of_core h hs
  · rw [h]
    exact keeps.of_core (releaseAll_core _ _) (keeps.perform e k body a s accepted hs)

theorem drainN (n : Nat) (p : Port) {s : State} (hs : P s) : P (drainN n p s) := by
  induction n generalizing s with
  | zero => exact hs
  | succ n ih =>
    unfold Machine.drainN
    split
    · exact hs
    · split
      · exact ih (keeps.handle _ _ (keeps.of_core (setLink_core _ _ _) hs))
      · exact hs

theorem drain (p : Port) {s : State} (hs : P s) : P (drain p s) :=
  keeps.of_core (releaseWaiting_core _) (keeps.drainN _ p hs)

theorem requestArrives (code : Nat) (r : Request) {s : State} (hs : P s) : P (requestArrives code r s) := by
  unfold Machine.requestArrives
  dsimp only
  split
  · exact hs
  · split
    · exact keeps.handle _ _ hs
    · split
      · exact keeps.drain _ (keeps.of_core (setLink_core _ _ _) hs)
      · refine keeps.of_core (s := s) ?_ hs
        exact finishQuiet_core _

/-- A received byte changes nothing that a law speaks of, before the decoder runs. -/
theorem receive (p : Port) (b : Byte) {s : State} (hs : P s) : P (receive p b s) := by
  unfold Machine.receive
  split
  · exact hs
  · exact keeps.drain p (keeps.of_core (by simp [State.core]) hs)

theorem byteTimerExpires (p : Port) {s : State} (hs : P s) : P (byteTimerExpires p s) :=
  keeps.of_core (by simp [State.core]) hs

theorem spaceAtStop (p : Port) {s : State} (hs : P s) : P (spaceAtStop p s) :=
  keeps.of_core (by simp [State.core]) hs

theorem resyncEnds (p : Port) {s : State} (hs : P s) : P (resyncEnds p s) :=
  keeps.of_core (by simp [State.core]) hs

theorem markReturns (p : Port) {s : State} (hs : P s) : P (markReturns p s) :=
  keeps.of_core (by simp [State.core]) hs

theorem sendCharacter (p : Port) {s : State} (hs : P s) : P (sendCharacter p s) :=
  keeps.of_core (by simp [State.core]) hs

theorem moveHead (p : Port) {s : State} (hs : P s) : P (moveHead p s) := by
  unfold Machine.moveHead
  split
  · exact hs
  · split
    · exact keeps.drain p (keeps.of_core (setLink_core _ _ _) hs)
    · exact hs

theorem breakTaken (p : Port) {s : State} (hs : P s) : P (breakTaken p s) := by
  unfold Machine.breakTaken
  split
  · exact hs
  · exact keeps.of_core ((setLink_core _ _ _).trans (finish_core _)) (keeps.portReset p s hs)

theorem onTensionArmReading (arm : Arm) (reading : Byte) {s : State} (hs : P s) : P (onTensionArmReading arm reading s) := by
  refine keeps.of_core ?_ hs
  cases arm <;> simp only [Machine.onTensionArmReading] <;> split <;> simp [State.core]

theorem onSpliceRising {s : State} (hs : P s) : P (onSpliceRising s) := by
  refine keeps.of_core ?_ hs
  unfold Machine.onSpliceRising
  split <;> rfl

/-- Every command keeps the property. -/
theorem exec (c : Instr) {s t : State} (hs : P s) (h : exec c s = .next t) : P t := by
  by_cases event : isEvent c = true
  · exact keeps.event c s t event hs h
  · by_cases request : ∃ code r, c.message? = some (code, r)
    · obtain ⟨code, r, hm⟩ := request
      rw [exec_message hm] at h
      cases h
      exact keeps.requestArrives code r hs
    · cases c
      case resetPinHeld => cases h; exact keeps.reset _ _ _
      case fullReset => cases h; exact keeps.reset _ _ _
      case receiveByte p b => cases h; exact keeps.receive p b hs
      case stopBitAtSpace p => cases h; exact keeps.spaceAtStop p hs
      case lineBreak p => cases h; exact keeps.breakTaken p hs
      case byteTimeout p => cases h; exact keeps.byteTimerExpires p hs
      case resyncEnd p => cases h; exact keeps.resyncEnds p hs
      case outboxMessageMove p => cases h; exact keeps.moveHead p hs
      case transmitCharacter p => cases h; exact keeps.sendCharacter p hs
      case ctsChange p a => cases h; exact keeps.of_core (setLink_core _ _ _) hs
      case tensionArmReading arm x => cases h; exact keeps.onTensionArmReading arm x hs
      case spliceRising => cases h; exact keeps.onSpliceRising hs
      case lineReturnsToMark p => cases h; exact keeps.markReturns p hs
      all_goals first | exact absurd rfl event | exact absurd ⟨_, _, rfl⟩ request

/-- Every step keeps the property. -/
theorem step {s t : State} (hs : P s) (h : step s = .next t) : P t := by
  unfold Machine.step at h
  split at h
  · cases h
    exact keeps.of_core (tick_core s) hs
  · rename_i rest hq
    refine keeps.exec _ (s := { s with pending := rest }) (keeps.of_core (s := s) rfl hs) h

end KeptByCommands
end Sys2Proof.Machine
end

section
/-! SUPPORT. The focus table (R93 to R95): its law line by line, the victim, and what writing the line of a sector keeps. -/

namespace Sys2Proof.Machine

/-! ### The law line by line -/

/-- No two valid lines have one sector, said by line numbers. -/
def uniqueSectors (lines : List FocusLine) : Prop :=
  ∀ i j (hi : i < lines.length) (hj : j < lines.length), i ≠ j → lines[i].valid = true → lines[j].valid = true →
    lines[i].sector ≠ lines[j].sector

theorem distinctBy_sector_iff (lines : List FocusLine) :
    distinctBy (·.sector) (lines.filter (·.valid)) ↔ uniqueSectors lines := by
  unfold distinctBy uniqueSectors
  rw [List.pairwise_map, List.pairwise_filter, List.pairwise_iff_getElem]
  constructor
  · intro h i j hi hj ne vi vj
    rcases Nat.lt_or_gt_of_ne ne with lt | lt
    · exact h i j hi hj lt vi vj
    · exact (h j i hj hi lt vj vi).symm
  · intro h i j hi hj lt vi vj
    exact h i j hi hj (Nat.ne_of_lt lt) vi vj

section law
variable {s t : State}

/-- The law speaks of the lines and their order alone. -/
theorem focusLaw_of_same (lines : t.fcc.lines = s.fcc.lines) (lru : t.fcc.lru = s.fcc.lru) (law : s.focusLaw) :
    t.focusLaw := by
  unfold State.focusLaw
  rw [lines, lru]
  exact law

theorem focusLine_of_lt {n : Nat} (h : n < s.fcc.lines.length) : s.focusLine n = s.fcc.lines[n] := by
  simp [State.focusLine, h]

theorem lineOf_eq_some {x n : Nat} (h : s.lineOf x = some n) :
    n < s.fcc.lines.length ∧ (s.focusLine n).valid = true ∧ (s.focusLine n).sector = x := by
  obtain ⟨lt, found, -⟩ := List.findIdx?_eq_some_iff_getElem.mp h
  rw [focusLine_of_lt lt]
  simpa [lt] using found

theorem lineOf_eq_none {x : Nat} (h : s.lineOf x = none) : ∀ l ∈ s.fcc.lines, l.valid = true → l.sector ≠ x := by
  intro l hl valid
  have := List.findIdx?_eq_none_iff.mp h l hl
  simpa [valid] using this

/-! ### The victim (R95) -/

/-- The order holds the lines 0 to 15. -/
theorem mem_lru_iff (law : s.focusLaw) (n : Nat) : n ∈ s.fcc.lru ↔ n < s.fcc.lines.length := by
  obtain ⟨length, perm, -⟩ := law
  rw [perm.mem_iff, length, List.mem_range]

/-- Some line is not locked, because at most 12 of the 16 are (R104). -/
theorem exists_unlocked (law : s.focusLaw) : ∃ n ∈ s.fcc.lru, (s.focusLine n).locked = false := by
  have ⟨length, _, atMost, _⟩ := law
  by_contra none
  push Not at none
  have all : s.fcc.lines.countP (·.locked) = s.fcc.lines.length := by
    rw [List.countP_eq_length]
    intro l hl
    obtain ⟨n, lt, rfl⟩ := List.getElem_of_mem hl
    have := none n ((mem_lru_iff law n).mpr lt)
    simpa [focusLine_of_lt lt] using this
  omega

/-- The victim is the least recent invalid line, or with no invalid line the least recent one that is not locked (R95). -/
theorem victim_spec (law : s.focusLaw) :
    ∃ before after, s.fcc.lru = before ++ s.victim :: after ∧ (s.focusLine s.victim).locked = false ∧
      ((s.focusLine s.victim).valid = false → ∀ n ∈ after, (s.focusLine n).valid = true) ∧
      ((s.focusLine s.victim).valid = true →
        (∀ n ∈ s.fcc.lru, (s.focusLine n).valid = true) ∧ ∀ n ∈ after, (s.focusLine n).locked = true) := by
  have ⟨_, _, _, invalidFree, _⟩ := law
  unfold State.victim
  dsimp only
  split
  · rename_i n found
    obtain ⟨invalid, as, bs, split, skipped⟩ := List.find?_eq_some_iff_append.mp found
    have invalid : (s.focusLine n).valid = false := by simpa using invalid
    have lru : s.fcc.lru = bs.reverse ++ n :: as.reverse := by
      rw [← s.fcc.lru.reverse_reverse, split]; simp
    have lt := (mem_lru_iff law n).mp (by simp [lru])
    refine ⟨_, _, lru, ?_, fun _ k hk => ?_, fun valid => by simp [invalid] at valid⟩
    · rw [focusLine_of_lt lt] at invalid ⊢
      exact invalidFree _ (List.getElem_mem lt) invalid
    · simpa using skipped k (by simpa using hk)
  · rename_i allValid
    have allValid : ∀ n ∈ s.fcc.lru, (s.focusLine n).valid = true := by simpa using allValid
    obtain ⟨u, hu, unlocked⟩ := exists_unlocked law
    obtain ⟨n, found⟩ : ∃ n, s.fcc.lru.reverse.find? (fun n => !(s.focusLine n).locked) = some n := by
      rw [← Option.isSome_iff_exists, List.find?_isSome]
      exact ⟨u, by simpa using hu, by simpa using unlocked⟩
    obtain ⟨free, as, bs, split, skipped⟩ := List.find?_eq_some_iff_append.mp found
    have lru : s.fcc.lru = bs.reverse ++ n :: as.reverse := by
      rw [← s.fcc.lru.reverse_reverse, split]; simp
    rw [found, Option.getD_some]
    refine ⟨_, _, lru, by simpa using free, fun invalid => ?_, fun _ => ⟨allValid, fun k hk => ?_⟩⟩
    · simp [allValid n (by simp [lru])] at invalid
    · simpa using skipped k (by simpa using hk)

/-- Settles O20: the victim is the least recent line that may be replaced (`victim_spec`). -/
theorem victimIsLeastRecentFree : Obligations.VictimIsLeastRecentFree := fun _ => victim_spec

theorem victim_lt (law : s.focusLaw) : s.victim < s.fcc.lines.length := by
  obtain ⟨before, after, lru, -⟩ := victim_spec law
  exact (mem_lru_iff law _).mp (by simp [lru])

theorem victim_unlocked (law : s.focusLaw) : (s.focusLine s.victim).locked = false := by
  obtain ⟨_, _, _, unlocked, -⟩ := victim_spec law
  exact unlocked

/-! ### Writing a line (R94) -/

/-- A line made most recent leaves every line in the order once. -/
theorem touchLine_focusLaw {n : Nat} (lt : n < s.fcc.lines.length) (law : s.focusLaw) : (touchLine n s).focusLaw := by
  have ⟨length, perm, atMost, invalidFree, distinct⟩ := law
  refine ⟨length, List.Perm.trans ?_ perm, atMost, invalidFree, distinct⟩
  have nodup : s.fcc.lru.Nodup := perm.nodup_iff.mpr List.nodup_range
  have mem : n ∈ s.fcc.lru := (mem_lru_iff law n).mpr lt
  have rest : s.fcc.lru.filter (fun x => decide (x ≠ n)) = s.fcc.lru.erase n := by
    rw [nodup.erase_eq_filter]
    exact List.filter_congr fun x _ => by by_cases h : x = n <;> simp [h]
  show (n :: s.fcc.lru.filter fun x => decide (x ≠ n)).Perm s.fcc.lru
  rw [rest]
  exact (List.perm_cons_erase mem).symm

/-- How many lines are locked after one was written. -/
theorem countP_locked_set {lines : List FocusLine} {n : Nat} (lt : n < lines.length) (l : FocusLine) :
    (lines.set n l).countP (·.locked) + (if lines[n].locked then 1 else 0) =
      lines.countP (·.locked) + if l.locked then 1 else 0 := by
  have counted := List.countP_set (p := fun x : FocusLine => x.locked) (a := l) lt
  have : lines[n].locked = true → 0 < lines.countP (·.locked) := fun locked =>
    List.countP_pos_iff.mpr ⟨_, List.getElem_mem lt, locked⟩
  rw [counted]
  split <;> split <;> simp_all

/-- A line may take a value that is valid where it is locked, of a sector that no other valid line has, and locked only where it
was or where a lock is free. -/
theorem setFocusLine_focusLaw {n : Nat} {l : FocusLine} (lt : n < s.fcc.lines.length)
    (lockValid : l.locked = true → l.valid = true)
    (lockFree : l.locked = true → (s.focusLine n).locked = true ∨ s.lockedCount < 12)
    (alone : l.valid = true → ∀ i (hi : i < s.fcc.lines.length), i ≠ n → s.fcc.lines[i].valid = true →
      s.fcc.lines[i].sector ≠ l.sector)
    (law : s.focusLaw) : (setFocusLine n l s).focusLaw := by
  have ⟨length, perm, atMost, invalidFree, distinct⟩ := law
  rw [distinctBy_sector_iff] at distinct
  refine ⟨(by simp [setFocusLine, length]), perm, ?_, fun k hk invalid => ?_, (distinctBy_sector_iff _).mpr ?_⟩
  · have counted := countP_locked_set lt l
    show (s.fcc.lines.set n l).countP (·.locked) ≤ 12
    rw [focusLine_of_lt lt] at lockFree
    unfold State.lockedCount at lockFree
    split at counted <;> split at counted <;> simp_all <;> omega
  · rcases List.mem_or_eq_of_mem_set hk with old | rfl
    · exact invalidFree k old invalid
    · by_contra locked
      simp [lockValid (by simpa using locked)] at invalid
  · intro i j hi hj ne vi vj
    simp only [setFocusLine, List.length_set] at hi hj
    simp only [setFocusLine, List.getElem_set] at vi vj ⊢
    by_cases ni : n = i <;> by_cases nj : n = j
    · exact absurd (ni.symm.trans nj) ne
    · simp only [ni, if_true] at vi vj ⊢
      rw [if_neg (by omega)] at vj ⊢
      exact (alone vi j hj (by omega) vj).symm
    · simp only [nj, if_true] at vi vj ⊢
      rw [if_neg (by omega)] at vi ⊢
      exact alone vj i hi (by omega) vi
    · simp only [ni, nj, if_false] at vi vj ⊢
      exact distinct i j hi hj ne vi vj

/-- Writing the line of a sector (R94): `f` keeps a line valid and of its sector, the fresh line is valid and of the sector, and
either takes a lock only where one is free. -/
theorem putSector_focusLaw {x : Nat} {f : FocusLine → FocusLine} {fresh : FocusLine}
    (fValid : ∀ l, (f l).valid = l.valid) (fSector : ∀ l, (f l).sector = l.sector)
    (fLock : ∀ n, s.lineOf x = some n → (f (s.focusLine n)).locked = true →
      (s.focusLine n).locked = true ∨ s.lockedCount < 12)
    (freshValid : fresh.valid = true) (freshSector : fresh.sector = x)
    (freshLock : s.lineOf x = none → fresh.locked = true → s.lockedCount < 12)
    (law : s.focusLaw) : (putSector x f fresh s).focusLaw := by
  have ⟨_, _, _, _, distinct⟩ := law
  rw [distinctBy_sector_iff] at distinct
  unfold putSector
  split
  · rename_i n found
    obtain ⟨lt, valid, sector⟩ := lineOf_eq_some found
    refine touchLine_focusLaw (by simpa [setFocusLine] using lt)
      (setFocusLine_focusLaw lt (fun _ => by rw [fValid, valid]) (fLock n found) ?_ law)
    intro _ i hi ne vi same
    rw [focusLine_of_lt lt] at valid sector
    exact distinct i n hi lt ne vi valid (by rw [same, fSector, focusLine_of_lt lt])
  · rename_i absent
    refine touchLine_focusLaw (by simpa [setFocusLine] using victim_lt law)
      (setFocusLine_focusLaw (victim_lt law) (fun _ => freshValid) (fun locked => .inr (freshLock absent locked)) ?_ law)
    intro _ i hi _ vi same
    exact lineOf_eq_none absent _ (List.getElem_mem hi) vi (same.trans freshSector)

/-- A splice returns the line of a sector to PENDING, with its tag and lock (R109). -/
theorem splicePending_focusLaw (x : Nat) (law : s.focusLaw) : (splicePending x s).focusLaw := by
  have ⟨_, _, _, invalidFree, distinct⟩ := law
  rw [distinctBy_sector_iff] at distinct
  unfold splicePending
  split
  · rename_i n found
    obtain ⟨lt, valid, -⟩ := lineOf_eq_some found
    refine setFocusLine_focusLaw lt (fun _ => valid) (fun locked => .inl locked) ?_ law
    intro _ i hi ne vi
    rw [focusLine_of_lt lt] at valid ⊢
    exact distinct i n hi lt ne vi valid
  · exact law

end law
end Sys2Proof.Machine
end

section
/-! SUPPORT. Every step keeps the law of the focus table (R93, R94): the operations that write lines keep it, the others leave the
table alone. -/

namespace Sys2Proof.Machine

section operations
variable {w : Ctx}

theorem orderLens_focusLaw {mv : LensMove} (law : w.st.focusLaw) : (orderLens mv w).st.focusLaw :=
  focusLaw_of_same (by simp) (by simp) law

/-- A sweep that succeeds writes the line of its sector and takes no lock (R102). -/
theorem sweepSuccess_focusLaw (sw : Sweep) (f : Nat) (law : w.st.focusLaw) : (sweepSuccess sw f w).st.focusLaw := by
  refine orderLens_focusLaw (putSector_focusLaw (fun l => ?_) (fun l => ?_) ?_ rfl rfl ?_ ?_)
  · split <;> rfl
  · split <;> rfl
  · intro n _ locked
    left
    split at locked <;> exact locked
  · intro _ locked
    exact absurd locked (by simp)
  · exact focusLaw_of_same rfl rfl law

theorem passEnd_focusLaw (sw : Sweep) (law : w.st.focusLaw) : (passEnd sw w).st.focusLaw := by
  unfold passEnd
  split
  · exact focusLaw_of_same (by simp) (by simp) law
  · split
    · split
      · exact focusLaw_of_same (by simp) (by simp) law
      · exact focusLaw_of_same (by simp) (by simp) law
    · exact sweepSuccess_focusLaw _ _ law

theorem addSample_focusLaw (sw : Sweep) (x : Nat) (law : w.st.focusLaw) : (addSample sw x w).st.focusLaw := by
  unfold addSample
  split
  · exact law
  · dsimp only
    split
    · exact passEnd_focusLaw _ (focusLaw_of_same rfl rfl law)
    · exact focusLaw_of_same (by simp) (by simp) law

theorem focusLookup_focusLaw (owner : Holder) (n : Nat) (law : w.st.focusLaw) :
    (focusLookup owner n w).st.focusLaw := by
  unfold focusLookup
  dsimp only
  split
  · rename_i i found
    split
    · exact focusLaw_of_same (by simp) (by simp) law
    · exact orderLens_focusLaw (touchLine_focusLaw (lineOf_eq_some found).1 law)
  · exact focusLaw_of_same (by simp) (by simp) law

theorem gateSettled_focusLaw (law : w.st.focusLaw) : (gateSettled w).st.focusLaw := by
  unfold gateSettled
  split
  · exact law
  · split
    · dsimp only
      split
      · exact focusLookup_focusLaw _ _ (focusLaw_of_same rfl rfl law)
      · exact focusLaw_of_same (by simp) (by simp) law
    · exact focusLaw_of_same (by simp) (by simp) law

theorem moveSettled_focusLaw (law : w.st.focusLaw) : (moveSettled w).st.focusLaw := by
  unfold moveSettled
  split
  · exact law
  · dsimp only
    split
    · exact gateSettled_focusLaw (focusLaw_of_same (by simp) (by simp) law)
    all_goals
      repeat' split
      all_goals exact focusLaw_of_same (by simp) (by simp) law

/-- Entries that take a splice return one line to PENDING (R109). -/
theorem makeEntries_focusLaw {s : State} (new : List Entry) (p256 : Nat) (law : s.focusLaw) :
    (makeEntries new p256 s).focusLaw := by
  unfold makeEntries
  dsimp only
  split
  · exact splicePending_focusLaw _ (focusLaw_of_same rfl rfl law)
  · exact focusLaw_of_same rfl rfl law

theorem buildEntries_focusLaw (new : List Entry) (p256 : Nat) (law : w.st.focusLaw) :
    (buildEntries new p256 w).st.focusLaw := by
  have made : (w.upd (makeEntries new p256)).st.focusLaw := makeEntries_focusLaw _ _ law
  unfold buildEntries
  dsimp only
  repeat' split
  all_goals exact focusLaw_of_same (by simp) (by simp) made

theorem buildSighting_focusLaw (g : Sighting) (law : w.st.focusLaw) : (buildSighting g w).st.focusLaw := by
  unfold buildSighting
  dsimp only
  repeat' split
  all_goals first
    | exact buildEntries_focusLaw _ _ law
    | exact focusLaw_of_same rfl rfl law

theorem takeSighting_focusLaw (g : Sighting) (law : w.st.focusLaw) : (takeSighting g w).st.focusLaw := by
  unfold takeSighting
  dsimp only
  repeat' split
  all_goals first
    | exact buildSighting_focusLaw _ law
    | exact focusLaw_of_same (by simp) (by simp) law

theorem countMark_focusLaw (d : Dir) (tallied : Bool) (law : w.st.focusLaw) : (countMark d tallied w).st.focusLaw := by
  have sampled : (sampleMark d w.st.level tallied w.st).1.focusLaw := focusLaw_of_same (by simp) (by simp) law
  unfold countMark
  dsimp only
  split
  · split
    · exact sampled
    · exact takeSighting_focusLaw _ sampled
  · exact sampled

/-- The rest of an encoder count after the counter and the verified flag (log entry 10). -/
theorem countEnd_focusLaw (d : Dir) (tallied : Bool) (law : w.st.focusLaw) :
    (finish (examine (checkRewindEnd (frontierLimit d tallied (countMark d tallied (w.upd progress)))))).focusLaw := by
  have before : (w.upd progress).st.focusLaw := focusLaw_of_same (by simp) (by simp) law
  have marked := countMark_focusLaw d tallied before
  exact focusLaw_of_same (by simp) (by simp) marked

end operations

/-! ### Requests and events -/

/-- Sixteen invalid lines in the order of a reset obey the law. -/
theorem focusLaw_of_reset {s : State} (lines : s.fcc.lines = List.replicate 16 FocusLine.invalid)
    (lru : s.fcc.lru = lruReset) : s.focusLaw := by
  unfold State.focusLaw
  rw [lines, lru]
  refine ⟨rfl, by decide, by decide, ?_, by simp [distinctBy, FocusLine.invalid]⟩
  intro l hl _
  rw [List.eq_of_mem_replicate hl]
  rfl

section requests
variable {s : State}

/-- A lock is granted on a line that has one already, or while fewer than 12 are locked (R104). -/
theorem lockSector_focusLaw {x : Nat}
    (granted : (∃ n, s.lineOf x = some n ∧ (s.focusLine n).locked = true) ∨ s.lockedCount < 12) (law : s.focusLaw) :
    (putSector x (fun l => { l with locked := true }) ⟨true, x, true, 0, .sweep, true⟩ s).focusLaw := by
  refine putSector_focusLaw (fun _ => rfl) (fun _ => rfl) (fun n found _ => ?_) rfl rfl (fun absent _ => ?_) law
  · simpa [found] using granted
  · simpa [absent] using granted

theorem doFocusLock_focusLaw (e : Env) (x : Nat) (law : s.focusLaw) : (doFocusLock e x s).focusLaw := by
  unfold doFocusLock
  cases found : s.lineOf x with
  | some n =>
    dsimp only
    split
    · exact focusLaw_of_same (by simp) (by simp) law
    · rename_i free
      have granted : (s.focusLine n).locked = true ∨ s.lockedCount < 12 := by
        by_contra no
        simp_all [Config.maxLocked]
      exact focusLaw_of_same (by simp) (by simp) (lockSector_focusLaw (granted.imp_left fun h => ⟨n, found, h⟩) law)
  | none =>
    dsimp only
    split
    · exact focusLaw_of_same (by simp) (by simp) law
    · rename_i free
      have granted : s.lockedCount < 12 := by
        by_contra no
        simp_all [Config.maxLocked]
      exact focusLaw_of_same (by simp) (by simp) (lockSector_focusLaw (x := x) (.inr granted) law)

theorem doFocusUnlock_focusLaw (e : Env) (x : Nat) (law : s.focusLaw) : (doFocusUnlock e x s).focusLaw := by
  have put := putSector_focusLaw (s := s) (x := x) (f := fun l => { l with locked := false })
    (fresh := ⟨true, x, true, 0, .sweep, false⟩) (fun _ => rfl) (fun _ => rfl) (fun _ _ locked => by simp at locked)
    rfl rfl (fun _ locked => by simp at locked) law
  exact focusLaw_of_same (by simp [doFocusUnlock]) (by simp [doFocusUnlock]) put

theorem doFocusSet_focusLaw (e : Env) (x v : Nat) (law : s.focusLaw) : (doFocusSet e x v s).focusLaw := by
  have put := putSector_focusLaw (s := s) (x := x) (f := fun l => { l with pending := false, value := v, source := .set })
    (fresh := ⟨true, x, false, v, .set, false⟩) (fun _ => rfl) (fun _ => rfl) (fun _ _ locked => .inl locked)
    rfl rfl (fun _ locked => by simp at locked) law
  exact focusLaw_of_same (by simp [doFocusSet]) (by simp [doFocusSet]) put

theorem doFocusFree_focusLaw (e : Env) (law : s.focusLaw) : (doFocusFree e s).focusLaw := by
  obtain ⟨length, perm, -, -, distinct⟩ := law
  have freed : (doFocusFree e s).fcc.lines = s.fcc.lines.map fun l => { l with locked := false } := by
    simp [doFocusFree, doneQuiet]
  have order : (doFocusFree e s).fcc.lru = s.fcc.lru := by simp [doFocusFree, doneQuiet]
  unfold State.focusLaw
  rw [freed, order]
  refine ⟨by simpa using length, perm, ?_, ?_, ?_⟩
  · simp [List.countP_map, Function.comp_def]
  · simp only [List.mem_map]
    rintro _ ⟨l, -, rfl⟩ _
    rfl
  · unfold distinctBy at distinct ⊢
    rw [List.filter_map, List.map_map]
    exact distinct

theorem doUnload_focusLaw (e : Env) : (doUnload e s).focusLaw :=
  focusLaw_of_reset (by simp [doUnload, unloadClear]) (by simp [doUnload, unloadClear])

theorem perform_focusLaw (e : Env) (a : Action) (law : s.focusLaw) : (perform e a s).focusLaw := by
  cases a with
  | unload => exact doUnload_focusLaw e
  | focusLock x => exact doFocusLock_focusLaw e x law
  | focusUnlock x => exact doFocusUnlock_focusLaw e x law
  | focusFree => exact doFocusFree_focusLaw e law
  | focusSet x v => exact doFocusSet_focusLaw e x v law
  | correct c =>
    cases c <;> simp only [perform, doMerge, doSplit, doMove, doClearTaken] <;> (repeat' split) <;>
      exact focusLaw_of_same (by simp) (by simp) law
  | _ =>
    simp only [perform, doLoad, doPresent, doRun, doJog, doBarrier, doCancel, doCancelAll, doTake, doRelease, doWatch,
      doExpose, doGateStatus, doHalt, doResume, doClearFault, doReadIndex, doIndexStatus, doFocusRead, doConfigureLink,
      doLinkStatus, doResetLink, doSetNotices, doReadEvents, doClearEvents, doAckAttn, doSetStation, doneQuiet, setNotices]
    repeat' split
    all_goals exact focusLaw_of_same (by simp) (by simp) law

end requests

theorem event_focusLaw (c : Instr) (s t : State) (event : isEvent c = true) (law : s.focusLaw)
    (h : exec c s = .next t) : t.focusLaw := by
  cases c
  case settleTimerExpiry =>
    cases h
    simp only [onSettleTimerExpiry]
    split
    · exact focusLaw_of_same (by simp) (by simp) (moveSettled_focusLaw (w := Ctx.start s) law)
    · exact law
  case focusLineArrival late line =>
    cases h
    simp only [onFocusLineArrival]
    repeat' split
    · rename_i sw _ _
      exact focusLaw_of_same (by simp) (by simp) (addSample_focusLaw (w := Ctx.start s) sw (sharpness line) law)
    · exact law
    · exact law
  case encoderCount d x =>
    cases h
    simp only [onEncoderCount]
    split
    · exact law
    · split
      · exact focusLaw_of_same (by simp) (by simp) law
      · refine countEnd_focusLaw d _ (focusLaw_of_same (s := s) ?_ ?_ law) <;> split <;> simp
  case threadingSuccess | threadingTimeout | retensionSuccess | retensionFail | tensionPersistenceExpiry | stallTimerExpiry
      | leaderTimerExpiry | leaderFall | parkTimerExpiry | wakeTimerExpiry | lensHomingComplete | expdoneRising
      | exposureTimerExpiry =>
    cases h
    simp only [onThreadingSuccess, onThreadingTimeout, onRetensionSuccess, onRetensionFail, onTensionPersistenceExpiry,
      onStallTimerExpiry, onLeaderTimerExpiry, onLeaderFall, onParkTimerExpiry, onWakeTimerExpiry, onLensHomingComplete,
      onExpdoneRising, onExposureTimerExpiry]
    split <;> exact focusLaw_of_same (by simp) (by simp) law
  case endRising | travelLegRest | creepRest | stopRampRest | boundRest | settleLimitExpiry | lensMoveComplete
      | focusSampleTimeout | holdTimerExpiry =>
    cases h
    simp only [onEndRising, onTravelLegRest, onCreepRest, onStopRampRest, onBoundRest, onSettleLimitExpiry,
      onLensMoveComplete, onFocusSampleTimeout, onHoldTimerExpiry]
    repeat' split
    all_goals exact focusLaw_of_same (by simp) (by simp) law
  all_goals cases event

/-- The law of the focus table is one that every command keeps. -/
theorem focusLaw_keptByCommands : KeptByCommands State.focusLaw where
  core _ := Iff.rfl
  reset _ _ _ := focusLaw_of_reset rfl rfl
  perform e _ _ a _ _ law := perform_focusLaw e a law
  portReset _ _ law := focusLaw_of_same (by simp) (by simp) law
  event := event_focusLaw

/-- Settles O57: every step keeps the law of the focus table (`focusLaw_keptByCommands`). -/
theorem focusLawKept : Obligations.FocusLawKept := fun _ _ => focusLaw_keptByCommands.step

end Sys2Proof.Machine
end

section
/-! SUPPORT. The statements about the queue, the acceptance path, one answer, and the laws at reset. -/

namespace Sys2Proof.Machine

/-! ### Steps and commands -/

/-- Settles O1: the step looks at the front of the queue, by definition. -/
theorem stepRunsTheFrontCommand : Obligations.StepRunsTheFrontCommand := fun _ _ _ => rfl

/-- Settles O2: with an empty queue the step is the tick, whose timers are those of the statement by definition. -/
theorem idleStepIsOneMillisecond : Obligations.IdleStepIsOneMillisecond := by
  intro s empty
  refine ⟨tick s, by simp only [step, empty], rfl, rfl, rfl, rfl, ?_, rfl⟩
  intro p
  cases p <;> rfl

/-- What every command leaves: the queue, but for the RESET rows the pin and the address, and but for the rows that bring new levels
the levels. -/
def State.keepsWorld (s t : State) (c : Instr) : Prop :=
  t.pending = s.pending ∧ (c.isReset = false → t.resetHeld = s.resetHeld ∧ t.unitAddress = s.unitAddress) ∧
    (c.readsPins = false → t.pins = s.pins)

theorem keepsWorld_of_sameWorld {s t : State} {c : Instr} (h : s.sameWorld t) : s.keepsWorld t c :=
  ⟨h.1, fun _ => h.2.1 |> fun a => ⟨a, h.2.2.1⟩, fun _ => h.2.2.2⟩

theorem endMotion_sameWorld (m : Move) (w : Ctx) : w.st.sameWorld (endMotion m w).st := by
  unfold endMotion
  dsimp only
  repeat' split
  all_goals simp [State.sameWorld]

@[simp] theorem countMark_world (d : Dir) (tallied : Bool) (w : Ctx) :
    (countMark d tallied w).st.pending = w.st.pending ∧ (countMark d tallied w).st.resetHeld = w.st.resetHeld ∧
      (countMark d tallied w).st.unitAddress = w.st.unitAddress := by
  unfold countMark
  dsimp only
  repeat' split
  all_goals simp

theorem onEndRising_sameWorld (s : State) : s.sameWorld (onEndRising s) := by
  unfold onEndRising
  split
  · split
    · dsimp only
      rw [finish_sameWorld]
      refine sameWorld_trans ?_ (endMotion_sameWorld _ _)
      split <;> simp [State.sameWorld]
    · exact sameWorld_refl s
  · exact sameWorld_refl s

/-- A count leaves the queue, the RESET pin and the unit address. -/
theorem onEncoderCount_world (d : Dir) (x : Sample) (s : State) :
    (onEncoderCount d x s).pending = s.pending ∧ (onEncoderCount d x s).resetHeld = s.resetHeld ∧
      (onEncoderCount d x s).unitAddress = s.unitAddress := by
  unfold onEncoderCount
  split
  · simp
  · split
    · simp [takeReading]
    · dsimp only
      split <;> simp [takeReading]

/-- The events of the film, the lens, the gate and the camera end with `finish` or change nothing. -/
theorem exec_event_keepsWorld {c : Instr} {s t : State} (event : isEvent c = true) (h : exec c s = .next t) :
    s.keepsWorld t c := by
  cases c
  case encoderCount d x =>
    cases h
    obtain ⟨pending, held, unit⟩ := onEncoderCount_world d x s
    exact ⟨pending, fun _ => ⟨held, unit⟩, nofun⟩
  case endRising => cases h; exact keepsWorld_of_sameWorld (onEndRising_sameWorld s)
  case threadingSuccess | leaderFall =>
    cases h
    simp only [onThreadingSuccess, onLeaderFall]
    repeat' split
    all_goals simp [State.keepsWorld, Instr.readsPins, threadedState]
  case retensionSuccess | threadingTimeout | retensionFail | tensionPersistenceExpiry | stallTimerExpiry | leaderTimerExpiry =>
    cases h
    refine keepsWorld_of_sameWorld ?_
    simp only [onRetensionSuccess, onThreadingTimeout, onRetensionFail, onTensionPersistenceExpiry, onStallTimerExpiry, onLeaderTimerExpiry]
    repeat' split
    all_goals simp [State.sameWorld, retensioned]
  case travelLegRest | creepRest | stopRampRest | boundRest | settleTimerExpiry | settleLimitExpiry | parkTimerExpiry | wakeTimerExpiry => 
    cases h
    refine keepsWorld_of_sameWorld ?_
    simp only [onTravelLegRest, onCreepRest, onStopRampRest, onBoundRest, onSettleTimerExpiry, onSettleLimitExpiry, onParkTimerExpiry, onWakeTimerExpiry]
    repeat' split
    all_goals simp [State.sameWorld, atRest, parkNow, settleRetry]
  case lensMoveComplete | lensHomingComplete | focusLineArrival | focusSampleTimeout | holdTimerExpiry | expdoneRising | exposureTimerExpiry => 
    cases h
    refine keepsWorld_of_sameWorld ?_
    simp only [onLensMoveComplete, onLensHomingComplete, onFocusLineArrival, onFocusSampleTimeout, onHoldTimerExpiry, onExpdoneRising, onExposureTimerExpiry]
    repeat' split
    all_goals simp [State.sameWorld]
  all_goals cases event

/-- Settles O3: the request rows by `requestArrives_sameWorld`, the RESET rows by definition, the link rows by the lemmas of their
operations, and the events by `exec_event_keepsWorld`. -/
theorem everyCommandCompletes : Obligations.EveryCommandCompletes := by
  intro c s
  by_cases event : isEvent c = true
  · obtain ⟨t, ht⟩ : ∃ t, exec c s = .next t := by cases c <;> exact ⟨_, rfl⟩
    exact ⟨t, ht, exec_event_keepsWorld event ht⟩
  · by_cases request : ∃ code r, c.message? = some (code, r)
    · obtain ⟨code, r, hm⟩ := request
      exact ⟨_, exec_message hm s, keepsWorld_of_sameWorld (requestArrives_sameWorld code r s)⟩
    · have linkRow {t : State} (h : s.sameWorld t) : s.keepsWorld t c := keepsWorld_of_sameWorld h
      cases c
      case resetPinHeld => exact ⟨_, rfl, rfl, nofun, fun _ => rfl⟩
      case fullReset => exact ⟨_, rfl, rfl, nofun, fun _ => rfl⟩
      case receiveByte p b => exact ⟨_, rfl, linkRow (receive_sameWorld p b s)⟩
      case stopBitAtSpace p => exact ⟨_, rfl, linkRow (by simp [State.sameWorld, onStopBitAtSpace])⟩
      case lineBreak p => exact ⟨_, rfl, linkRow (breakTaken_sameWorld p s)⟩
      case byteTimeout p => exact ⟨_, rfl, linkRow (by simp [State.sameWorld, onByteTimeout])⟩
      case resyncEnd p => exact ⟨_, rfl, linkRow (by simp [State.sameWorld, onResyncEnd])⟩
      case outboxMessageMove p => exact ⟨_, rfl, linkRow (moveHead_sameWorld p s)⟩
      case transmitCharacter p => exact ⟨_, rfl, linkRow (by simp [State.sameWorld, onTransmitCharacter])⟩
      case ctsChange p a => exact ⟨_, rfl, linkRow ⟨rfl, rfl, rfl, rfl⟩⟩
      case tensionArmReading arm x =>
        refine ⟨_, rfl, ?_, fun _ => ?_, nofun⟩ <;>
          cases arm <;> simp only [onTensionArmReading] <;> split <;> simp
      case spliceRising =>
        refine ⟨_, rfl, linkRow ?_⟩
        unfold onSpliceRising
        split <;> simp [State.sameWorld]
      case lineReturnsToMark p => exact ⟨_, rfl, linkRow (by simp [State.sameWorld, onLineReturnsToMark])⟩
      all_goals first | exact absurd rfl event | exact absurd ⟨_, _, rfl⟩ request

/-! ### The acceptance path (R188, R209, R211) -/

/-- The known kinds have the codes 1 to 32 (R209). -/
theorem ofCode_eq_none {n : Nat} (h : n = 0 ∨ 33 ≤ n) : Kind.ofCode n = none := by
  have range (k : Kind) : 1 ≤ k.code ∧ k.code ≤ 32 := by cases k <;> decide
  refine List.find?_eq_none.mpr fun k _ => ?_
  have := range k
  simp only [decide_eq_true_eq]
  omega

theorem handle_unknown {e : Env} (h : Kind.ofCode e.code = none) (body : List Byte) (s : State) :
    handle e body s = s.replied e .unknownKind [] := by
  simp only [handle, h, releaseAll_refuse]

theorem handle_discarded {e : Env} {k : Kind} (h : Kind.ofCode e.code = some k) (bc : e.bc = true) (timed : k.timed = true)
    (body : List Byte) (s : State) : handle e body s = s := by
  simp [handle, h, bc, timed]

/-- A request that is not discarded goes to the checks of its kind. -/
theorem handle_known {e : Env} {k : Kind} (h : Kind.ofCode e.code = some k) (kept : ¬(e.bc = true ∧ k.timed = true))
    (body : List Byte) (s : State) : handle e body s = releaseAll e (acceptKind e k body s) := by
  simp only [handle, h, Bool.and_eq_true, if_neg kept]

/-- Settles O4: the decoder takes the message at once (`requestArrives_taken`), no kind has the code 0 or one above 32
(`ofCode_eq_none`), and a unit of address 127 skips it (`requestArrives_deaf`). -/
theorem requestRowsReachTheAcceptancePath : Obligations.RequestRowsReachTheAcceptancePath := by
  refine ⟨?_, ?_, ?_⟩
  · intro c code r s message takes
    rw [exec_message message, requestArrives_taken takes]
  · intro k r s takes unknown
    rw [exec_unknownKind, requestArrives_taken takes, handle_unknown (ofCode_eq_none unknown)]
  · intro c code r s message addressed deaf
    rw [exec_message message, requestArrives_deaf addressed deaf]

/-- Settles O5: each check of `acceptKind` in turn, a refusal by `releaseAll_refuse`. -/
theorem acceptanceChecksInOrder : Obligations.AcceptanceChecksInOrder := by
  intro e body s
  refine ⟨fun unknown => handle_unknown unknown body s, fun k known => ⟨fun bc timed => handle_discarded known bc timed body s,
    fun kept => ?_⟩⟩
  have handled := handle_known known kept body s
  unfold acceptKind at handled
  refine ⟨fun length => ?_, fun length => ⟨fun port => ?_, fun port => ⟨fun timed inUse => ?_, fun free =>
    ⟨fun x refused => ?_, fun a parsed => ⟨fun st refused => ?_, fun roll => ⟨fun st refused => ?_, fun room => ?_⟩⟩⟩⟩⟩⟩
  · simpa [length, releaseAll_refuse] using handled
  · simpa [length, port, releaseAll_refuse] using handled
  · simpa [length, port, timed, inUse, releaseAll_refuse] using handled
  all_goals have tag : (k.timed && s.tagInUse e.port e.tag) = false := by simpa [Bool.and_eq_true] using free
  · simpa [length, port, tag, refused, releaseAll_refuse] using handled
  · simpa [length, port, tag, parsed, refused, releaseAll_refuse] using handled
  · simpa [length, port, tag, parsed, roll, refused, releaseAll_refuse] using handled
  · simpa [length, port, tag, parsed, roll, room] using handled

theorem releaseWaiting_of_empty {s : State} (empty : s.lnk.c.inbox = []) : releaseWaiting s = s := by
  simp only [releaseWaiting, empty]

theorem releaseWaiting_of_room {s : State} {m : InMsg} {rest : List InMsg} (waiting : s.lnk.c.inbox = m :: rest)
    (room : ¬(m.broadcast = false ∧ s.lnk.c.free < 2)) : releaseWaiting s = s := by
  simp only [releaseWaiting, waiting, if_neg room]

theorem releaseWaiting_of_full {s : State} {m : InMsg} {rest : List InMsg} (waiting : s.lnk.c.inbox = m :: rest)
    (full : m.broadcast = false ∧ s.lnk.c.free < 2) :
    releaseWaiting s = { s with lnk.c.released := s.lnk.c.outbox.length } := by
  simp only [releaseWaiting, waiting, if_pos full]

/-- The mark of port C after a message that waits there is examined: it moves where the message is addressed and lacks room (R192). -/
theorem releaseWaiting_eq (s : State) :
    ∃ released, releaseWaiting s = { s with lnk.c.released := released } ∧
      released =
        match s.lnk.c.inbox with
        | m :: _ => if m.broadcast = false ∧ s.lnk.c.free < 2 then s.lnk.c.outbox.length else s.lnk.c.released
        | [] => s.lnk.c.released := by
  cases waiting : s.lnk.c.inbox with
  | nil => exact ⟨s.lnk.c.released, by rw [releaseWaiting_of_empty waiting], rfl⟩
  | cons m rest =>
    by_cases full : m.broadcast = false ∧ s.lnk.c.free < 2
    · exact ⟨s.lnk.c.outbox.length, releaseWaiting_of_full waiting full, (if_pos full).symm⟩
    · exact ⟨s.lnk.c.released, by rw [releaseWaiting_of_room waiting full], (if_neg full).symm⟩

/-- Settles O6: a broadcast is not answered; on ports A and B one message joins the outbox and the mark follows
`releaseWaiting_eq`; on port C the answer releases all that is queued. -/
theorem oneReplyAndNothingElse : Obligations.OneReplyAndNothingElse := by
  intro e st res s
  unfold State.replied
  obtain ⟨released, eq, mark⟩ := releaseWaiting_eq
    (if e.bc then s else queueMsg e.port (replyMsg e.tag e.code (st.code :: res)) s)
  rw [eq]
  cases bc : e.bc with
  | true =>
    rw [bc] at mark
    exact ⟨released, by simp [releaseAll, bc], nofun, fun _ => mark⟩
  | false =>
    rw [bc] at mark
    cases port : e.port with
    | a | b =>
      rw [port] at mark
      exact ⟨released, by simp [releaseAll, bc, port, queueMsg, State.setLink, PerPort.set, State.link, PerPort.get],
        nofun, fun _ => mark⟩
    | c =>
      exact ⟨s.lnk.c.outbox.length + 1,
        by simp [releaseAll, bc, port, queueMsg, State.setLink, PerPort.set, State.link, PerPort.get],
        fun _ _ => rfl, fun h => absurd ⟨rfl, rfl⟩ h⟩

/-! ### The laws at reset -/

/-- Settles O60: an empty table, sixteen invalid lines, no grant, no presentation and no roll. -/
theorem lawsHoldAtReset : Obligations.LawsHoldAtReset := by
  refine ⟨?_, ?_, ?_, ?_, ?_, ?_, ?_, ?_⟩
  · simp [State.tableLaw, distinctBy, State.reset, Rqt.reset]
  · simp [State.focusLaw, distinctBy, State.reset, Fcc.reset]
    decide
  · simp [State.grantLaw, State.reset, Rqt.reset]
  · simp [State.gateLaw, State.reset, Gtu.reset, Rqt.reset]
  · simp [State.levelLaw, State.reset, Ntu.reset, Trc.reset, Rqt.reset]
  · simp [State.trigLaw, State.reset, Gtu.reset]
  · simp [State.rollLaw, State.reset, Trc.reset]
  · simp [State.indexLaw, State.reset, Fit.reset, Trc.reset]

end Sys2Proof.Machine
end

section
/-! SUPPORT. The requests that report and the requests on notices and link settings: how a request row that passes every check is
performed, and the bytes of its body. -/

namespace Sys2Proof.Machine

/-! ### A request that is performed (R188, R211) -/

/-- A message that the decoder takes and whose every check passes is performed, and port C is released (R192, R211). -/
theorem requestArrives_performed (code : Nat) (k : Kind) {r : Request} {a : Action} {s : State} (known : k.code = code) (takes : s.takesNow r)
    (kept : sourceBroadcast r.source = false ∨ k.timed = false) (length : k.lengthOk r.body = true)
    (permitted : k.permitted (sourcePort r.source) = true)
    (tagFree : k.timed = false ∨ s.tagInUse (sourcePort r.source) r.tag = false) (parsed : k.parse r.body = .ok a)
    (roll : rollRefusal k s = none) (room : capacityRefusal k (sourcePort r.source) s = none) :
    requestArrives code r s = releaseAll (requestEnv code r) (perform (requestEnv code r) a s) := by
  subst known
  rw [requestArrives_taken takes]
  exact handle_accepted (ofCode_code k) kept length permitted tagFree parsed roll room

/-- A message whose parameters fail check 5 is refused with the reason and the number of the failure (R211, R214). -/
theorem requestArrives_badParam (code : Nat) (k : Kind) {r : Request} {x : ParamError} {s : State} (known : k.code = code)
    (takes : s.takesNow r) (untimed : k.timed = false) (length : k.lengthOk r.body = true)
    (permitted : k.permitted (sourcePort r.source) = true) (parsed : k.parse r.body = .error x) :
    requestArrives code r s = s.replied (requestEnv code r) x.status [x.reason, x.number] := by
  subst known
  have kept : ¬((requestEnv k.code r).bc = true ∧ k.timed = true) := by simp [untimed]
  rw [requestArrives_taken takes, handle_known (ofCode_code k) kept, ← releaseAll_refuse]
  simp [acceptKind, length, show k.permitted (requestEnv k.code r).port = true from permitted, untimed, parsed]

/-! ### Reset (R3, R178, R197) -/

theorem link_reset (p : Port) (held : Bool) (unit : BitVec 7) (s : State) :
    (resetTo held unit s).link p = { Link.reset with cts := (s.link p).cts } := by
  cases p <;> rfl

theorem slot_reset (p : Port) (k : EventSource) (held : Bool) (unit : BitVec 7) (s : State) :
    (resetTo held unit s).slot p k = ⟨true, false, none⟩ := by
  cases p <;> cases k <;> rfl

/-- While the RESET pin is held a request row finds no receiver (R178). -/
theorem requestArrives_held {s : State} (held : s.resetHeld = true) (code : Nat) (r : Request) :
    requestArrives code r s = s := by
  simp [requestArrives, held]

theorem moveHead_held {s : State} (held : s.resetHeld = true) (p : Port) : moveHead p s = s := by
  unfold moveHead
  split
  · rfl
  · simp [held]

/-- Settles O7: the reset state field by field (`link_reset`, `slot_reset`), and every row of a held part returns the state. -/
theorem resetValuesAndTheHeldPart : Obligations.ResetValuesAndTheHeldPart := by
  refine ⟨fun straps s => ⟨_, _, rfl, rfl, ?_⟩, fun s held => ?_⟩
  · repeat refine ⟨rfl, ?_⟩
    constructor
    · intro l hl
      obtain ⟨-, rfl⟩ := List.mem_replicate.mp (show l ∈ List.replicate 16 FocusLine.invalid from hl)
      exact ⟨rfl, rfl, rfl, rfl⟩
    · repeat refine ⟨rfl, ?_⟩
      refine ⟨fun p => by cases p <;> rfl, fun p k => slot_reset p k false straps s, fun p => ?_⟩
      have link : (onFullReset straps s).link p = { Link.reset with cts := (s.link p).cts } := link_reset p false straps s
      exact ⟨link, by rw [link]; rfl, by rw [link]; rfl, by rw [link]; rfl, by rw [link]; rfl⟩
  · refine ⟨fun c code r message => ?_, fun p b => ?_, fun p => ?_, fun p => ?_, fun p => ?_, fun p => ?_, fun p => ?_,
      fun d x => ?_, fun p => ?_, ?_⟩
    · rw [exec_message message, requestArrives_held held]
    · simp [onReceiveByte, receive, held]
    · simp [onStopBitAtSpace, spaceAtStop, held]
    · simp [onLineBreak, breakTaken, held]
    · simp [onByteTimeout, byteTimerExpires, held]
    · simp [onOutboxMessageMove, moveHead_held held]
    · simp [onTransmitCharacter, sendCharacter, held]
    · simp [onEncoderCount, held]
    · simp [State.rdy, held]
    · simp [State.attn, held]

/-! ### Requests that report (R87, R88, R152, R160, R206) -/

/-- Settles O8: WATCH passes every check and is answered at once (`releaseAll_doneQuiet`). -/
theorem watchSetsTheWatchAndReports : Obligations.WatchSetsTheWatchAndReports := by
  intro r s takes body
  rw [exec_watch, requestArrives_performed 11 .watch rfl takes (.inr rfl) (by rw [body]; rfl) rfl (.inl rfl) rfl rfl rfl]
  exact congrArg _ (releaseAll_doneQuiet _ _ _ s)

theorem drop_zipIdx {α : Type} (l : List α) (f k : Nat) : (l.zipIdx k).drop f = (l.drop f).zipIdx (k + f) := by
  induction f generalizing l k with
  | zero => rfl
  | succ f ih =>
    cases l with
    | nil => rfl
    | cons x l => simpa [List.zipIdx_cons, Nat.add_assoc, Nat.add_comm 1] using ih l (k + 1)

theorem take_zipIdx {α : Type} (l : List α) (c k : Nat) : (l.zipIdx k).take c = (l.take c).zipIdx k := by
  induction c generalizing l k with
  | zero => rfl
  | succ c ih =>
    cases l with
    | nil => rfl
    | cons x l => simp [List.zipIdx_cons, ih]

/-- The entries from a frame on, with their numbers in the index (R87). -/
theorem readEntries_eq (f c : Nat) (l : List Entry) :
    readEntries f c l = ((l.zipIdx.drop f).take c).flatMap fun x => entryBytes x.2 x.1 := by
  rw [drop_zipIdx, take_zipIdx, List.zipIdx_eq_map_add, List.flatMap_map]
  simp [readEntries]

theorem flag_byte (b : Bool) : BitVec.ofNat 8 (0 + if b then 128 else 0) = if b then 128 else 0 := by cases b <;> rfl

/-- A request without operands that every port may send at any time passes every check (R211). -/
theorem exec_plain (code : Nat) (k : Kind) {a : Action} {r : Request} {s : State} (known : k.code = code)
    (takes : s.takesNow r) (body : r.body = []) (untimed : k.timed = false) (length : k.lengthOk [] = true)
    (permitted : k.permitted (sourcePort r.source) = true) (parsed : k.parse [] = .ok a) (roll : rollRefusal k s = none)
    (room : capacityRefusal k (sourcePort r.source) s = none) :
    requestArrives code r s = releaseAll (requestEnv code r) (perform (requestEnv code r) a s) :=
  requestArrives_performed code k known takes (.inr untimed) (body ▸ length) permitted (.inl untimed) (body ▸ parsed) roll room

/-- The bytes of a number of two bytes (R180). -/
theorem be_two (n : Nat) : be 2 n = [BitVec.ofNat 8 (n / 256), BitVec.ofNat 8 n] := by simp [be]

theorem numAt_two {n : Nat} (h : n < 65536) (rest : List Byte) : numAt (be 2 n ++ rest) 0 2 = n := by
  simp [numAt, be_two, beNum]
  omega

/-- Settles O9: each of the four passes every check and is answered at once; the layouts are those of the reports. -/
theorem reportsChangeNothing : Obligations.ReportsChangeNothing := by
  refine ⟨fun r s takes body => ⟨?_, ?_, ?_⟩, ⟨fun r s takes body => ?_, fun r f count s takes low form => ?_⟩,
    fun r s takes body => ?_⟩
  · rw [exec_gateStatus, exec_plain 13 .gateStatus rfl takes body rfl rfl rfl rfl rfl rfl]
    exact congrArg _ (releaseAll_doneQuiet _ _ id s)
  · intro x presented phase exposure
    simp [gateStatusBytes, State.gateHolder, State.reportedHold, presented, phase, exposure, Phase.code]
    split <;> rfl
  · intro presented inHand phase exposure
    simp [gateStatusBytes, State.gateHolder, State.reportedHold, presented, inHand, phase, exposure, Phase.code]
    cases s.gtu.watches.get (sourcePort r.source) <;> rfl
  · rw [exec_indexStatus, exec_plain 19 .indexStatus rfl takes body rfl rfl rfl rfl rfl rfl]
    exact congrArg _ (releaseAll_doneQuiet _ _ id s)
  · have parsed : Kind.readIndex.lengthOk r.body = true ∧ Kind.readIndex.parse r.body = .ok (.readIndex f count) := by
      have frame (rest : List Byte) : numAt (be 2 f ++ rest) 0 2 = f := numAt_two (by omega) rest
      have inRange : ¬Config.maxFrame < f := not_lt.mpr low
      rcases form with ⟨body, rfl⟩ | ⟨c, body, rfl⟩
      · have first := frame []
        rw [List.append_nil] at first
        rw [body]
        refine ⟨rfl, ?_⟩
        simp only [Kind.parse, parseReadIndex, first, if_neg inRange]
        rfl
      · rw [body]
        refine ⟨rfl, ?_⟩
        simp only [Kind.parse, parseReadIndex, frame, if_neg inRange]
        congr 2
        simp only [be_two, byteAt, List.cons_append, List.nil_append, List.getElem?_cons_succ, List.getElem?_cons_zero,
          Option.map_some, Option.getD_some, clampNat]
        repeat' split
        all_goals omega
    rw [exec_readIndex, requestArrives_performed 18 .readIndex rfl takes (.inr rfl) parsed.1 rfl (.inl rfl) parsed.2 rfl rfl,
      ← readEntries_eq]
    exact congrArg _ (releaseAll_doneQuiet _ _ id s)
  · rw [exec_readEvents, exec_plain 29 .readEvents rfl takes body rfl rfl rfl rfl rfl rfl]
    exact congrArg _ (releaseAll_doneQuiet _ _ id s)

end Sys2Proof.Machine
end

section
/-! SUPPORT. The requests on notices and on the links (R193, R194, R197 to R207): the most urgent source, the operations on all
sources of a port, and the settings of a link. -/

namespace Sys2Proof.Machine

/-! ### The most urgent source (R204) -/

theorem mem_allSources (k : EventSource) : k ∈ allSources := by cases k <;> decide

theorem allSources_sorted : allSources.Pairwise fun j k => j.num < k.num := by decide

/-- The lowest-numbered source that satisfies a condition is the first found. -/
theorem find_allSources {f : EventSource → Bool} {k : EventSource} (holds : f k = true)
    (lowest : ∀ j, j.num < k.num → f j = false) : allSources.find? f = some k := by
  obtain ⟨before, after, split⟩ := List.append_of_mem (mem_allSources k)
  refine List.find?_eq_some_iff_append.mpr ⟨holds, before, after, split, fun j hj => ?_⟩
  have sorted := allSources_sorted
  rw [split, List.pairwise_append] at sorted
  simp [lowest j (sorted.2.2 j hj k List.mem_cons_self)]

theorem active_eq_false {e : EventSlot} (h : ¬(e.enabled = true ∧ e.latch.isSome = true)) : e.active = false := by
  simpa [EventSlot.active, Bool.and_eq_false_imp] using h

/-- A broadcast is not answered, and releases nothing. -/
theorem releaseAll_of_broadcast {e : Env} (bc : e.bc = true) (s : State) : releaseAll e s = s := by
  simp [releaseAll, bc]

/-- Settles O10: with no active source 255 is reported; else the source found is the lowest active one (`find_allSources`). -/
theorem ackAttnCollectsTheMostUrgent : Obligations.AckAttnCollectsTheMostUrgent := by
  intro r s takes body
  have performed := exec_plain 31 .ackAttn rfl takes body rfl rfl rfl rfl rfl rfl
  rw [exec_ackAttn, performed]
  refine ⟨fun quiet => ?_, fun k l enabled latched lowest => ?_⟩
  · have urgent : s.mostUrgent (sourcePort r.source) = none :=
      List.find?_eq_none.mpr fun k _ => (Bool.not_eq_true _).mpr (active_eq_false (quiet k))
    simp only [perform, doAckAttn, requestEnv, urgent]
    exact congrArg _ (releaseAll_doneQuiet _ _ id s)
  · have urgent : s.mostUrgent (sourcePort r.source) = some k :=
      find_allSources (by rw [EventSlot.active, enabled, latched]; rfl) fun j hj => active_eq_false (lowest j hj)
    simp only [perform, doAckAttn, requestEnv, urgent, latched, Option.getD_some]
    refine ⟨fun bc => ?_, fun addressed => ?_⟩
    · rw [if_pos bc, releaseAll_of_broadcast bc]
    · rw [if_neg (by simp [addressed])]
      exact congrArg _ (releaseAll_finishQuiet_start _ _ _)

/-! ### Flags of twelve sources (R196, R205, R207) -/

theorem flagOf_twelve (n : Nat) (k : EventSource) : flagOf (twelve n) k = n.testBit k.num := by
  have low : k.num < 12 := by cases k <;> decide
  have bits : twelve n = n % 2 ^ 12 := rfl
  rw [flagOf, ← Nat.testBit_eq_decide_div_mod_eq, bits, Nat.testBit_mod_two_pow]
  simp [low]

theorem given_cons (b : Byte) (rest : List Byte) (n : Nat) : given (b :: rest) n = b.getLsbD n := by
  simp [given, byteAt, BitVec.getLsbD, Nat.testBit_eq_decide_div_mod_eq]

/-- An operation on the sources of a port changes the latches and settings of sources alone. -/
theorem mapSources_eq (f : EventSource → EventSlot → EventSlot) (p : Port) (s : State) :
    mapSources f p s = { s with ntu.ports := (mapSources f p s).ntu.ports } := by
  unfold mapSources
  generalize allSources = l
  induction l generalizing s with
  | nil => rfl
  | cons k l ih => rw [List.foldl_cons, ih]; rfl

/-- Settles O11: both requests are an operation on all sources of the sending port (`mapSources_slot`, `mapSources_other`). -/
theorem clearEventsAndSetNotices : Obligations.ClearEventsAndSetNotices := by
  refine ⟨fun r n s takes low body => ?_, fun r g en pol s takes lowEn lowPol body => ?_⟩
  · have parsed : Kind.clearEvents.parse r.body = .ok (.clearEvents (twelve n)) := by
      rw [body]
      simp only [Kind.parse]
      rw [← List.append_nil (be 2 n), numAt_two low]
    rw [exec_clearEvents, requestArrives_performed 30 .clearEvents rfl takes (.inr rfl) (by rw [body]; rfl) rfl (.inl rfl)
      parsed rfl rfl]
    simp only [perform, doClearEvents]
    generalize cleared : mapSources _ (requestEnv 30 r).port s = u
    refine ⟨u.ntu.ports, ?_, fun k => ?_, fun q other => by rw [← cleared]; exact mapSources_other _ other s⟩
    · rw [releaseAll_finishQuiet_start, ← cleared, ← mapSources_eq]
      rfl
    · rw [← cleared, requestEnv, mapSources_slot, flagOf_twelve]
      rfl
  · have parsed : Kind.setNotices.parse r.body =
        .ok (.setNotices (if g.getLsbD 0 then some (twelve en) else none) (if g.getLsbD 1 then some (twelve pol) else none)) := by
      have first : numAt (g :: (be 2 en ++ be 2 pol)) 1 2 = en := numAt_two lowEn (be 2 pol)
      have second : numAt (g :: (be 2 en ++ be 2 pol)) 3 2 = pol := by
        have := numAt_two lowPol []
        rwa [List.append_nil] at this
      rw [body]
      simp only [Kind.parse, ifGiven, List.cons_append, List.nil_append, given_cons, first, second]
    rw [exec_setNotices, requestArrives_performed 28 .setNotices rfl takes (.inr rfl) (by rw [body]; rfl) rfl (.inl rfl)
      parsed rfl rfl]
    simp only [perform, doSetNotices, setNotices]
    generalize set : mapSources _ (requestEnv 28 r).port s = u
    refine ⟨u.ntu.ports, ?_, fun k => ?_, fun q other => by rw [← set]; exact mapSources_other _ other s⟩
    · rw [releaseAll_finishQuiet_start, ← set, ← mapSources_eq]
      rfl
    · rw [← set, requestEnv, mapSources_slot]
      cases g.getLsbD 0 <;> cases g.getLsbD 1 <;> cases k.isLevel <;>
        simp [EventSlot.withEnable, flagOf_twelve]

/-! ### Occurrences (R190, R201, R202) -/

/-- What latching changes on a port where the source is enabled. -/
theorem latchOne_of_enabled {o : Occ} {s : State} (enabled : (s.slot o.port o.source).enabled = true) :
    latchOne o s =
      offerNotice o.port (noticeMsg o) (s.setSlot o.port o.source ((s.slot o.port o.source).latched o.data)) := by
  simp only [latchOne, enabled, if_true]

theorem setSlot_link (s : State) (p q : Port) (k : EventSource) (e : EventSlot) : (s.setSlot p k e).link q = s.link q := rfl

/-- An offered notice takes a free place of its port, or marks it as missed; port C and the other ports see nothing (R190). -/
theorem offerNotice_link (p q : Port) (m : OutMsg) (s : State) :
    (offerNotice p m s).link q =
      if q = p ∧ p ≠ .c then
        if (s.link p).free = 0 then { s.link p with flags := { (s.link p).flags with noticesMissed := true } }
        else { s.link p with outbox := (s.link p).outbox ++ [m] }
      else s.link q := by
  cases p with
  | c => simp [offerNotice]
  | a | b =>
    simp only [offerNotice]
    split
    case isTrue full => cases q <;> simp
    case isFalse room => cases q <;> simp

/-- Settles O12: with the source enabled the latch is put (`latchOne_of_enabled`) and the notice offered to A or B. -/
theorem occurrenceLatchesAndNotifies : Obligations.OccurrenceLatchesAndNotifies := by
  intro o s
  refine ⟨fun disabled => by simp only [latchOne, disabled, Bool.false_eq_true, if_false], fun enabled => ?_⟩
  rw [latchOne_of_enabled enabled]
  have slots (p : Port) (k : EventSource) (e : EventSlot) :
      (offerNotice o.port (noticeMsg o) (s.setSlot o.port o.source e)).slot p k =
        if o.port = p ∧ o.source = k then e else s.slot p k := by
    by_cases port : o.port = p
    · subst port; simp
    · simp [port]
  refine ⟨?_, fun p k other => ?_, fun p other => ?_, fun line room => ?_, fun line full => ?_⟩
  · rw [slots, if_pos ⟨rfl, rfl⟩]
    rfl
  · rw [slots, if_neg fun same => other (by rw [same.1, same.2])]
  · rw [offerNotice_link, if_neg]
    · rfl
    · rintro ⟨rfl, notC⟩
      exact other.elim (fun ne => ne rfl) notC
  · rw [offerNotice_link, if_pos ⟨rfl, line⟩, setSlot_link, if_neg (Nat.pos_iff_ne_zero.mp room)]
    rfl
  · rw [offerNotice_link, if_pos ⟨rfl, line⟩, setSlot_link, if_pos full]

/-! ### Link settings (R193, R194) -/

theorem rdyMode_code {n : Nat} (h : n ≤ 2) : ∃ m, rdyMode n = some m ∧ m.code = BitVec.ofNat 8 n := by
  match n with
  | 0 => exact ⟨_, rfl, rfl⟩
  | 1 => exact ⟨_, rfl, rfl⟩
  | 2 => exact ⟨_, rfl, rfl⟩
  | n + 3 => omega

/-- Check 5 of a CONFIGURE-LINK, its five bytes named. -/
theorem parse_configureLink (g mode thr gating gap : Byte) :
    Kind.configureLink.parse [g, mode, thr, gating, gap] =
      if g.getLsbD 0 = true ∧ 2 < mode.toNat then .error ⟨.badParam, 0, 1⟩
      else if g.getLsbD 2 = true ∧ 1 < gating.toNat then .error ⟨.badParam, 0, 3⟩
      else
        .ok (.configureLink (if g.getLsbD 0 then rdyMode mode.toNat else none)
          (if g.getLsbD 1 then some (max 1 thr.toNat) else none)
          (if g.getLsbD 2 then some (decide (gating.toNat = 1)) else none)
          (if g.getLsbD 3 then some gap.toNat else none)) := by
  simp [Kind.parse, parseConfigureLink, given_cons, byteAt, ifGiven, badPlace]

/-- Settles O13: check 5 refuses a mode or gating out of range, and the settings given replace those of the port. -/
theorem linkSettingsAndStatus : Obligations.LinkSettingsAndStatus := by
  refine ⟨fun r g mode thr gating gap s takes body => ⟨fun given high => ?_, fun low given high => ?_, fun low lowGating => ?_⟩,
    fun r s takes body => ?_⟩
  · rw [exec_configureLink, requestArrives_badParam 25 .configureLink rfl takes rfl (by rw [body]; rfl) rfl
      (by rw [body, parse_configureLink, if_pos ⟨given, high⟩])]
  · rw [exec_configureLink, requestArrives_badParam 25 .configureLink rfl takes rfl (by rw [body]; rfl) rfl
      (by rw [body, parse_configureLink, if_neg (fun h => by have := low h.1; omega), if_pos ⟨given, high⟩])]
  · rw [exec_configureLink, requestArrives_performed 25 .configureLink rfl takes (.inr rfl) (by rw [body]; rfl) rfl (.inl rfl)
      (by rw [body, parse_configureLink, if_neg (fun h => by have := low h.1; omega),
        if_neg (fun h => by have := lowGating h.1; omega)]) rfl rfl]
    refine ⟨_, congrArg _ (releaseAll_doneQuiet _ _ _ s), ?_, ?_, ?_, ?_, rfl⟩
    · cases given : g.getLsbD 0 with
      | false => rfl
      | true =>
        obtain ⟨m, named, coded⟩ := rdyMode_code (low given)
        simp [named, coded]
    · cases g.getLsbD 1 <;> rfl
    · cases g.getLsbD 2 <;> rfl
    · cases g.getLsbD 3 <;> rfl
  · dsimp only
    rw [exec_linkStatus, exec_plain 26 .linkStatus rfl takes body rfl rfl rfl rfl rfl rfl]
    exact congrArg _ (releaseAll_doneQuiet _ _ _ s)

end Sys2Proof.Machine
end

section
/-! SUPPORT. The requests on the focus table (R104 to R108) and the sharpness of a focus line (R92). -/

namespace Sys2Proof.Machine

/-! ### A line put into the table (R94, R95) -/

section put
variable {s : State} {x n : Nat} {l : FocusLine}

/-- The state with line `n` replaced and made most recent. -/
def State.withLine (s : State) (n : Nat) (l : FocusLine) : State :=
  { s with fcc := { s.fcc with lines := s.fcc.lines.set n l, lru := n :: s.fcc.lru.filter (· ≠ n) } }

theorem putSector_present (present : s.lineOf x = some n) (f : FocusLine → FocusLine) (fresh : FocusLine) :
    putSector x f fresh s = s.withLine n (f (s.focusLine n)) := by
  unfold putSector
  rw [present]
  rfl

theorem putSector_absent (absent : s.lineOf x = none) (f : FocusLine → FocusLine) (fresh : FocusLine) :
    putSector x f fresh s = s.withLine s.victim fresh := by
  unfold putSector
  rw [absent]
  rfl

theorem withLine_focusLine (lt : n < s.fcc.lines.length) : (s.withLine n l).focusLine n = l := by
  simp [State.focusLine, State.withLine, lt]

/-- A line of its sector that no line before it has is the line of the sector. -/
theorem withLine_lineOf (lt : n < s.fcc.lines.length) (valid : l.valid = true) (sector : l.sector = x)
    (first : s.lineOf x = some n ∨ s.lineOf x = none) : (s.withLine n l).lineOf x = some n := by
  refine List.findIdx?_eq_some_iff_getElem.mpr ⟨by simpa [State.withLine] using lt, ?_, fun j hj => ?_⟩
  · simp [State.withLine, valid, sector]
  · have before : ¬(s.fcc.lines[j].valid && decide (s.fcc.lines[j].sector = x)) = true := by
      rcases first with present | absent
      · obtain ⟨_, _, below⟩ := List.findIdx?_eq_some_iff_getElem.mp present
        exact below j hj
      · exact Bool.eq_false_iff.mp (List.findIdx?_eq_none_iff.mp absent _ (List.getElem_mem _))
    simpa [State.withLine, List.getElem_set_ne (Nat.ne_of_gt hj)] using before

theorem withLine_lockedCount (lt : n < s.fcc.lines.length) :
    (s.withLine n l).lockedCount + (if (s.focusLine n).locked then 1 else 0) =
      s.lockedCount + if l.locked then 1 else 0 := by
  rw [focusLine_of_lt lt]
  exact countP_locked_set lt l

/-- What FOCUS-LOCK and FOCUS-UNLOCK report of a line they have put (R104, R105). -/
theorem withLine_answered {c : Nat} (e : Env) (lt : n < s.fcc.lines.length) (valid : l.valid = true) (sector : l.sector = x)
    (first : s.lineOf x = some n ∨ s.lineOf x = none) (count : (s.withLine n l).lockedCount = c) :
    releaseAll e (finishQuiet (e.reply .done (focusReply x (s.withLine n l)) (Ctx.start (s.withLine n l)))) =
      State.replied e .done [BitVec.ofNat 8 n, flagByte l.pending, BitVec.ofNat 8 c] (s.withLine n l) := by
  rw [releaseAll_finishQuiet_start]
  simp only [focusReply, withLine_lineOf lt valid sector first, withLine_focusLine lt, count]

end put

/-- Check 5 of a request on a sector (R214). -/
theorem parseSector_of_le {x : Byte} (low : x.toNat ≤ 63) (rest : List Byte) (f : Nat → Action) :
    parseSector (x :: rest) f = .ok (f x.toNat) := by
  simp [parseSector, byteAt, low]

/-- Settles O19: the line is put as `putSector_present` or `putSector_absent` says, and the reply is that of
`withLine_focusReply`. -/
theorem focusLockAndUnlock : Obligations.FocusLockAndUnlock := by
  intro r x s takes port low body loaded law
  have lengths : Kind.focusLock.lengthOk r.body = true ∧ Kind.focusUnlock.lengthOk r.body = true := by
    rw [body]; exact ⟨rfl, rfl⟩
  have permitted : decide (sourcePort r.source ≠ .b) = true := decide_eq_true port
  have lock : exec (.focusLock r) s =
      .next (releaseAll (requestEnv 20 r) (doFocusLock (requestEnv 20 r) x.toNat s)) := by
    rw [exec_focusLock, requestArrives_performed 20 .focusLock rfl takes (.inr rfl) lengths.1 permitted (.inl rfl)
      (by rw [body]; exact parseSector_of_le low [] _) (rollRefusal_of_loaded (by decide) loaded) rfl]
    rfl
  have unlock : exec (.focusUnlock r) s =
      .next (releaseAll (requestEnv 21 r) (doFocusUnlock (requestEnv 21 r) x.toNat s)) := by
    rw [exec_focusUnlock, requestArrives_performed 21 .focusUnlock rfl takes (.inr rfl) lengths.2 permitted (.inl rfl)
      (by rw [body]; exact parseSector_of_le low [] _) (rollRefusal_of_loaded (by decide) loaded) rfl]
    rfl
  have limit : Config.maxLocked = 12 := rfl
  rw [lock, unlock]
  refine ⟨fun full free => ?_, fun n present room => ?_, fun absent room => ?_, fun n present => ?_, fun absent => ?_⟩
  · have refused : doFocusLock (requestEnv 20 r) x.toNat s = refuse (requestEnv 20 r) .lockLimit [] s := by
      unfold doFocusLock
      cases line : s.lineOf x.toNat with
      | none => simp [full, limit]
      | some n => simp [full, limit, free n line]
    rw [refused, releaseAll_refuse]
  · obtain ⟨lt, valid, sector⟩ := lineOf_eq_some present
    have count := withLine_lockedCount (l := { s.focusLine n with locked := true }) lt
    have accepted : ¬(!(s.focusLine n).locked && decide (Config.maxLocked ≤ s.lockedCount)) = true := by
      rcases room with locked | room
      · simp [locked]
      · simp [limit, room]
    simp only [doFocusLock, present, putSector_present present, if_neg accepted]
    refine congrArg _ (withLine_answered _ lt valid sector (.inl present) ?_)
    cases locked : (s.focusLine n).locked <;> simp [locked] at count ⊢ <;> omega
  · have lt := victim_lt law
    have count := withLine_lockedCount (l := ⟨true, x.toNat, true, 0, .sweep, true⟩) lt
    have accepted : ¬(!false && decide (Config.maxLocked ≤ s.lockedCount)) = true := by simp [limit, room]
    simp only [doFocusLock, absent, putSector_absent absent, if_neg accepted]
    refine congrArg _ (withLine_answered _ lt rfl rfl (.inr absent) ?_)
    simpa [victim_unlocked law] using count
  · obtain ⟨lt, valid, sector⟩ := lineOf_eq_some present
    have count := withLine_lockedCount (l := { s.focusLine n with locked := false }) lt
    simp only [doFocusUnlock, putSector_present present]
    refine congrArg _ (withLine_answered _ lt valid sector (.inl present) ?_)
    cases locked : (s.focusLine n).locked <;> simp [locked] at count ⊢ <;> omega
  · have lt := victim_lt law
    have count := withLine_lockedCount (l := ⟨true, x.toNat, true, 0, .sweep, false⟩) lt
    simp only [doFocusUnlock, putSector_absent absent]
    refine congrArg _ (withLine_answered _ lt rfl rfl (.inr absent) ?_)
    simpa [victim_unlocked law] using count

/-- Settles O22: the value is stored in the sector's line or the victim (`putSector_present`, `putSector_absent`), and the reply
names that line (`withLine_lineOf`). -/
theorem focusSetStoresTheValue : Obligations.FocusSetStoresTheValue := by
  intro r x v s takes port low small body loaded law
  have parsed : Kind.focusSet.parse r.body = .ok (.focusSet x.toNat (min 4095 v)) := by
    have value : numAt ([x] ++ be 2 v) 1 2 = v := by
      have := numAt_two small []
      rwa [List.append_nil] at this
    rw [body]
    simp only [Kind.parse, value]
    exact parseSector_of_le low (be 2 v) _
  have set : exec (.focusSet r) s =
      .next (releaseAll (requestEnv 23 r) (doFocusSet (requestEnv 23 r) x.toNat (min 4095 v) s)) := by
    rw [exec_focusSet, requestArrives_performed 23 .focusSet rfl takes (.inr rfl) (by rw [body]; rfl) (decide_eq_true port)
      (.inl rfl) parsed (rollRefusal_of_loaded (by decide) loaded) rfl]
    rfl
  rw [set]
  refine ⟨fun n present => ?_, fun absent => ?_⟩
  · obtain ⟨lt, valid, sector⟩ := lineOf_eq_some present
    have line := withLine_lineOf (l := { s.focusLine n with pending := false, value := min 4095 v, source := .set }) lt valid
      sector (.inl present)
    simp only [doFocusSet, putSector_present present, line]
    exact congrArg _ (releaseAll_finishQuiet_start _ _ _)
  · have line := withLine_lineOf (l := ⟨true, x.toNat, false, min 4095 v, .set, false⟩) (victim_lt law) rfl rfl (.inr absent)
    simp only [doFocusSet, putSector_absent absent, line]
    exact congrArg _ (releaseAll_finishQuiet_start _ _ _)

/-! ### The lens position as it is read (R90, R108) -/

theorem clampNat_between {lo hi : Nat} (h : lo ≤ hi) (n : Nat) : lo ≤ clampNat lo hi n ∧ clampNat lo hi n ≤ hi := by
  unfold clampNat
  repeat' split
  all_goals omega

/-- Settles O23: the report is read at one moment, and a reading in flight is clamped between the last one and the target. -/
theorem focusReadReportsOnly : Obligations.FocusReadReportsOnly := by
  intro r s takes body
  rw [exec_focusRead, exec_plain 24 .focusRead rfl takes body rfl rfl rfl rfl rfl rfl]
  refine ⟨s.lensReading, congrArg _ (releaseAll_doneQuiet _ _ noteReading s), fun still => ?_, fun mv last moving running read => ?_⟩
  · unfold State.lensReading
    split
    · exact absurd ‹s.fcc.stage = .moving› still
    · rfl
  · subst read
    simp only [State.lensReading, moving, running]
    have between := clampNat_between (min_le_max (a := s.lensRead.getD s.fcc.lens) (b := mv.target))
      (Config.lensInFlight s.fcc.lens mv.target s.freeCount)
    omega

/-! ### Sharpness (R92) -/

theorem absDiff_sq (a b : Nat) : ((absDiff a b : Nat) : Int) ^ 2 = ((b : Int) - a) ^ 2 := by
  unfold absDiff
  rcases Nat.le_total a b with h | h
  · rw [Nat.sub_eq_zero_of_le h, Nat.zero_add, Nat.cast_sub h]
  · rw [Nat.sub_eq_zero_of_le h, Nat.add_zero, Nat.cast_sub h]
    ring

theorem sharpness_eq_sum (line : List (BitVec 10)) :
    (sharpness line : Int) =
      ((line.zip (line.drop 1)).map fun x => ((x.2.toNat : Int) - (x.1.toNat : Int)) ^ 2).sum := by
  induction line with
  | nil => rfl
  | cons p rest ih =>
    cases rest with
    | nil => rfl
    | cons q rest =>
      have step : sharpness (p :: q :: rest) = (absDiff p.toNat q.toNat) ^ 2 + sharpness (q :: rest) := rfl
      rw [step, Nat.cast_add, Nat.cast_pow, absDiff_sq, ih]
      simp

/-- Each of the differences of a line of `n + 1` pixels is at most 1,023. -/
theorem sharpness_le (line : List (BitVec 10)) : sharpness line ≤ (line.length - 1) * 1046529 := by
  induction line with
  | nil => simp [sharpness]
  | cons p rest ih =>
    cases rest with
    | nil => simp [sharpness]
    | cons q rest =>
      have near : absDiff p.toNat q.toNat ≤ 1023 := by
        have := p.isLt
        have := q.isLt
        unfold absDiff
        omega
      have square : (absDiff p.toNat q.toNat) ^ 2 ≤ 1023 ^ 2 := Nat.pow_le_pow_left near 2
      have step : sharpness (p :: q :: rest) = (absDiff p.toNat q.toNat) ^ 2 + sharpness (q :: rest) := rfl
      simp only [List.length_cons] at ih ⊢
      omega

theorem sharpness_replicate (n : Nat) (x : BitVec 10) : sharpness (List.replicate n x) = 0 := by
  induction n with
  | zero => rfl
  | succ n ih =>
    cases n with
    | zero => rfl
    | succ n =>
      have step : sharpness (x :: x :: List.replicate n x) =
          (absDiff x.toNat x.toNat) ^ 2 + sharpness (List.replicate (n + 1) x) := rfl
      rw [List.replicate_succ, List.replicate_succ, step, ih]
      simp [absDiff]

/-- Settles O24: the sum by `sharpness_eq_sum`, the bound by `sharpness_le` with 127 differences. -/
theorem sharpnessIsTheSumOfSquaredDifferences : Obligations.SharpnessIsTheSumOfSquaredDifferences := by
  refine ⟨sharpness_eq_sum, fun line whole => ?_, sharpness_replicate⟩
  have bound := sharpness_le line
  rw [whole] at bound
  exact bound

end Sys2Proof.Machine
end

section
/-! SUPPORT. Which motion states the transport's operations lead to: under the part's control, neither OFF nor FAULTED, they stay so
(R22). -/

namespace Sys2Proof.Machine

/-- Neither OFF nor FAULTED: the film is under the part's control (R22). -/
def Motion.live : Motion → Bool
  | .off | .faulted => false
  | .idle | .accel | .cruise | .decel | .creepIn | .settling | .parked | .waking => true

theorem Motion.live_of_moving {m : Motion} (h : m.moving = true) : m.live = true := by cases m <;> simp_all [moving, live]

theorem Motion.live_of_free {m : Motion} (h : m.free = true) : m.live = true := by cases m <;> simp_all [free, live]

/-- An operation leaves the motion state, or goes from one live motion state to another. -/
def State.sameOrLive (s t : State) : Prop :=
  t.trc.motion = s.trc.motion ∨ s.trc.motion.live = true ∧ t.trc.motion.live = true

theorem sameOrLive_refl (s : State) : s.sameOrLive s := .inl rfl

theorem sameOrLive_of_live {s t : State} (h : s.trc.motion.live = true) (k : t.trc.motion.live = true) :
    s.sameOrLive t := .inr ⟨h, k⟩

theorem live_of_sameOrLive {s t : State} (h : s.sameOrLive t) (k : s.trc.motion.live = true) :
    t.trc.motion.live = true := by
  rcases h with h | h
  · rw [h, k]
  · exact h.2

@[simp] theorem setMotion_motion (m : Motion) (s : State) : (setMotion m s).trc.motion = m := rfl

section legs
variable (m : Move) (s : State)

@[simp] theorem travelLeg_motion (d : Dir) (cls : SpeedClass) (setDir : Bool) :
    (travelLeg m d cls setDir s).trc.motion = .accel := rfl

@[simp] theorem enterSettling_motion : (enterSettling m s).trc.motion = .settling := rfl

theorem creepPhase_live (t : Nat) : (creepPhase t s).trc.motion.live = true := by
  unfold creepPhase
  split <;> rfl

theorem startCreep_live : (startCreep m s).trc.motion.live = true := by
  unfold startCreep
  split
  · rfl
  · exact creepPhase_live _ _

theorem approachLeg_live (cls : SpeedClass) (setDir : Bool) : (approachLeg cls setDir m s).trc.motion.live = true := by
  unfold approachLeg
  dsimp only
  split
  · exact startCreep_live _ _
  · split <;> rfl

theorem directLeg_live (cls : SpeedClass) (setDir : Bool) : (directLeg cls setDir m s).trc.motion.live = true := by
  unfold directLeg
  split
  · rfl
  · split <;> rfl

theorem nextLeg_live (cls : SpeedClass) (setDir : Bool) : (nextLeg cls setDir m s).trc.motion.live = true := by
  unfold nextLeg
  split
  · exact directLeg_live _ _ _ _
  all_goals exact approachLeg_live _ _ _ _

end legs

/-! ### Progress along a leg (R24) -/

section progress
variable {m : Move} {s : State} (live : s.trc.motion.live = true)
include live

theorem progressTo_live (e : Nat) : (progressTo m e s).trc.motion.live = true := by
  unfold progressTo
  split
  · exact live
  · split
    · rfl
    · split
      · rfl
      · exact live

theorem progressChange_live (cp : Nat) (second : SpeedClass) : (progressChange m cp second s).trc.motion.live = true := by
  unfold progressChange
  dsimp only
  split
  · split <;> rfl
  · split
    · rfl
    · split
      · rfl
      · exact live

theorem progressOpen_live : (progressOpen m s).trc.motion.live = true := by
  unfold progressOpen
  extract_lets room u
  split
  · rfl
  · split
    · exact progressChange_live live _ _
    · split
      · rfl
      · exact live

theorem leaveDecel_live (cls : SpeedClass) : (leaveDecel cls s).trc.motion.live = true := by
  unfold leaveDecel
  split
  · split <;> rfl
  · exact live

theorem rephase_live (e : Nat) : (rephase m e s).trc.motion.live = true := by
  unfold rephase
  split
  · exact leaveDecel_live live _
  · rfl

theorem rephaseOpen_live : (rephaseOpen m s).trc.motion.live = true :=
  progressOpen_live (leaveDecel_live live _)

theorem retargetTravel_live : (retargetTravel m s).trc.motion.live = true := by
  unfold retargetTravel
  extract_lets a c ahead n u
  split
  · exact rephase_live (s := { s with trc.move := some n }) live a
  · rfl

end progress

theorem retargetCreep_live (m : Move) (s : State) : (retargetCreep m s).trc.motion.live = true := by
  unfold retargetCreep
  split
  · exact creepPhase_live _ _
  · rfl

theorem rephaseCreep_live (raised : Bool) (m : Move) (s : State) : (rephaseCreep raised m s).trc.motion.live = true := by
  unfold rephaseCreep
  split
  · exact retargetCreep_live _ _
  · exact creepPhase_live _ _

theorem progress_sameOrLive (s : State) : s.sameOrLive (progress s) := by
  unfold progress
  split
  · exact sameOrLive_refl s
  · rename_i m _
    split
    · exact sameOrLive_refl s
    · rename_i going
      have live : s.trc.motion.live = true := Motion.live_of_moving (by
        by_contra stopped
        exact going (.inr (by simpa using stopped)))
      refine sameOrLive_of_live live ?_
      split
      · split
        · rfl
        · exact live
      · split
        · exact progressTo_live live _
        · exact progressTo_live live _
        · exact progressTo_live live _
        · exact progressOpen_live live
        · exact progressOpen_live live
        · split
          · rfl
          · exact live

theorem retarget_sameOrLive (job : Job) (t : Nat) (s : State) : s.sameOrLive (retarget job t s) := by
  unfold retarget
  split
  · exact sameOrLive_refl s
  · dsimp only
    split
    · exact sameOrLive_refl s
    · split
      · exact .inl rfl
      · split
        · rename_i settling
          split
          · exact .inl rfl
          · exact sameOrLive_of_live (by rw [settling]; rfl) (approachLeg_live _ _ _ _)
        case _ h | _ h | _ h | _ h =>
          have live : s.trc.motion.live = true := by rw [h]; rfl
          refine sameOrLive_of_live live ?_
          split
          · exact live
          · split
            · exact retargetCreep_live _ _
            · exact retargetTravel_live live
        all_goals exact .inl rfl

theorem rephaseLeg_sameOrLive (raised : Bool) (s : State) : s.sameOrLive (rephaseLeg raised s) := by
  unfold rephaseLeg
  split
  · exact sameOrLive_refl s
  · split
    · exact sameOrLive_refl s
    · rename_i going
      have live : s.trc.motion.live = true := Motion.live_of_moving (by
        by_contra stopped
        exact going (.inr (.inr (by simpa using stopped))))
      refine sameOrLive_of_live live ?_
      split
      · exact rephaseCreep_live _ _ _
      · split
        · exact rephase_live live _
        · exact rephase_live live _
        · exact rephase_live live _
        · exact rephaseOpen_live live
        · exact rephaseOpen_live live
        · exact live

theorem applyCorrection_sameOrLive (d : Int) (s : State) : s.sameOrLive (applyCorrection d s) := by
  unfold applyCorrection
  exact rephaseLeg_sameOrLive _ { s with trc.counter := _, mkd := _ }

/-- A correction shifts a mark in progress and leaves a detector that is off (R21, R48). -/
theorem applyCorrection_mkd_off (d : Int) {s : State} (off : s.mkd = .off) : (applyCorrection d s).mkd = .off := by
  simp [applyCorrection, off]

/-! ### Starting a move (R23, R24) -/

theorem startMove_live (m : Move) (s : State) : (startMove m s).trc.motion.live = true := by
  unfold startMove
  dsimp only
  split
  · exact live_of_sameOrLive (progress_sameOrLive _) rfl
  · exact nextLeg_live _ _ _ _

theorem orderMove_live (m : Move) (s : State) : (orderMove m s).trc.motion.live = true := by
  unfold orderMove
  split
  · rfl
  · exact startMove_live _ _

theorem orderFrame_live (g : InHand) (s : State) : (orderFrame g s).trc.motion.live = true := by
  unfold orderFrame
  repeat' split
  all_goals exact orderMove_live _ _

theorem handToGate_live (g : InHand) (s : State) : (handToGate g s).trc.motion.live = true := orderFrame_live _ _

theorem grantVerify_live (s : State) : (grantVerify s).trc.motion.live = true := orderMove_live _ _

theorem grantRecord_live (r : Record) {s : State} (live : s.trc.motion.live = true) :
    (grantRecord r s).trc.motion.live = true := by
  unfold grantRecord
  dsimp only
  split
  · exact handToGate_live _ _
  · exact orderMove_live _ _
  · exact live

theorem grantRun_live (r : Run) (s : State) : (grantRun r s).trc.motion.live = true := handToGate_live _ _

theorem settleRetry_live (m : Move) (s : State) : (settleRetry m s).trc.motion.live = true := nextLeg_live _ _ _ _

theorem afterLeg_live (m : Move) {s : State} (live : s.trc.motion.live = true) : (afterLeg m s).trc.motion.live = true := by
  unfold afterLeg
  split
  · exact nextLeg_live _ _ _ _
  · split
    · exact directLeg_live _ _ _ _
    · rfl
  · split
    · exact approachLeg_live _ _ _ _
    · exact startCreep_live _ _
  · split
    · exact approachLeg_live _ _ _ _
    · exact startCreep_live _ _
  all_goals exact live

@[simp] theorem moveOver_motion (s : State) : (moveOver s).trc.motion = .idle := rfl

end Sys2Proof.Machine
end

section
/-! SUPPORT. The relation that the operations below the requests keep: the request table only loses records, the run keeps its tag, and
the levels, TRIG and the motion state OFF go on to be those of their blocks (R114, R137, R197). First the relation and the operations
on records and the run. -/

namespace Sys2Proof.Machine

/-- The table loses records at most, the run keeps its tag, and each of the laws of the levels, of TRIG and of the motion state OFF
stays where it holds. -/
structure Keeps (s t : State) : Prop where
  keys : (t.rqt.records.map fun r => (r.port, r.tag)).Sublist (s.rqt.records.map fun r => (r.port, r.tag))
  run : ∀ y, t.rqt.run = some y → ∃ x, s.rqt.run = some x ∧ x.tag = y.tag
  fault : s.ntu.levels.fault = decide (s.trc.motion = .faulted) → t.ntu.levels.fault = decide (t.trc.motion = .faulted)
  halted : s.ntu.levels.halted = s.rqt.halted → t.ntu.levels.halted = t.rqt.halted
  unverified : s.ntu.levels.unverified = !s.trc.verified → t.ntu.levels.unverified = !t.trc.verified
  rollState : s.ntu.levels.rollState = decide (s.trc.roll = .loaded) → t.ntu.levels.rollState = decide (t.trc.roll = .loaded)
  almostFull : s.ntu.levels.queueAlmostFull = decide (28 ≤ s.rqt.records.length) →
    t.ntu.levels.queueAlmostFull = decide (28 ≤ t.rqt.records.length)
  trig : s.trigLaw → t.trigLaw
  roll : s.rollLaw → t.rollLaw

theorem Keeps.refl (s : State) : Keeps s s := ⟨.refl _, fun y h => ⟨y, h, rfl⟩, id, id, id, id, id, id, id⟩

theorem Keeps.trans {s t u : State} (h : Keeps s t) (k : Keeps t u) : Keeps s u where
  keys := k.keys.trans h.keys
  run y hy := by
    obtain ⟨x, hx, tag⟩ := k.run y hy
    obtain ⟨z, hz, tag'⟩ := h.run x hx
    exact ⟨z, hz, tag'.trans tag⟩
  fault := k.fault ∘ h.fault
  halted := k.halted ∘ h.halted
  unverified := k.unverified ∘ h.unverified
  rollState := k.rollState ∘ h.rollState
  almostFull := k.almostFull ∘ h.almostFull
  trig := k.trig ∘ h.trig
  roll := k.roll ∘ h.roll

/-- What the laws of the blocks speak of, but for the records, the detector and the motion state. -/
def State.sameBlocks (s t : State) : Prop :=
  t.rqt.halted = s.rqt.halted ∧ t.ntu.levels = s.ntu.levels ∧ t.gtu.trig = s.gtu.trig ∧
  t.gtu.exposure = s.gtu.exposure ∧ t.trc.roll = s.trc.roll ∧ t.trc.verified = s.trc.verified ∧
  t.trc.retension = s.trc.retension

/-- The table is the same but for what its records and the run hold beside their tags. -/
theorem Keeps.of_table {s t : State}
    (keys : (t.rqt.records.map fun r => (r.port, r.tag)) = s.rqt.records.map fun r => (r.port, r.tag))
    (run : ∀ y, t.rqt.run = some y → ∃ x, s.rqt.run = some x ∧ x.tag = y.tag) (blocks : s.sameBlocks t)
    (mkd : s.mkd = .off → t.mkd = .off) (motion : s.sameOrLive t) : Keeps s t := by
  have count : t.rqt.records.length = s.rqt.records.length := by simpa using congrArg List.length keys
  obtain ⟨h1, h2, h3, h4, h5, h6, h7⟩ := blocks
  have faulted : (t.trc.motion = .faulted ↔ s.trc.motion = .faulted) ∧ (t.trc.motion = .off ↔ s.trc.motion = .off) := by
    rcases motion with same | ⟨before, after⟩
    · rw [same]
      exact ⟨.rfl, .rfl⟩
    · cases ms : s.trc.motion <;> cases mt : t.trc.motion <;> simp_all [Motion.live]
  refine ⟨keys ▸ .refl _, run, fun law => ?_, fun law => ?_, fun law => ?_, fun law => ?_, fun law => ?_, fun law => ?_,
    fun ⟨r1, r2, r3, r4⟩ => ⟨?_, ?_, ?_, ?_⟩⟩
  · rw [h2, law]
    exact decide_eq_decide.mpr faulted.1.symm
  · rw [h1, h2, law]
  · rw [h2, h6, law]
  · rw [h2, h5, law]
  · rw [h2, count, law]
  · unfold State.trigLaw at law ⊢
    rw [h3, h4, law]
  · rw [faulted.2, h5, r1]
  · rw [h5, h6]; exact r2
  · rw [h7, faulted.1]; exact r3
  · rw [h5]; exact mkd ∘ r4

theorem Keeps.of_motion {s t : State} (table : t.rqt.records = s.rqt.records ∧ t.rqt.run = s.rqt.run)
    (blocks : s.sameBlocks t) (mkd : s.mkd = .off → t.mkd = .off) (motion : s.sameOrLive t) : Keeps s t :=
  .of_table (by rw [table.1]) (fun y hy => ⟨y, table.2 ▸ hy, rfl⟩) blocks mkd motion

/-- An operation on what neither the table nor the laws of the blocks speak of. -/
theorem Keeps.of_same {s t : State}
    (h : t.rqt.records = s.rqt.records ∧ t.rqt.run = s.rqt.run ∧ s.sameBlocks t ∧ t.mkd = s.mkd ∧
      t.trc.motion = s.trc.motion) : Keeps s t :=
  .of_motion ⟨h.1, h.2.1⟩ h.2.2.1 (fun off => h.2.2.2.1.trans off) (.inl h.2.2.2.2)

/-- An operation on records that changes neither port nor tag. -/
theorem Keeps.of_map {s t : State} (f : Record → Record) (key : ∀ r, (f r).port = r.port ∧ (f r).tag = r.tag)
    (records : t.rqt.records = s.rqt.records.map f)
    (same : t.rqt.run = s.rqt.run ∧ s.sameBlocks t ∧ t.mkd = s.mkd ∧ t.trc.motion = s.trc.motion) : Keeps s t := by
  obtain ⟨run, blocks, mkd, motion⟩ := same
  refine .of_table ?_ (fun y hy => ⟨y, run ▸ hy, rfl⟩) blocks (fun off => mkd.trans off) (.inl motion)
  rw [records, List.map_map]
  exact List.map_congr_left fun r _ => by simp [key]

/-- An operation on the run that does not change its tag. -/
theorem Keeps.of_run {s t : State} (f : Run → Run) (tag : ∀ r, (f r).tag = r.tag)
    (run : t.rqt.run = s.rqt.run.map f)
    (same : t.rqt.records = s.rqt.records ∧ s.sameBlocks t ∧ t.mkd = s.mkd ∧ t.trc.motion = s.trc.motion) :
    Keeps s t := by
  obtain ⟨records, blocks, mkd, motion⟩ := same
  refine .of_table (by rw [records]) (fun y hy => ?_) blocks (fun off => mkd.trans off) (.inl motion)
  rw [run] at hy
  obtain ⟨x, hx, rfl⟩ := Option.map_eq_some_iff.mp hy
  exact ⟨x, hx, (tag x).symm⟩

/-! ### Records and the run (R116, R117, R134, R171, R173) -/

section records
variable (w : Ctx)

theorem completeRecordOnly_keeps (r : Record) (o : OutcomeCode) : Keeps w.st (completeRecordOnly r o w).st where
  keys := by
    simp only [completeRecordOnly, examineAlmostFull, setLevel_st, upd_st, removeRecord, complete_frame]
    exact List.filter_sublist.map _
  run y hy := ⟨y, by simpa using hy, rfl⟩
  fault law := by simpa [completeRecordOnly, examineAlmostFull, Levels.set] using law
  halted law := by simpa [completeRecordOnly, examineAlmostFull, Levels.set] using law
  unverified law := by simpa [completeRecordOnly, examineAlmostFull, Levels.set] using law
  rollState law := by simpa [completeRecordOnly, examineAlmostFull, Levels.set] using law
  almostFull _ := by
    simp only [completeRecordOnly, examineAlmostFull, setLevel_st]
    rfl
  trig law := by simpa [State.trigLaw] using law
  roll law := by simpa [State.rollLaw] using law

theorem examineBarriersN_keeps (n : Nat) (p : Port) : Keeps w.st (examineBarriersN n p w).st := by
  induction n generalizing w with
  | zero => exact .refl _
  | succ n ih =>
    unfold examineBarriersN
    split
    · exact (completeRecordOnly_keeps w _ _).trans (ih _)
    · exact .refl _

theorem examineBarriers_keeps (p : Port) : Keeps w.st (examineBarriers p w).st := examineBarriersN_keeps _ _ _

theorem completeRecord_keeps (r : Record) (o : OutcomeCode) : Keeps w.st (completeRecord r o w).st :=
  (completeRecordOnly_keeps w r o).trans (examineBarriers_keeps _ _)

theorem completeTag_keeps (p : Port) (t : Byte) (o : OutcomeCode) : Keeps w.st (completeTag p t o w).st := by
  unfold completeTag
  split
  · exact completeRecord_keeps _ _ _
  · exact .refl _

theorem removeRun_keeps (s : State) : Keeps s (removeRun s) :=
  .of_table rfl (fun _ hy => by cases hy) ⟨rfl, rfl, rfl, rfl, rfl, rfl, rfl⟩ id (.inl rfl)

theorem completeRunOnly_keeps (o : OutcomeCode) : Keeps w.st (completeRunOnly o w).st := by
  unfold completeRunOnly
  split
  · exact .refl _
  · exact .trans (.of_same (by simp [State.sameBlocks])) (removeRun_keeps _)

theorem completeRun_keeps (o : OutcomeCode) : Keeps w.st (completeRun o w).st :=
  (completeRunOnly_keeps w o).trans (examineBarriers_keeps _ _)

theorem setRecState_keeps (p : Port) (t : Byte) (x : RecState) (s : State) : Keeps s (setRecState p t x s) :=
  .of_map (fun r => if r.port = p ∧ r.tag = t then { r with state := x } else r) (fun r => by split <;> simp) rfl
    (by simp [State.sameBlocks])

theorem setRunState_keeps (x : RunState) (s : State) : Keeps s (setRunState x s) :=
  .of_run (fun r => { r with state := x }) (fun _ => rfl) rfl (by simp [State.sameBlocks])

theorem returnGrant_keeps (s : State) : Keeps s (returnGrant s) := by
  unfold returnGrant
  split
  · rename_i p t _
    exact (setRecState_keeps p t .waiting s).trans (.of_same (by simp [State.sameBlocks]))
  · exact (setRunState_keeps .ready s).trans (.of_same (by simp [State.sameBlocks]))
  all_goals exact .of_same (by simp [State.sameBlocks])

theorem chooseRunFrame_keeps (s : State) : Keeps s (chooseRunFrame s) :=
  .of_run (fun r => if r.skipTaken then { r with next := skipTaken s.fit.entries r.next } else r)
    (fun r => by split <;> rfl) rfl (by simp [State.sameBlocks])

theorem runAdvance_keeps (n : Nat) : Keeps w.st (runAdvance n w).st := by
  unfold runAdvance
  split
  · exact .refl _
  · rename_i r hr
    have moved : Keeps w.st { w.st with rqt.run := some { r with next := n + 1, remaining := r.remaining.map (· - 1) } } :=
      .of_run (fun r => { r with next := n + 1, remaining := r.remaining.map (· - 1) }) (fun _ => rfl) (by simp [hr])
        (by simp [State.sameBlocks])
    dsimp only
    generalize hu : w.upd _ = u
    replace moved : Keeps w.st u.st := hu ▸ moved
    split
    · exact moved.trans (completeRun_keeps u _)
    · have chosen := moved.trans (chooseRunFrame_keeps u.st)
      split
      · exact chosen.trans (completeRun_keeps (u.upd chooseRunFrame) _)
      · exact chosen.trans ((setRunState_keeps .ready (chooseRunFrame u.st)).trans (.of_same (by simp [State.sameBlocks])))

end records

/-! ### Focus and the presentation (R90 to R102, R144) -/

section focus
variable (w : Ctx)

theorem presentRun_keeps (n : Nat) (s : State) : Keeps s (presentRun n s) :=
  .of_run (fun r => { r with state := .atGate, presented := min (r.presented + 1) 65535, last := some n }) (fun _ => rfl)
    rfl (by simp [State.sameBlocks])

theorem makePresentation_keeps (src : FocusSource) : Keeps w.st (makePresentation src w).st := by
  unfold makePresentation
  split
  · exact .refl _
  · rename_i g _
    dsimp only [pulse_st, upd_st]
    cases g.holder with
    | record p t => exact (setRecState_keeps p t .atGate _).trans (.of_same (by simp [State.sameBlocks]))
    | run t => exact (presentRun_keeps g.frame _).trans (.of_same (by simp [State.sameBlocks]))

theorem focusReady_keeps (src : FocusSource) : Keeps w.st (focusReady src w).st := by
  unfold focusReady
  split
  · split
    · exact .of_same (by simp [State.sameBlocks])
    · exact makePresentation_keeps _ _
  · exact .refl _

theorem lensDone_keeps (p : LensPurpose) : Keeps w.st (lensDone p w).st := by
  unfold lensDone
  split
  · split
    · exact .of_same (by simp [State.sameBlocks])
    · exact .refl _
  · exact focusReady_keeps _ _
  · exact .refl _

theorem orderLens_keeps (mv : LensMove) : Keeps w.st (orderLens mv w).st := by
  unfold orderLens
  split
  · exact .of_same (by simp [State.sameBlocks])
  · split
    · exact lensDone_keeps _ _
    · split <;> exact .of_same (by simp [State.sameBlocks])

theorem beginHeld_keeps : Keeps w.st (beginHeld w).st := by
  unfold beginHeld
  split
  · exact .refl _
  · split
    · exact .trans (.of_same (by simp [State.sameBlocks])) (orderLens_keeps (w.upd fun s => { s with fcc.held := none }) _)
    · exact .refl _

theorem takeSample_keeps : Keeps w.st (takeSample w).st := by
  unfold takeSample
  split
  · split
    · exact orderLens_keeps _ _
    · exact .refl _
  · exact .refl _

theorem beginSweep_keeps (owner : Holder) (n x : Nat) : Keeps w.st (beginSweep owner n x w).st := by
  unfold beginSweep
  exact .trans (.of_same (by simp [State.sameBlocks])) (takeSample_keeps (w.upd _))

theorem sweepDefault_keeps (sw : Sweep) (reason : Byte) : Keeps w.st (sweepDefault sw reason w).st := by
  unfold sweepDefault
  exact .trans (.of_same (by simp [State.sameBlocks])) (orderLens_keeps _ _)

theorem sweepSuccess_keeps (sw : Sweep) (f : Nat) : Keeps w.st (sweepSuccess sw f w).st := by
  unfold sweepSuccess
  exact .trans (.of_same (by simp [State.sameBlocks])) (orderLens_keeps (w.upd _) _)

theorem passEnd_keeps (sw : Sweep) : Keeps w.st (passEnd sw w).st := by
  unfold passEnd
  split
  · exact sweepDefault_keeps _ _ _
  · split
    · split
      · exact sweepDefault_keeps _ _ _
      · exact .trans (.of_same (by simp [State.sameBlocks])) (takeSample_keeps (w.upd _))
    · exact sweepSuccess_keeps _ _ _

theorem addSample_keeps (sw : Sweep) (x : Nat) : Keeps w.st (addSample sw x w).st := by
  unfold addSample
  split
  · exact .refl _
  · dsimp only
    split
    · exact .trans (.of_same (by simp [State.sameBlocks])) (passEnd_keeps (w.upd _) _)
    · exact .trans (.of_same (by simp [State.sameBlocks])) (takeSample_keeps (w.upd _))

theorem focusLookup_keeps (owner : Holder) (n : Nat) : Keeps w.st (focusLookup owner n w).st := by
  unfold focusLookup
  dsimp only
  split
  · split
    · exact beginSweep_keeps _ _ _ _
    · exact .trans (.of_same (by simp [State.sameBlocks])) (orderLens_keeps (w.upd (touchLine _)) _)
  · exact beginSweep_keeps _ _ _ _

end focus
end Sys2Proof.Machine
end

section
/-! SUPPORT. The relation of `Keeps` for the gate, the ends of moves, the unverified position and faults (R37, R74, R75, R131, R140
to R159). -/

namespace Sys2Proof.Machine

theorem Keeps.ite {s : State} {p : Prop} [Decidable p] {a b : Ctx} (h : Keeps s a.st) (k : Keeps s b.st) :
    Keeps s (if p then a else b).st := by
  split
  · exact h
  · exact k

/-! ### Presentations and exposures -/

section gate
variable (w : Ctx)

theorem endPresentation_keeps (o : PresEnd) : Keeps w.st (endPresentation o w).st := by
  unfold endPresentation
  split
  · exact .refl _
  · have cleared : Keeps w.st (w.upd clearPresentation).st := .of_same (by simp [State.sameBlocks])
    refine cleared.trans ?_
    dsimp only
    split
    · exact returnGrant_keeps _
    · exact completeTag_keeps _ _ _ _
    · exact completeTag_keeps _ _ _ _
    · exact completeTag_keeps _ _ _ _
    · exact completeTag_keeps _ _ _ _
    · exact runAdvance_keeps _ _
    · exact runAdvance_keeps _ _
    · exact completeRun_keeps _ _
    · exact completeRun_keeps _ _

/-- TRIG drops with the exposure (R156 to R158). -/
theorem dropExposure_keeps (s : State) : Keeps s (dropExposure s) where
  keys := .refl _
  run y hy := ⟨y, hy, rfl⟩
  fault := id
  halted := id
  unverified := id
  rollState := id
  almostFull := id
  trig _ := rfl
  roll := id

theorem completeExpose_keeps (e : Exposure) (o : OutcomeCode) : Keeps w.st (completeExpose e o w).st :=
  .of_same (by simp [State.sameBlocks])

theorem abandonExposure_keeps (o : OutcomeCode) : Keeps w.st (abandonExposure o w).st := by
  unfold abandonExposure
  split
  · exact .refl _
  · exact (completeExpose_keeps w _ _).trans (dropExposure_keeps _)

theorem afterExposure_keeps : Keeps w.st (afterExposure w).st := by
  unfold afterExposure
  split
  · exact .refl _
  · split
    · exact endPresentation_keeps _ _
    · exact endPresentation_keeps _ _
    · exact endPresentation_keeps _ _
    · exact endPresentation_keeps _ _
    · exact .of_same (by simp [State.sameBlocks])

theorem endExposure_keeps (o : OutcomeCode) : Keeps w.st (endExposure o w).st := by
  unfold endExposure
  split
  · exact .refl _
  · rename_i e _
    dsimp only
    refine .trans ?_ (beginHeld_keeps _)
    have dropped : Keeps w.st ((completeExpose e o w).upd dropExposure).st :=
      (completeExpose_keeps w e o).trans (dropExposure_keeps _)
    have after : Keeps w.st (if e.withPresentation then afterExposure ((completeExpose e o w).upd dropExposure)
        else (completeExpose e o w).upd dropExposure).st := by
      split
      · exact dropped.trans (afterExposure_keeps _)
      · exact dropped
    split
    · refine after.trans (.trans ?_ (focusReady_keeps (Ctx.upd _ _) _))
      exact .of_same (by simp [State.sameBlocks])
    · exact after

/-! ### Faults (R37) -/

theorem faultGrant_keeps : Keeps w.st (faultGrant w).st := by
  unfold faultGrant
  split
  · exact completeTag_keeps _ _ _ _
  all_goals exact .refl _

/-- What a fault does to the transport, the record of the grant and the run. -/
def faultRecords (c : Cause) (w : Ctx) : Ctx :=
  (faultGrant (w.upd (faultState c))).upd fun s => { suspendRun s with rqt.grant := .none, rqt.stopReason := .none }

/-- What a fault does before its levels rise. -/
def faultWork (c : Cause) (w : Ctx) : Ctx :=
  (abandonExposure .fault (faultRecords c w)).upd fun s => abandonLookup (dropInHand (clearPresentation s))

theorem takeFault_eq (c : Cause) (w : Ctx) :
    takeFault c w =
      if w.st.trc.verified then
        setLevel .unverified true ([0] ++ be 3 (setLevel .fault true [c.code] (faultWork c w)).st.trc.counter)
          (setLevel .fault true [c.code] (faultWork c w))
      else setLevel .fault true [c.code] (faultWork c w) := rfl

theorem faultWork_trc (c : Cause) (w : Ctx) : (faultWork c w).st.trc = (faultState c w.st).trc := by
  simp [faultWork, faultRecords, suspendRun]

/-- After the transport has faulted the work of the grant, the run, the exposure and the presentation end. -/
theorem faultWork_keeps (c : Cause) (w : Ctx) : Keeps (faultState c w.st) (faultWork c w).st := by
  have granted : Keeps (faultState c w.st) (faultGrant (w.upd (faultState c))).st := faultGrant_keeps (w.upd (faultState c))
  have suspended : Keeps (faultState c w.st) (faultRecords c w).st :=
    (granted.trans (setRunState_keeps .suspended (faultGrant (w.upd (faultState c))).st)).trans
      (.of_same ⟨rfl, rfl, ⟨rfl, rfl, rfl, rfl, rfl, rfl, rfl⟩, rfl, rfl⟩)
  refine (suspended.trans (abandonExposure_keeps (faultRecords c w) .fault)).trans (.of_same ?_)
  simp [faultWork, State.sameBlocks]

theorem faultState_rollLaw (c : Cause) {s : State} (live : s.trc.motion.live = true) (law : s.rollLaw) :
    (faultState c s).rollLaw := by
  have ⟨off, _, _, mkd⟩ := law
  have running : ¬(s.trc.roll = .empty ∨ s.trc.roll = .threading) := fun h => by
    rw [off.mpr h] at live
    cases live
  exact ⟨⟨nofun, fun h => absurd h running⟩, fun h => absurd h running, nofun, mkd⟩

/-- A fault of a live transport keeps the laws: FAULT and UNVERIFIED rise with it (R37, R38, R74). -/
theorem takeFault_keeps (c : Cause) (live : w.st.trc.motion.live = true) : Keeps w.st (takeFault c w).st := by
  have work := faultWork_keeps c w
  have trc := faultWork_trc c w
  have raised (up : Bool) (high : w.st.ntu.levels.unverified = !w.st.trc.verified → up = true) :
      Keeps w.st
        { (faultWork c w).st with
          ntu.levels := { (faultWork c w).st.ntu.levels with fault := true, unverified := up } } :=
    { keys := work.keys
      run := work.run
      fault := fun _ => by simp [trc, faultState]
      halted := work.halted
      unverified := fun law => by simp [trc, faultState, high law]
      rollState := work.rollState
      almostFull := work.almostFull
      trig := work.trig
      roll := fun law => work.roll (faultState_rollLaw c live law) }
  rw [takeFault_eq]
  split
  · rw [setLevel_st, setLevel_st]
    exact raised true fun _ => rfl
  · rename_i already
    rw [setLevel_st]
    refine raised (faultWork c w).st.ntu.levels.unverified fun law => ?_
    have low : (faultState c w.st).ntu.levels.unverified = !(faultState c w.st).trc.verified := by
      show w.st.ntu.levels.unverified = !false
      rw [law, Bool.eq_false_iff.mpr already]
    rw [work.unverified low, trc]
    rfl

/-! ### Stop orders and the unverified position (R31, R74, R75) -/

theorem moveOver_keeps {s : State} (live : s.trc.motion.live = true) : Keeps s (moveOver s) :=
  .of_motion (by simp) (by simp [State.sameBlocks]) (fun off => by simpa using off) (sameOrLive_of_live live rfl)

theorem disposeStopped_keeps (live : w.st.trc.motion.live = true) : Keeps w.st (disposeStopped w).st := by
  unfold disposeStopped
  split
  · exact .of_same (by simp [State.sameBlocks])
  · exact (returnGrant_keeps w.st).trans (.of_same (by simp [State.sameBlocks]))
  · exact (returnGrant_keeps w.st).trans (.of_same (by simp [State.sameBlocks]))
  · dsimp only
    generalize hu : w.upd _ = u
    have ended : Keeps w.st u.st := hu ▸ .of_same (by simp [State.sameBlocks])
    have alive : u.st.trc.motion.live = true := hu ▸ live
    exact ended.ite (ended.trans (takeFault_keeps u .verifyFail alive))

theorem orderStop_keeps (r : StopReason) : Keeps w.st (orderStop r w).st := by
  unfold orderStop
  split
  · exact .refl _
  · split
    · exact .refl _
    · split
      case _ motion | _ motion | _ motion | _ motion =>
        refine .of_motion (by simp) (by simp [State.sameBlocks]) (fun off => by simpa using off) ?_
        exact sameOrLive_of_live (by rw [motion]; rfl) rfl
      · rename_i motion
        have rested : Keeps w.st (w.upd fun s => { moveOver s with rqt.stopReason := r }).st :=
          (moveOver_keeps (by rw [motion]; rfl)).trans (.of_same (by simp [State.sameBlocks]))
        exact rested.trans (disposeStopped_keeps _ rfl)
      · rename_i motion
        have rested : Keeps w.st (w.upd fun s => { s with trc.move := none, rqt.stopReason := r }).st :=
          .of_same (by simp [State.sameBlocks])
        exact rested.trans (disposeStopped_keeps _ (by rw [upd_st, motion]; rfl))
      all_goals exact .refl _

theorem setVerified_keeps (reason : Byte) : Keeps w.st (setVerified reason w).st := by
  unfold setVerified
  rw [setLevel_st]
  exact
    { keys := .refl _
      run := fun y hy => ⟨y, hy, rfl⟩
      fault := id
      halted := id
      unverified := fun _ => rfl
      rollState := id
      almostFull := id
      trig := id
      roll := fun ⟨off, _, retension, mkd⟩ => ⟨off, fun _ => rfl, retension, mkd⟩ }

theorem unverifiedGrant_keeps : Keeps w.st (unverifiedGrant w).st := by
  unfold unverifiedGrant
  split
  · exact .refl _
  · exact .refl _
  all_goals
    split
    · have abandoned : Keeps w.st (abandonLookup w.st) := .of_same (by simp [State.sameBlocks])
      exact (abandoned.trans (returnGrant_keeps (abandonLookup w.st))).trans (.of_same (by simp [State.sameBlocks]))
    · split
      · split
        · exact orderStop_keeps _ _
        · exact orderStop_keeps _ _
        · exact orderStop_keeps _ _
        all_goals exact .refl _
      · exact .refl _

/-- A position is verified while the roll is EMPTY or THREADING; with the roll LOADED it may become unverified (R74). -/
theorem becomeUnverified_keeps (reason : Byte) (loaded : w.st.rollLaw → w.st.trc.roll = .loaded) :
    Keeps w.st (becomeUnverified reason w).st := by
  unfold becomeUnverified
  split
  · refine .trans ?_ (unverifiedGrant_keeps _)
    rw [setLevel_st]
    exact
      { keys := .refl _
        run := fun y hy => ⟨y, hy, rfl⟩
        fault := id
        halted := id
        unverified := fun _ => rfl
        rollState := id
        almostFull := id
        trig := id
        roll := fun law =>
          have ⟨off, _, retension, mkd⟩ := law
          ⟨off, fun h => by simp [loaded law] at h, retension, mkd⟩ }
  · exact .refl _

/-! ### The other move ends (R28, R131, R141) -/

theorem positionFail_keeps : Keeps w.st (positionFail w).st := by
  unfold positionFail
  have dropped : Keeps w.st (w.upd dropInHand).st := .of_same (by simp [State.sameBlocks])
  refine dropped.trans ?_
  dsimp only
  split
  · exact completeTag_keeps _ _ _ _
  · exact completeRun_keeps _ _
  all_goals exact .refl _

theorem gateUnreachable_keeps (n : Nat) : Keeps w.st (gateUnreachable n w).st := by
  unfold gateUnreachable
  have dropped : Keeps w.st (w.upd dropInHand).st := .of_same (by simp [State.sameBlocks])
  refine dropped.trans ?_
  dsimp only
  split
  · exact completeTag_keeps _ _ _ _
  · exact completeRun_keeps _ _
  all_goals exact .refl _

theorem gateSettled_keeps : Keeps w.st (gateSettled w).st := by
  unfold gateSettled
  split
  · exact .refl _
  · split
    · have focusing : Keeps w.st (w.upd fun s => { s with gtu.phase := .focusing }).st := .of_same (by simp [State.sameBlocks])
      refine focusing.trans ?_
      dsimp only
      split
      · exact focusLookup_keeps _ _ _
      · exact focusReady_keeps _ _
    · exact gateUnreachable_keeps _ _

theorem orderMove_keeps (m : Move) {s : State} (live : s.trc.motion.live = true) : Keeps s (orderMove m s) :=
  .of_motion (by simp) (by simp [State.sameBlocks]) (fun off => by simpa using off)
    (sameOrLive_of_live live (orderMove_live m s))

theorem moveSettled_keeps (live : w.st.trc.motion.live = true) : Keeps w.st (moveSettled w).st := by
  unfold moveSettled
  split
  · exact .refl _
  · have rested : Keeps w.st (w.upd moveOver).st := moveOver_keeps live
    refine rested.trans ?_
    dsimp only
    split
    · exact gateSettled_keeps _
    · split
      · exact orderMove_keeps (openMove .forward .forward .index none) (s := moveOver w.st) rfl
      · exact .refl _
    · split
      · exact completeTag_keeps _ _ _ _
      all_goals exact .refl _
    all_goals exact .refl _

theorem moveBound_keeps (live : w.st.trc.motion.live = true) : Keeps w.st (moveBound w).st := by
  unfold moveBound
  have rested : Keeps w.st (w.upd moveOver).st := moveOver_keeps live
  have dropped : Keeps w.st ((w.upd moveOver).upd dropInHand).st := rested.trans (.of_same (by simp [State.sameBlocks]))
  dsimp only
  split
  · exact dropped.trans (completeTag_keeps _ _ _ _)
  · exact dropped.trans (completeRun_keeps _ _)
  · generalize hu : (w.upd moveOver).upd _ = u
    have ended : Keeps w.st u.st := hu ▸ rested.trans (.of_same (by simp [State.sameBlocks]))
    have alive : u.st.trc.motion.live = true := by rw [← hu]; rfl
    exact ended.ite (ended.trans (takeFault_keeps u .verifyFail alive))
  · exact rested

end gate
end Sys2Proof.Machine
end

section
/-! SUPPORT. The relation of `Keeps` for the index, the arbiter and the requests' operations on work in flight (R54 to R86, R119 to
R127, R132, R133). -/

namespace Sys2Proof.Machine

/-! ### The index (R54 to R86) -/

section fit
variable (w : Ctx)

theorem retarget_keeps (job : Job) (t : Nat) (s : State) : Keeps s (retarget job t s) :=
  .of_motion (by simp) (by simp [State.sameBlocks]) (fun off => by simpa using off) (retarget_sameOrLive job t s)

theorem preempt_keeps : Keeps w.st (preempt w).st := by
  unfold preempt
  split
  · split
    · exact .ite (orderStop_keeps _ _) (.refl _)
    · exact .refl _
  all_goals exact .refl _

theorem announce_keeps (lo hi : Nat) : Keeps w.st (announce lo hi w).st := by
  unfold announce
  split
  · split
    · exact .refl _
    · split
      · split
        · exact retarget_keeps _ _ _
        · exact .refl _
      · exact preempt_keeps _
  · exact .refl _

theorem forwardLost_keeps (o : OutcomeCode) : Keeps w.st (forwardLost o w).st := by
  unfold forwardLost
  have dropped : Keeps w.st (w.upd dropInHand).st := .of_same (by simp [State.sameBlocks])
  split
  · split
    · exact .refl _
    · split
      · exact (dropped.trans (completeTag_keeps _ _ _ _)).trans (orderStop_keeps _ _)
      · exact .ite (.refl _) ((dropped.trans (completeRun_keeps _ _)).trans (orderStop_keeps _ _))
      all_goals exact .refl _
  · exact .refl _

theorem buildEntries_keeps (new : List Entry) (p256 : Nat) : Keeps w.st (buildEntries new p256 w).st := by
  unfold buildEntries
  have made : Keeps w.st (w.upd (makeEntries new p256)).st := .of_same (by simp [State.sameBlocks])
  dsimp only
  split
  · exact made
  · have announced := made.trans (announce_keeps (w.upd (makeEntries new p256)) w.st.fit.entries.length
      ((w.upd (makeEntries new p256)).st.fit.entries.length - 1))
    have grown (b : Bool) (d : List Byte) {v : Ctx} (h : Keeps w.st v.st) :
        Keeps w.st (if b then pulseAll .indexGrown d v else v).st := .ite h h
    exact .ite ((grown _ _ announced).trans (forwardLost_keeps (pulseAll _ _ _) _)) (grown _ _ announced)

theorem buildSighting_keeps (g : Sighting) : Keeps w.st (buildSighting g w).st := by
  unfold buildSighting
  dsimp only
  split
  · exact buildEntries_keeps _ _ _
  · split
    · exact .of_same (by simp [State.sameBlocks])
    · split
      · exact buildEntries_keeps _ _ _
      · split
        · exact buildEntries_keeps _ _ _
        · exact buildEntries_keeps _ _ _

theorem retargetConfirmed_keeps (n : Nat) (s : State) : Keeps s (retargetConfirmed n s) := by
  unfold retargetConfirmed
  split
  · split
    · exact retarget_keeps _ _ _
    · split
      · split
        · exact retarget_keeps _ _ _
        · exact .refl _
      · exact .refl _
  · exact .refl _

theorem confirmEntry_keeps (n : Nat) (g : Sighting) (s : State) : Keeps s (confirmEntry n g s) := by
  unfold confirmEntry
  split
  · refine .trans (t := { s with fit.entries := _ }) (.of_same ?_) (retargetConfirmed_keeps _ _)
    simp [State.sameBlocks]
  · exact .refl _

theorem applyCorrection_keeps (d : Int) (s : State) : Keeps s (applyCorrection d s) :=
  .of_motion (by simp) (by simp [State.sameBlocks]) (fun off => applyCorrection_mkd_off d off)
    (applyCorrection_sameOrLive d s)

/-- A sighting that corrects the counter clears the slip counter. -/
theorem correctedSlip_keeps (d : Int) (s : State) : Keeps s { applyCorrection d s with trc.slip := 0 } :=
  (applyCorrection_keeps d s).trans (.of_same (by simp [State.sameBlocks]))

/-- A verify sighting that matches marks its record as well (R78). -/
theorem correctedVerify_keeps (d : Int) (v : Verify) (s : State) :
    Keeps s { applyCorrection d s with trc.slip := 0, fit.verify := some v } :=
  (applyCorrection_keeps d s).trans (.of_same (by simp [State.sameBlocks]))

theorem slipAt_keeps (n : Nat) (d : Int) (loaded : w.st.rollLaw → w.st.trc.roll = .loaded) : Keeps w.st (slipAt n d w).st := by
  unfold slipAt
  dsimp only
  generalize hu : pulseAll .slip _ _ = u
  have counted : Keeps w.st u.st := hu ▸ .of_same (by simp [State.sameBlocks])
  have loaded' : u.st.rollLaw → u.st.trc.roll = .loaded := by
    rw [← hu]
    simpa [State.rollLaw] using loaded
  exact .ite (counted.trans (becomeUnverified_keeps u 1 loaded')) counted

theorem resync_keeps (g : Sighting) (loaded : w.st.rollLaw → w.st.trc.roll = .loaded) : Keeps w.st (resync g w).st := by
  unfold resync
  split
  · exact .refl _
  · split
    · exact .refl _
    · dsimp only
      split
      · split
        · exact correctedSlip_keeps _ w.st
        · exact confirmEntry_keeps _ _ _
      · split
        · exact slipAt_keeps w _ _ loaded
        · exact .refl _

theorem verifySighting_keeps (v : Verify) (g : Sighting) : Keeps w.st (verifySighting v g w).st := by
  unfold verifySighting
  split
  · exact .refl _
  · split
    · exact .refl _
    · split
      · refine .trans ?_ (orderStop_keeps _ _)
        refine .trans ?_ (setVerified_keeps _ _)
        exact correctedVerify_keeps _ _ w.st
      · exact .refl _

theorem takeSighting_keeps (g : Sighting) (loaded : w.st.rollLaw → w.st.trc.roll = .loaded) : Keeps w.st (takeSighting g w).st := by
  have plain : Keeps w.st (if (w.st.fit.building && g.building && decide (g.dir = .forward) && !w.st.indexShut) = true
      then buildSighting g w else if w.st.trc.verified = true then resync g w else w).st :=
    .ite (buildSighting_keeps w g) (.ite (resync_keeps w g loaded) (.refl _))
  unfold takeSighting
  dsimp only
  split
  · exact .ite plain (verifySighting_keeps w _ g)
  · exact plain

theorem frontierLimit_keeps (d : Dir) (tallied : Bool) : Keeps w.st (frontierLimit d tallied w).st := by
  unfold frontierLimit
  dsimp only
  split
  · exact .ite (orderStop_keeps _ _) (.refl _)
  · exact .refl _

theorem correctGate_keeps (affected : Nat → Bool) : Keeps w.st (correctGate affected w).st := by
  unfold correctGate
  split
  · split
    · split
      · exact .of_same (by simp [State.sameBlocks])
      · exact endPresentation_keeps _ _
    · exact .refl _
  · split
    · split
      · have abandoned : Keeps w.st (abandonLookup w.st) := .of_same (by simp [State.sameBlocks])
        exact (abandoned.trans (returnGrant_keeps (abandonLookup w.st))).trans (.of_same (by simp [State.sameBlocks]))
      · exact .refl _
    · exact .refl _

theorem correctMoveInFlight_keeps : Keeps w.st (correctMoveInFlight w).st := by
  unfold correctMoveInFlight
  split
  · extract_lets lost
    have unreached : Keeps w.st (lost w).st := by
      unfold lost
      split
      · exact orderStop_keeps _ _
      · split
        · exact retarget_keeps _ _ _
        · exact orderStop_keeps _ _
      all_goals exact .refl _
    split
    case _ | _ | _ =>
      split
      · exact retarget_keeps _ _ _
      · exact unreached
    all_goals exact .refl _
  · exact .refl _

theorem correctVerify_keeps : Keeps w.st (correctVerify w).st := by
  unfold correctVerify
  split
  · split
    · refine .trans ?_ (orderStop_keeps _ _)
      refine .trans ?_ (setVerified_keeps _ _)
      exact .of_same (by simp [State.sameBlocks])
    · exact .refl _
  · exact .refl _

theorem afterCorrection_keeps (affected : Nat → Bool) : Keeps w.st (afterCorrection affected w).st := by
  unfold afterCorrection
  have cleared : Keeps w.st (w.upd fun s => { s with gtu.watches := PerPort.all false }).st :=
    .of_same (by simp [State.sameBlocks])
  exact ((cleared.trans (correctGate_keeps _ _)).trans (correctMoveInFlight_keeps _)).trans (correctVerify_keeps _)

end fit

/-! ### The arbiter (R119 to R127) -/

section arbiter
variable (w : Ctx)

theorem foldl_keeps {α : Type} (f : Ctx → α → Ctx) (each : ∀ w x, Keeps w.st (f w x).st) (l : List α) (w : Ctx) :
    Keeps w.st (l.foldl f w).st := by
  induction l generalizing w with
  | nil => exact .refl _
  | cons x l ih => exact (each w x).trans (ih (f w x))

theorem completeEach_keeps (o : OutcomeCode) (l : List Record) : Keeps w.st (completeEach o l w).st :=
  foldl_keeps _ (fun w r => completeRecord_keeps w r o) l w

theorem clearUnreachable_keeps : Keeps w.st (clearUnreachable w).st := by
  unfold clearUnreachable
  dsimp only
  generalize hu : (if w.st.runWaits then w.upd chooseRunFrame else w) = u
  have chosen : Keeps w.st u.st := by
    rw [← hu]
    split
    · exact chooseRunFrame_keeps w.st
    · exact .refl _
  refine chosen.trans ?_
  split
  · exact .ite (((completeEach_keeps _ _ _).trans (completeRun_keeps _ _)).trans (completeEach_keeps _ _ _))
      (completeEach_keeps _ _ _)
  · exact completeEach_keeps _ _ _

theorem passOver_key (c : Nat) (r : Record) : (passOver c r).port = r.port ∧ (passOver c r).tag = r.tag := by
  by_cases passed : (r.candidate && decide (r.cls = c)) = true
  · simp only [passOver, passed, if_true]
    split
    · exact ⟨rfl, rfl⟩
    · split <;> exact ⟨rfl, rfl⟩
  · simp [passOver, passed]

theorem addPasses_keeps (c : Nat) (s : State) : Keeps s (addPasses c s) :=
  .of_map (passOver c) (passOver_key c) rfl (by simp [State.sameBlocks])

theorem handToGate_keeps (g : InHand) {s : State} (live : s.trc.motion.live = true) : Keeps s (handToGate g s) :=
  .of_motion (by simp) (by simp [State.sameBlocks]) (fun off => by simpa using off)
    (sameOrLive_of_live live (handToGate_live g s))

theorem grantVerify_keeps {s : State} (live : s.trc.motion.live = true) : Keeps s (grantVerify s) :=
  .of_motion (by simp) (by simp [State.sameBlocks]) (fun off => by simpa using off)
    (sameOrLive_of_live live (grantVerify_live s))

theorem grantRecord_keeps (r : Record) {s : State} (live : s.trc.motion.live = true) : Keeps s (grantRecord r s) := by
  unfold grantRecord
  have granted := setRecState_keeps r.port r.tag .granted s
  have named : Keeps s { setRecState r.port r.tag .granted s with rqt.grant := .record r.port r.tag, rqt.stopReason := .none } :=
    granted.trans (.of_same (by simp [State.sameBlocks]))
  refine named.trans ?_
  dsimp only
  split
  · exact handToGate_keeps _ (by simpa using live)
  · exact orderMove_keeps _ (by simpa using live)
  · exact .refl _

theorem grantRun_keeps (r : Run) {s : State} (live : s.trc.motion.live = true) : Keeps s (grantRun r s) := by
  unfold grantRun
  have named : Keeps s { setRunState .granted s with rqt.grant := .run, rqt.stopReason := .none } :=
    (setRunState_keeps .granted s).trans (.of_same (by simp [State.sameBlocks]))
  exact named.trans (handToGate_keeps _ (by simpa using live))

theorem chooseRecord_keeps {s : State} (live : s.trc.motion.live = true) : Keeps s (chooseRecord s) := by
  unfold chooseRecord
  split
  · exact (grantRecord_keeps _ live).trans (addPasses_keeps _ _)
  · exact .refl _

theorem outclassRun_keeps (s : State) : Keeps s (outclassRun s) :=
  .of_run (fun r => if r.state = .ready then { r with state := .suspended } else r) (fun r => by split <;> rfl) rfl
    (by simp [State.sameBlocks])

theorem chooseWork_keeps {s : State} (live : s.trc.motion.live = true) : Keeps s (chooseWork s) := by
  unfold chooseWork
  split
  · split
    · split
      · exact (outclassRun_keeps s).trans (chooseRecord_keeps live)
      · exact (grantRun_keeps _ live).trans (addPasses_keeps _ _)
    · exact chooseRecord_keeps live
  · exact chooseRecord_keeps live

/-- An opportunity finds the film IDLE or PARKED, so its orders start from a live motion state (R119). -/
theorem examine_keeps : Keeps w.st (examine w).st := by
  unfold examine
  split
  case isTrue opportunity =>
    have cleared := clearUnreachable_keeps w
    have free : w.st.trc.motion.free = true := by
      simp only [State.opportunity, Bool.and_eq_true] at opportunity
      exact opportunity.1.1.1.1.2
    have live : (clearUnreachable w).st.trc.motion.live = true := by simpa using Motion.live_of_free free
    dsimp only
    refine .ite (cleared.trans (chooseWork_keeps live)) (.ite ?_ (cleared.trans (grantVerify_keeps live)))
    exact (cleared.trans (setVerified_keeps _ 4)).trans (chooseWork_keeps (by simpa [setVerified] using Motion.live_of_free free))
  case isFalse => exact .refl _

end arbiter

/-! ### Cancels, unloading and the rewind (R13 to R16, R132, R133) -/

section work
variable (w : Ctx)

theorem endGrantWork_keeps : Keeps w.st (endGrantWork w).st := by
  unfold endGrantWork
  have dropped : Keeps w.st (w.upd dropInHand).st := .of_same (by simp [State.sameBlocks])
  exact .ite (.of_same (by simp [State.sameBlocks])) (dropped.trans (orderStop_keeps _ _))

theorem cancelRecord_keeps {done : Record → OutcomeCode → Ctx → Ctx} (completes : ∀ r o w, Keeps w.st (done r o w).st)
    (r : Record) : Keeps w.st (cancelRecord done r w).st := by
  have cleared : Keeps w.st (w.upd clearPresentation).st := .of_same (by simp [State.sameBlocks])
  unfold cancelRecord
  split
  · exact completes _ _ _
  · exact (completes _ _ _).trans (endGrantWork_keeps _)
  · exact .ite (.of_same (by simp [State.sameBlocks])) (cleared.trans (completes _ _ _))

theorem cancelRun_keeps {done : OutcomeCode → Ctx → Ctx} (completes : ∀ o w, Keeps w.st (done o w).st) (r : Run) :
    Keeps w.st (cancelRun done r w).st := by
  have cleared : Keeps w.st (w.upd clearPresentation).st := .of_same (by simp [State.sameBlocks])
  unfold cancelRun
  split
  · exact completes _ _
  · exact completes _ _
  · exact (completes _ _).trans (endGrantWork_keeps _)
  · exact .ite (.of_same (by simp [State.sameBlocks])) (cleared.trans (completes _ _))

theorem cancelEach_keeps (l : List Record) : Keeps w.st (cancelEach l w).st :=
  foldl_keeps _ (fun w r => cancelRecord_keeps w (fun r o w => completeRecordOnly_keeps w r o) r) l w

theorem completeEachOnly_keeps (o : OutcomeCode) (l : List Record) : Keeps w.st (completeEachOnly o l w).st :=
  foldl_keeps _ (fun w r => completeRecordOnly_keeps w r o) l w

theorem unloadWork_keeps : Keeps w.st (unloadWork w).st := by
  unfold unloadWork
  dsimp only
  split
  · exact ((completeEachOnly_keeps _ _ _).trans (completeRunOnly_keeps _ _)).trans (completeEachOnly_keeps _ _ _)
  · exact completeEachOnly_keeps _ _ _

theorem haltTransport_keeps : Keeps w.st (haltTransport w).st := by
  unfold haltTransport
  split
  · exact .refl _
  · split
    · split
      · rename_i halts
        refine .of_motion (by simp) (by simp [State.sameBlocks]) (fun off => by simpa using off) ?_
        exact sameOrLive_of_live (Motion.live_of_moving halts.2) rfl
      · exact .refl _
    · exact orderStop_keeps _ _

theorem resetExposure_keeps (p : Port) : Keeps w.st (resetExposure p w).st := by
  unfold resetExposure
  split
  · split
    · dsimp only
      refine .trans ?_ (beginHeld_keeps _)
      have dropped : Keeps w.st (w.upd dropExposure).st := dropExposure_keeps w.st
      split
      · refine dropped.trans (.trans ?_ (focusReady_keeps (Ctx.upd _ _) _))
        exact .of_same (by simp [State.sameBlocks])
      · exact dropped
    · exact .refl _
  · exact .refl _

end work

end Sys2Proof.Machine
end

section
/-! SUPPORT. The relation of `Keeps` for the rewind, the port reset, and the requests that add nothing to the table (R13 to R16, R33,
R34, R39, R195). -/

namespace Sys2Proof.Machine

theorem finish_keeps {s : State} {w : Ctx} (h : Keeps s w.st) : Keeps s (finish w) :=
  h.trans (.of_same (by simp [State.sameBlocks]))

theorem reply_keeps (e : Env) (st : Status) (results : List Byte) (w : Ctx) : Keeps w.st (e.reply st results w).st :=
  .of_same (by simp [State.sameBlocks])

theorem refuse_keeps (e : Env) (st : Status) (results : List Byte) (s : State) : Keeps s (refuse e st results s) :=
  .of_same (by simp [State.sameBlocks])

/-! ### The rewind (R15, R16) -/

section rewind
variable (w : Ctx)

theorem rewindRuns_moving {s : State} (runs : s.rewindRuns = true) : s.trc.motion.moving = true := by
  cases move : s.trc.move <;> simp_all [State.rewindRuns]

theorem completeTimed_keeps (k : TimedKind) (o : OutcomeCode) (results : List Byte) :
    Keeps w.st (completeTimed k o results w).st := .of_same (by simp [State.sameBlocks])

theorem rewindEnd_keeps (rewinding : w.st.trc.roll = .rewinding) (live : w.st.trc.motion.live = true) :
    Keeps w.st (rewindEnd w).st := by
  have sound : w.st.trc.motion ≠ .faulted := fun faulted => by simp [faulted, Motion.live] at live
  unfold rewindEnd
  refine .trans ?_ (completeTimed_keeps _ _ _ _)
  rw [setLevel_st]
  exact
    { keys := .refl _
      run := fun y hy => ⟨y, hy, rfl⟩
      fault := fun law => law.trans (by simp [sound])
      halted := id
      unverified := fun _ => rfl
      rollState := fun law => law.trans (by simp [rewinding])
      almostFull := id
      trig := id
      roll := fun law =>
        have ⟨_, _, retension, mkd⟩ := law
        ⟨by simp, fun _ => rfl, fun h => absurd (retension h) sound, fun _ => mkd (by simp [rewinding])⟩ }

theorem checkRewindEnd_keeps : Keeps w.st (checkRewindEnd w).st := by
  unfold checkRewindEnd
  split
  case isTrue ends =>
    obtain ⟨rewinding, runs, _⟩ := ends
    exact rewindEnd_keeps w rewinding (Motion.live_of_moving (rewindRuns_moving runs))
  case isFalse => exact .refl _

/-- From one live motion state to another, with nothing else that the laws speak of. -/
theorem Keeps.of_live {s t : State} (live : s.trc.motion.live = true) (live' : t.trc.motion.live = true)
    (same : t.rqt.records = s.rqt.records ∧ t.rqt.run = s.rqt.run ∧ s.sameBlocks t ∧ t.mkd = s.mkd) : Keeps s t :=
  .of_motion ⟨same.1, same.2.1⟩ same.2.2.1 (fun off => same.2.2.2.trans off) (sameOrLive_of_live live live')

theorem beginRewind_keeps (live : w.st.trc.motion.live = true) : Keeps w.st (beginRewind w).st := by
  unfold beginRewind
  refine .ite (.of_live live rfl (by simp [State.sameBlocks])) ?_
  have begun : Keeps w.st (w.upd fun s =>
      travelLeg (openMove .rewind .reverse .shuttle none) .reverse .shuttle true (motionStart s)).st :=
    .of_live live rfl (by simp [State.sameBlocks])
  exact begun.trans (checkRewindEnd_keeps _)

theorem rewindFrom_keeps : Keeps w.st (rewindFrom w).st := by
  have dropped : Keeps w.st (w.upd fun s => { s with trc.move := none }).st := .of_same (by simp [State.sameBlocks])
  unfold rewindFrom
  cases motion : w.st.trc.motion with
  | idle | settling => exact beginRewind_keeps w (by rw [motion]; rfl)
  | accel | cruise | decel | creepIn =>
    have live : w.st.trc.motion.live = true := by rw [motion]; rfl
    exact .ite (.of_live live rfl (by simp [State.sameBlocks])) (beginRewind_keeps w live)
  | parked => exact .of_live (by rw [motion]; rfl) rfl (by simp [State.sameBlocks])
  | waking | faulted | off => exact dropped

theorem resumeRewind_keeps : Keeps w.st (resumeRewind w).st := by
  unfold resumeRewind
  split
  case isTrue resumes => exact beginRewind_keeps w (by rw [resumes.2]; rfl)
  case isFalse => exact .refl _

end rewind

/-! ### The port reset (R118, R135, R176, R195) -/

/-- Work that follows the removal of records, and the level that is examined after it (R118). -/
theorem Keeps.settled {s b c : State}
    (keys : (b.rqt.records.map fun r => (r.port, r.tag)).Sublist (s.rqt.records.map fun r => (r.port, r.tag)))
    (run : ∀ y, b.rqt.run = some y → ∃ x, s.rqt.run = some x ∧ x.tag = y.tag) (blocks : s.sameBlocks b)
    (mkd : b.mkd = s.mkd) (motion : b.trc.motion = s.trc.motion) (work : Keeps b c) : Keeps s (settleAlmostFull c) := by
  obtain ⟨h1, h2, h3, h4, h5, h6, h7⟩ := blocks
  exact
    { keys := work.keys.trans keys
      run := fun y hy =>
        have ⟨x, hx, tag⟩ := work.run y hy
        have ⟨z, hz, tag'⟩ := run x hx
        ⟨z, hz, tag'.trans tag⟩
      fault := fun law => work.fault (by rw [h2, motion, law])
      halted := fun law => work.halted (by rw [h1, h2, law])
      unverified := fun law => work.unverified (by rw [h2, h6, law])
      rollState := fun law => work.rollState (by rw [h2, h5, law])
      almostFull := fun _ => rfl
      trig := fun law => work.trig (by unfold State.trigLaw at law ⊢; rw [h3, h4, law])
      roll := fun law => work.roll (by unfold State.rollLaw at law ⊢; rw [h5, h6, h7, mkd, motion]; exact law) }

/-- A port reset before the opportunity that it may make. -/
def portCleared (p : Port) (w : Ctx) : Ctx :=
  let a := w.upd fun s => resetSources p (s.setLink p (resetLinkState (s.link p)))
  let b := a.upd fun s => { resetPresentation p (removePortWork p s) with gtu.watches := s.gtu.watches.set p false }
  resetExposure p ((if w.st.grantOf p then endGrantWork b else b).upd settleAlmostFull)

theorem portReset_eq (p : Port) (w : Ctx) : portReset p w = examine (portCleared p w) := rfl

theorem portCleared_keeps (p : Port) (w : Ctx) : Keeps w.st (portCleared p w).st := by
  unfold portCleared
  dsimp only
  generalize hb : ((w.upd fun s => resetSources p (s.setLink p (resetLinkState (s.link p)))).upd fun s =>
    { resetPresentation p (removePortWork p s) with gtu.watches := s.gtu.watches.set p false }) = b
  have work : Keeps b.st (if w.st.grantOf p = true then endGrantWork b else b).st :=
    .ite (endGrantWork_keeps b) (.refl _)
  refine .trans (.settled (b := b.st) ?_ ?_ ?_ ?_ ?_ work) (resetExposure_keeps (Ctx.upd _ settleAlmostFull) p)
  · rw [← hb]
    simp only [upd_st, resetPresentation_frame, removePortWork, resetSources_frame]
    exact List.filter_sublist.map _
  · intro y hy
    rw [← hb] at hy
    simp only [upd_st, resetPresentation_frame, removePortWork, resetSources_frame] at hy
    split at hy
    · cases hy
    · exact ⟨y, hy, rfl⟩
  · rw [← hb]
    simp [State.sameBlocks]
  · rw [← hb]
    simp
  · rw [← hb]
    simp

theorem portReset_keeps (p : Port) (w : Ctx) : Keeps w.st (portReset p w).st :=
  (portCleared_keeps p w).trans (examine_keeps _)

/-! ### Halting, faults and stations (R33, R34, R39, R43) -/

theorem setHalted_keeps (on : Bool) (w : Ctx) :
    Keeps w.st (setLevel .halted on [] (w.upd fun s => { s with rqt.halted := on })).st := by
  rw [setLevel_st]
  exact ⟨.refl _, fun y hy => ⟨y, hy, rfl⟩, id, fun _ => rfl, id, id, id, id, id⟩

theorem doHalt_keeps (e : Env) (s : State) : Keeps s (doHalt e s) :=
  finish_keeps (((reply_keeps e _ _ (Ctx.start s)).trans (setHalted_keeps true _)).trans (haltTransport_keeps _))

theorem doResume_keeps (e : Env) (s : State) : Keeps s (doResume e s) :=
  finish_keeps ((((reply_keeps e _ _ (Ctx.start s)).trans (setHalted_keeps false _)).trans (resumeRewind_keeps _)).trans
    (examine_keeps _))

theorem reserveTimed_keeps (e : Env) (k : TimedKind) (s : State) : Keeps s (reserveTimed e k s) :=
  .of_same (by simp [State.sameBlocks])

theorem startRetension_keeps {s : State} (faulted : s.trc.motion = .faulted) :
    Keeps s { s with trc.retension := true, trc.timers.threading := some 0, trc.timers.inWindow := none } :=
  ⟨.refl _, fun y hy => ⟨y, hy, rfl⟩, id, id, id, id, id, id,
    fun ⟨off, verified, _, mkd⟩ => ⟨off, verified, fun _ => faulted, mkd⟩⟩

theorem doClearFault_keeps (e : Env) (s : State) : Keeps s (doClearFault e s) := by
  unfold doClearFault
  split
  · exact refuse_keeps _ _ _ _
  · split
    · exact refuse_keeps _ _ _ _
    · rename_i faulted _
      have taken : Keeps s (e.reply .accepted [] ((Ctx.start s).upd (reserveTimed e .clearFault))).st :=
        (reserveTimed_keeps e _ s).trans (reply_keeps e _ _ ((Ctx.start s).upd (reserveTimed e .clearFault)))
      exact finish_keeps (taken.trans (startRetension_keeps (by simpa using faulted)))

theorem parkIfDue_keeps (s : State) : Keeps s (parkIfDue s) := by
  unfold parkIfDue
  split
  · split
    case isTrue parks =>
      simp only [State.mayPark, Bool.and_eq_true, decide_eq_true_eq] at parks
      refine .of_live ?_ rfl (by simp [parkNow, State.sameBlocks])
      rw [parks.1.1.1.1.1.2]; rfl
    case isFalse => exact .refl _
  · exact .refl _

theorem setDelays_keeps (park wake : Nat) (check : Bool) (s : State) :
    Keeps s (let u : State := { s with trc.parkDelay := park, trc.wakeDelay := wake }
      if check then parkIfDue u else u) := by
  have set : Keeps s { s with trc.parkDelay := park, trc.wakeDelay := wake } := .of_same (by simp [State.sameBlocks])
  cases check with
  | false => exact set
  | true => exact set.trans (parkIfDue_keeps _)

theorem doSetStation_keeps (e : Env) (park wake : Option Nat) (s : State) : Keeps s (doSetStation e park wake s) :=
  finish_keeps ((reply_keeps e .done _ (Ctx.start s)).trans (setDelays_keeps _ _ park.isSome _))

end Sys2Proof.Machine
end

section
/-! SUPPORT. The relation of `Keeps` for the requests that add nothing to the table (R9, R13, R80 to R88, R132, R133, R147 to R155). -/

namespace Sys2Proof.Machine

/-- The kind of request that an action comes from. -/
def Action.kind : Action → Kind
  | .load _ _ => .load
  | .unload => .unload
  | .present _ _ _ _ => .present
  | .run _ _ _ _ _ => .run
  | .jog _ => .jog
  | .barrier => .barrier
  | .cancel _ => .cancel
  | .cancelAll => .cancelAll
  | .take _ => .take
  | .release _ => .release
  | .watch => .watch
  | .expose => .expose
  | .gateStatus => .gateStatus
  | .halt => .halt
  | .resume => .resume
  | .clearFault => .clearFault
  | .correct _ => .correct
  | .readIndex _ _ => .readIndex
  | .indexStatus => .indexStatus
  | .focusLock _ => .focusLock
  | .focusUnlock _ => .focusUnlock
  | .focusFree => .focusFree
  | .focusSet _ _ => .focusSet
  | .focusRead => .focusRead
  | .configureLink _ _ _ _ => .configureLink
  | .linkStatus => .linkStatus
  | .resetLink => .resetLink
  | .setNotices _ _ => .setNotices
  | .readEvents => .readEvents
  | .clearEvents _ => .clearEvents
  | .ackAttn => .ackAttn
  | .setStation _ _ => .setStation

theorem parseLoad_kind {body : List Byte} {a : Action} (h : parseLoad body = .ok a) : a.kind = .load := by
  unfold parseLoad at h
  dsimp only at h
  repeat' split at h
  all_goals cases h
  rfl

theorem parsePresent_kind {body : List Byte} {a : Action} (h : parsePresent body = .ok a) : a.kind = .present := by
  unfold parsePresent at h
  repeat' split at h
  all_goals cases h
  rfl

theorem parseRun_kind {body : List Byte} {a : Action} (h : parseRun body = .ok a) : a.kind = .run := by
  unfold parseRun at h
  repeat' split at h
  all_goals cases h
  rfl

theorem parseCorrect_kind {body : List Byte} {a : Action} (h : parseCorrect body = .ok a) : a.kind = .correct := by
  unfold parseCorrect at h
  dsimp only at h
  repeat' split at h
  all_goals cases h
  all_goals rfl

theorem parseReadIndex_kind {body : List Byte} {a : Action} (h : parseReadIndex body = .ok a) : a.kind = .readIndex := by
  unfold parseReadIndex at h
  split at h
  all_goals cases h
  rfl

theorem parseConfigureLink_kind {body : List Byte} {a : Action} (h : parseConfigureLink body = .ok a) :
    a.kind = .configureLink := by
  unfold parseConfigureLink at h
  repeat' split at h
  all_goals cases h
  all_goals rfl

theorem parseSector_kind {body : List Byte} {f : Nat → Action} {k : Kind} {a : Action} (kind : ∀ x, (f x).kind = k)
    (h : parseSector body f = .ok a) : a.kind = k := by
  unfold parseSector at h
  split at h
  all_goals cases h
  exact kind _

/-- What a request is read as belongs to its kind (R214). -/
theorem kind_of_parse {k : Kind} {body : List Byte} {a : Action} (h : k.parse body = .ok a) : a.kind = k := by
  cases k with
  | load => exact parseLoad_kind h
  | present => exact parsePresent_kind h
  | run => exact parseRun_kind h
  | correct => exact parseCorrect_kind h
  | readIndex => exact parseReadIndex_kind h
  | configureLink => exact parseConfigureLink_kind h
  | focusLock | focusUnlock => exact parseSector_kind (fun _ => rfl) h
  | focusSet => exact parseSector_kind (f := fun x => .focusSet x (min 4095 (numAt body 1 2))) (fun _ => rfl) h
  | _ => cases h; rfl

theorem State.Accepts.kind {s : State} {e : Env} {k : Kind} {body : List Byte} {a : Action} (h : s.Accepts e k body a) :
    a.kind = k := kind_of_parse h.parsed

/-! ### LOAD and UNLOAD (R9, R13 to R15) -/

/-- The reservation and the reply of an accepted timed request (R189, R213). -/
theorem takenTimed_keeps (e : Env) (k : TimedKind) (st : Status) (results : List Byte) (s : State) :
    Keeps s (e.reply st results ((Ctx.start s).upd (reserveTimed e k))).st :=
  (reserveTimed_keeps e k s).trans (reply_keeps e st results ((Ctx.start s).upd (reserveTimed e k)))

/-- Threading begins from EMPTY (R9). -/
theorem startThreading_keeps (p : Profile) {s : State} (empty : s.trc.roll = .empty) :
    Keeps s { s with
      trc.roll := .threading, trc.profile := some p, trc.timers.threading := some 0, trc.timers.inWindow := none } where
  keys := .refl _
  run y hy := ⟨y, hy, rfl⟩
  fault := id
  halted := id
  unverified := id
  rollState law := law.trans (by simp [empty])
  almostFull := id
  trig := id
  roll law :=
    have ⟨off, verified, retension, mkd⟩ := law
    ⟨⟨fun _ => .inr rfl, fun _ => off.mpr (.inl empty)⟩, fun _ => verified (.inl empty), retension,
      fun _ => mkd (by simp [empty])⟩

theorem doLoad_keeps (e : Env) (p : Profile) (clamped : List Nat) {s : State} (empty : s.trc.roll = .empty) :
    Keeps s (doLoad e p clamped s) :=
  finish_keeps ((takenTimed_keeps e .load .accepted (clamped.map (BitVec.ofNat 8)) s).trans
    (startThreading_keeps p (by simpa using empty)))

theorem clearSession_keeps {w : Ctx} (loaded : w.st.trc.roll = .loaded) :
    Keeps w.st (setLevel .rollState false [Roll.code .rewinding] (w.upd unloadClear)).st := by
  rw [setLevel_st]
  exact
    { keys := by simp
      run := fun y hy => ⟨y, by simpa using hy, rfl⟩
      fault := fun law => by simpa [Levels.set] using law
      halted := fun law => by simpa [Levels.set] using law
      unverified := fun law => by simpa [Levels.set] using law
      rollState := fun _ => by simp [Levels.set, unloadClear]
      almostFull := fun law => by simpa [Levels.set] using law
      trig := fun law => by simpa [State.trigLaw] using law
      roll := fun law => by
        obtain ⟨off, _, retension, _⟩ := law
        simp only [loaded, reduceCtorEq, or_self, iff_false] at off
        exact ⟨by simp [unloadClear, off], by simp [unloadClear], by simpa using retension, fun _ => rfl⟩ }

theorem doUnload_keeps (e : Env) {s : State} (loaded : s.trc.roll = .loaded) : Keeps s (doUnload e s) := by
  have ended := ((takenTimed_keeps e .unload .accepted [] s).trans (abandonExposure_keeps _ .unloaded)).trans (unloadWork_keeps _)
  exact finish_keeps ((ended.trans (clearSession_keeps (by simpa using loaded))).trans (rewindFrom_keeps _))

/-! ### CANCEL, TAKE, RELEASE and EXPOSE (R132, R133, R147 to R155) -/

theorem doCancel_keeps (e : Env) (t : Byte) (s : State) : Keeps s (doCancel e t s) := by
  have replied := reply_keeps e .done [] (Ctx.start s)
  unfold doCancel
  dsimp only
  split
  · exact finish_keeps ((replied.trans (cancelRecord_keeps _ (fun r o w => completeRecord_keeps w r o) _)).trans
      (examine_keeps _))
  · exact finish_keeps ((replied.trans (cancelRun_keeps _ (fun o w => completeRun_keeps w o) _)).trans (examine_keeps _))
  · exact refuse_keeps _ _ _ _

theorem doCancelAll_keeps (e : Env) (s : State) : Keeps s (doCancelAll e s) := by
  unfold doCancelAll
  dsimp only
  split
  · refine finish_keeps (.trans ?_ (examine_keeps _))
    refine .trans ?_ (cancelEach_keeps _ _)
    refine .trans ?_ (cancelRun_keeps _ (fun o w => completeRunOnly_keeps w o) _)
    exact (reply_keeps e _ _ (Ctx.start s)).trans (cancelEach_keeps _ _)
  · exact finish_keeps (((reply_keeps e _ _ (Ctx.start s)).trans (cancelEach_keeps _ _)).trans (examine_keeps _))

theorem setDeferred_keeps (x : Presentation) (d : Deferred) (s : State) : Keeps s (setDeferred x d s) :=
  .of_same (by simp [State.sameBlocks])

theorem markTaken_keeps (n : Nat) (s : State) : Keeps s (markTaken n s) := .of_same (by simp [State.sameBlocks])

theorem doTake_keeps (e : Env) (t : Byte) (s : State) : Keeps s (doTake e t s) := by
  unfold doTake
  split
  · exact refuse_keeps _ _ _ _
  · rename_i x _
    have marked : Keeps s ((e.reply .done [] (Ctx.start s)).upd (markTaken x.frame)).st :=
      (reply_keeps e .done [] (Ctx.start s)).trans (markTaken_keeps x.frame _)
    dsimp only
    split
    · exact finish_keeps (marked.trans (setDeferred_keeps _ _ _))
    · exact finish_keeps ((marked.trans (endPresentation_keeps _ _)).trans (examine_keeps _))

theorem doRelease_keeps (e : Env) (t : Byte) (s : State) : Keeps s (doRelease e t s) := by
  unfold doRelease
  split
  · exact refuse_keeps _ _ _ _
  · have replied := reply_keeps e .done [] (Ctx.start s)
    dsimp only
    split
    · exact finish_keeps (replied.trans (setDeferred_keeps _ _ _))
    · exact finish_keeps ((replied.trans (endPresentation_keeps _ _)).trans (examine_keeps _))

theorem doExpose_keeps (e : Env) (s : State) : Keeps s (doExpose e s) := by
  unfold doExpose
  split
  · exact refuse_keeps _ _ _ _
  split
  · exact refuse_keeps _ _ _ _
  split
  · exact refuse_keeps _ _ _ _
  refine finish_keeps (w := Ctx.start _) (.trans (reserveTimed_keeps e .expose s) ?_)
  exact
    { keys := .refl _
      run := fun y hy => ⟨y, hy, rfl⟩
      fault := id
      halted := id
      unverified := id
      rollState := id
      almostFull := id
      trig := fun _ => rfl
      roll := id }

/-! ### CORRECT (R80 to R86) -/

theorem doMerge_keeps (e : Env) (n : Nat) (s : State) : Keeps s (doMerge e n s) := by
  unfold doMerge
  split
  · exact refuse_keeps _ _ _ _
  split
  · exact refuse_keeps _ _ _ _
  refine finish_keeps (.trans ?_ ((afterCorrection_keeps (correctReply _ _) _).trans (examine_keeps _)))
  exact .of_same (by simp [State.sameBlocks])

theorem doSplit_keeps (e : Env) (n p : Nat) (s : State) : Keeps s (doSplit e n p s) := by
  unfold doSplit
  split
  · exact refuse_keeps _ _ _ _
  split
  · exact refuse_keeps _ _ _ _
  split
  · exact refuse_keeps _ _ _ _
  split
  · exact refuse_keeps _ _ _ _
  split
  · exact refuse_keeps _ _ _ _
  dsimp only
  generalize hu : correctReply e ((Ctx.start s).upd (splitEntries n p)) = u
  have split : Keeps s u.st := hu ▸ .of_same (by simp [State.sameBlocks])
  have closed : Keeps u.st (pulseAll .indexClosed ([1] ++ beFrame u.st.frontier) u).st :=
    .of_same (by simp [State.sameBlocks])
  exact finish_keeps (((split.trans (.ite closed (.refl _))).trans (afterCorrection_keeps _ _)).trans (examine_keeps _))

theorem doMove_keeps (e : Env) (n p : Nat) (s : State) : Keeps s (doMove e n p s) := by
  unfold doMove
  split
  · exact refuse_keeps _ _ _ _
  split
  · exact refuse_keeps _ _ _ _
  split
  · exact refuse_keeps _ _ _ _
  refine finish_keeps (.trans ?_ ((afterCorrection_keeps (correctReply _ _) _).trans (examine_keeps _)))
  exact .of_same (by simp [State.sameBlocks])

theorem doClearTaken_keeps (e : Env) (a b : Nat) (s : State) : Keeps s (doClearTaken e a b s) := by
  unfold doClearTaken
  split
  · exact refuse_keeps _ _ _ _
  split
  · exact refuse_keeps _ _ _ _
  exact .of_same (by simp [State.sameBlocks])

/-! ### The requests together -/

/-- The requests that join the table or the run slot. -/
def Action.joins : Action → Bool
  | .present _ _ _ _ | .run _ _ _ _ _ | .jog _ | .barrier => true
  | _ => false

theorem finishQuiet_keeps {s : State} {w : Ctx} (h : Keeps s w.st) : Keeps s (finishQuiet w) :=
  h.trans (.of_same (by simp [State.sameBlocks]))

theorem doneQuiet_keeps (e : Env) (results : List Byte) {f : State → State} (same : ∀ s, Keeps s (f s)) (s : State) :
    Keeps s (doneQuiet e results f s) :=
  finishQuiet_keeps ((reply_keeps e .done results (Ctx.start s)).trans (same _))

theorem doFocusLock_keeps (e : Env) (x : Nat) (s : State) : Keeps s (doFocusLock e x s) := by
  unfold doFocusLock
  extract_lets locked u
  split
  · exact refuse_keeps _ _ _ _
  · exact finishQuiet_keeps (.of_same (by simp [u, State.sameBlocks]))

theorem doAckAttn_keeps (e : Env) (s : State) : Keeps s (doAckAttn e s) := by
  unfold doAckAttn
  split
  · exact doneQuiet_keeps e _ .refl s
  · dsimp only
    split
    · exact .refl s
    · exact finishQuiet_keeps (.of_same (by simp [State.sameBlocks]))

/-- An accepted request that joins nothing keeps what the laws need. -/
theorem perform_keeps {e : Env} {k : Kind} {body : List Byte} {a : Action} {s : State} (accepted : s.Accepts e k body a)
    (plain : a.joins = false) : Keeps s (perform e a s) := by
  have roll := accepted.roll
  rw [← accepted.kind] at roll
  cases a with
  | load p clamped => exact doLoad_keeps e p clamped (by simpa [rollRefusal, Action.kind] using roll)
  | unload => exact doUnload_keeps e (by simpa [rollRefusal, Action.kind, Kind.needsRoll] using roll)
  | cancel t => exact doCancel_keeps e t s
  | cancelAll => exact doCancelAll_keeps e s
  | take t => exact doTake_keeps e t s
  | release t => exact doRelease_keeps e t s
  | expose => exact doExpose_keeps e s
  | halt => exact doHalt_keeps e s
  | resume => exact doResume_keeps e s
  | clearFault => exact doClearFault_keeps e s
  | correct c =>
    cases c with
    | merge n => exact doMerge_keeps e n s
    | split n p => exact doSplit_keeps e n p s
    | move n p => exact doMove_keeps e n p s
    | clearTaken x y => exact doClearTaken_keeps e x y s
  | resetLink => exact finish_keeps ((reply_keeps e .done [] (Ctx.start s)).trans (portReset_keeps e.port _))
  | setStation park wake => exact doSetStation_keeps e park wake s
  | watch | gateStatus | readIndex | indexStatus | focusFree | focusRead | configureLink | linkStatus | readEvents =>
    exact doneQuiet_keeps e _ (fun s => .of_same (by simp [State.sameBlocks])) s
  | focusLock x => exact doFocusLock_keeps e x s
  | focusUnlock x => exact finishQuiet_keeps (.of_same (by simp [State.sameBlocks]))
  | focusSet x v => exact finishQuiet_keeps (.of_same (by simp [State.sameBlocks]))
  | setNotices enables polarities => exact finishQuiet_keeps (.of_same (by simp [setNotices, State.sameBlocks]))
  | clearEvents flags => exact finishQuiet_keeps (.of_same (by simp [State.sameBlocks]))
  | ackAttn => exact doAckAttn_keeps e s
  | present | run | jog | barrier => cases plain

end Sys2Proof.Machine
end

section
/-! SUPPORT. The relation of `Keeps` for the events of the film, the lens, the gate and the camera (R9 to R42, R90 to R102, R146, R156,
R157). -/

namespace Sys2Proof.Machine

/-! ### Threading and re-tensioning (R10, R11, R39) -/

theorem threadingTimeout_keeps (s : State) : Keeps s (onThreadingTimeout s) := by
  unfold onThreadingTimeout
  split
  case isFalse => exact .refl _
  case isTrue threading =>
    obtain ⟨threading, _⟩ := threading
    refine finish_keeps (.trans ?_ (completeTimed_keeps (Ctx.upd (Ctx.start s) _) _ _ _))
    exact
      { keys := .refl _
        run := fun y hy => ⟨y, hy, rfl⟩
        fault := id
        halted := id
        unverified := id
        rollState := fun law => law.trans (by simp [threading])
        almostFull := id
        trig := id
        roll := fun law =>
          have ⟨off, verified, retension, mkd⟩ := law
          ⟨⟨fun _ => .inl rfl, fun _ => off.mpr (.inr threading)⟩, fun _ => verified (.inr threading), retension,
            fun _ => mkd (by simp [threading])⟩ }

theorem retensioned_keeps {w : Ctx} (tensioning : w.st.trc.retension = true) :
    Keeps w.st (setLevel .fault false [Cause.code .none] (w.upd retensioned)).st := by
  rw [setLevel_st]
  exact
    { keys := .refl _
      run := fun y hy => ⟨y, hy, rfl⟩
      fault := fun _ => rfl
      halted := id
      unverified := id
      rollState := id
      almostFull := id
      trig := id
      roll := fun law => by
        obtain ⟨off, verified, retension, mkd⟩ := law
        rw [retension tensioning] at off
        exact ⟨⟨nofun, fun h => absurd (off.mpr h) (by simp)⟩, verified, nofun, mkd⟩ }

theorem onRetensionSuccess_keeps (s : State) : Keeps s (onRetensionSuccess s) := by
  unfold onRetensionSuccess
  split
  case isFalse => exact .refl _
  case isTrue ends =>
    have ready := retensioned_keeps (w := Ctx.start s) ends.1
    exact finish_keeps (((ready.trans (completeTimed_keeps _ _ _ _)).trans (resumeRewind_keeps _)).trans (examine_keeps _))

theorem failRetension_keeps (s : State) :
    Keeps s ((Ctx.start s).upd fun s =>
      faultCauseChanged .tension { s with trc.retension := false, trc.cause := .tension }).st :=
  .trans (t := { s with trc.retension := false, trc.cause := .tension })
    ⟨.refl _, fun y hy => ⟨y, hy, rfl⟩, id, id, id, id, id, id,
      fun ⟨off, verified, _, mkd⟩ => ⟨off, verified, nofun, mkd⟩⟩
    (.of_same (by simp [State.sameBlocks]))

theorem onRetensionFail_keeps (s : State) : Keeps s (onRetensionFail s) := by
  unfold onRetensionFail
  split
  case isFalse => exact .refl _
  case isTrue =>
    exact finish_keeps ((failRetension_keeps s).trans (completeTimed_keeps _ _ _ _))

/-! ### Supervision (R16, R35, R36) -/

theorem tensionBad_live {s : State} (bad : s.tensionBad = true) : s.trc.motion.live = true := by
  unfold State.tensionBad at bad
  cases motion : s.trc.motion <;> simp_all [Motion.live]

theorem onTensionPersistenceExpiry_keeps (s : State) : Keeps s (onTensionPersistenceExpiry s) := by
  unfold onTensionPersistenceExpiry
  split
  case isFalse => exact .refl _
  case isTrue bad => exact finish_keeps (takeFault_keeps (Ctx.start s) _ (tensionBad_live (Bool.and_eq_true_iff.mp bad).1))

theorem onStallTimerExpiry_keeps (s : State) : Keeps s (onStallTimerExpiry s) := by
  unfold onStallTimerExpiry
  split
  case isFalse => exact .refl _
  case isTrue moves =>
    exact finish_keeps (takeFault_keeps (Ctx.start s) _ (Motion.live_of_moving (Bool.and_eq_true_iff.mp moves).1))

theorem onLeaderTimerExpiry_keeps (s : State) : Keeps s (onLeaderTimerExpiry s) := by
  unfold onLeaderTimerExpiry
  split
  case isFalse => exact .refl _
  case isTrue awaited =>
    simp only [State.leaderAwaited, Bool.and_eq_true] at awaited
    exact finish_keeps (takeFault_keeps (Ctx.start s) _ (Motion.live_of_moving (rewindRuns_moving awaited.1.1.1.2)))

/-! ### Counts (R20, R46) -/

/-- The detector is ARMED after the trailing edge that gives a sighting (R47). -/
theorem sampleMark_armed {d : Dir} {level : Nat} {tallied : Bool} {s : State} {g : Sighting}
    (made : (sampleMark d level tallied s).2 = some g) : (sampleMark d level tallied s).1.mkd = .armed := by
  cases detector : s.mkd with
  | inMark m =>
    by_cases turned : d ≠ m.dir
    · simp [sampleMark, detector, turned] at made
    · by_cases high : s.profile.markOff ≤ level
      · simp [sampleMark, detector, turned, high] at made
      · simp [sampleMark, detector, turned, high]
  | off => simp [sampleMark, detector] at made
  | armed =>
    simp only [sampleMark, detector] at made
    split at made <;> cases made
  | blocked =>
    simp only [sampleMark, detector] at made
    split at made <;> cases made

theorem countMark_keeps (d : Dir) (tallied : Bool) (w : Ctx) : Keeps w.st (countMark d tallied w).st := by
  unfold countMark
  dsimp only
  generalize hx : sampleMark d w.st.level tallied w.st = x
  have sampled : Keeps w.st x.1 := by
    refine .of_motion (by simp [← hx]) (by simp [← hx, State.sameBlocks]) (fun off => ?_) (.inl (by simp [← hx]))
    rw [← hx, sampleMark, off]
    exact off
  have armed (g : Sighting) (made : x.2 = some g) : x.1.mkd = .armed := by
    rw [← hx] at made ⊢
    exact sampleMark_armed made
  split
  · rename_i g made
    refine .ite sampled (sampled.trans (takeSighting_keeps { w with st := x.1 } g fun law => ?_))
    by_contra other
    have off := law.2.2.2 other
    rw [show (Ctx.st { w with st := x.1 }).mkd = .armed from armed g made] at off
    cases off
  · exact sampled

theorem progress_keeps (s : State) : Keeps s (progress s) :=
  .of_motion (by simp) (by simp [State.sameBlocks]) (fun off => by simpa using off) (progress_sameOrLive s)

theorem onEncoderCount_keeps (d : Dir) (x : Sample) (s : State) : Keeps s (onEncoderCount d x s) := by
  unfold onEncoderCount
  split
  · exact .refl _
  split
  · exact .of_same (by simp [State.sameBlocks])
  extract_lets c w a b
  have counted : Keeps s w.st := .of_same (by simp [w, c, State.sameBlocks])
  have checked : Keeps w.st a.st := by
    unfold a
    split
    case isTrue lost => exact becomeUnverified_keeps w 2 fun _ => lost.2
    case isFalse => exact .refl _
  have marked : Keeps (a.upd progress).st b.st := countMark_keeps _ _ _
  exact finish_keeps ((((counted.trans checked).trans ((progress_keeps a.st).trans marked)).trans (frontierLimit_keeps _ _ _)).trans
    ((checkRewindEnd_keeps _).trans (examine_keeps _)))

theorem onLeaderFall_keeps (s : State) : Keeps s (onLeaderFall s) := by
  unfold onLeaderFall
  have fallen : Keeps s { s with pins.leader := false } := .of_same (by simp [State.sameBlocks])
  dsimp only
  split
  · exact fallen
  · exact finish_keeps (fallen.trans (checkRewindEnd_keeps (Ctx.start _)))

/-! ### END (R17, R19) -/

theorem endReplan_keeps (m : Move) {s : State} (live : s.trc.motion.live = true) : Keeps s (endReplan m s) :=
  .of_live live rfl (by simp [State.sameBlocks])

theorem endMotion_keeps (m : Move) {w : Ctx} (live : w.st.trc.motion.live = true) : Keeps w.st (endMotion m w).st := by
  unfold endMotion
  split
  · exact .ite (.refl _) (endReplan_keeps m live)
  · exact .ite (.refl _) (endReplan_keeps m live)
  · exact .ite (.refl _) (endReplan_keeps m live)
  · have lost := forwardLost_keeps w .notFound
    dsimp only
    split
    · exact .ite lost (lost.trans (orderStop_keeps _ _))
    · exact lost
  · exact orderStop_keeps _ _
  · exact .refl _

theorem onEndRising_keeps (s : State) : Keeps s (onEndRising s) := by
  unfold onEndRising
  split
  · split
    case isTrue runs =>
      have live := Motion.live_of_moving runs.2.1
      have found : Keeps s (endFound (Ctx.start s)).st := .of_same (by simp [State.sameBlocks])
      dsimp only
      split
      · exact finish_keeps (endMotion_keeps (w := Ctx.start s) _ live)
      · exact finish_keeps (found.trans (endMotion_keeps _ (by simpa using live)))
    case isFalse => exact .refl _
  · exact .refl _

/-! ### Ends of legs and moves (R24 to R31) -/

theorem afterLeg_keeps (m : Move) {s : State} (live : s.trc.motion.live = true) : Keeps s (afterLeg m s) :=
  .of_live live (afterLeg_live m live) (by simp [State.sameBlocks])

theorem nextLeg_keeps (cls : SpeedClass) (setDir : Bool) (m : Move) {s : State} (live : s.trc.motion.live = true) :
    Keeps s (nextLeg cls setDir m s) := .of_live live (nextLeg_live m s cls setDir) (by simp [State.sameBlocks])

theorem atRest_keeps (s : State) : Keeps s (atRest s) := .of_same (by simp [State.sameBlocks])

theorem onTravelLegRest_keeps (s : State) : Keeps s (onTravelLegRest s) := by
  unfold onTravelLegRest
  split
  · split
    case isTrue rests =>
      have live := Motion.live_of_moving rests.2
      exact finish_keeps ((atRest_keeps s).trans (afterLeg_keeps _ (by simpa using live)))
    case isFalse => exact .refl _
  · exact .refl _

theorem onCreepRest_keeps (s : State) : Keeps s (onCreepRest s) := by
  unfold onCreepRest
  split
  · split
    case isTrue rests =>
      exact finish_keeps (.of_live (Motion.live_of_moving rests.2.2) rfl (by simp [State.sameBlocks]))
    case isFalse => exact .refl _
  · exact .refl _

theorem onStopRampRest_keeps (s : State) : Keeps s (onStopRampRest s) := by
  unfold onStopRampRest
  split
  · rename_i m _
    split
    case isTrue moves =>
      have live := Motion.live_of_moving moves
      have ended : Keeps s ((Ctx.start s).upd moveOver).st := moveOver_keeps live
      have rewind := finish_keeps ((ended.trans (beginRewind_keeps _ rfl)).trans (examine_keeps _))
      dsimp only
      split
      · split
        · exact rewind
        · exact finish_keeps ((ended.trans (disposeStopped_keeps _ rfl)).trans (examine_keeps _))
      · split
        · exact rewind
        · exact finish_keeps ((atRest_keeps s).trans (nextLeg_keeps _ _ _ (by simpa using live)))
      · exact .refl _
      · exact .refl _
    case isFalse => exact .refl _
  · exact .refl _

theorem onBoundRest_keeps (s : State) : Keeps s (onBoundRest s) := by
  unfold onBoundRest
  split
  · split
    case isTrue bound =>
      exact finish_keeps ((moveBound_keeps (Ctx.start s) (Motion.live_of_moving bound.1)).trans (examine_keeps _))
    case isFalse => exact .refl _
  · exact .refl _

theorem onSettleTimerExpiry_keeps (s : State) : Keeps s (onSettleTimerExpiry s) := by
  unfold onSettleTimerExpiry
  split
  case isTrue settled =>
    simp only [State.settled, Bool.and_eq_true, decide_eq_true_eq] at settled
    exact finish_keeps ((moveSettled_keeps (Ctx.start s) (by
      show s.trc.motion.live = true
      rw [settled.1]
      rfl)).trans (examine_keeps _))
  case isFalse => exact .refl _

theorem onSettleLimitExpiry_keeps (s : State) : Keeps s (onSettleLimitExpiry s) := by
  unfold onSettleLimitExpiry
  split
  · rename_i m _ settling
    have live : s.trc.motion.live = true := by rw [settling]; rfl
    split
    · have ended : Keeps s ((Ctx.start s).upd moveOver).st := moveOver_keeps live
      exact finish_keeps ((ended.trans (positionFail_keeps _)).trans (examine_keeps _))
    · exact finish_keeps (.of_live live (settleRetry_live m s) (by simp [State.sameBlocks]))
  · exact .refl _

/-! ### Parking and waking (R40, R42) -/

theorem onParkTimerExpiry_keeps (s : State) : Keeps s (onParkTimerExpiry s) := by
  unfold onParkTimerExpiry
  split
  case isTrue parks =>
    simp only [State.mayPark, Bool.and_eq_true, decide_eq_true_eq] at parks
    refine finish_keeps (.of_live (s := s) ?_ rfl (by simp [parkNow, State.sameBlocks]))
    rw [parks.1.1.1.1.1.2]
    rfl
  case isFalse => exact .refl _

theorem wakeEnds_keeps {w : Ctx} (live : w.st.trc.motion.live = true) : Keeps w.st (wakeEnds w).st := by
  unfold wakeEnds
  extract_lets u
  have timed : Keeps w.st u.st := .of_same (by simp [u, State.sameBlocks])
  have live' : u.st.trc.motion.live = true := live
  refine timed.trans ?_
  have idle : Keeps u.st (u.upd (setMotion .idle)).st := .of_live live' rfl (by simp [State.sameBlocks])
  split
  · exact beginRewind_keeps u live'
  · exact .of_live live' (startMove_live _ _) (by simp [State.sameBlocks])
  · exact idle
  · exact idle
  · exact idle

theorem onWakeTimerExpiry_keeps (s : State) : Keeps s (onWakeTimerExpiry s) := by
  unfold onWakeTimerExpiry
  split
  case isTrue wakes =>
    have live : s.trc.motion.live = true := by rw [wakes]; rfl
    exact finish_keeps ((wakeEnds_keeps (w := Ctx.start s) live).trans (examine_keeps _))
  case isFalse => exact .refl _

/-! ### Lens, gate and camera (R90 to R102, R146, R156, R157) -/

theorem onLensMoveComplete_keeps (s : State) : Keeps s (onLensMoveComplete s) := by
  unfold onLensMoveComplete
  split
  · rename_i mv _ _
    have stands : Keeps s ((Ctx.start s).upd fun s =>
        { s with fcc.lens := mv.target, fcc.stage := .idle, fcc.running := none, lensRead := none }).st :=
      .of_same (by simp [State.sameBlocks])
    exact finish_keeps ((stands.trans (lensDone_keeps _ _)).trans (beginHeld_keeps _))
  · exact .refl _

theorem onLensHomingComplete_keeps (s : State) : Keeps s (onLensHomingComplete s) := by
  unfold onLensHomingComplete
  split
  · have stands : Keeps s ((Ctx.start s).upd fun s => { s with fcc.lens := 0, fcc.stage := .idle }).st :=
      .of_same (by simp [State.sameBlocks])
    exact finish_keeps (stands.trans (beginHeld_keeps _))
  · exact .refl _

theorem onFocusLineArrival_keeps (late : Bool) (line : List (BitVec 10)) (s : State) :
    Keeps s (onFocusLineArrival late line s) := by
  unfold onFocusLineArrival
  split
  · split
    · exact finish_keeps (addSample_keeps (Ctx.start s) _ _)
    · exact .refl _
  · exact .refl _

theorem onFocusSampleTimeout_keeps (s : State) : Keeps s (onFocusSampleTimeout s) := by
  unfold onFocusSampleTimeout
  split
  · split
    · split
      · exact finish_keeps (sweepDefault_keeps (Ctx.start s) _ _)
      · exact .of_same (by simp [State.sameBlocks])
    · exact .refl _
  · exact .refl _

theorem onHoldTimerExpiry_keeps (s : State) : Keeps s (onHoldTimerExpiry s) := by
  unfold onHoldTimerExpiry
  split
  · split
    · refine finish_keeps (.trans ?_ ((endPresentation_keeps (pulse _ _ _ (Ctx.start s)) _).trans (examine_keeps _)))
      exact .of_same (by simp [State.sameBlocks])
    · exact .refl _
  · exact .refl _

theorem onExpdoneRising_keeps (s : State) : Keeps s (onExpdoneRising s) := by
  unfold onExpdoneRising
  split
  · exact finish_keeps ((endExposure_keeps (Ctx.start s) _).trans (examine_keeps _))
  · exact .refl _

theorem onExposureTimerExpiry_keeps (s : State) : Keeps s (onExposureTimerExpiry s) := by
  unfold onExposureTimerExpiry
  split
  · exact finish_keeps ((endExposure_keeps (Ctx.start s) _).trans (examine_keeps _))
  · exact .refl _

/-- Every event but the end of threading keeps what the laws need. -/
theorem event_keeps {c : Instr} {s t : State} (event : isEvent c = true)
    (other : ∀ x y, c ≠ .threadingSuccess x y) (h : exec c s = .next t) : Keeps s t := by
  cases c with
  | threadingTimeout => cases h; exact threadingTimeout_keeps s
  | retensionSuccess => cases h; exact onRetensionSuccess_keeps s
  | retensionFail => cases h; exact onRetensionFail_keeps s
  | tensionPersistenceExpiry => cases h; exact onTensionPersistenceExpiry_keeps s
  | stallTimerExpiry => cases h; exact onStallTimerExpiry_keeps s
  | leaderTimerExpiry => cases h; exact onLeaderTimerExpiry_keeps s
  | encoderCount d x => cases h; exact onEncoderCount_keeps d x s
  | leaderFall => cases h; exact onLeaderFall_keeps s
  | endRising => cases h; exact onEndRising_keeps s
  | travelLegRest => cases h; exact onTravelLegRest_keeps s
  | creepRest => cases h; exact onCreepRest_keeps s
  | stopRampRest => cases h; exact onStopRampRest_keeps s
  | boundRest => cases h; exact onBoundRest_keeps s
  | settleTimerExpiry => cases h; exact onSettleTimerExpiry_keeps s
  | settleLimitExpiry => cases h; exact onSettleLimitExpiry_keeps s
  | parkTimerExpiry => cases h; exact onParkTimerExpiry_keeps s
  | wakeTimerExpiry => cases h; exact onWakeTimerExpiry_keeps s
  | lensMoveComplete => cases h; exact onLensMoveComplete_keeps s
  | lensHomingComplete => cases h; exact onLensHomingComplete_keeps s
  | focusLineArrival late line => cases h; exact onFocusLineArrival_keeps late line s
  | focusSampleTimeout => cases h; exact onFocusSampleTimeout_keeps s
  | holdTimerExpiry => cases h; exact onHoldTimerExpiry_keeps s
  | expdoneRising => cases h; exact onExpdoneRising_keeps s
  | exposureTimerExpiry => cases h; exact onExposureTimerExpiry_keeps s
  | threadingSuccess x y => exact absurd rfl (other x y)
  | _ => cases event

end Sys2Proof.Machine
end

section
/-! The laws of the request table and of the levels, TRIG and the motion state OFF (R22, R114, R137, R197). -/

namespace Sys2Proof.Machine

/-- The laws of the levels, of TRIG and of the motion state OFF together. -/
def State.blockLaws (s : State) : Prop := s.levelLaw ∧ s.trigLaw ∧ s.rollLaw

theorem Keeps.table {s t : State} (h : Keeps s t) (law : s.tableLaw) : t.tableLaw := by
  obtain ⟨length, ports, distinct, run⟩ := law
  have sub := h.keys
  refine ⟨?_, fun p => ?_, distinct.sublist sub, fun y hy r hr onA same => ?_⟩
  · have := sub.length_le
    simp only [List.length_map] at this
    omega
  · have fewer := sub.countP_le (p := fun x => decide (x.1 = p))
    rw [List.countP_map, List.countP_map] at fewer
    exact fewer.trans (ports p)
  · obtain ⟨x, hx, tag⟩ := h.run y hy
    obtain ⟨z, hz, key⟩ := List.mem_map.mp (sub.subset (List.mem_map_of_mem hr))
    obtain ⟨port, tag'⟩ := Prod.mk.inj key
    exact run x hx z hz (port.trans onA) (by rw [tag', same, tag])

theorem Keeps.blocks {s t : State} (h : Keeps s t) (laws : s.blockLaws) : t.blockLaws := by
  obtain ⟨⟨fault, halted, unverified, rollState, almostFull⟩, trig, roll⟩ := laws
  exact ⟨⟨h.fault fault, h.halted halted, h.unverified unverified, h.rollState rollState, h.almostFull almostFull⟩,
    h.trig trig, h.roll roll⟩

/-! ### What joins the table (R113, R114, R162) -/

theorem makeRecord_records (e : Env) (work : Work) (cls : Nat) (w : Ctx) :
    (makeRecord e work cls w).st.rqt.records =
      w.st.rqt.records ++ [⟨e.port, e.tag, work, cls, 0, w.st.rqt.arrival, .waiting⟩] := by
  simp [makeRecord]

theorem makeRecord_blocks (e : Env) (work : Work) (cls : Nat) {w : Ctx} (laws : w.st.blockLaws) :
    (makeRecord e work cls w).st.blockLaws := by
  obtain ⟨⟨fault, halted, unverified, rollState, -⟩, trig, roll⟩ := laws
  refine ⟨⟨?_, ?_, ?_, ?_, ?_⟩, ?_, ?_⟩
  · simpa [makeRecord, examineAlmostFull, Levels.set] using fault
  · simpa [makeRecord, examineAlmostFull, Levels.set] using halted
  · simpa [makeRecord, examineAlmostFull, Levels.set] using unverified
  · simpa [makeRecord, examineAlmostFull, Levels.set] using rollState
  · simp only [makeRecord, examineAlmostFull, setLevel_st]
    rfl
  · simpa [State.trigLaw] using trig
  · simpa [State.rollLaw] using roll

/-- The tag and the room that the checks of R211 leave to a request that joins the table or the run slot. -/
structure State.Room (s : State) (e : Env) : Prop where
  port : s.portRecords e.port < 16
  table : s.rqt.records.length < 32
  fresh : ∀ r ∈ s.rqt.records, r.port = e.port → r.tag ≠ e.tag
  run : ∀ x, s.rqt.run = some x → e.port = .a → x.tag ≠ e.tag

theorem findRecord_eq_none {s : State} {p : Port} {tag : Byte} :
    s.findRecord p tag = none ↔ ∀ r ∈ s.rqt.records, r.port = p → r.tag ≠ tag := by
  simp [State.findRecord]

theorem runTagged_eq_none {s : State} {p : Port} {tag : Byte} :
    s.runTagged p tag = none ↔ ∀ x, s.rqt.run = some x → p = .a → x.tag ≠ tag := by
  cases run : s.rqt.run <;> simp [State.runTagged, run]

theorem tags_of_free {s : State} {p : Port} {tag : Byte} (free : s.tagInUse p tag = false) :
    (∀ r ∈ s.rqt.records, r.port = p → r.tag ≠ tag) ∧ ∀ x, s.rqt.run = some x → p = .a → x.tag ≠ tag := by
  simp only [State.tagInUse, Bool.or_eq_false_iff, Option.isSome_eq_false_iff, Option.isNone_iff_eq_none] at free
  exact ⟨findRecord_eq_none.mp free.1.1, runTagged_eq_none.mp free.1.2⟩

theorem room_of_accepts {s : State} {e : Env} {k : Kind} {body : List Byte} {a : Action} (accepted : s.Accepts e k body a)
    (record : k = .present ∨ k = .jog ∨ k = .barrier) : s.Room e := by
  have timed : k.timed = true := by rcases record with rfl | rfl | rfl <;> rfl
  obtain ⟨fresh, run⟩ := tags_of_free (accepted.tagFree timed)
  have room := accepted.room
  simp only [capacityRefusal, record, if_true, Config.maxPortRecords, Config.maxRecords] at room
  by_cases limit : 16 ≤ s.portRecords e.port
  · simp [limit] at room
  · by_cases full : 32 ≤ s.rqt.records.length
    · simp [limit, full] at room
    · exact ⟨by omega, by omega, fresh, run⟩

theorem State.Room.of_rqt {s t : State} {e : Env} (same : t.rqt = s.rqt) (room : s.Room e) : t.Room e := by
  obtain ⟨port, table, fresh, run⟩ := room
  rw [State.portRecords, ← same] at port
  rw [← same] at table fresh run
  exact ⟨port, table, fresh, run⟩

theorem makeRecord_table (e : Env) (work : Work) (cls : Nat) {w : Ctx} (room : w.st.Room e) (law : w.st.tableLaw) :
    (makeRecord e work cls w).st.tableLaw := by
  obtain ⟨length, ports, distinct, run⟩ := law
  unfold State.tableLaw
  rw [makeRecord_records]
  refine ⟨?_, fun p => ?_, ?_, fun x hx r hr onA => ?_⟩
  · simpa using room.table
  · rw [List.countP_append]
    by_cases same : e.port = p
    · have := room.port
      rw [State.portRecords, same] at this
      simpa [same] using this
    · simpa [same] using ports p
  · unfold distinctBy at distinct ⊢
    rw [List.map_append, List.pairwise_append]
    refine ⟨distinct, List.pairwise_singleton _ _, fun x hx y hy => ?_⟩
    obtain ⟨r, hr, rfl⟩ := List.mem_map.mp hx
    rw [List.map_singleton, List.mem_singleton] at hy
    intro same
    obtain ⟨port, tag⟩ := Prod.mk.inj (same.trans hy)
    exact room.fresh r hr port tag
  · rw [makeRecord_frame e work cls w |>.2.2.2.2.2.2.2.1] at hx
    rcases List.mem_append.mp hr with old | new
    · exact run x hx r old onA
    · rw [List.mem_singleton] at new
      subst new
      exact (room.run x hx onA).symm

/-- RUN takes the slot (R162). -/
def State.withRun (s : State) (r : Run) : State :=
  { s with rqt.run := some r, rqt.arrival := s.rqt.arrival + 1, trc.timers.park := none }

theorem withRun_blocks {s : State} (r : Run) (laws : s.blockLaws) : (s.withRun r).blockLaws := laws

theorem withRun_table {s : State} {r : Run} (fresh : ∀ x ∈ s.rqt.records, x.port = .a → x.tag ≠ r.tag) (law : s.tableLaw) :
    (s.withRun r).tableLaw := by
  obtain ⟨length, ports, distinct, -⟩ := law
  refine ⟨length, ports, distinct, fun y hy x hx onA => ?_⟩
  cases hy
  exact fresh x hx onA

theorem reserve_keeps (p : Port) (s : State) : Keeps s (reserve p s) := .of_same (by simp [State.sameBlocks])

/-- The reservation and the reply of an accepted request that joins the table (R189). -/
theorem takenRecord_keeps (e : Env) (st : Status) (results : List Byte) (s : State) :
    Keeps s (e.reply st results ((Ctx.start s).upd (reserve e.port))).st :=
  (reserve_keeps e.port s).trans (reply_keeps e st results ((Ctx.start s).upd (reserve e.port)))

/-- A property that the operations of `Keeps` keep, that survives a record that joins the table, and a run that takes its slot,
survives every accepted request. -/
theorem perform_of_keeps {P : State → Prop} (keeps : ∀ {s t}, Keeps s t → P s → P t)
    (record : ∀ e work cls (w : Ctx), w.st.Room e → P w.st → P (makeRecord e work cls w).st)
    (run : ∀ s r, (∀ x ∈ s.rqt.records, x.port = .a → x.tag ≠ r.tag) → P s → P (s.withRun r))
    {e : Env} {k : Kind} {body : List Byte} {a : Action} {s : State} (accepted : s.Accepts e k body a) (law : P s) :
    P (perform e a s) := by
  have kind := accepted.kind
  cases joins : a.joins with
  | false => exact keeps (perform_keeps accepted joins) law
  | true =>
    have made (work : Work) (cls : Nat) (results : List Byte) (kinds : k = .present ∨ k = .jog ∨ k = .barrier) :
        P (makeRecord e work cls (e.reply .accepted results ((Ctx.start s).upd (reserve e.port)))).st :=
      record e work cls _ ((room_of_accepts accepted kinds).of_rqt (by simp))
        (keeps (takenRecord_keeps e .accepted results s) law)
    cases a with
    | present frame cls mode hold =>
      exact keeps (finish_keeps (examine_keeps _)) (made _ _ _ (.inl kind.symm))
    | jog delta => exact keeps (finish_keeps (examine_keeps _)) (made _ _ _ (.inr (.inl kind.symm)))
    | barrier => exact keeps (finish_keeps (examineBarriers_keeps _ _)) (made _ _ _ (.inr (.inr kind.symm)))
    | run first count cls skip hold =>
      subst kind
      have onA : e.port = .a := by simpa [Action.kind, Kind.permitted] using accepted.permitted
      have fresh := (tags_of_free (accepted.tagFree rfl)).1
      rw [onA] at fresh
      refine keeps (finish_keeps (examine_keeps (Ctx.upd _ _))) (run _ _ ?_
        (keeps (takenRecord_keeps e .accepted (BitVec.ofNat 8 cls :: be 2 (hold.getD 0)) s) law))
      simpa using fresh
    | _ => cases joins

theorem threadedState_table (x y : Byte) {s : State} (law : s.tableLaw) : (onThreadingSuccess x y s).tableLaw := by
  unfold onThreadingSuccess
  split
  case isFalse => exact law
  case isTrue =>
    refine (finish_keeps ((completeTimed_keeps _ _ _ _).trans (examine_keeps _))).table ?_
    simpa [State.tableLaw, threadedState] using law

/-- The law of the request table is one that every command keeps. -/
theorem tableLaw_keptByCommands : KeptByCommands State.tableLaw where
  core _ := .rfl
  reset _ _ _ := lawsHoldAtReset.1
  perform _ _ _ _ _ accepted law := perform_of_keeps Keeps.table (fun e work cls _ => makeRecord_table e work cls)
    (fun _ _ => withRun_table) accepted law
  portReset p s law := (portReset_keeps p (Ctx.start s)).table law
  event c s t event law h := by
    by_cases threads : ∃ x y, c = .threadingSuccess x y
    · obtain ⟨x, y, rfl⟩ := threads
      cases h
      exact threadedState_table x y law
    · exact (event_keeps event (fun x y same => threads ⟨x, y, same⟩) h).table law

/-- Settles O56: every step keeps the law of the request table (`tableLaw_keptByCommands`). -/
theorem tableLawKept : Obligations.TableLawKept := fun _ _ => tableLaw_keptByCommands.step

/-! ### The levels, TRIG and the motion state OFF -/

theorem onThreadingSuccess_blocks (x y : Byte) {s : State} (laws : s.blockLaws) : (onThreadingSuccess x y s).blockLaws := by
  unfold onThreadingSuccess
  split
  case isFalse => exact laws
  case isTrue threading =>
    obtain ⟨⟨fault, halted, unverified, -, almostFull⟩, trig, off, verified, retension, -⟩ := laws
    have stands : s.trc.motion = .off := off.mpr (.inr threading.1)
    refine (finish_keeps ((completeTimed_keeps _ _ _ _).trans (examine_keeps _))).blocks ?_
    rw [setLevel_st]
    refine ⟨⟨?_, halted, ?_, rfl, almostFull⟩, trig, ⟨by simp [threadedState], ?_, ?_, by simp [threadedState]⟩⟩
    · exact fault.trans (by simp [stands, threadedState])
    · exact unverified.trans (by simp [verified (.inr threading.1), threadedState])
    · exact fun _ => rfl
    · intro tensioning
      have := retension tensioning
      rw [stands] at this
      cases this

/-- The laws of the blocks are ones that every command keeps. -/
theorem blockLaws_keptByCommands : KeptByCommands State.blockLaws where
  core s :=
    have trig : s.core.trigLaw ↔ s.trigLaw := by simp [State.trigLaw, State.core]
    and_congr .rfl (and_congr trig .rfl)
  reset _ _ _ :=
    have ⟨_, _, _, _, level, trig, roll, _⟩ := lawsHoldAtReset
    ⟨level, trig, roll⟩
  perform _ _ _ _ _ accepted laws := perform_of_keeps Keeps.blocks (fun e work cls _ _ => makeRecord_blocks e work cls)
    (fun _ r _ => withRun_blocks r) accepted laws
  portReset p s laws := (portReset_keeps p (Ctx.start s)).blocks laws
  event c s t event laws h := by
    by_cases threads : ∃ x y, c = .threadingSuccess x y
    · obtain ⟨x, y, rfl⟩ := threads
      cases h
      exact onThreadingSuccess_blocks x y laws
    · exact (event_keeps event (fun x y same => threads ⟨x, y, same⟩) h).blocks laws

/-- Settles O59: every step keeps the laws of the levels, of TRIG and of the motion state OFF (`blockLaws_keptByCommands`). -/
theorem levelAndTrigLawsKept : Obligations.LevelAndTrigLawsKept := fun _ _ level trig roll h =>
  blockLaws_keptByCommands.step ⟨level, trig, roll⟩ h

end Sys2Proof.Machine
end

section
/-! SUPPORT. The job of the move in flight: what each operation of the transport makes of it (R24 to R31). -/

namespace Sys2Proof.Machine

/-- The job of the move in flight. -/
def State.job (s : State) : Option Job := s.trc.move.map (·.job)

theorem job_of_move {s : State} {m : Move} (move : s.trc.move = some m) : s.job = some m.job := by
  rw [State.job, move, Option.map_some]

theorem job_eq_none {s : State} : s.job = none ↔ s.trc.move = none := Option.map_eq_none_iff

theorem job_of_same {s t : State} (same : t.trc.move = s.trc.move) : t.job = s.job := by rw [State.job, same]; rfl

theorem setMotion_job (x : Motion) (s : State) : (setMotion x s).job = s.job := rfl

section legs
variable (m : Move) (s : State)

theorem startCreep_job : (startCreep m s).job = some m.job := by
  unfold startCreep
  split <;> rfl

theorem approachLeg_job (cls : SpeedClass) (setDir : Bool) : (approachLeg cls setDir m s).job = some m.job := by
  unfold approachLeg
  dsimp only
  split
  · exact startCreep_job m s
  · split <;> rfl

theorem directLeg_job (cls : SpeedClass) (setDir : Bool) : (directLeg cls setDir m s).job = some m.job := by
  unfold directLeg
  split
  · rfl
  · split <;> rfl

theorem nextLeg_job (cls : SpeedClass) (setDir : Bool) : (nextLeg cls setDir m s).job = some m.job := by
  unfold nextLeg
  split
  · exact directLeg_job m s cls setDir
  all_goals exact approachLeg_job m s cls setDir

end legs

/-! ### Progress, corrections and retargets (R21, R24, R30) -/

section progress
variable {m : Move} {s : State}

theorem creepPhase_job (t : Nat) : (creepPhase t s).job = s.job := rfl

theorem progressTo_job (e : Nat) : (progressTo m e s).job = s.job := by
  unfold progressTo
  split
  · rfl
  · split
    · rfl
    · split <;> rfl

theorem leaveDecel_job (cls : SpeedClass) : (leaveDecel cls s).job = s.job := by
  unfold leaveDecel
  split <;> rfl

theorem rephase_job (e : Nat) : (rephase m e s).job = s.job := by
  unfold rephase
  split
  · exact leaveDecel_job _
  · rfl

variable (job : s.job = some m.job)
include job

theorem progressChange_job (cp : Nat) (second : SpeedClass) : (progressChange m cp second s).job = some m.job := by
  unfold progressChange
  dsimp only
  split
  · rfl
  · split
    · exact job
    · split <;> exact job

theorem progressOpen_job : (progressOpen m s).job = some m.job := by
  unfold progressOpen
  extract_lets room u
  split
  · rfl
  · split
    · exact progressChange_job job _ _
    · split <;> exact job

end progress

theorem progress_job (s : State) : (progress s).job = s.job := by
  unfold progress
  split
  · rfl
  · rename_i m move
    have job := job_of_move move
    split
    · rfl
    · split
      · split <;> rfl
      · split
        · exact progressTo_job _
        · exact progressTo_job _
        · exact progressTo_job _
        · exact (progressOpen_job job).trans job.symm
        · exact (progressOpen_job job).trans job.symm
        · split <;> rfl

theorem rephaseOpen_job (m : Move) (s : State) : (rephaseOpen m s).job = some m.job := progressOpen_job rfl

theorem retargetTravel_job (m : Move) (s : State) : (retargetTravel m s).job = some m.job := by
  unfold retargetTravel
  extract_lets a c ahead
  split
  · exact rephase_job _
  · rfl

theorem retargetCreep_job (m : Move) (s : State) : (retargetCreep m s).job = some m.job := by
  unfold retargetCreep
  split <;> rfl

theorem rephaseLeg_job (raised : Bool) (s : State) : (rephaseLeg raised s).job = s.job := by
  unfold rephaseLeg
  split
  · rfl
  · rename_i m move
    have job := job_of_move move
    split
    · rfl
    · split
      · unfold rephaseCreep
        split
        · exact (retargetCreep_job m s).trans job.symm
        · rfl
      · split
        · exact rephase_job _
        · exact rephase_job _
        · exact rephase_job _
        · exact (rephaseOpen_job m s).trans job.symm
        · exact (rephaseOpen_job m s).trans job.symm
        · rfl

theorem applyCorrection_job (d : Int) (s : State) : (applyCorrection d s).job = s.job := by
  unfold applyCorrection
  exact rephaseLeg_job _ _

/-- A retarget leaves no move where there was none, and makes no other job than the one it is given. -/
theorem retarget_job (job : Job) (t : Nat) (s : State) :
    (retarget job t s).job = s.job ∨ s.job.isSome = true ∧ (retarget job t s).job = some job := by
  cases move : s.trc.move with
  | none =>
    left
    simp only [retarget, move]
  | some m =>
    have moves : s.job.isSome = true := by rw [job_of_move move]; rfl
    simp only [retarget, move]
    split
    · exact .inl rfl
    · right
      refine ⟨moves, ?_⟩
      split
      · rfl
      · split
        · split
          · rfl
          · exact approachLeg_job _ _ _ _
        case _ | _ | _ | _ =>
          split
          · rfl
          · split
            · exact retargetCreep_job _ _
            · exact retargetTravel_job _ _
        all_goals rfl

/-! ### Starting a move (R23, R24) -/

theorem startMove_job (m : Move) (s : State) : (startMove m s).job = some m.job := by
  unfold startMove
  dsimp only
  split
  · exact progress_job _
  · exact nextLeg_job _ _ _ _

theorem orderMove_job (m : Move) (s : State) : (orderMove m s).job = some m.job := by
  unfold orderMove
  split
  · rfl
  · exact startMove_job m s

/-- GTU's orders are for its grant in hand, never a JOG (R127, R139). -/
theorem orderFrame_job (g : InHand) (s : State) : ∃ j, (orderFrame g s).job = some j ∧ j ≠ .jog := by
  unfold orderFrame
  split
  · exact ⟨_, orderMove_job _ _, by simp [targetMove]⟩
  · split
    · exact ⟨_, orderMove_job _ _, by simp [openMove]⟩
    · split
      · exact ⟨_, orderMove_job _ _, by simp [openMove]⟩
      · exact ⟨_, orderMove_job _ _, by simp [targetMove]⟩

theorem afterLeg_job {m : Move} {s : State} (move : s.trc.move = some m) : (afterLeg m s).job = some m.job := by
  have job := job_of_move move
  unfold afterLeg
  split
  · exact nextLeg_job _ _ _ _
  · split
    · exact directLeg_job _ _ _ _
    · rfl
  · split
    · exact approachLeg_job _ _ _ _
    · exact startCreep_job _ _
  · split
    · exact approachLeg_job _ _ _ _
    · exact startCreep_job _ _
  all_goals exact job

theorem settleRetry_job (m : Move) (s : State) : (settleRetry m s).job = some m.job := nextLeg_job _ _ _ _

end Sys2Proof.Machine
end

section
/-! SUPPORT. The law of the grant and the operations on records and the run (R116, R117, R134, R163, R171, R173, R175), and what the
laws of the grant and of the gate come to together. -/

namespace Sys2Proof.Machine

/-! ### The grant law -/

/-- What is granted is kept, or nothing is granted any more. -/
def State.releases (s t : State) : Prop :=
  s.grantLaw → t.grantLaw ∧ (t.rqt.grant = s.rqt.grant ∨ t.rqt.grant = .none)

theorem releases_refl (s : State) : s.releases s := fun law => ⟨law, .inl rfl⟩

theorem State.releases.trans {s t u : State} (h : s.releases t) (k : t.releases u) : s.releases u := by
  intro law
  obtain ⟨law', grant⟩ := h law
  obtain ⟨law'', grant'⟩ := k law'
  exact ⟨law'', grant'.elim (fun same => same ▸ grant) .inr⟩

theorem State.releases.none {s t : State} (h : s.releases t) (law : s.grantLaw) (none : s.rqt.grant = .none) :
    t.rqt.grant = .none := (h law).2.elim (·.trans none) id

theorem grantLaw_of_same {s t : State}
    (same : t.rqt.records = s.rqt.records ∧ t.rqt.run = s.rqt.run ∧ t.rqt.grant = s.rqt.grant) (law : s.grantLaw) :
    t.grantLaw := by
  unfold State.grantLaw at law ⊢
  rw [same.1, same.2.1, same.2.2]
  exact law

theorem releases_of_same {s t : State}
    (same : t.rqt.records = s.rqt.records ∧ t.rqt.run = s.rqt.run ∧ t.rqt.grant = s.rqt.grant) : s.releases t :=
  fun law => ⟨grantLaw_of_same same law, .inl same.2.2⟩

theorem releases_ite {s : State} {p : Prop} [Decidable p] {a b : Ctx} (h : s.releases a.st) (k : s.releases b.st) :
    s.releases (if p then a else b).st := by
  split
  · exact h
  · exact k

theorem grantLaw_waiting {s : State} (law : s.grantLaw) {r : Record} (mem : r ∈ s.rqt.records)
    (free : s.rqt.grant ≠ .record r.port r.tag) : r.state = .waiting := by
  by_contra busy
  exact free ((law.2.1 r mem).mp busy)

/-- With nothing granted every record waits and the run is READY or SUSPENDED. -/
theorem grantLaw_of_none {s : State} (none : s.rqt.grant = .none) :
    s.grantLaw ↔ (∀ r ∈ s.rqt.records, r.state = .waiting) ∧
      ∀ x, s.rqt.run = some x → x.state = .ready ∨ x.state = .suspended := by
  have states (x : Run) : ¬(x.state = .granted ∨ x.state = .atGate) ↔ x.state = .ready ∨ x.state = .suspended := by
    cases x.state <;> simp
  unfold State.grantLaw
  simp only [none, reduceCtorEq, iff_false, ne_eq, not_not, false_implies, implies_true, and_true, states, true_and]
  exact ⟨fun h => h.2, fun h => ⟨fun r mem _ => h.1 r mem, h⟩⟩

/-! ### Completions (R117, R134, R173) -/

theorem removeRecord_releases (p : Port) (t : Byte) (s : State) : s.releases (removeRecord p t s) := by
  rintro ⟨barrier, granted, holder, run, slot⟩
  by_cases held : s.rqt.grant = .record p t
  · have none : (removeRecord p t s).rqt.grant = .none := by simp [removeRecord, held]
    refine ⟨(grantLaw_of_none none).mpr ⟨fun r mem => ?_, fun x hx => ?_⟩, .inr none⟩
    · obtain ⟨mem, other⟩ := List.mem_filter.mp mem
      by_contra busy
      have same := (granted r mem).mp busy
      rw [held] at same
      cases same
      simp at other
    · have idle := (run x (by simpa [removeRecord] using hx)).not.mpr (by rw [held]; simp)
      cases state : x.state <;> simp_all
  · have same : (removeRecord p t s).rqt.grant = s.rqt.grant := by simp [removeRecord, held]
    refine ⟨⟨fun r mem => barrier r (List.mem_of_mem_filter mem), fun r mem => ?_, fun q u grant => ?_, ?_, ?_⟩, .inl same⟩
    · rw [same]
      exact granted r (List.mem_of_mem_filter mem)
    · rw [same] at grant
      obtain ⟨r, mem, port, tag⟩ := holder q u grant
      refine ⟨r, List.mem_filter.mpr ⟨mem, ?_⟩, port, tag⟩
      simp only [Bool.not_eq_true', decide_eq_false_iff_not]
      rintro ⟨rfl, rfl⟩
      exact held (by rw [grant, port, tag])
    · rw [same]; exact run
    · rw [same]; exact slot

section records
variable (w : Ctx)

theorem completeRecordOnly_releases (r : Record) (o : OutcomeCode) : w.st.releases (completeRecordOnly r o w).st := by
  have removed := removeRecord_releases r.port r.tag (complete r.port r.tag r.work.code o (w.st.recordResults r) w).st
  refine .trans (releases_of_same (by simp)) (removed.trans (releases_of_same ?_))
  simp [completeRecordOnly]

theorem completeRecordOnly_grant (r : Record) (o : OutcomeCode) :
    (completeRecordOnly r o w).st.rqt.grant =
      if w.st.rqt.grant = .record r.port r.tag then .none else w.st.rqt.grant := by
  simp [completeRecordOnly, removeRecord]

theorem completeRecordOnly_records (r : Record) (o : OutcomeCode) :
    (completeRecordOnly r o w).st.rqt.records =
      w.st.rqt.records.filter fun x => !decide (x.port = r.port ∧ x.tag = r.tag) := by
  simp [completeRecordOnly, removeRecord]

theorem examineBarriersN_releases (n : Nat) (p : Port) : w.st.releases (examineBarriersN n p w).st := by
  induction n generalizing w with
  | zero => exact releases_refl _
  | succ n ih =>
    unfold examineBarriersN
    split
    · exact (completeRecordOnly_releases w _ _).trans (ih _)
    · exact releases_refl _

theorem completeRecord_releases (r : Record) (o : OutcomeCode) : w.st.releases (completeRecord r o w).st :=
  (completeRecordOnly_releases w r o).trans (examineBarriersN_releases _ _ _)

/-- The grant falls with the record that holds it. -/
theorem completeRecord_grant (law : w.st.grantLaw) (r : Record) (o : OutcomeCode)
    (held : w.st.rqt.grant = .record r.port r.tag ∨ w.st.rqt.grant = .none) :
    (completeRecord r o w).st.rqt.grant = .none := by
  refine (examineBarriersN_releases _ _ _).none (completeRecordOnly_releases w r o law).1 ?_
  rw [completeRecordOnly_grant]
  rcases held with held | held <;> simp [held]

theorem completeTag_releases (p : Port) (t : Byte) (o : OutcomeCode) : w.st.releases (completeTag p t o w).st := by
  unfold completeTag
  split
  · exact completeRecord_releases _ _ _
  · exact releases_refl _

theorem completeTag_grant (law : w.st.grantLaw) {p : Port} {t : Byte} (o : OutcomeCode)
    (held : w.st.rqt.grant = .record p t) : (completeTag p t o w).st.rqt.grant = .none := by
  obtain ⟨r, mem, port, tag⟩ := law.2.2.1 p t held
  unfold completeTag
  split
  · rename_i x found
    have key := List.find?_some found
    simp only [decide_eq_true_eq] at key
    exact completeRecord_grant w law x o (.inl (by rw [held, key.1, key.2]))
  · rename_i absent
    exact absurd tag (findRecord_eq_none.mp absent r mem port)

theorem removeRun_releases (s : State) : s.releases (removeRun s) := by
  rintro ⟨barrier, granted, holder, run, slot⟩
  by_cases held : s.rqt.grant = .run
  · have none : (removeRun s).rqt.grant = .none := by simp [removeRun, held]
    refine ⟨(grantLaw_of_none none).mpr ⟨fun r mem => ?_, nofun⟩, .inr none⟩
    by_contra busy
    have := (granted r mem).mp busy
    rw [held] at this
    cases this
  · have same : (removeRun s).rqt.grant = s.rqt.grant := by simp [removeRun, held]
    refine ⟨⟨barrier, ?_, ?_, nofun, fun h => ?_⟩, .inl same⟩
    · rw [same]; exact granted
    · rw [same]; exact holder
    · rw [same] at h
      exact absurd h held

theorem completeRunOnly_releases (o : OutcomeCode) : w.st.releases (completeRunOnly o w).st := by
  unfold completeRunOnly
  split
  · exact releases_refl _
  · exact .trans (releases_of_same (by simp)) (removeRun_releases _)

theorem completeRunOnly_grant (law : w.st.grantLaw) (o : OutcomeCode)
    (held : w.st.rqt.grant = .run ∨ w.st.rqt.grant = .none) : (completeRunOnly o w).st.rqt.grant = .none := by
  rcases held with held | held
  · cases run : w.st.rqt.run with
    | none =>
      have := law.2.2.2.2 held
      rw [run] at this
      cases this
    | some r => simp [completeRunOnly, run, removeRun, held]
  · exact (completeRunOnly_releases w o).none law held

theorem completeRun_releases (o : OutcomeCode) : w.st.releases (completeRun o w).st :=
  (completeRunOnly_releases w o).trans (examineBarriersN_releases _ _ _)

theorem completeRun_grant (law : w.st.grantLaw) (o : OutcomeCode)
    (held : w.st.rqt.grant = .run ∨ w.st.rqt.grant = .none) : (completeRun o w).st.rqt.grant = .none :=
  (examineBarriersN_releases _ _ _).none (completeRunOnly_releases w o law).1 (completeRunOnly_grant w law o held)

end records

/-! ### The grant returns (R116, R171, R175) -/

theorem setRecState_mem {p : Port} {t : Byte} {x : RecState} {s : State} {r : Record}
    (mem : r ∈ (setRecState p t x s).rqt.records) :
    ∃ y ∈ s.rqt.records, r.port = y.port ∧ r.tag = y.tag ∧ r.work = y.work ∧
      r.state = if y.port = p ∧ y.tag = t then x else y.state := by
  obtain ⟨y, old, rfl⟩ := List.mem_map.mp mem
  refine ⟨y, old, ?_⟩
  split <;> exact ⟨rfl, rfl, rfl, rfl⟩

theorem returnGrant_releases (s : State) : s.releases (returnGrant s) ∧ (returnGrant s).rqt.grant = .none := by
  have none : (returnGrant s).rqt.grant = .none := by unfold returnGrant; split <;> rfl
  refine ⟨fun ⟨barrier, granted, holder, run, slot⟩ => ⟨(grantLaw_of_none none).mpr ?_, .inr none⟩, none⟩
  have idle {x : Run} (hx : s.rqt.run = some x) (other : s.rqt.grant ≠ .run) : x.state = .ready ∨ x.state = .suspended := by
    have := (run x hx).not.mpr other
    cases state : x.state <;> simp_all
  have waits {r : Record} (mem : r ∈ s.rqt.records) (other : s.rqt.grant ≠ .record r.port r.tag) : r.state = .waiting := by
    by_contra busy
    exact other ((granted r mem).mp busy)
  cases held : s.rqt.grant with
  | record p t =>
    simp only [returnGrant, held]
    refine ⟨fun r mem => ?_, fun x hx => idle hx (by simp [held])⟩
    obtain ⟨y, mem, -, -, -, state⟩ := setRecState_mem mem
    by_cases same : y.port = p ∧ y.tag = t
    · rw [state, if_pos same]
    · rw [state, if_neg same]
      exact waits mem fun h => same (by rw [held] at h; cases h; exact ⟨rfl, rfl⟩)
  | run =>
    simp only [returnGrant, held]
    refine ⟨fun r mem => waits mem (by simp [held]), fun x hx => ?_⟩
    obtain ⟨y, -, rfl⟩ := Option.map_eq_some_iff.mp hx
    exact .inl rfl
  | verify =>
    simp only [returnGrant, held]
    exact ⟨fun r mem => waits mem (by simp [held]), fun x hx => idle hx (by simp [held])⟩
  | none =>
    simp only [returnGrant, held]
    exact ⟨fun r mem => waits mem (by simp [held]), fun x hx => idle hx (by simp [held])⟩

/-- An operation on the run that keeps its state. -/
theorem releases_of_run {s t : State} (f : Run → Run) (state : ∀ r, (f r).state = r.state) (run : t.rqt.run = s.rqt.run.map f)
    (same : t.rqt.records = s.rqt.records ∧ t.rqt.grant = s.rqt.grant) : s.releases t := by
  rintro ⟨barrier, granted, holder, running, slot⟩
  refine ⟨?_, .inl same.2⟩
  unfold State.grantLaw
  rw [same.1, same.2]
  refine ⟨barrier, granted, holder, fun x hx => ?_, fun h => ?_⟩
  · rw [run] at hx
    obtain ⟨y, hy, rfl⟩ := Option.map_eq_some_iff.mp hx
    rw [state]
    exact running y hy
  · rw [run, Option.isSome_map]
    exact slot h

theorem chooseRunFrame_releases (s : State) : s.releases (chooseRunFrame s) :=
  releases_of_run _ (fun r => by split <;> rfl) rfl ⟨rfl, rfl⟩

/-- The run becomes READY or SUSPENDED, and nothing is granted. -/
theorem freeRun_grantLaw {s t : State} {x : RunState} (rest : x = .ready ∨ x = .suspended)
    (waits : ∀ r ∈ s.rqt.records, r.state = .waiting) (records : t.rqt.records = s.rqt.records)
    (run : t.rqt.run = s.rqt.run.map fun r => { r with state := x }) (none : t.rqt.grant = .none) : t.grantLaw := by
  refine (grantLaw_of_none none).mpr ⟨by rw [records]; exact waits, fun y hy => ?_⟩
  rw [run] at hy
  obtain ⟨z, -, rfl⟩ := Option.map_eq_some_iff.mp hy
  exact rest

theorem grantLaw_waits {s : State} (law : s.grantLaw) (other : ∀ p t, s.rqt.grant ≠ .record p t) :
    ∀ r ∈ s.rqt.records, r.state = .waiting := fun _ mem => grantLaw_waiting law mem (other _ _)

theorem runAdvance_grant (w : Ctx) (n : Nat) (law : w.st.grantLaw) (held : w.st.rqt.grant = .run) :
    (runAdvance n w).st.grantLaw ∧ (runAdvance n w).st.rqt.grant = .none := by
  unfold runAdvance
  cases run : w.st.rqt.run with
  | none =>
    have := law.2.2.2.2 held
    rw [run] at this
    cases this
  | some r =>
    dsimp only
    generalize hu : (w.upd fun s =>
      { s with rqt.run := some { r with next := n + 1, remaining := r.remaining.map (· - 1) } }) = u
    have advanced : w.st.releases u.st := by
      rw [← hu]
      exact releases_of_run (fun x => { x with next := n + 1, remaining := r.remaining.map (· - 1) }) (fun _ => rfl)
        (by simp [run]) ⟨rfl, rfl⟩
    have chosen := advanced.trans (chooseRunFrame_releases u.st)
    have held' : u.st.rqt.grant = .run := by rw [← hu]; exact held
    have complete (v : Ctx) (kept : w.st.releases v.st) (same : v.st.rqt.grant = .run) :
        (completeRun .complete v).st.grantLaw ∧ (completeRun .complete v).st.rqt.grant = .none :=
      ⟨(completeRun_releases v _ (kept law).1).1, completeRun_grant v (kept law).1 _ (.inl same)⟩
    split
    · exact complete u advanced held'
    · split
      · exact complete (u.upd chooseRunFrame) chosen held'
      · have waits := grantLaw_waits (chosen law).1 fun p t => by
          rw [show (chooseRunFrame u.st).rqt.grant = .run from held']
          simp
        exact ⟨freeRun_grantLaw (.inl rfl) waits rfl rfl rfl, rfl⟩

end Sys2Proof.Machine
end

section
/-! SUPPORT. The laws of the grant and of the gate together: what an operation must leave alone to keep them, and the states in which
nothing is granted (R111, R126, R137, R139 to R144, R151). -/

namespace Sys2Proof.Machine

/-- The law of the gate, with the job of the move in flight in the place of the move. -/
structure State.Gated (s : State) : Prop where
  hand : s.gtu.inHand.isSome = true ↔ s.gtu.phase = .positioning ∨ s.gtu.phase = .settling ∨ s.gtu.phase = .focusing
  shown : s.gtu.presentation.isSome = true ↔ s.gtu.phase = .presented ∨ s.gtu.phase = .exposing
  handNamed : ∀ g, s.gtu.inHand = some g → s.rqt.grant.names g.holder
  shownNamed : ∀ x, s.gtu.presentation = some x → s.rqt.grant.names x.holder
  record : ∀ r ∈ s.rqt.records, r.state ≠ .waiting → (r.state = .atGate ↔ s.gtu.presentation.isSome = true)
  run : ∀ x, s.rqt.run = some x → x.state = .granted ∨ x.state = .atGate →
    (x.state = .atGate ↔ s.gtu.presentation.isSome = true)
  rest : s.gtu.phase = .focusing ∨ s.gtu.phase = .presented ∨ s.gtu.phase = .exposing → s.job = none
  jog : s.job = some .jog → s.gtu.inHand = none
  loaded : s.gtu.phase ≠ .idle → s.trc.roll = .loaded

theorem gated_iff {s : State} : s.Gated ↔ s.gateLaw := by
  have jog : (s.job = some .jog → s.gtu.inHand = none) ↔ ∀ m, s.trc.move = some m → m.job = .jog → s.gtu.inHand = none := by
    simp [State.job]
  constructor
  · intro h
    exact ⟨h.hand, h.shown, h.handNamed, h.shownNamed, h.record, h.run, fun p => job_eq_none.mp (h.rest p),
      jog.mp h.jog, h.loaded⟩
  · rintro ⟨hand, shown, handNamed, shownNamed, record, run, rest, jogs, loaded⟩
    exact ⟨hand, shown, handNamed, shownNamed, record, run, fun p => job_eq_none.mpr (rest p), jog.mpr jogs, loaded⟩

/-- The laws of the grant and of the gate. -/
structure State.Held (s : State) : Prop where
  grant : s.grantLaw
  gate : s.Gated

/-- Nothing is granted, and the gate is IDLE. -/
structure State.Free (s : State) : Prop where
  law : s.grantLaw
  grant : s.rqt.grant = .none
  phase : s.gtu.phase = .idle
  hand : s.gtu.inHand = none
  shown : s.gtu.presentation = none

/-- The gate has neither a grant in hand nor a presentation. -/
def State.gateIdle (s : State) : Prop := s.gtu.phase = .idle ∧ s.gtu.inHand = none ∧ s.gtu.presentation = none

theorem State.Free.gateIdle {s : State} (h : s.Free) : s.gateIdle := ⟨h.phase, h.hand, h.shown⟩

theorem State.Free.of_idle {s : State} (law : s.grantLaw) (grant : s.rqt.grant = .none) (idle : s.gateIdle) : s.Free :=
  ⟨law, grant, idle.1, idle.2.1, idle.2.2⟩

/-- Where the gate is IDLE, the laws are the grant law, and that what is granted is not AT-GATE. -/
theorem held_of_idle {s : State} (law : s.grantLaw) (idle : s.gateIdle)
    (record : ∀ r ∈ s.rqt.records, r.state ≠ .atGate) (run : ∀ x, s.rqt.run = some x → x.state ≠ .atGate) : s.Held := by
  obtain ⟨phase, hand, shown⟩ := idle
  refine ⟨law, ⟨?_, ?_, ?_, ?_, ?_, ?_, ?_, fun _ => hand, fun h => absurd phase h⟩⟩
  · simp [hand, phase]
  · simp [shown, phase]
  · simp [hand]
  · simp [shown]
  · exact fun r mem _ => ⟨fun h => absurd h (record r mem), by simp [shown]⟩
  · exact fun x hx _ => ⟨fun h => absurd h (run x hx), by simp [shown]⟩
  · simp [phase]

theorem State.Free.held {s : State} (h : s.Free) : s.Held := by
  obtain ⟨waits, rests⟩ := (grantLaw_of_none h.grant).mp h.law
  refine held_of_idle h.law h.gateIdle (fun r mem => by simp [waits r mem]) fun x hx => ?_
  rcases rests x hx with h | h <;> simp [h]

section held
variable {s : State} (h : s.Held)
include h

theorem State.Held.idle_of_phase (phase : s.gtu.phase = .idle) : s.gateIdle := by
  refine ⟨phase, ?_, ?_⟩
  · simpa [phase] using h.gate.hand
  · simpa [phase] using h.gate.shown

theorem State.Held.idle_of_none (hand : s.gtu.inHand = none) (shown : s.gtu.presentation = none) : s.gateIdle := by
  have hands := h.gate.hand
  have shows := h.gate.shown
  refine ⟨?_, hand, shown⟩
  cases phase : s.gtu.phase <;> simp_all

/-- What is in hand or presented belongs to a record or the run that is granted. -/
theorem State.Held.idle_of_grant (grant : s.rqt.grant = .none ∨ s.rqt.grant = .verify) : s.gateIdle := by
  have other (holder : Holder) : ¬s.rqt.grant.names holder := by
    rcases grant with grant | grant <;> cases holder <;> simp [grant, Grant.names]
  refine h.idle_of_none ?_ ?_
  · by_contra some
    obtain ⟨g, hg⟩ := Option.ne_none_iff_exists'.mp some
    exact other _ (h.gate.handNamed g hg)
  · by_contra some
    obtain ⟨x, hx⟩ := Option.ne_none_iff_exists'.mp some
    exact other _ (h.gate.shownNamed x hx)

theorem State.Held.free (grant : s.rqt.grant = .none) : s.Free := .of_idle h.grant grant (h.idle_of_grant (.inl grant))

/-- While a move is in flight there is no presentation, and focus is not being made. -/
theorem State.Held.moving (moves : s.job ≠ none) :
    s.gtu.presentation = none ∧ s.gtu.phase ≠ .focusing ∧ s.gtu.phase ≠ .presented ∧ s.gtu.phase ≠ .exposing := by
  have rest := fun p => moves (h.gate.rest p)
  have shown := h.gate.shown
  refine ⟨?_, fun p => rest (.inl p), fun p => rest (.inr (.inl p)), fun p => rest (.inr (.inr p))⟩
  by_contra some
  rw [Option.isSome_iff_ne_none] at shown
  exact rest (.inr (shown.mp some))

/-- A grant in hand excludes a presentation. -/
theorem State.Held.unshown (hand : s.gtu.inHand ≠ none) : s.gtu.presentation = none := by
  have hands := h.gate.hand
  have shows := h.gate.shown
  rw [Option.isSome_iff_ne_none] at hands shows
  by_contra some
  rcases hands.mp hand with p | p | p <;> simp [p, some] at shows

end held

/-! ### Operations that leave the gate alone -/

/-- The job of the move may change where there is one, but not into a JOG. -/
def State.jobKept (s t : State) : Prop := (s.job = none → t.job = none) ∧ (t.job = some .jog → s.job = some .jog)

theorem jobKept_of_eq {s t : State} (same : t.job = s.job) : s.jobKept t := ⟨same.trans, same.symm.trans⟩

theorem jobKept_of_none {s t : State} (none : t.job = none) : s.jobKept t := ⟨fun _ => none, by rw [none]; nofun⟩

theorem retarget_jobKept {job : Job} (other : job ≠ .jog) (t : Nat) (s : State) : s.jobKept (retarget job t s) := by
  rcases retarget_job job t s with same | ⟨moves, made⟩
  · exact jobKept_of_eq same
  · refine ⟨fun none => by simp [none] at moves, fun jog => ?_⟩
    rw [made, Option.some_inj] at jog
    exact absurd jog other

/-- What the laws of the grant and of the gate speak of, but for the move. -/
def State.sameGate (s t : State) : Prop :=
  t.rqt.records = s.rqt.records ∧ t.rqt.run = s.rqt.run ∧ t.rqt.grant = s.rqt.grant ∧ t.gtu.phase = s.gtu.phase ∧
  t.gtu.inHand = s.gtu.inHand ∧ t.gtu.presentation = s.gtu.presentation ∧ t.trc.roll = s.trc.roll

theorem State.Held.of_gate {s t : State} (h : s.Held) (job : s.jobKept t) (same : s.sameGate t) : t.Held := by
  obtain ⟨law, hand, shown, handNamed, shownNamed, record, run, rest, jog, loaded⟩ := h
  obtain ⟨e1, e2, e3, e4, e5, e6, e7⟩ := same
  refine ⟨grantLaw_of_same ⟨e1, e2, e3⟩ law, ?_, ?_, ?_, ?_, ?_, ?_, ?_, ?_, ?_⟩
  · rw [e4, e5]; exact hand
  · rw [e4, e6]; exact shown
  · rw [e3, e5]; exact handNamed
  · rw [e3, e6]; exact shownNamed
  · rw [e1, e6]; exact record
  · rw [e2, e6]; exact run
  · rw [e4]; exact fun p => job.1 (rest p)
  · rw [e5]; exact fun p => jog (job.2 p)
  · rw [e4, e7]; exact loaded

theorem State.Held.of_same {s t : State} (h : s.Held) (same : s.sameGate t ∧ t.trc.move = s.trc.move) : t.Held :=
  h.of_gate (jobKept_of_eq (job_of_same same.2)) same.1

theorem State.Free.of_same {s t : State} (h : s.Free) (same : s.sameGate t) : t.Free := by
  obtain ⟨law, grant, phase, hand, shown⟩ := h
  obtain ⟨e1, e2, e3, e4, e5, e6, -⟩ := same
  exact ⟨grantLaw_of_same ⟨e1, e2, e3⟩ law, e3.trans grant, e4.trans phase, e5.trans hand, e6.trans shown⟩

/-- Completions that leave a free gate alone. -/
theorem State.Free.of_releases {s t : State} (h : s.Free) (releases : s.releases t)
    (same : t.gtu.phase = s.gtu.phase ∧ t.gtu.inHand = s.gtu.inHand ∧ t.gtu.presentation = s.gtu.presentation) : t.Free :=
  ⟨(releases h.law).1, releases.none h.law h.grant, same.1.trans h.phase, same.2.1.trans h.hand, same.2.2.trans h.shown⟩

theorem held_ite {p : Prop} [Decidable p] {a b : Ctx} (h : a.st.Held) (k : b.st.Held) : (if p then a else b).st.Held := by
  split
  · exact h
  · exact k

end Sys2Proof.Machine
end

section
/-! SUPPORT. The laws of the grant and of the gate over completions, presentations, focus and exposures (R117, R134, R142 to R158). -/

namespace Sys2Proof.Machine

/-! ### Completions of what is not granted -/

/-- The gate as a whole, and what else its law speaks of. -/
def State.gateStays (s t : State) : Prop :=
  t.gtu.phase = s.gtu.phase ∧ t.gtu.inHand = s.gtu.inHand ∧ t.gtu.presentation = s.gtu.presentation ∧
  t.trc.roll = s.trc.roll ∧ t.trc.move = s.trc.move

theorem State.Held.of_fewer {s t : State} (h : s.Held) (law : t.grantLaw)
    (records : ∀ r ∈ t.rqt.records, r ∈ s.rqt.records) (run : ∀ x, t.rqt.run = some x → s.rqt.run = some x)
    (grant : t.rqt.grant = s.rqt.grant) (same : s.gateStays t) : t.Held := by
  obtain ⟨-, hand, shown, handNamed, shownNamed, record, running, rest, jog, loaded⟩ := h
  obtain ⟨e4, e5, e6, e7, e8⟩ := same
  have job := job_of_same e8
  refine ⟨law, ?_, ?_, ?_, ?_, ?_, ?_, ?_, ?_, ?_⟩
  · rw [e4, e5]; exact hand
  · rw [e4, e6]; exact shown
  · rw [grant, e5]; exact handNamed
  · rw [grant, e6]; exact shownNamed
  · rw [e6]; exact fun r mem => record r (records r mem)
  · rw [e6]; exact fun x hx => running x (run x hx)
  · rw [e4, job]; exact rest
  · rw [e5, job]; exact jog
  · rw [e4, e7]; exact loaded

section completions
variable {w : Ctx} (h : w.st.Held)
include h

theorem completeRecordOnly_held {r : Record} (other : w.st.rqt.grant ≠ .record r.port r.tag) (o : OutcomeCode) :
    (completeRecordOnly r o w).st.Held ∧ (completeRecordOnly r o w).st.rqt.grant = w.st.rqt.grant := by
  have grant : (completeRecordOnly r o w).st.rqt.grant = w.st.rqt.grant := by
    rw [completeRecordOnly_grant, if_neg other]
  refine ⟨h.of_fewer (completeRecordOnly_releases w r o h.grant).1 (fun x mem => ?_) (fun x hx => ?_) grant ?_, grant⟩
  · rw [completeRecordOnly_records] at mem
    exact List.mem_of_mem_filter mem
  · simpa using hx
  · simp [State.gateStays]

theorem examineBarriersN_held (n : Nat) (p : Port) : (examineBarriersN n p w).st.Held := by
  induction n generalizing w with
  | zero => exact h
  | succ n ih =>
    unfold examineBarriersN
    split
    · rename_i r found
      have barrier := List.find?_some found
      simp only [State.barrierFree, Bool.and_eq_true, decide_eq_true_eq] at barrier
      have mem := List.mem_of_find?_eq_some found
      have waits := h.grant.1 r mem barrier.1.1.2
      exact ih (completeRecordOnly_held h (fun held => (h.grant.2.1 r mem).mpr held waits) _).1
    · exact h

theorem examineBarriers_held (p : Port) : (examineBarriers p w).st.Held := examineBarriersN_held h _ p

theorem completeRecord_held {r : Record} (other : w.st.rqt.grant ≠ .record r.port r.tag) (o : OutcomeCode) :
    (completeRecord r o w).st.Held := examineBarriers_held (completeRecordOnly_held h other o).1 _

theorem completeRunOnly_held (other : w.st.rqt.grant ≠ .run) (o : OutcomeCode) :
    (completeRunOnly o w).st.Held ∧ (completeRunOnly o w).st.rqt.grant = w.st.rqt.grant := by
  cases run : w.st.rqt.run with
  | none =>
    have same : completeRunOnly o w = w := by simp only [completeRunOnly, run]
    rw [same]
    exact ⟨h, rfl⟩
  | some r =>
    have grant : (completeRunOnly o w).st.rqt.grant = w.st.rqt.grant := by
      simp [completeRunOnly, run, removeRun, other]
    refine ⟨h.of_fewer (completeRunOnly_releases w o h.grant).1 ?_ ?_ grant (by simp [State.gateStays]), grant⟩
    · simp
    · simp [completeRunOnly, run, removeRun]

theorem completeRun_held (other : w.st.rqt.grant ≠ .run) (o : OutcomeCode) : (completeRun o w).st.Held :=
  examineBarriers_held (completeRunOnly_held h other o).1 _

end completions

/-! ### The grant ends with the gate IDLE -/

section ends
variable {w : Ctx} (law : w.st.grantLaw) (idle : w.st.gateIdle)
include law idle

theorem completeTag_free {p : Port} {t : Byte} (o : OutcomeCode) (held : w.st.rqt.grant = .record p t) :
    (completeTag p t o w).st.Free :=
  .of_idle (completeTag_releases w p t o law).1 (completeTag_grant w law o held) (by simpa [State.gateIdle] using idle)

theorem completeRecord_free {r : Record} (o : OutcomeCode)
    (held : w.st.rqt.grant = .record r.port r.tag ∨ w.st.rqt.grant = .none) : (completeRecord r o w).st.Free :=
  .of_idle (completeRecord_releases w r o law).1 (completeRecord_grant w law r o held) (by simpa [State.gateIdle] using idle)

theorem completeRun_free (o : OutcomeCode) (held : w.st.rqt.grant = .run ∨ w.st.rqt.grant = .none) :
    (completeRun o w).st.Free :=
  .of_idle (completeRun_releases w o law).1 (completeRun_grant w law o held) (by simpa [State.gateIdle] using idle)

theorem runAdvance_free (n : Nat) (held : w.st.rqt.grant = .run) : (runAdvance n w).st.Free :=
  have ⟨law', grant⟩ := runAdvance_grant w n law held
  .of_idle law' grant (by simpa [State.gateIdle] using idle)

end ends

theorem returnGrant_free {s : State} (law : s.grantLaw) (idle : s.gateIdle) : (returnGrant s).Free :=
  have ⟨releases, grant⟩ := returnGrant_releases s
  .of_idle (releases law).1 grant (by simpa [State.gateIdle] using idle)

theorem dropInHand_idle {s : State} (shown : s.gtu.presentation = none)
    (phase : s.gtu.phase ≠ .presented ∧ s.gtu.phase ≠ .exposing) : (dropInHand s).gateIdle := by
  refine ⟨?_, rfl, shown⟩
  cases p : s.gtu.phase <;> simp_all [dropInHand]

theorem State.Held.unshown_phase {s : State} (h : s.Held) (shown : s.gtu.presentation = none) :
    s.gtu.phase ≠ .presented ∧ s.gtu.phase ≠ .exposing := by
  have shows := h.gate.shown
  rw [shown] at shows
  exact ⟨fun p => by simp [p] at shows, fun p => by simp [p] at shows⟩

/-- Without a presentation the gate is IDLE once the grant in hand is dropped. -/
theorem State.Held.dropped {s : State} (h : s.Held) (shown : s.gtu.presentation = none) : (dropInHand s).gateIdle :=
  dropInHand_idle shown (h.unshown_phase shown)

theorem dropInHand_grantLaw {s : State} (law : s.grantLaw) : (dropInHand s).grantLaw :=
  grantLaw_of_same (by simp) law

/-- The gate is IDLE once a presentation is cleared. -/
theorem State.Held.cleared {s : State} (h : s.Held) (shown : s.gtu.presentation ≠ none) : (clearPresentation s).gateIdle := by
  refine ⟨rfl, ?_, rfl⟩
  by_contra hand
  exact shown (h.unshown hand)

theorem clearPresentation_grantLaw {s : State} (law : s.grantLaw) : (clearPresentation s).grantLaw :=
  grantLaw_of_same (by simp) law

theorem endPresentation_free {w : Ctx} (h : w.st.Held) (shown : w.st.gtu.presentation ≠ none) (o : PresEnd) :
    (endPresentation o w).st.Free := by
  cases present : w.st.gtu.presentation with
  | none => exact absurd present shown
  | some x =>
    have idle : (w.upd clearPresentation).st.gateIdle := h.cleared shown
    have law : (w.upd clearPresentation).st.grantLaw := clearPresentation_grantLaw h.grant
    have named := h.gate.shownNamed x present
    unfold endPresentation
    simp only [present]
    cases o with
    | renumbered => exact returnGrant_free law idle
    | taken | released =>
      cases holder : x.holder with
      | record p t => exact completeTag_free law idle _ (by simpa [holder, Grant.names] using named)
      | run t => exact runAdvance_free law idle _ (by simpa [holder, Grant.names] using named)
    | lapsed | cancelled =>
      cases holder : x.holder with
      | record p t => exact completeTag_free law idle _ (by simpa [holder, Grant.names] using named)
      | run t => exact completeRun_free law idle _ (.inl (by simpa [holder, Grant.names] using named))

theorem endPresentation_held {w : Ctx} (h : w.st.Held) (o : PresEnd) : (endPresentation o w).st.Held := by
  by_cases shown : w.st.gtu.presentation = none
  · have same : endPresentation o w = w := by simp only [endPresentation, shown]
    rw [same]
    exact h
  · exact (endPresentation_free h shown o).held

/-! ### Presentations and focus (R142, R144) -/

/-- The record that holds the grant goes into another state than WAITING. -/
theorem setRecState_grantLaw {s : State} {p : Port} {t : Byte} {x : RecState} (law : s.grantLaw)
    (held : s.rqt.grant = .record p t) (busy : x ≠ .waiting) : (setRecState p t x s).grantLaw := by
  obtain ⟨barrier, granted, holder, run, slot⟩ := law
  refine ⟨fun r mem work => ?_, fun r mem => ?_, fun q u grant => ?_, run, slot⟩
  · obtain ⟨y, old, port, tag, same, state⟩ := setRecState_mem mem
    by_cases key : y.port = p ∧ y.tag = t
    · have waits := barrier y old (same ▸ work)
      exact absurd waits ((granted y old).mpr (by rw [held, key.1, key.2]))
    · rw [state, if_neg key]
      exact barrier y old (same ▸ work)
  · obtain ⟨y, old, port, tag, same, state⟩ := setRecState_mem mem
    rw [state, port, tag]
    by_cases key : y.port = p ∧ y.tag = t
    · rw [if_pos key, key.1, key.2]
      exact ⟨fun _ => held, fun _ => busy⟩
    · rw [if_neg key]
      exact granted y old
  · obtain ⟨y, old, port, tag⟩ := holder q u grant
    refine ⟨_, List.mem_map_of_mem old, ?_⟩
    split <;> exact ⟨port, tag⟩

/-- The run that holds the grant stays GRANTED or AT-GATE. -/
theorem runState_grantLaw {s t : State} {f : Run → Run} (law : s.grantLaw) (held : s.rqt.grant = .run)
    (busy : ∀ r, (f r).state = .granted ∨ (f r).state = .atGate) (records : t.rqt.records = s.rqt.records)
    (run : t.rqt.run = s.rqt.run.map f) (grant : t.rqt.grant = .run) : t.grantLaw := by
  obtain ⟨barrier, granted, -, -, slot⟩ := law
  unfold State.grantLaw
  rw [records, run, grant]
  rw [held] at granted
  refine ⟨barrier, granted, nofun, fun x hx => ?_, fun _ => by rw [Option.isSome_map]; exact slot held⟩
  obtain ⟨y, -, rfl⟩ := Option.map_eq_some_iff.mp hx
  exact ⟨fun _ => rfl, fun _ => busy y⟩

/-- A presentation of what is granted, with the film at rest. -/
theorem held_of_shown {s : State} {x : Presentation} (law : s.grantLaw) (phase : s.gtu.phase = .presented)
    (hand : s.gtu.inHand = none) (shown : s.gtu.presentation = some x) (named : s.rqt.grant.names x.holder)
    (record : ∀ r ∈ s.rqt.records, r.state ≠ .waiting → r.state = .atGate)
    (run : ∀ r, s.rqt.run = some r → r.state = .granted ∨ r.state = .atGate → r.state = .atGate) (rest : s.job = none)
    (loaded : s.trc.roll = .loaded) : s.Held := by
  refine ⟨law, ⟨?_, ?_, ?_, ?_, ?_, ?_, fun _ => rest, fun _ => hand, fun _ => loaded⟩⟩
  · simp [hand, phase]
  · simp [shown, phase]
  · simp [hand]
  · intro y hy
    rw [shown] at hy
    cases hy
    exact named
  · exact fun r mem busy => ⟨fun _ => by simp [shown], fun _ => record r mem busy⟩
  · exact fun r hr busy => ⟨fun _ => by simp [shown], fun _ => run r hr busy⟩

/-- GTU presents the frame of a grant in FOCUSING: what is granted is AT-GATE. -/
theorem makePresentation_held {w : Ctx} (h : w.st.Held) (phase : w.st.gtu.phase = .focusing) (src : FocusSource) :
    (makePresentation src w).st.Held := by
  cases hand : w.st.gtu.inHand with
  | none =>
    have same : makePresentation src w = w := by simp only [makePresentation, hand]
    rw [same]
    exact h
  | some g =>
    have rest : w.st.job = none := h.gate.rest (.inl phase)
    have named := h.gate.handNamed g hand
    have loaded := h.gate.loaded (by simp [phase])
    unfold makePresentation
    simp only [hand, pulse_st, upd_st]
    cases holder : g.holder with
    | record p t =>
      have grant : w.st.rqt.grant = .record p t := by simpa [holder, Grant.names] using named
      have law := setRecState_grantLaw (x := .atGate) h.grant grant (by simp)
      refine held_of_shown (grantLaw_of_same ⟨rfl, rfl, rfl⟩ law) rfl rfl rfl grant (fun r mem busy => ?_)
        (fun r hr busy => ?_) rest loaded
      · obtain ⟨y, old, -, -, -, state⟩ := setRecState_mem mem
        by_cases key : y.port = p ∧ y.tag = t
        · rw [state, if_pos key]
        · rw [state, if_neg key] at busy
          have same := (h.grant.2.1 y old).mp busy
          rw [grant] at same
          cases same
          exact absurd ⟨rfl, rfl⟩ key
      · have := (h.grant.2.2.2.1 r hr).mp busy
        rw [grant] at this
        cases this
    | run t =>
      have grant : w.st.rqt.grant = .run := by simpa [holder, Grant.names] using named
      have law : (presentRun g.frame w.st).grantLaw :=
        runState_grantLaw h.grant grant (fun _ => .inr rfl) rfl rfl grant
      refine held_of_shown (grantLaw_of_same ⟨rfl, rfl, rfl⟩ law) rfl rfl rfl grant (fun r mem busy => ?_)
        (fun r hr busy => ?_) rest loaded
      · have := (h.grant.2.1 r mem).mp busy
        rw [grant] at this
        cases this
      · obtain ⟨y, -, rfl⟩ := Option.map_eq_some_iff.mp hr
        rfl

section focus
variable {w : Ctx} (h : w.st.Held)
include h

theorem focusReady_held (src : FocusSource) : (focusReady src w).st.Held := by
  unfold focusReady
  split
  case isTrue ready =>
    split
    · exact h.of_same (by simp [State.sameGate])
    · exact makePresentation_held h ready.1 src
  case isFalse => exact h

theorem lensDone_held (p : LensPurpose) : (lensDone p w).st.Held := by
  unfold lensDone
  split
  · split
    · exact h.of_same (by simp [State.sameGate])
    · exact h
  · exact focusReady_held h _
  · exact h

theorem orderLens_held (mv : LensMove) : (orderLens mv w).st.Held := by
  unfold orderLens
  split
  · exact h.of_same (by simp [State.sameGate])
  · split
    · exact lensDone_held h _
    · split <;> exact h.of_same (by simp [State.sameGate])

theorem beginHeld_held : (beginHeld w).st.Held := by
  unfold beginHeld
  split
  · exact h
  · split
    · exact orderLens_held (w := Ctx.upd w _) (h.of_same (by simp [State.sameGate])) _
    · exact h

theorem takeSample_held : (takeSample w).st.Held := by
  unfold takeSample
  split
  · split
    · exact orderLens_held h _
    · exact h
  · exact h

theorem beginSweep_held (owner : Holder) (n x : Nat) : (beginSweep owner n x w).st.Held := by
  unfold beginSweep
  exact takeSample_held (w := Ctx.upd w _) (h.of_same (by simp [State.sameGate]))

theorem sweepDefault_held (sw : Sweep) (reason : Byte) : (sweepDefault sw reason w).st.Held := by
  unfold sweepDefault
  exact orderLens_held (w := pulseAll _ _ _) (h.of_same (by simp [State.sameGate])) _

theorem sweepSuccess_held (sw : Sweep) (f : Nat) : (sweepSuccess sw f w).st.Held := by
  unfold sweepSuccess
  exact orderLens_held (w := Ctx.upd w _) (h.of_same (by simp [State.sameGate])) _

theorem passEnd_held (sw : Sweep) : (passEnd sw w).st.Held := by
  unfold passEnd
  split
  · exact sweepDefault_held h _ _
  · split
    · split
      · exact sweepDefault_held h _ _
      · exact takeSample_held (w := Ctx.upd w _) (h.of_same (by simp [State.sameGate]))
    · exact sweepSuccess_held h _ _

theorem addSample_held (sw : Sweep) (x : Nat) : (addSample sw x w).st.Held := by
  unfold addSample
  split
  · exact h
  · dsimp only
    split
    · exact passEnd_held (w := Ctx.upd w _) (h.of_same (by simp [State.sameGate])) _
    · exact takeSample_held (w := Ctx.upd w _) (h.of_same (by simp [State.sameGate]))

theorem focusLookup_held (owner : Holder) (n : Nat) : (focusLookup owner n w).st.Held := by
  unfold focusLookup
  dsimp only
  split
  · split
    · exact beginSweep_held h _ _ _
    · exact orderLens_held (w := Ctx.upd w _) (h.of_same (by simp [State.sameGate])) _
  · exact beginSweep_held h _ _ _

end focus

/-! ### Exposures (R150, R156 to R158) -/

/-- The presentation goes on, in PRESENTED or EXPOSING. -/
theorem State.Held.showing {s t : State} (h : s.Held) (shown : s.gtu.presentation ≠ none)
    (holder : t.gtu.presentation.map (·.holder) = s.gtu.presentation.map (·.holder))
    (phase : t.gtu.phase = .presented ∨ t.gtu.phase = .exposing)
    (same : t.rqt.records = s.rqt.records ∧ t.rqt.run = s.rqt.run ∧ t.rqt.grant = s.rqt.grant ∧
      t.gtu.inHand = s.gtu.inHand ∧ t.trc.roll = s.trc.roll ∧ t.trc.move = s.trc.move) : t.Held := by
  obtain ⟨e1, e2, e3, e5, e7, e8⟩ := same
  have hand : s.gtu.inHand = none := by
    by_contra some
    exact shown (h.unshown some)
  have isSome : t.gtu.presentation.isSome = s.gtu.presentation.isSome := by
    simpa using congrArg Option.isSome holder
  have before := h.gate.shown.mp (Option.isSome_iff_ne_none.mpr shown)
  have rest : s.job = none := h.gate.rest (.inr before)
  have loaded : s.trc.roll = .loaded := h.gate.loaded (by rcases before with p | p <;> simp [p])
  refine ⟨grantLaw_of_same ⟨e1, e2, e3⟩ h.grant, ⟨?_, ?_, ?_, ?_, ?_, ?_, ?_, ?_, ?_⟩⟩
  · rw [e5, hand]
    rcases phase with p | p <;> simp [p]
  · rw [isSome, Option.isSome_iff_ne_none]
    exact ⟨fun _ => phase, fun _ => shown⟩
  · simp [e5, hand]
  · intro x hx
    rw [hx, Option.map_some] at holder
    obtain ⟨y, hy, same⟩ := Option.map_eq_some_iff.mp holder.symm
    rw [e3, ← same]
    exact h.gate.shownNamed y hy
  · rw [e1, isSome]; exact h.gate.record
  · rw [e2, isSome]; exact h.gate.run
  · exact fun _ => (job_of_same e8).trans rest
  · exact fun _ => e5.trans hand
  · exact fun _ => e7.trans loaded

section exposure
variable {w : Ctx} (h : w.st.Held)
include h

theorem abandonExposure_held (o : OutcomeCode) : (abandonExposure o w).st.Held :=
  h.of_same (by simp [State.sameGate])

theorem afterExposure_held : (afterExposure w).st.Held := by
  cases shown : w.st.gtu.presentation with
  | none =>
    have same : afterExposure w = w := by simp only [afterExposure, shown]
    rw [same]
    exact h
  | some x =>
    simp only [afterExposure, shown]
    split
    · exact endPresentation_held h _
    · exact endPresentation_held h _
    · exact endPresentation_held h _
    · exact endPresentation_held h _
    · exact h.showing (by simp [shown]) rfl (.inl rfl) ⟨rfl, rfl, rfl, rfl, rfl, rfl⟩

theorem endExposure_held (o : OutcomeCode) : (endExposure o w).st.Held := by
  unfold endExposure
  split
  · exact h
  · rename_i e _
    dsimp only
    have dropped : ((completeExpose e o w).upd dropExposure).st.Held := h.of_same (by simp [State.sameGate])
    have after : (if e.withPresentation = true then afterExposure ((completeExpose e o w).upd dropExposure)
        else (completeExpose e o w).upd dropExposure).st.Held := held_ite (afterExposure_held dropped) dropped
    refine beginHeld_held ?_
    split
    · exact focusReady_held (w := Ctx.upd _ _) (after.of_same (by simp [State.sameGate])) _
    · exact after

end exposure

end Sys2Proof.Machine
end

section
/-! SUPPORT. The laws of the grant and of the gate over faults, stop orders and the ends of moves (R23, R28, R31, R37, R74, R75, R121,
R131, R140, R141). -/

namespace Sys2Proof.Machine

/-! ### Faults (R37) -/

theorem faultGrant_waits {w : Ctx} (law : w.st.grantLaw) : ∀ r ∈ (faultGrant w).st.rqt.records, r.state = .waiting := by
  cases held : w.st.rqt.grant with
  | record p t =>
    simp only [faultGrant, held]
    have law' := (completeTag_releases w p t .fault law).1
    exact ((grantLaw_of_none (completeTag_grant w law _ held)).mp law').1
  | run | verify | none =>
    simp only [faultGrant, held]
    exact grantLaw_waits law (by simp [held])

theorem takeFault_free {w : Ctx} (c : Cause) (law : w.st.grantLaw) : (takeFault c w).st.Free := by
  have waits := faultGrant_waits (w := w.upd (faultState c)) law
  have records : (faultRecords c w).st.grantLaw := freeRun_grantLaw (.inr rfl) waits rfl rfl rfl
  have work : (faultWork c w).st.Free := by
    refine .of_idle (grantLaw_of_same (by simp [faultWork]) records) ?_ ?_
    · simp only [faultWork, upd_st, abandonLookup_frame, dropInHand_frame, clearPresentation_frame, abandonExposure_frame]
      rfl
    · simp [faultWork, State.gateIdle, dropInHand, clearPresentation]
  rw [takeFault_eq]
  split <;> exact work.of_same (by simp [State.sameGate])

/-! ### Stopped moves and stop orders (R23, R31, R121, R131) -/

section stops
variable {w : Ctx} (h : w.st.Held)
include h

theorem disposeStopped_free (shown : w.st.gtu.presentation = none) : (disposeStopped w).st.Free := by
  have grants (p : w.st.rqt.grant = .none ∨ w.st.rqt.grant = .verify) (s : State)
      (same : s.rqt.records = w.st.rqt.records ∧ s.rqt.run = w.st.rqt.run) (none : s.rqt.grant = .none)
      (gate : s.gtu = w.st.gtu) : s.Free := by
    refine .of_idle ((grantLaw_of_none none).mpr ⟨fun r mem => ?_, fun x hx => ?_⟩) none ?_
    · refine grantLaw_waiting h.grant (same.1 ▸ mem) ?_
      rcases p with p | p <;> simp [p]
    · have := (h.grant.2.2.2.1 x (same.2 ▸ hx)).not.mpr (by rcases p with p | p <;> simp [p])
      cases state : x.state <;> simp_all
    · have := h.idle_of_grant p
      rwa [State.gateIdle, ← gate] at this
  have returned (s : State) (law : s.grantLaw) (idle : (dropInHand s).gateIdle) : (dropInHand (returnGrant s)).Free := by
    obtain ⟨releases, none⟩ := returnGrant_releases s
    refine .of_idle (dropInHand_grantLaw (releases law).1) none ?_
    simpa [State.gateIdle, dropInHand] using idle
  unfold disposeStopped
  cases held : w.st.rqt.grant with
  | none => exact grants (.inl held) _ ⟨rfl, rfl⟩ held rfl
  | record p t =>
    refine (returned w.st h.grant (h.dropped shown)).of_same ?_
    simp [State.sameGate, dropInHand]
  | run =>
    refine (returned w.st h.grant (h.dropped shown)).of_same ?_
    simp [State.sameGate, dropInHand]
  | verify =>
    have free := grants (.inr held) (w.upd fun s =>
      { s with rqt.grant := .none, rqt.stopReason := .none, fit.verify := none }).st ⟨rfl, rfl⟩ rfl rfl
    dsimp only
    split
    · split
      · exact free
      · exact takeFault_free _ free.law
    · split
      · exact free
      · exact takeFault_free _ free.law

theorem orderStop_held (r : StopReason) : (orderStop r w).st.Held := by
  cases move : w.st.trc.move with
  | none =>
    have same : orderStop r w = w := by simp only [orderStop, move]
    rw [same]
    exact h
  | some m =>
    have shown : w.st.gtu.presentation = none := (h.moving (by rw [job_of_move move]; simp)).1
    simp only [orderStop, move]
    split
    · exact h
    · split
      case _ | _ | _ | _ =>
        exact h.of_gate (jobKept_of_eq (job_of_move move).symm) (by simp [State.sameGate])
      · refine (disposeStopped_free (w := Ctx.upd w _) ?_ ?_).held
        · exact h.of_gate (jobKept_of_none rfl) (by simp [State.sameGate])
        · simpa using shown
      · refine (disposeStopped_free (w := Ctx.upd w _) ?_ ?_).held
        · exact h.of_gate (jobKept_of_none rfl) (by simp [State.sameGate])
        · simpa using shown
      all_goals exact h

/-- A stop order grants nothing. -/
theorem orderStop_free (r : StopReason) (grant : w.st.rqt.grant = .none) : (orderStop r w).st.Free := by
  refine (orderStop_held h r).free ?_
  unfold orderStop
  split
  · exact grant
  · split
    · exact grant
    · split
      all_goals first
        | exact grant
        | simp [disposeStopped, grant]

theorem setVerified_held (reason : Byte) : (setVerified reason w).st.Held := h.of_same (by simp [State.sameGate])

theorem unverifiedGrant_held : (unverifiedGrant w).st.Held := by
  have focusing (phase : w.st.gtu.phase = .focusing) :
      (w.upd fun s => dropInHand (returnGrant (abandonLookup s))).st.Held := by
    have lookup : (abandonLookup w.st).Held := h.of_same (by simp [State.sameGate])
    have shown : (abandonLookup w.st).gtu.presentation = none := by
      have shows := h.gate.shown
      simpa [phase] using shows
    have idle := lookup.dropped shown
    obtain ⟨releases, none⟩ := returnGrant_releases (abandonLookup w.st)
    refine State.Free.held (.of_idle (dropInHand_grantLaw (releases lookup.grant).1) none ?_)
    simpa [State.gateIdle, dropInHand] using idle
  unfold unverifiedGrant
  split
  · exact h
  · exact h
  all_goals
    split
    · exact focusing ‹_›
    · split
      · split
        case _ | _ | _ => exact orderStop_held h _
        all_goals exact h
      · exact h

theorem becomeUnverified_held (reason : Byte) : (becomeUnverified reason w).st.Held := by
  unfold becomeUnverified
  split
  · exact unverifiedGrant_held (w := setLevel _ _ _ _) (h.of_same (by simp [State.sameGate]))
  · exact h

/-! ### The other ends of moves (R27, R28, R121, R130, R141) -/

theorem moveOver_held : (moveOver w.st).Held := h.of_gate (jobKept_of_none rfl) (by simp [State.sameGate])

/-- The holder of the grant completes, and the grant in hand is dropped. -/
theorem dropped_free (shown : w.st.gtu.presentation = none) :
    (∀ p t o, w.st.rqt.grant = .record p t → (completeTag p t o (w.upd dropInHand)).st.Free) ∧
      (∀ o, w.st.rqt.grant = .run → (completeRun o (w.upd dropInHand)).st.Free) := by
  have law : (w.upd dropInHand).st.grantLaw := dropInHand_grantLaw h.grant
  have idle : (w.upd dropInHand).st.gateIdle := h.dropped shown
  exact ⟨fun p t o held => completeTag_free law idle o (by simpa using held),
    fun o held => completeRun_free law idle o (.inl (by simpa using held))⟩

theorem dropped_held (grant : w.st.rqt.grant = .none ∨ w.st.rqt.grant = .verify) : (w.upd dropInHand).st.Held := by
  obtain ⟨phase, hand, -⟩ := h.idle_of_grant grant
  refine h.of_same ⟨?_, by simp⟩
  simp [State.sameGate, dropInHand, phase, hand]

theorem positionFail_held (shown : w.st.gtu.presentation = none) : (positionFail w).st.Held := by
  obtain ⟨record, run⟩ := dropped_free h shown
  have same : (w.upd dropInHand).st.rqt.grant = w.st.rqt.grant := by simp
  unfold positionFail
  dsimp only
  rw [same]
  cases held : w.st.rqt.grant with
  | record p t => exact (record p t _ held).held
  | run => exact (run _ held).held
  | verify => exact dropped_held h (.inr held)
  | none => exact dropped_held h (.inl held)

theorem gateUnreachable_held (n : Nat) (shown : w.st.gtu.presentation = none) : (gateUnreachable n w).st.Held := by
  obtain ⟨record, run⟩ := dropped_free h shown
  have same : (w.upd dropInHand).st.rqt.grant = w.st.rqt.grant := by simp
  unfold gateUnreachable
  dsimp only
  rw [same]
  cases held : w.st.rqt.grant with
  | record p t => exact (record p t _ held).held
  | run => exact (run _ held).held
  | verify => exact dropped_held h (.inr held)
  | none => exact dropped_held h (.inl held)

theorem gateSettled_held (rest : w.st.job = none) : (gateSettled w).st.Held := by
  cases hand : w.st.gtu.inHand with
  | none =>
    have same : gateSettled w = w := by simp only [gateSettled, hand]
    rw [same]
    exact h
  | some g =>
    have shown : w.st.gtu.presentation = none := h.unshown (by simp [hand])
    have loaded : w.st.trc.roll = .loaded := h.gate.loaded fun phase => by
      have := (h.idle_of_phase phase).2.1
      rw [hand] at this
      cases this
    have focusing : (w.upd fun s => { s with gtu.phase := .focusing }).st.Held := by
      refine ⟨grantLaw_of_same ⟨rfl, rfl, rfl⟩ h.grant,
        ⟨?_, ?_, h.gate.handNamed, h.gate.shownNamed, h.gate.record, h.gate.run, fun _ => rest, h.gate.jog, fun _ => loaded⟩⟩
      · simp [hand]
      · simp [shown]
    simp only [gateSettled, hand]
    split
    · split
      · exact focusLookup_held focusing _ _
      · exact focusReady_held focusing _
    · exact gateUnreachable_held h _ shown

theorem moveSettled_held {m : Move} (move : w.st.trc.move = some m) : (moveSettled w).st.Held := by
  have job := job_of_move move
  have moves : w.st.job ≠ none := by simp [job]
  have shown : w.st.gtu.presentation = none := (h.moving moves).1
  have ended : (w.upd moveOver).st.Held := moveOver_held h
  simp only [moveSettled, move]
  cases kind : m.job with
  | present => exact gateSettled_held ended rfl
  | returnL =>
    refine held_ite ?_ ended
    refine h.of_gate ⟨fun none => absurd none moves, fun jog => ?_⟩ (by simp [State.sameGate])
    rw [upd_st, orderMove_job] at jog
    cases jog
  | jog =>
    have idle : (w.upd moveOver).st.gateIdle :=
      ended.idle_of_none (by simpa using h.gate.jog (by rw [job, kind])) (by simpa using shown)
    dsimp only
    split
    · rename_i held
      exact (completeTag_free ended.grant idle _ held).held
    all_goals exact ended
  | forward | verify | rewind => exact ended

theorem moveBound_held (moves : w.st.job ≠ none) : (moveBound w).st.Held := by
  have shown : w.st.gtu.presentation = none := (h.moving moves).1
  have ended : (w.upd moveOver).st.Held := moveOver_held h
  obtain ⟨record, run⟩ := dropped_free ended (by simpa using shown)
  have same : (w.upd moveOver).st.rqt.grant = w.st.rqt.grant := by simp
  unfold moveBound
  dsimp only
  rw [same]
  cases held : w.st.rqt.grant with
  | record p t => exact (record p t _ (same.trans held)).held
  | run => exact (run _ (same.trans held)).held
  | none => exact ended
  | verify =>
    have idle := ended.idle_of_grant (.inr (same.trans held))
    have waits := grantLaw_waits ended.grant (by simp [held])
    have law : ((w.upd moveOver).upd fun s =>
        { s with rqt.grant := .none, rqt.stopReason := .none, fit.verify := none }).st.grantLaw := by
      refine (grantLaw_of_none rfl).mpr ⟨waits, fun x hx => ?_⟩
      have := (ended.grant.2.2.2.1 x hx).not.mpr (by simp [held])
      cases state : x.state <;> simp_all
    have free := State.Free.of_idle law rfl idle
    dsimp only
    split
    · exact held_ite free.held (takeFault_free _ law).held
    · exact held_ite free.held (takeFault_free _ law).held

end stops

end Sys2Proof.Machine
end

section
/-! SUPPORT. The laws of the grant and of the gate over the index, its sightings and its corrections (R54 to R86, R128 to R130). -/

namespace Sys2Proof.Machine

theorem State.Held.same_job {s t : State} (h : s.Held) (job : t.job = s.job) (same : s.sameGate t) : t.Held :=
  h.of_gate (jobKept_of_eq job) same

theorem retarget_held {s : State} (h : s.Held) {job : Job} (other : job ≠ .jog) (t : Nat) : (retarget job t s).Held :=
  h.of_gate (retarget_jobKept other t s) (by simp [State.sameGate])

section index
variable {w : Ctx} (h : w.st.Held)
include h

theorem preempt_held : (preempt w).st.Held := by
  unfold preempt
  split
  · split
    · exact held_ite (orderStop_held h _) h
    · exact h
  all_goals exact h

theorem announce_held (lo hi : Nat) : (announce lo hi w).st.Held := by
  unfold announce
  split
  · split
    · exact h
    · split
      · split
        · exact retarget_held h (by simp) _
        · exact h
      · exact preempt_held h
  · exact h

theorem forwardLost_held (o : OutcomeCode) : (forwardLost o w).st.Held := by
  unfold forwardLost
  split
  · rename_i m g forward hand
    have shown : w.st.gtu.presentation = none := h.unshown (by simp [hand])
    obtain ⟨record, run⟩ := dropped_free h shown
    split
    · exact h
    · split
      · rename_i held
        exact orderStop_held (record _ _ _ held).held _
      · rename_i held
        exact held_ite h (orderStop_held (run _ held).held _)
      all_goals exact h
  · exact h

theorem buildEntries_held (new : List Entry) (p256 : Nat) : (buildEntries new p256 w).st.Held := by
  have made : (w.upd (makeEntries new p256)).st.Held := h.of_same (by simp [State.sameGate])
  unfold buildEntries
  dsimp only
  split
  · exact made
  · have announced := announce_held made w.st.fit.entries.length ((makeEntries new p256 w.st).fit.entries.length - 1)
    generalize hx : (if sectorEntered _ _ = true then pulseAll _ _ _ else _) = x
    have grown : x.st.Held := by
      rw [← hx]
      exact held_ite (announced.of_same (by simp [State.sameGate])) announced
    exact held_ite (forwardLost_held (w := pulseAll _ _ x) (grown.of_same (by simp [State.sameGate])) _) grown

theorem buildSighting_held (g : Sighting) : (buildSighting g w).st.Held := by
  unfold buildSighting
  dsimp only
  split
  · exact buildEntries_held h _ _
  · split
    · exact h.of_same (by simp [State.sameGate])
    · split
      · exact buildEntries_held h _ _
      · split
        · exact buildEntries_held h _ _
        · exact buildEntries_held h _ _

theorem slipAt_held (n : Nat) (d : Int) : (slipAt n d w).st.Held := by
  unfold slipAt
  dsimp only
  generalize hu : pulseAll .slip _ _ = u
  have counted : u.st.Held := hu ▸ h.of_same (by simp [State.sameGate])
  exact held_ite (becomeUnverified_held counted _) counted

theorem verifyEnds_held {reason : Byte} {r : StopReason} : (orderStop r (setVerified reason w)).st.Held :=
  orderStop_held (setVerified_held h reason) r

end index

section states
variable {s : State} (h : s.Held)
include h

theorem retargetConfirmed_held (n : Nat) : (retargetConfirmed n s).Held := by
  unfold retargetConfirmed
  split
  · split
    · exact retarget_held h (by simp) _
    · split
      · split
        · exact retarget_held h (by simp) _
        · exact h
      · exact h
  · exact h

theorem confirmEntry_held (n : Nat) (g : Sighting) : (confirmEntry n g s).Held := by
  unfold confirmEntry
  split
  · exact retargetConfirmed_held (h.of_same (by simp [State.sameGate])) n
  · exact h

theorem applyCorrection_held (d : Int) : (applyCorrection d s).Held :=
  h.same_job (applyCorrection_job d s) (by simp [State.sameGate])

theorem correctedSlip_held (d : Int) : State.Held { applyCorrection d s with trc.slip := 0 } :=
  (applyCorrection_held h d).of_same (by simp [State.sameGate])

theorem correctedVerify_held (d : Int) (v : Verify) :
    State.Held { applyCorrection d s with trc.slip := 0, fit.verify := some v } :=
  (applyCorrection_held h d).of_same (by simp [State.sameGate])

end states

section sightings
variable {w : Ctx} (h : w.st.Held)
include h

theorem resync_held (g : Sighting) : (resync g w).st.Held := by
  unfold resync
  split
  · exact h
  · split
    · exact h
    · dsimp only
      split
      · split
        · exact correctedSlip_held h _
        · exact confirmEntry_held h _ _
      · exact held_ite (slipAt_held h _ _) h

theorem verifySighting_held (v : Verify) (g : Sighting) : (verifySighting v g w).st.Held := by
  unfold verifySighting
  split
  · exact h
  · split
    · exact h
    · split
      · refine verifyEnds_held (w := Ctx.upd w _) ?_
        exact correctedVerify_held h _ _
      · exact h

theorem takeSighting_held (g : Sighting) : (takeSighting g w).st.Held := by
  have plain : (if (w.st.fit.building && g.building && decide (g.dir = .forward) && !w.st.indexShut) = true
      then buildSighting g w else if w.st.trc.verified = true then resync g w else w).st.Held :=
    held_ite (buildSighting_held h g) (held_ite (resync_held h g) h)
  unfold takeSighting
  dsimp only
  split
  · exact held_ite plain (verifySighting_held h _ g)
  · exact plain

theorem frontierLimit_held (d : Dir) (tallied : Bool) : (frontierLimit d tallied w).st.Held := by
  unfold frontierLimit
  dsimp only
  split
  · exact held_ite (orderStop_held h _) h
  · exact h

/-! ### Corrections (R85, R86) -/

theorem correctGate_held (affected : Nat → Bool) : (correctGate affected w).st.Held := by
  cases shown : w.st.gtu.presentation with
  | some x =>
    simp only [correctGate, shown]
    split
    · split
      · rename_i exposing
        exact h.showing (by simp [shown]) (by simp [shown]) (.inr exposing) ⟨rfl, rfl, rfl, rfl, rfl, rfl⟩
      · exact endPresentation_held h _
    · exact h
  | none =>
    simp only [correctGate, shown]
    split
    · split
      · have lookup : (abandonLookup w.st).Held := h.of_same (by simp [State.sameGate])
        obtain ⟨releases, grant⟩ := returnGrant_releases (abandonLookup w.st)
        have idle := lookup.dropped (by simpa using shown)
        refine State.Free.held (.of_idle (dropInHand_grantLaw (releases lookup.grant).1) grant ?_)
        simpa [State.gateIdle, dropInHand] using idle
      · exact h
    · exact h

theorem correctMoveInFlight_held : (correctMoveInFlight w).st.Held := by
  unfold correctMoveInFlight
  split
  · extract_lets lost
    have unreached : (lost w).st.Held := by
      unfold lost
      split
      · exact orderStop_held h _
      · split
        · exact retarget_held h (by simp) _
        · exact orderStop_held h _
      all_goals exact h
    split
    case _ | _ | _ =>
      split
      · exact retarget_held h (by simp) _
      · exact unreached
    all_goals exact h
  · exact h

theorem correctVerify_held : (correctVerify w).st.Held := by
  unfold correctVerify
  split
  · split
    · exact verifyEnds_held (w := Ctx.upd w _) (h.of_same (by simp [State.sameGate]))
    · exact h
  · exact h

theorem afterCorrection_held (affected : Nat → Bool) : (afterCorrection affected w).st.Held := by
  unfold afterCorrection
  have cleared : (w.upd fun s => { s with gtu.watches := PerPort.all false }).st.Held :=
    h.of_same (by simp [State.sameGate])
  exact correctVerify_held (correctMoveInFlight_held (correctGate_held cleared _))

end sightings

end Sys2Proof.Machine
end

section
/-! SUPPORT. The laws of the grant and of the gate over the arbiter (R119 to R127, R166, R167). -/

namespace Sys2Proof.Machine

/-! ### The choice among the records -/

/-- The better of the best so far and the next member. -/
def keepBest {α : Type} (better : α → α → Bool) : Option α → α → Option α
  | none, r => some r
  | some b, r => if better r b then some r else some b

/-- A fold that keeps the best ends with the start or a member. -/
theorem foldl_keepBest_mem {α : Type} (better : α → α → Bool) (l : List α) (init : Option α) {x : α}
    (h : l.foldl (keepBest better) init = some x) : init = some x ∨ x ∈ l := by
  induction l generalizing init with
  | nil => exact .inl h
  | cons y l ih =>
    rcases ih _ h with step | mem
    · cases init with
      | none =>
        cases step
        exact .inr List.mem_cons_self
      | some b =>
        rw [keepBest] at step
        split at step
        · cases step
          exact .inr List.mem_cons_self
        · exact .inl step
    · exact .inr (List.mem_cons_of_mem _ mem)

/-- The candidates of the highest class. -/
def State.topCandidates (s : State) : List Record :=
  s.rqt.records.filter fun r => r.candidate && decide (r.cls = s.topClass)

theorem chosen_eq (s : State) : s.chosen = s.topCandidates.foldl (keepBest s.prefers) none := by
  unfold State.chosen State.topCandidates
  congr 1
  funext best r
  cases best <;> rfl

theorem mem_topCandidates {s : State} {r : Record} :
    r ∈ s.topCandidates ↔ r ∈ s.rqt.records ∧ r.candidate = true ∧ r.cls = s.topClass := by
  simp [State.topCandidates]

theorem chosen_mem {s : State} {r : Record} (h : s.chosen = some r) : r ∈ s.rqt.records ∧ r.candidate = true := by
  rw [chosen_eq] at h
  rcases foldl_keepBest_mem s.prefers _ none h with start | mem
  · cases start
  · exact ⟨(mem_topCandidates.mp mem).1, (mem_topCandidates.mp mem).2.1⟩

/-! ### What no longer can be reached (R120, R165) -/

section clear
variable {w : Ctx}

theorem completeEach_releases (o : OutcomeCode) (l : List Record) (w : Ctx) : w.st.releases (completeEach o l w).st := by
  unfold completeEach
  induction l generalizing w with
  | nil => exact releases_refl _
  | cons r l ih => exact (completeRecord_releases w r o).trans (ih _)

theorem clearUnreachable_releases (w : Ctx) : w.st.releases (clearUnreachable w).st := by
  unfold clearUnreachable
  dsimp only
  generalize hu : (if w.st.runWaits then w.upd chooseRunFrame else w) = u
  have chosen : w.st.releases u.st := by
    rw [← hu]
    split
    · exact chooseRunFrame_releases w.st
    · exact releases_refl _
  refine chosen.trans ?_
  split
  · exact releases_ite (((completeEach_releases _ _ _).trans (completeRun_releases _ _)).trans (completeEach_releases _ _ _))
      (completeEach_releases _ _ _)
  · exact completeEach_releases _ _ _

theorem clearUnreachable_free (h : w.st.Free) : (clearUnreachable w).st.Free :=
  h.of_releases (clearUnreachable_releases w) (by simp)

end clear

/-! ### Grants (R126, R166, R167) -/

/-- A grant in hand whose move is under way. -/
theorem held_of_hand {s : State} {g : InHand} (law : s.grantLaw) (phase : s.gtu.phase = .positioning)
    (hand : s.gtu.inHand = some g) (shown : s.gtu.presentation = none) (named : s.rqt.grant.names g.holder)
    (record : ∀ r ∈ s.rqt.records, r.state ≠ .atGate) (run : ∀ x, s.rqt.run = some x → x.state ≠ .atGate)
    (job : s.job ≠ some .jog) (loaded : s.trc.roll = .loaded) : s.Held := by
  refine ⟨law, ⟨?_, ?_, ?_, ?_, ?_, ?_, ?_, fun jog => absurd jog job, fun _ => loaded⟩⟩
  · simp [hand, phase]
  · simp [shown, phase]
  · intro x hx
    rw [hand] at hx
    cases hx
    exact named
  · simp [shown]
  · exact fun r mem _ => ⟨fun h => absurd h (record r mem), by simp [shown]⟩
  · exact fun x hx _ => ⟨fun h => absurd h (run x hx), by simp [shown]⟩
  · simp [phase]

theorem handToGate_held {s : State} {g : InHand} (law : s.grantLaw) (shown : s.gtu.presentation = none)
    (named : s.rqt.grant.names g.holder) (record : ∀ r ∈ s.rqt.records, r.state ≠ .atGate)
    (run : ∀ x, s.rqt.run = some x → x.state ≠ .atGate) (loaded : s.trc.roll = .loaded) : (handToGate g s).Held := by
  obtain ⟨j, job, other⟩ := orderFrame_job g
    { s with gtu.inHand := some g, gtu.phase := .positioning, gtu.heldReport := none }
  unfold handToGate
  refine held_of_hand (g := g) (grantLaw_of_same (by simp) law) (by simp) (by simp) (by simpa using shown)
    (by simpa using named) (by simpa using record) (by simpa using run) ?_ (by simpa using loaded)
  rw [job, ne_eq, Option.some_inj]
  exact other

section grants
variable {s : State} (h : s.Free)
include h

theorem State.Free.waits : ∀ r ∈ s.rqt.records, r.state = .waiting := ((grantLaw_of_none h.grant).mp h.law).1

theorem State.Free.rests : ∀ x, s.rqt.run = some x → x.state = .ready ∨ x.state = .suspended :=
  ((grantLaw_of_none h.grant).mp h.law).2

theorem State.Free.run_rests : ∀ x, s.rqt.run = some x → x.state ≠ .atGate := by
  intro x hx
  rcases h.rests x hx with p | p <;> simp [p]

/-- One record of a table without two records of a tag is granted. -/
theorem grant_grantLaw {r : Record} (mem : r ∈ s.rqt.records) (work : r.work ≠ .barrier) (table : s.tableLaw) {t : State}
    (same : t.rqt.records = (setRecState r.port r.tag .granted s).rqt.records ∧ t.rqt.run = s.rqt.run ∧
      t.rqt.grant = .record r.port r.tag) : t.grantLaw := by
  obtain ⟨records, run, grant⟩ := same
  have only {y : Record} (old : y ∈ s.rqt.records) (key : y.port = r.port ∧ y.tag = r.tag) : y = r :=
    List.inj_on_of_nodup_map table.2.2.1 old mem (Prod.ext key.1 key.2)
  unfold State.grantLaw
  rw [records, run, grant]
  refine ⟨fun x mem barrier => ?_, fun x mem => ?_, fun p tag held => ?_, fun x hx => ?_, nofun⟩
  · obtain ⟨y, old, -, -, same, state⟩ := setRecState_mem mem
    by_cases key : y.port = r.port ∧ y.tag = r.tag
    · rw [only old key] at same
      exact absurd (same ▸ barrier) work
    · rw [state, if_neg key]
      exact h.waits y old
  · obtain ⟨y, old, port, tag, -, state⟩ := setRecState_mem mem
    rw [state, port, tag]
    by_cases key : y.port = r.port ∧ y.tag = r.tag
    · rw [if_pos key, key.1, key.2]
      simp
    · rw [if_neg key, h.waits y old]
      refine ⟨fun p => absurd rfl p, fun p => absurd ?_ key⟩
      obtain ⟨port, tag⟩ := Grant.record.inj p
      exact ⟨port.symm, tag.symm⟩
  · cases held
    refine ⟨_, List.mem_map_of_mem mem, ?_⟩
    split <;> exact ⟨rfl, rfl⟩
  · rcases h.rests x hx with p | p <;> simp [p]

theorem grantRecord_held {r : Record} (mem : r ∈ s.rqt.records) (work : r.work ≠ .barrier) (table : s.tableLaw)
    (loaded : s.trc.roll = .loaded) : (grantRecord r s).Held := by
  unfold grantRecord
  dsimp only
  generalize hv : ({ setRecState r.port r.tag .granted s with
    rqt.grant := .record r.port r.tag, rqt.stopReason := .none } : State) = v
  have law : v.grantLaw := grant_grantLaw h mem work table (by rw [← hv]; exact ⟨rfl, rfl, rfl⟩)
  have idle : v.gateIdle := by rw [← hv]; exact h.gateIdle
  have run : ∀ x, v.rqt.run = some x → x.state ≠ .atGate := by rw [← hv]; exact h.run_rests
  have record : ∀ x ∈ v.rqt.records, x.state ≠ .atGate := by
    intro x hx
    rw [← hv] at hx
    obtain ⟨y, old, -, -, -, state⟩ := setRecState_mem hx
    rw [state, h.waits y old]
    split <;> simp
  cases kind : r.work with
  | present n mode hold =>
    exact handToGate_held law idle.2.2 (by rw [← hv]; rfl) record run (by rw [← hv]; exact loaded)
  | jog d =>
    exact held_of_idle (grantLaw_of_same (by simp) law) (by simpa [State.gateIdle] using idle) (by simpa using record)
      (by simpa using run)
  | barrier => exact absurd kind work

theorem grantRun_held (r : Run) (taken : s.rqt.run = some r) (loaded : s.trc.roll = .loaded) : (grantRun r s).Held := by
  unfold grantRun
  refine handToGate_held ?_ h.shown rfl (fun x hx => by simp [h.waits x hx]) (fun x hx => ?_) loaded
  · refine ⟨fun x hx _ => h.waits x hx, fun x hx => ?_, nofun, fun x hx => ?_, fun _ => ?_⟩
    · simp [h.waits x hx]
    · obtain ⟨y, -, rfl⟩ := Option.map_eq_some_iff.mp hx
      simp
    · show (Option.map _ s.rqt.run).isSome = true
      rw [taken]
      rfl
  · obtain ⟨y, -, rfl⟩ := Option.map_eq_some_iff.mp hx
    simp

theorem outclassRun_free : (outclassRun s).Free := by
  refine .of_idle ((grantLaw_of_none (s := outclassRun s) h.grant).mpr ⟨h.waits, fun x hx => ?_⟩) h.grant h.gateIdle
  obtain ⟨y, hy, rfl⟩ := Option.map_eq_some_iff.mp hx
  split
  · exact .inr rfl
  · exact h.rests y hy

theorem grantVerify_held : (grantVerify s).Held := by
  unfold grantVerify
  extract_lets forward d
  generalize hv : ({ s with rqt.grant := .verify, rqt.stopReason := .none, fit.verify := some ⟨d, _, false⟩ } : State) = v
  have records : ∀ x ∈ v.rqt.records, x.state = .waiting := by rw [← hv]; exact h.waits
  have run : ∀ x, v.rqt.run = some x → x.state = .ready ∨ x.state = .suspended := by rw [← hv]; exact h.rests
  have law : v.grantLaw := by
    have grant : v.rqt.grant = .verify := by rw [← hv]
    unfold State.grantLaw
    rw [grant]
    refine ⟨fun x hx _ => records x hx, fun x hx => by simp [records x hx], nofun, fun x hx => ?_, nofun⟩
    rcases run x hx with p | p <;> simp [p]
  have idle : v.gateIdle := by rw [← hv]; exact h.gateIdle
  refine held_of_idle (grantLaw_of_same (by simp) law) (by simpa [State.gateIdle] using idle) (fun x hx => ?_)
    fun x hx => ?_
  · simp [records x (by simpa using hx)]
  · rcases run x (by simpa using hx) with p | p <;> simp [p]

end grants

/-- A pass changes neither what a record is nor its state. -/
theorem passOver_same (c : Nat) (r : Record) :
    (passOver c r).port = r.port ∧ (passOver c r).tag = r.tag ∧ (passOver c r).work = r.work ∧
      (passOver c r).state = r.state := by
  by_cases passed : (r.candidate && decide (r.cls = c)) = true
  · simp only [passOver, passed, if_true]
    split
    · exact ⟨rfl, rfl, rfl, rfl⟩
    · split <;> exact ⟨rfl, rfl, rfl, rfl⟩
  · simp [passOver, passed]

theorem addPasses_held {s : State} (h : s.Held) (c : Nat) : (addPasses c s).Held := by
  obtain ⟨⟨barrier, granted, holder, run, slot⟩, gate⟩ := h
  refine ⟨⟨fun r mem work => ?_, fun r mem => ?_, fun p t grant => ?_, run, slot⟩,
    { gate with record := fun r mem busy => ?_ }⟩
  · obtain ⟨y, old, rfl⟩ := List.mem_map.mp mem
    obtain ⟨-, -, same, state⟩ := passOver_same c y
    rw [state]
    exact barrier y old (same ▸ work)
  · obtain ⟨y, old, rfl⟩ := List.mem_map.mp mem
    obtain ⟨port, tag, -, state⟩ := passOver_same c y
    rw [state, port, tag]
    exact granted y old
  · obtain ⟨y, old, port, tag⟩ := holder p t grant
    obtain ⟨port', tag', -, -⟩ := passOver_same c y
    exact ⟨_, List.mem_map_of_mem old, port'.trans port, tag'.trans tag⟩
  · obtain ⟨y, old, rfl⟩ := List.mem_map.mp mem
    obtain ⟨-, -, -, state⟩ := passOver_same c y
    rw [state] at busy ⊢
    exact gate.record y old busy

section choose
variable {s : State} (h : s.Free) (loaded : s.trc.roll = .loaded)
include h loaded

theorem chooseRecord_held (table : s.tableLaw) : (chooseRecord s).Held := by
  unfold chooseRecord
  split
  · rename_i r found
    obtain ⟨mem, candidate⟩ := chosen_mem found
    have work : r.work ≠ .barrier := by simpa using (Bool.and_eq_true_iff.mp candidate).2
    exact addPasses_held (grantRecord_held h mem work table loaded) _
  · exact h.held

theorem chooseWork_held (table : s.tableLaw) : (chooseWork s).Held := by
  unfold chooseWork
  split
  · rename_i r taken
    split
    · split
      · exact chooseRecord_held (outclassRun_free h) loaded ((outclassRun_keeps s).table table)
      · exact addPasses_held (grantRun_held h r taken loaded) _
    · exact chooseRecord_held h loaded table
  · exact chooseRecord_held h loaded table

end choose

theorem examine_held {w : Ctx} (h : w.st.Held) (table : w.st.tableLaw) : (examine w).st.Held := by
  unfold examine
  split
  case isFalse => exact h
  case isTrue opportunity =>
    simp only [State.opportunity, Bool.and_eq_true, decide_eq_true_eq] at opportunity
    obtain ⟨⟨⟨⟨⟨loaded, -⟩, -⟩, -⟩, -⟩, grant⟩ := opportunity
    have free := clearUnreachable_free (h.free grant)
    have table' := (clearUnreachable_keeps w).table table
    have loaded' : (clearUnreachable w).st.trc.roll = .loaded := by simpa using loaded
    have verified : (setVerified 4 (clearUnreachable w)).st.Free := free.of_same (by simp [State.sameGate])
    dsimp only
    refine held_ite (chooseWork_held free loaded' table') (held_ite ?_ (grantVerify_held free))
    exact chooseWork_held verified (by simpa using loaded') ((setVerified_keeps _ 4).table table')

end Sys2Proof.Machine
end

section
/-! SUPPORT. The laws of the grant and of the gate over cancels, UNLOAD, HALT, the port reset and the rewind (R13 to R16, R33, R132,
R133, R135, R161, R174, R176, R195). -/

namespace Sys2Proof.Machine

/-! ### Cancels (R132, R133, R174) -/

/-- The grant is gone, and GTU's work for it ends: nothing is granted, and the gate is IDLE. -/
theorem endGrantWork_free {w : Ctx} (law : w.st.grantLaw) (grant : w.st.rqt.grant = .none)
    (idle : (dropInHand w.st).gateIdle) : (endGrantWork w).st.Free := by
  have dropped : (w.upd dropInHand).st.Free := .of_idle (dropInHand_grantLaw law) (by simpa using grant) idle
  unfold endGrantWork
  dsimp only
  split
  · exact dropped.of_same (by simp [State.sameGate])
  · exact orderStop_free dropped.held _ dropped.grant

/-- The grant stays or falls, and neither a presentation nor a grant in hand appears. -/
def State.wanes (s t : State) : Prop :=
  (t.rqt.grant = s.rqt.grant ∨ t.rqt.grant = .none) ∧ (s.gtu.presentation = none → t.gtu.presentation = none) ∧
  (s.gtu.inHand = none → t.gtu.inHand = none)

theorem State.Free.wanes {s t : State} (h : t.Free) : s.wanes t := ⟨.inr h.grant, fun _ => h.shown, fun _ => h.hand⟩

theorem State.wanes.trans {s t u : State} (h : s.wanes t) (k : t.wanes u) : s.wanes u :=
  ⟨k.1.elim (fun same => same ▸ h.1) .inr, k.2.1 ∘ h.2.1, k.2.2 ∘ h.2.2⟩

/-- What a cancel knows of a record that it found in a state, also after it has cancelled others. -/
structure State.Due (s : State) (r : Record) : Prop where
  waiting : r.state = .waiting → s.rqt.grant ≠ .record r.port r.tag
  busy : r.state ≠ .waiting → s.rqt.grant = .record r.port r.tag ∨ s.rqt.grant = .none
  granted : r.state = .granted → s.gtu.presentation = none
  atGate : r.state = .atGate → s.gtu.inHand = none

theorem State.Due.of_wanes {s t : State} {r : Record} (due : s.Due r) (wanes : s.wanes t) : t.Due r := by
  obtain ⟨waiting, busy, granted, atGate⟩ := due
  obtain ⟨grant, shown, hand⟩ := wanes
  refine ⟨fun p => ?_, fun p => ?_, fun p => shown (granted p), fun p => hand (atGate p)⟩
  · rcases grant with same | none
    · rw [same]; exact waiting p
    · simp [none]
  · rcases grant with same | none
    · rw [same]; exact busy p
    · exact .inr none

theorem State.Held.due {s : State} (h : s.Held) {r : Record} (mem : r ∈ s.rqt.records) : s.Due r := by
  have granted := h.grant.2.1 r mem
  refine ⟨fun p held => granted.mpr held p, fun p => .inl (granted.mp p), fun p => ?_, fun p => ?_⟩
  · have := (h.gate.record r mem (by simp [p])).not.mp (by simp [p])
    simpa using this
  · have shown := (h.gate.record r mem (by simp [p])).mp p
    by_contra hand
    rw [h.unshown hand] at shown
    cases shown

/-- A way to complete a record: it ends the grant that the record holds, and leaves the gate and another's grant alone. -/
structure CompletesRecord (done : Record → OutcomeCode → Ctx → Ctx) : Prop where
  other : ∀ r o (w : Ctx), w.st.Held → w.st.rqt.grant ≠ .record r.port r.tag → (done r o w).st.Held
  releases : ∀ r o (w : Ctx), w.st.releases (done r o w).st
  ends : ∀ r o (w : Ctx), w.st.grantLaw → w.st.rqt.grant = .record r.port r.tag ∨ w.st.rqt.grant = .none →
    (done r o w).st.rqt.grant = .none
  gate : ∀ r o (w : Ctx), w.st.gateStays (done r o w).st

theorem completeRecord_completes : CompletesRecord completeRecord where
  other _ o _ h other := completeRecord_held h other o
  releases r o w := completeRecord_releases w r o
  ends r o w law held := completeRecord_grant w law r o held
  gate _ _ _ := by simp [State.gateStays]

theorem completeRecordOnly_completes : CompletesRecord completeRecordOnly where
  other _ o _ h other := (completeRecordOnly_held h other o).1
  releases r o w := completeRecordOnly_releases w r o
  ends r o w law held := by
    rw [completeRecordOnly_grant]
    rcases held with held | held <;> simp [held]
  gate _ _ _ := by simp [State.gateStays]

theorem gateIdle_of_stays {s t : State} (same : s.gateStays t) (idle : s.gateIdle) : t.gateIdle := by
  obtain ⟨phase, hand, shown, -⟩ := same
  rw [State.gateIdle, phase, hand, shown]
  exact idle

theorem dropped_of_stays {s t : State} (same : s.gateStays t) (idle : (dropInHand s).gateIdle) : (dropInHand t).gateIdle := by
  obtain ⟨phase, -, shown, -⟩ := same
  simpa [State.gateIdle, dropInHand, phase, shown] using idle

theorem deferCancel_held {s : State} (h : s.Held) (exposing : s.gtu.phase = .exposing) : (deferCancel s).Held := by
  have shown := h.gate.shown.mpr (.inr exposing)
  refine h.showing (Option.isSome_iff_ne_none.mp shown) ?_ (.inr exposing) ⟨rfl, rfl, rfl, rfl, rfl, rfl⟩
  rw [deferCancel, Option.map_map]
  refine Option.map_congr fun x _ => ?_
  show (if _ then _ else x).holder = x.holder
  split <;> rfl

theorem cancelRecord_held {done : Record → OutcomeCode → Ctx → Ctx} (completes : CompletesRecord done) {w : Ctx}
    (h : w.st.Held) {r : Record} (due : w.st.Due r) :
    (cancelRecord done r w).st.Held ∧ w.st.wanes (cancelRecord done r w).st := by
  unfold cancelRecord
  cases state : r.state with
  | waiting =>
    obtain ⟨-, hand, shown, -⟩ := completes.gate r .cancelled w
    exact ⟨completes.other r _ w h (due.waiting state),
      (completes.releases r _ w h.grant).2, fun none => shown.trans none, fun none => hand.trans none⟩
  | granted =>
    have law := (completes.releases r .cancelled w h.grant).1
    have grant := completes.ends r .cancelled w h.grant (due.busy (by simp [state]))
    have free := endGrantWork_free law grant (dropped_of_stays (completes.gate _ _ _) (h.dropped (due.granted state)))
    exact ⟨free.held, free.wanes⟩
  | atGate =>
    dsimp only
    split
    · rename_i exposing
      exact ⟨deferCancel_held h exposing, .inl rfl, fun none => by simp [deferCancel, none], id⟩
    · have law : (w.upd clearPresentation).st.grantLaw := clearPresentation_grantLaw h.grant
      have idle : (w.upd clearPresentation).st.gateIdle := ⟨rfl, due.atGate state, rfl⟩
      have free : (done r .cancelled (w.upd clearPresentation)).st.Free :=
        .of_idle (completes.releases _ _ _ law).1
          (completes.ends r _ _ law (by simpa using due.busy (by simp [state])))
          (gateIdle_of_stays (completes.gate _ _ _) idle)
      exact ⟨free.held, free.wanes⟩

theorem cancelEach_held (l : List Record) {w : Ctx} (h : w.st.Held) (due : ∀ r ∈ l, w.st.Due r) :
    (cancelEach l w).st.Held ∧ w.st.wanes (cancelEach l w).st := by
  unfold cancelEach
  induction l generalizing w with
  | nil => exact ⟨h, .inl rfl, id, id⟩
  | cons r l ih =>
    obtain ⟨held, wanes⟩ := cancelRecord_held completeRecordOnly_completes h (due r List.mem_cons_self)
    obtain ⟨held', wanes'⟩ := ih held fun x mem => (due x (List.mem_cons_of_mem _ mem)).of_wanes wanes
    exact ⟨held', wanes.trans wanes'⟩

/-- What a cancel knows of the run that it found in a state, also after it has cancelled records. -/
structure State.DueRun (s : State) (r : Run) : Prop where
  waiting : r.state = .ready ∨ r.state = .suspended → s.rqt.grant ≠ .run
  busy : r.state = .granted ∨ r.state = .atGate → s.rqt.grant = .run ∨ s.rqt.grant = .none
  granted : r.state = .granted → s.gtu.presentation = none
  atGate : r.state = .atGate → s.gtu.inHand = none

theorem State.DueRun.of_wanes {s t : State} {r : Run} (due : s.DueRun r) (wanes : s.wanes t) : t.DueRun r := by
  obtain ⟨waiting, busy, granted, atGate⟩ := due
  obtain ⟨grant, shown, hand⟩ := wanes
  refine ⟨fun p => ?_, fun p => ?_, fun p => shown (granted p), fun p => hand (atGate p)⟩
  · rcases grant with same | none
    · rw [same]; exact waiting p
    · simp [none]
  · rcases grant with same | none
    · rw [same]; exact busy p
    · exact .inr none

theorem State.Held.dueRun {s : State} (h : s.Held) {r : Run} (taken : s.rqt.run = some r) : s.DueRun r := by
  have granted := h.grant.2.2.2.1 r taken
  refine ⟨fun p held => ?_, fun p => .inl (granted.mp p), fun p => ?_, fun p => ?_⟩
  · rcases granted.mpr held with q | q <;> simp [q] at p
  · have := (h.gate.run r taken (.inl p)).not.mp (by simp [p])
    simpa using this
  · have shown := (h.gate.run r taken (.inr p)).mp p
    by_contra hand
    rw [h.unshown hand] at shown
    cases shown

/-- A way to complete the run. -/
structure CompletesRun (done : OutcomeCode → Ctx → Ctx) : Prop where
  other : ∀ o (w : Ctx), w.st.Held → w.st.rqt.grant ≠ .run → (done o w).st.Held
  releases : ∀ o (w : Ctx), w.st.releases (done o w).st
  ends : ∀ o (w : Ctx), w.st.grantLaw → w.st.rqt.grant = .run ∨ w.st.rqt.grant = .none → (done o w).st.rqt.grant = .none
  gate : ∀ o (w : Ctx), w.st.gateStays (done o w).st

theorem completeRun_completes : CompletesRun completeRun where
  other o _ h other := completeRun_held h other o
  releases o w := completeRun_releases w o
  ends o w law held := completeRun_grant w law o held
  gate _ _ := by simp [State.gateStays]

theorem completeRunOnly_completes : CompletesRun completeRunOnly where
  other o _ h other := (completeRunOnly_held h other o).1
  releases o w := completeRunOnly_releases w o
  ends o w law held := completeRunOnly_grant w law o held
  gate _ _ := by simp [State.gateStays]

theorem cancelRun_held {done : OutcomeCode → Ctx → Ctx} (completes : CompletesRun done) {w : Ctx} (h : w.st.Held) {r : Run}
    (due : w.st.DueRun r) : (cancelRun done r w).st.Held ∧ w.st.wanes (cancelRun done r w).st := by
  have waits (p : r.state = .ready ∨ r.state = .suspended) :
      (done .cancelled w).st.Held ∧ w.st.wanes (done .cancelled w).st := by
    obtain ⟨-, hand, shown, -⟩ := completes.gate .cancelled w
    exact ⟨completes.other _ w h (due.waiting p),
      (completes.releases _ w h.grant).2, fun none => shown.trans none, fun none => hand.trans none⟩
  unfold cancelRun
  cases state : r.state with
  | ready => exact waits (.inl state)
  | suspended => exact waits (.inr state)
  | granted =>
    have law := (completes.releases .cancelled w h.grant).1
    have grant := completes.ends .cancelled w h.grant (due.busy (.inl state))
    have free := endGrantWork_free law grant (dropped_of_stays (completes.gate _ _) (h.dropped (due.granted state)))
    exact ⟨free.held, free.wanes⟩
  | atGate =>
    dsimp only
    split
    · rename_i exposing
      exact ⟨deferCancel_held h exposing, .inl rfl, fun none => by simp [deferCancel, none], id⟩
    · have law : (w.upd clearPresentation).st.grantLaw := clearPresentation_grantLaw h.grant
      have idle : (w.upd clearPresentation).st.gateIdle := ⟨rfl, due.atGate state, rfl⟩
      have free : (done .cancelled (w.upd clearPresentation)).st.Free :=
        .of_idle (completes.releases _ _ law).1 (completes.ends _ _ law (by simpa using due.busy (.inr state)))
          (gateIdle_of_stays (completes.gate _ _) idle)
      exact ⟨free.held, free.wanes⟩

/-! ### UNLOAD and the rewind (R13 to R16) -/

theorem completeEachOnly_records (o : OutcomeCode) (l : List Record) (w : Ctx) :
    (completeEachOnly o l w).st.rqt.records =
      w.st.rqt.records.filter fun x => !(l.any fun r => decide (x.port = r.port ∧ x.tag = r.tag)) := by
  unfold completeEachOnly
  induction l generalizing w with
  | nil => simp
  | cons r l ih =>
    rw [List.foldl_cons, ih, completeRecordOnly_records, List.filter_filter]
    refine List.filter_congr fun x _ => ?_
    rw [List.any_cons, Bool.not_or, Bool.and_comm]

theorem completeEachOnly_run (o : OutcomeCode) (l : List Record) (w : Ctx) :
    (completeEachOnly o l w).st.rqt.run = w.st.rqt.run := by simp

theorem completeRunOnly_run (o : OutcomeCode) (w : Ctx) : (completeRunOnly o w).st.rqt.run = none := by
  unfold completeRunOnly
  split
  · assumption
  · rfl

/-- UNLOAD leaves no record and no run (R13, R14). -/
theorem unloadWork_empty (w : Ctx) : (unloadWork w).st.rqt.records = [] ∧ (unloadWork w).st.rqt.run = none := by
  unfold unloadWork
  dsimp only
  cases run : w.st.rqt.run with
  | some r =>
    constructor
    · rw [completeEachOnly_records, List.filter_eq_nil_iff]
      intro x mem
      have old : x ∈ w.st.rqt.records.filter fun x => !((w.st.rqt.records.filter fun x => older x.arrival r.arrival).any
          fun r => decide (x.port = r.port ∧ x.tag = r.tag)) := by
        rw [← completeEachOnly_records .unloaded]
        simpa using mem
      obtain ⟨old, kept⟩ := List.mem_filter.mp old
      have young : older x.arrival r.arrival = false := by
        by_contra elder
        simp only [Bool.not_eq_true', List.any_eq_false, List.mem_filter, and_imp, decide_eq_true_eq] at kept
        exact kept x old (by simpa using elder) ⟨rfl, rfl⟩
      simp only [Bool.not_eq_true', Bool.not_eq_false, List.any_eq_true, decide_eq_true_eq]
      exact ⟨x, List.mem_filter.mpr ⟨old, by simp [young]⟩, rfl, rfl⟩
    · rw [completeEachOnly_run, completeRunOnly_run]
  | none =>
    constructor
    · rw [completeEachOnly_records, List.filter_eq_nil_iff]
      intro x mem
      simp only [Bool.not_eq_true', Bool.not_eq_false, List.any_eq_true, decide_eq_true_eq]
      exact ⟨x, mem, rfl, rfl⟩
    · rw [completeEachOnly_run, run]

/-- A roll that is not LOADED has an IDLE gate, whose law any roll state and any move keeps. -/
theorem State.Held.of_idle {s t : State} (h : s.Held) (idle : s.gateIdle)
    (same : t.rqt.records = s.rqt.records ∧ t.rqt.run = s.rqt.run ∧ t.rqt.grant = s.rqt.grant ∧
      t.gtu.phase = s.gtu.phase ∧ t.gtu.inHand = s.gtu.inHand ∧ t.gtu.presentation = s.gtu.presentation) : t.Held := by
  obtain ⟨e1, e2, e3, e4, e5, e6⟩ := same
  refine held_of_idle (grantLaw_of_same ⟨e1, e2, e3⟩ h.grant) (by rw [State.gateIdle, e4, e5, e6]; exact idle) ?_ ?_
  · rw [e1]
    intro r mem state
    have := (h.gate.record r mem (by simp [state])).mp state
    simp [idle.2.2] at this
  · rw [e2]
    intro x hx state
    have := (h.gate.run x hx (.inr state)).mp state
    simp [idle.2.2] at this

theorem State.Held.idle_of_roll {s : State} (h : s.Held) (roll : s.trc.roll ≠ .loaded) : s.gateIdle := by
  refine h.idle_of_phase ?_
  by_contra phase
  exact roll (h.gate.loaded phase)

theorem checkRewindEnd_held {w : Ctx} (h : w.st.Held) : (checkRewindEnd w).st.Held := by
  by_cases rewinding : w.st.trc.roll = .rewinding
  · exact h.of_idle (h.idle_of_roll (by simp [rewinding])) (by simp)
  · unfold checkRewindEnd
    rw [if_neg fun ends => rewinding ends.1]
    exact h

/-- A rewind begins where no grant is in FOCUSING and nothing is presented. -/
theorem beginRewind_held {w : Ctx} (h : w.st.Held)
    (phase : w.st.gtu.phase ≠ .focusing ∧ w.st.gtu.phase ≠ .presented ∧ w.st.gtu.phase ≠ .exposing) :
    (beginRewind w).st.Held := by
  have gate {t : State} (job : t.job ≠ some .jog) (same : w.st.sameGate t) : t.Held := by
    obtain ⟨e1, e2, e3, e4, e5, e6, e7⟩ := same
    obtain ⟨law, hand, shown, handNamed, shownNamed, record, running, rest, jog, loaded⟩ := h
    refine ⟨grantLaw_of_same ⟨e1, e2, e3⟩ law, ?_, ?_, ?_, ?_, ?_, ?_, ?_, fun p => absurd p job, ?_⟩
    · rw [e4, e5]; exact hand
    · rw [e4, e6]; exact shown
    · rw [e3, e5]; exact handNamed
    · rw [e3, e6]; exact shownNamed
    · rw [e1, e6]; exact record
    · rw [e2, e6]; exact running
    · rw [e4]
      rintro (p | p | p)
      · exact absurd p phase.1
      · exact absurd p phase.2.1
      · exact absurd p phase.2.2
    · rw [e4, e7]; exact loaded
  unfold beginRewind
  split
  · exact gate (by simp [State.job]) (by simp [State.sameGate])
  · refine checkRewindEnd_held (w := Ctx.upd w _) (gate ?_ (by simp [State.sameGate]))
    simp [State.job, travelLeg, openMove]

theorem idle_phase {s : State} (idle : s.gateIdle) :
    s.gtu.phase ≠ .focusing ∧ s.gtu.phase ≠ .presented ∧ s.gtu.phase ≠ .exposing := by
  rw [idle.1]
  simp

theorem resumeRewind_held {w : Ctx} (h : w.st.Held) : (resumeRewind w).st.Held := by
  unfold resumeRewind
  split
  case isTrue resumes => exact beginRewind_held h (idle_phase (h.idle_of_roll (by simp [resumes.1])))
  case isFalse => exact h

theorem rewindFrom_held {w : Ctx} (h : w.st.Held) (idle : w.st.gateIdle) : (rewindFrom w).st.Held := by
  have begun := beginRewind_held h (idle_phase idle)
  unfold rewindFrom
  split
  · exact begun
  · exact begun
  case _ | _ | _ | _ => exact held_ite (h.of_idle idle (by simp)) begun
  all_goals exact h.of_idle idle (by simp)

/-! ### HALT and the port reset (R33, R135, R161, R176, R195) -/

theorem haltTransport_held {w : Ctx} (h : w.st.Held) : (haltTransport w).st.Held := by
  cases move : w.st.trc.move with
  | none =>
    have same : haltTransport w = w := by simp only [haltTransport, move]
    rw [same]
    exact h
  | some m =>
    simp only [haltTransport, move]
    split
    · split
      · exact h.same_job (job_of_move move).symm (by simp [State.sameGate])
      · exact h
    · exact orderStop_held h _

theorem resetExposure_held {w : Ctx} (h : w.st.Held) (p : Port) : (resetExposure p w).st.Held := by
  unfold resetExposure
  split
  · split
    · dsimp only
      have dropped : (w.upd dropExposure).st.Held := h.of_same (by simp [State.sameGate])
      refine beginHeld_held ?_
      split
      · exact focusReady_held (w := Ctx.upd _ _) (dropped.of_same (by simp [State.sameGate])) _
      · exact dropped
    · exact h
  · exact h

theorem names_port {g : Grant} {h : Holder} {s : State} (grant : s.rqt.grant = g) (named : g.names h) (p : Port) :
    s.grantOf p = decide (h.port = p) := by
  unfold State.grantOf
  cases h with
  | record q t =>
    have same : g = .record q t := named
    rw [grant, same]
    rfl
  | run t =>
    have same : g = .run := named
    rw [grant, same]
    show decide (p = .a) = decide (Port.a = p)
    simp [eq_comm]

end Sys2Proof.Machine
end

section
/-! SUPPORT. The laws of the grant and of the gate over the port reset (R135, R161, R176, R195). -/

namespace Sys2Proof.Machine

section reset
variable {s : State} {p : Port}

/-- The grant belongs to the port: it falls with the port's records and run. -/
theorem removePortWork_of_grant (law : s.grantLaw) (held : s.grantOf p = true) :
    (removePortWork p s).grantLaw ∧ (removePortWork p s).rqt.grant = .none := by
  have none : (removePortWork p s).rqt.grant = .none := by simp [removePortWork, held]
  refine ⟨(grantLaw_of_none none).mpr ⟨fun r mem => ?_, fun x hx => ?_⟩, none⟩
  · obtain ⟨old, port⟩ := List.mem_filter.mp mem
    refine grantLaw_waiting law old fun grant => ?_
    simp only [State.grantOf, grant, decide_eq_true_eq] at held
    exact absurd held (by simpa using port)
  · have slot : s.rqt.run = some x ∧ p ≠ .a := by
      simp only [removePortWork] at hx
      split at hx
      · cases hx
      · exact ⟨hx, ‹_›⟩
    have idle := (law.2.2.2.1 x slot.1).not.mpr fun grant => by simp [State.grantOf, grant, slot.2] at held
    cases state : x.state <;> simp_all

theorem removePortWork_of_other (law : s.grantLaw) (other : s.grantOf p = false) :
    (removePortWork p s).grantLaw ∧ (removePortWork p s).rqt.grant = s.rqt.grant := by
  have same : (removePortWork p s).rqt.grant = s.rqt.grant := by simp [removePortWork, other]
  obtain ⟨barrier, granted, holder, run, slot⟩ := law
  refine ⟨⟨fun r mem => barrier r (List.mem_of_mem_filter mem), fun r mem => ?_, fun q t grant => ?_, fun x hx => ?_,
    fun grant => ?_⟩, same⟩
  · rw [same]
    exact granted r (List.mem_of_mem_filter mem)
  · rw [same] at grant
    obtain ⟨r, mem, port, tag⟩ := holder q t grant
    refine ⟨r, List.mem_filter.mpr ⟨mem, ?_⟩, port, tag⟩
    rw [port]
    simpa [State.grantOf, grant] using other
  · rw [same]
    refine run x ?_
    simp only [removePortWork] at hx
    split at hx
    · cases hx
    · exact hx
  · rw [same] at grant
    have notA : p ≠ .a := by simpa [State.grantOf, grant] using other
    simp only [removePortWork, notA, if_false]
    exact slot grant

/-- The state after the work of a port has left, before the move of its grant is stopped. -/
theorem resetPresentation_of_grant (h : s.Held) (held : s.grantOf p = true) :
    (dropInHand (resetPresentation p (removePortWork p s))).gateIdle := by
  unfold resetPresentation
  split
  · rename_i x shown
    have present : s.gtu.presentation = some x := shown
    have port := names_port rfl (h.gate.shownNamed x present) p
    rw [held, eq_comm, decide_eq_true_eq] at port
    rw [if_pos port]
    simp [State.gateIdle, dropInHand, clearPresentation]
  · rename_i shown
    have := h.dropped shown
    simpa [State.gateIdle, dropInHand] using this

theorem resetPresentation_of_other (h : s.Held) (other : s.grantOf p = false) :
    resetPresentation p (removePortWork p s) = removePortWork p s := by
  unfold resetPresentation
  split
  · rename_i x shown
    have present : s.gtu.presentation = some x := shown
    have port := names_port rfl (h.gate.shownNamed x present) p
    rw [other, eq_comm, decide_eq_false_iff_not] at port
    rw [if_neg port]
  · rfl

end reset

theorem settleAlmostFull_held {s : State} (h : s.Held) : (settleAlmostFull s).Held := h.of_same (by simp [State.sameGate])

theorem portCleared_held {w : Ctx} (h : w.st.Held) (p : Port) : (portCleared p w).st.Held := by
  unfold portCleared
  dsimp only
  generalize ha : (w.upd fun s => resetSources p (s.setLink p (resetLinkState (s.link p)))) = a
  have start : a.st.Held := by rw [← ha]; exact h.of_same (by simp [State.sameGate])
  have same : w.st.grantOf p = a.st.grantOf p := by rw [← ha]; simp [State.grantOf]
  rw [same]
  generalize hb : (a.upd fun s =>
    { resetPresentation p (removePortWork p s) with gtu.watches := s.gtu.watches.set p false }) = b
  have gate {P : State → Prop} (stays : P (resetPresentation p (removePortWork p a.st)))
      (of_watches : ∀ s x, P s → P { s with gtu.watches := x }) : P b.st := by
    rw [← hb]
    exact of_watches _ _ stays
  have removed : (if a.st.grantOf p = true then endGrantWork b else b).st.Held := by
    cases held : a.st.grantOf p with
    | true =>
      rw [if_pos rfl]
      obtain ⟨law, grant⟩ := removePortWork_of_grant start.grant held
      refine (endGrantWork_free ?_ ?_ ?_).held
      · exact gate (grantLaw_of_same (by simp) law) fun _ _ => id
      · exact gate (P := fun s => s.rqt.grant = .none) (by simpa using grant) fun _ _ => id
      · exact gate (P := fun s => (dropInHand s).gateIdle) (resetPresentation_of_grant start held) fun _ _ => id
    | false =>
      rw [if_neg (by simp)]
      obtain ⟨law, grant⟩ := removePortWork_of_other start.grant held
      refine gate (P := State.Held) ?_ fun _ _ h => h.of_same (by simp [State.sameGate])
      rw [resetPresentation_of_other start held]
      refine start.of_fewer law (fun r mem => List.mem_of_mem_filter mem) (fun x hx => ?_) grant ⟨rfl, rfl, rfl, rfl, rfl⟩
      simp only [removePortWork] at hx
      split at hx
      · cases hx
      · exact hx
  exact resetExposure_held (w := Ctx.upd _ settleAlmostFull) (settleAlmostFull_held removed) p

theorem portReset_held {w : Ctx} (h : w.st.Held) (table : w.st.tableLaw) (p : Port) : (portReset p w).st.Held :=
  examine_held (portCleared_held h p) ((portCleared_keeps p w).table table)

end Sys2Proof.Machine
end

section
/-! SUPPORT. The laws of the grant and of the gate over every accepted request (R211, R216). -/

namespace Sys2Proof.Machine

theorem held_core (s : State) : s.core.Held ↔ s.Held := by
  have gate : s.core.gateLaw ↔ s.gateLaw := by
    cases phase : s.gtu.phase <;> simp [State.gateLaw, State.core, Phase.rough, phase]
  constructor
  · exact fun h => ⟨h.grant, gated_iff.mpr (gate.mp (gated_iff.mp h.gate))⟩
  · exact fun h => ⟨h.grant, gated_iff.mpr (gate.mpr (gated_iff.mp h.gate))⟩

theorem finish_held {w : Ctx} (h : w.st.Held) : (finish w).Held := by
  rw [← held_core, finish_core, held_core]
  exact h

theorem refuse_held {s : State} (h : s.Held) (e : Env) (st : Status) (results : List Byte) :
    (refuse e st results s).Held := h.of_same (by simp [State.sameGate])

theorem run_of_tagged {s : State} {p : Port} {t : Byte} {r : Run} (found : s.runTagged p t = some r) :
    s.rqt.run = some r := by
  unfold State.runTagged at found
  split at found
  · rename_i run
    split at found
    · cases found
      exact run
    · cases found
  · cases found

theorem endable_shown {s : State} {p : Port} {t : Byte} {x : Presentation} (found : s.endable p t = some x) :
    s.gtu.presentation = some x := by
  unfold State.endable at found
  split at found
  · rename_i shown
    split at found
    · cases found
      exact shown
    · cases found
  · cases found

section requests
variable {s : State} (h : s.Held) (table : s.tableLaw) (e : Env)
include h

theorem reply_held (st : Status) (results : List Byte) : (e.reply st results (Ctx.start s)).st.Held :=
  h.of_same (by simp [State.sameGate])

theorem takenTimed_held (k : TimedKind) (st : Status) (results : List Byte) :
    (e.reply st results ((Ctx.start s).upd (reserveTimed e k))).st.Held := h.of_same (by simp [State.sameGate])

theorem takenRecord_held (st : Status) (results : List Byte) :
    (e.reply st results ((Ctx.start s).upd (reserve e.port))).st.Held := h.of_same (by simp [State.sameGate])

/-! ### LOAD and UNLOAD (R9, R13 to R15) -/

theorem doLoad_held (p : Profile) (clamped : List Nat) (empty : s.trc.roll = .empty) : (doLoad e p clamped s).Held := by
  unfold doLoad
  refine finish_held (w := Ctx.upd _ _) (h.of_idle (h.idle_of_roll (by simp [empty])) ?_)
  simp

omit h in
theorem unloadClear_free {w : Ctx} (empty : w.st.rqt.records = [] ∧ w.st.rqt.run = none) : (unloadClear w.st).Free := by
  have none : (unloadClear w.st).rqt.grant = .none := rfl
  refine .of_idle ((grantLaw_of_none none).mpr ⟨?_, ?_⟩) none ?_
  · simp [empty.1]
  · simp [empty.2]
  · simp [State.gateIdle, unloadClear, dropInHand, clearPresentation]

omit h in
theorem doUnload_held : (doUnload e s).Held := by
  unfold doUnload
  extract_lets w u
  have free : u.st.Free := unloadClear_free (unloadWork_empty (abandonExposure .unloaded w))
  have level : (setLevel .rollState false [Roll.code .rewinding] u).st.Free := free.of_same (by simp [State.sameGate])
  exact finish_held (rewindFrom_held level.held level.gateIdle)

/-! ### Records and the run (R113, R134, R162) -/

omit h in
theorem makeRecord_held {w : Ctx} (h : w.st.Held) (work : Work) (cls : Nat) (room : w.st.Room e) :
    (makeRecord e work cls w).st.Held := by
  have free : w.st.rqt.grant ≠ .record e.port e.tag := fun grant => by
    obtain ⟨r, mem, port, tag⟩ := h.grant.2.2.1 _ _ grant
    exact room.fresh r mem port tag
  have records := makeRecord_records e work cls w
  have new {r : Record} (mem : r ∈ (makeRecord e work cls w).st.rqt.records) :
      r ∈ w.st.rqt.records ∨ r = ⟨e.port, e.tag, work, cls, 0, w.st.rqt.arrival, .waiting⟩ := by
    rw [records] at mem
    simpa using mem
  obtain ⟨⟨barrier, granted, holder, run, slot⟩, gate⟩ := h
  have e2 : (makeRecord e work cls w).st.rqt.run = w.st.rqt.run := by simp
  have e3 : (makeRecord e work cls w).st.rqt.grant = w.st.rqt.grant := by simp
  have e4 : (makeRecord e work cls w).st.gtu = w.st.gtu := by simp
  have e5 : (makeRecord e work cls w).st.job = w.st.job := job_of_same (by simp)
  have e6 : (makeRecord e work cls w).st.trc.roll = w.st.trc.roll := by simp
  refine ⟨⟨fun r mem work => ?_, fun r mem => ?_, fun p t grant => ?_, ?_, ?_⟩,
    ⟨?_, ?_, ?_, ?_, fun r mem busy => ?_, ?_, ?_, ?_, ?_⟩⟩
  · rcases new mem with old | rfl
    · exact barrier r old work
    · rfl
  · rw [e3]
    rcases new mem with old | rfl
    · exact granted r old
    · exact ⟨fun p => absurd rfl p, fun p => absurd p free⟩
  · rw [e3] at grant
    obtain ⟨r, mem, port, tag⟩ := holder p t grant
    exact ⟨r, by rw [records]; exact List.mem_append_left _ mem, port, tag⟩
  · rw [e2, e3]; exact run
  · rw [e2, e3]; exact slot
  · rw [e4]; exact gate.hand
  · rw [e4]; exact gate.shown
  · rw [e3, e4]; exact gate.handNamed
  · rw [e3, e4]; exact gate.shownNamed
  · rw [e4]
    rcases new mem with old | rfl
    · exact gate.record r old busy
    · exact absurd rfl busy
  · rw [e2, e4]; exact gate.run
  · rw [e4, e5]; exact gate.rest
  · rw [e4, e5]; exact gate.jog
  · rw [e4, e6]; exact gate.loaded

theorem withRun_held (r : Run) (ready : r.state = .ready) (free : s.rqt.run = none) : (s.withRun r).Held := by
  obtain ⟨⟨barrier, granted, holder, -, slot⟩, gate⟩ := h
  have other : s.rqt.grant ≠ .run := fun grant => by
    have := slot grant
    rw [free] at this
    cases this
  refine ⟨⟨barrier, granted, holder, fun x hx => ?_, fun _ => rfl⟩, { gate with run := fun x hx busy => ?_ }⟩
  · cases hx
    rw [ready]
    exact ⟨by simp, fun grant => absurd grant other⟩
  · cases hx
    simp [ready] at busy

include table

section joins
variable {k : Kind} {body : List Byte} {a : Action} (accepted : s.Accepts e k body a)
include accepted

theorem joined_held (kinds : k = .present ∨ k = .jog ∨ k = .barrier) (work : Work) (cls : Nat) (results : List Byte) :
    (makeRecord e work cls (e.reply .accepted results ((Ctx.start s).upd (reserve e.port)))).st.Held ∧
      (makeRecord e work cls (e.reply .accepted results ((Ctx.start s).upd (reserve e.port)))).st.tableLaw := by
  have room : (e.reply .accepted results ((Ctx.start s).upd (reserve e.port))).st.Room e :=
    (room_of_accepts accepted kinds).of_rqt (by simp)
  exact ⟨makeRecord_held e (takenRecord_held h e _ results) work cls room,
    makeRecord_table e work cls room ((takenRecord_keeps e .accepted results s).table table)⟩

theorem doPresent_held (kinds : k = .present ∨ k = .jog ∨ k = .barrier) (frame : Nat) (cls : Option Nat) (mode : FocusMode)
    (hold : Option Nat) : (doPresent e frame cls mode hold s).Held :=
  have ⟨held, law⟩ := joined_held h table e accepted kinds _ _ _
  finish_held (examine_held held law)

theorem doJog_held (kinds : k = .present ∨ k = .jog ∨ k = .barrier) (delta : Int) : (doJog e delta s).Held :=
  have ⟨held, law⟩ := joined_held h table e accepted kinds _ _ _
  finish_held (examine_held held law)

theorem doBarrier_held (kinds : k = .present ∨ k = .jog ∨ k = .barrier) : (doBarrier e s).Held :=
  have ⟨held, _⟩ := joined_held h table e accepted kinds _ _ _
  finish_held (examineBarriers_held held _)

end joins

theorem doRun_held {body : List Byte} {a : Action} (accepted : s.Accepts e .run body a) (first count cls : Nat)
    (skip : Bool) (hold : Option Nat) : (doRun e first count cls skip hold s).Held := by
  have onA : e.port = .a := by simpa [Kind.permitted] using accepted.permitted
  have fresh := (tags_of_free (accepted.tagFree rfl)).1
  rw [onA] at fresh
  have free : s.rqt.run = none := by simpa [capacityRefusal] using accepted.room
  have taken := takenRecord_keeps e .accepted (BitVec.ofNat 8 cls :: be 2 (hold.getD 0)) s
  refine finish_held (examine_held (w := Ctx.upd _ _) (withRun_held (takenRecord_held h e _ _) _ rfl ?_)
    (withRun_table ?_ (taken.table table)))
  · simpa using free
  · simpa using fresh

/-! ### CANCEL, TAKE, RELEASE and EXPOSE (R132, R133, R147 to R155) -/

theorem doCancel_held (t : Byte) : (doCancel e t s).Held := by
  have replied := reply_keeps e .done [] (Ctx.start s)
  have held := reply_held h e .done []
  unfold doCancel
  cases found : s.findRecord e.port t with
  | some r =>
    have mem : r ∈ (e.reply .done [] (Ctx.start s)).st.rqt.records := by
      simpa using List.mem_of_find?_eq_some found
    exact finish_held (examine_held (cancelRecord_held completeRecord_completes held (held.due mem)).1
      ((replied.trans (cancelRecord_keeps _ (fun r o w => completeRecord_keeps w r o) _)).table table))
  | none =>
    cases tagged : s.runTagged e.port t with
    | some r =>
      have taken : (e.reply .done [] (Ctx.start s)).st.rqt.run = some r := by simpa using run_of_tagged tagged
      exact finish_held (examine_held (cancelRun_held completeRun_completes held (held.dueRun taken)).1
        ((replied.trans (cancelRun_keeps _ (fun o w => completeRun_keeps w o) _)).table table))
    | none => exact refuse_held h _ _ _

theorem doCancelAll_held : (doCancelAll e s).Held := by
  unfold doCancelAll
  extract_lets l w
  have due {results : List Byte} (r : Record) (mem : r ∈ l) : (e.reply .done results (Ctx.start s)).st.Due r := by
    refine (reply_held h e .done results).due ?_
    simpa using List.mem_of_mem_filter mem
  split
  · rename_i r found
    have taken : s.rqt.run = some r := by
      split at found
      · exact found
      · cases found
    have held : w.st.Held := reply_held h e .done _
    have dueRun : w.st.DueRun r := held.dueRun (by simpa [w] using taken)
    have replied : Keeps s w.st := reply_keeps e .done _ (Ctx.start s)
    have dueW (r : Record) (mem : r ∈ l) : w.st.Due r := due r mem
    obtain ⟨held1, wanes1⟩ := cancelEach_held (l.filter fun x => older x.arrival r.arrival) held
      fun x mem => dueW x (List.mem_of_mem_filter mem)
    obtain ⟨held2, wanes2⟩ := cancelRun_held completeRunOnly_completes held1 (dueRun.of_wanes wanes1)
    obtain ⟨held3, -⟩ := cancelEach_held (l.filter fun x => !older x.arrival r.arrival) held2
      fun x mem => (dueW x (List.mem_of_mem_filter mem)).of_wanes (wanes1.trans wanes2)
    refine finish_held (examine_held held3 (Keeps.table ?_ table))
    refine .trans ?_ (cancelEach_keeps _ _)
    refine .trans ?_ (cancelRun_keeps _ (fun o w => completeRunOnly_keeps w o) _)
    exact replied.trans (cancelEach_keeps _ _)
  · have held := (cancelEach_held l (reply_held h e .done [BitVec.ofNat 8 l.length]) fun r mem => due r mem).1
    exact finish_held (examine_held held (((reply_keeps e _ _ (Ctx.start s)).trans (cancelEach_keeps _ _)).table table))

omit table in
theorem setDeferred_held {x : Presentation} (shown : s.gtu.presentation = some x) (exposing : s.gtu.phase = .exposing)
    (d : Deferred) : (setDeferred x d s).Held :=
  h.showing (by simp [shown]) (by simp [setDeferred, shown]) (.inr exposing) ⟨rfl, rfl, rfl, rfl, rfl, rfl⟩

end requests

end Sys2Proof.Machine
end

section
/-! The laws of the grant and of the gate over the other requests and every event, and O58. -/

namespace Sys2Proof.Machine

theorem finishQuiet_held {w : Ctx} (h : w.st.Held) : (finishQuiet w).Held := h.of_same (by simp [State.sameGate])

theorem setHalted_held (on : Bool) {w : Ctx} (h : w.st.Held) :
    (setLevel .halted on [] (w.upd fun s => { s with rqt.halted := on })).st.Held := h.of_same (by simp [State.sameGate])

theorem setDelays_held {s : State} (h : s.Held) (park wake : Nat) (check : Bool) :
    State.Held (let u : State := { s with trc.parkDelay := park, trc.wakeDelay := wake }
      if check then parkIfDue u else u) := by
  have set : State.Held { s with trc.parkDelay := park, trc.wakeDelay := wake } := h.of_same (by simp [State.sameGate])
  cases check with
  | false => exact set
  | true => exact set.of_same (t := parkIfDue _) (by simp [State.sameGate])

section requests
variable {s : State} (h : s.Held) (table : s.tableLaw) (e : Env)
include h

/-! ### Requests that move no film -/

theorem doneQuiet_held (results : List Byte) {f : State → State} (same : ∀ s : State, s.Held → (f s).Held) :
    (doneQuiet e results f s).Held := finishQuiet_held (w := Ctx.upd _ f) (same _ (reply_held h e .done results))

theorem doFocusLock_held (x : Nat) : (doFocusLock e x s).Held := by
  unfold doFocusLock
  extract_lets locked u
  split
  · exact refuse_held h _ _ _
  · exact finishQuiet_held (h.of_same (by simp [u, State.sameGate]))

theorem doAckAttn_held : (doAckAttn e s).Held := by
  unfold doAckAttn
  split
  · exact doneQuiet_held h e _ fun _ => id
  · split
    · exact h
    · exact finishQuiet_held (h.of_same (by simp [State.sameGate]))

theorem doExpose_held : (doExpose e s).Held := by
  unfold doExpose
  split
  · exact refuse_held h _ _ _
  split
  · exact refuse_held h _ _ _
  split
  · exact refuse_held h _ _ _
  refine finish_held (w := Ctx.start _) ?_
  by_cases shown : s.gtu.presentation = none
  · exact h.of_same (by simp [State.sameGate, shown])
  · exact h.showing shown rfl (.inr (by simp [Option.isSome_iff_ne_none, shown])) (by simp)

theorem doClearFault_held : (doClearFault e s).Held := by
  unfold doClearFault
  split
  · exact refuse_held h _ _ _
  split
  · exact refuse_held h _ _ _
  exact finish_held (w := Ctx.upd _ _) (h.of_same (by simp [State.sameGate]))

theorem doSetStation_held (park wake : Option Nat) : (doSetStation e park wake s).Held :=
  finish_held (setDelays_held (reply_held h e .done _) _ _ park.isSome)

theorem doClearTaken_held (a b : Nat) : (doClearTaken e a b s).Held := by
  unfold doClearTaken
  split
  · exact refuse_held h _ _ _
  split
  · exact refuse_held h _ _ _
  exact finishQuiet_held (h.of_same (by simp [State.sameGate]))

theorem doHalt_held : (doHalt e s).Held := finish_held (haltTransport_held (setHalted_held true (reply_held h e _ _)))

include table

/-! ### Requests that may make an opportunity -/

theorem doResume_held : (doResume e s).Held :=
  finish_held (examine_held (resumeRewind_held (setHalted_held false (reply_held h e .done [])))
    ((((reply_keeps e .done [] (Ctx.start s)).trans (setHalted_keeps false _)).trans (resumeRewind_keeps _)).table table))

theorem doTake_held (t : Byte) : (doTake e t s).Held := by
  unfold doTake
  split
  · exact refuse_held h _ _ _
  · rename_i x found
    have marked : ((e.reply .done [] (Ctx.start s)).upd (markTaken x.frame)).st.Held := h.of_same (by simp [State.sameGate])
    have keeps : Keeps s ((e.reply .done [] (Ctx.start s)).upd (markTaken x.frame)).st :=
      (reply_keeps e .done [] (Ctx.start s)).trans (markTaken_keeps x.frame _)
    dsimp only
    split
    · rename_i exposing
      exact finish_held (setDeferred_held marked (by simpa using endable_shown found) (by simpa using exposing) _)
    · exact finish_held (examine_held (endPresentation_held marked _) ((keeps.trans (endPresentation_keeps _ _)).table table))

theorem doRelease_held (t : Byte) : (doRelease e t s).Held := by
  unfold doRelease
  split
  · exact refuse_held h _ _ _
  · rename_i x found
    have held := reply_held h e .done []
    dsimp only
    split
    · rename_i exposing
      exact finish_held (setDeferred_held held (by simpa using endable_shown found) (by simpa using exposing) _)
    · exact finish_held (examine_held (endPresentation_held held _)
        (((reply_keeps e .done [] (Ctx.start s)).trans (endPresentation_keeps _ _)).table table))

omit h in
theorem corrected_held {w : Ctx} (affected : Nat → Bool) (held : w.st.Held) (keeps : Keeps s w.st) :
    (finish (examine (afterCorrection affected w))).Held :=
  finish_held (examine_held (afterCorrection_held held _) ((keeps.trans (afterCorrection_keeps _ _)).table table))

theorem doMerge_held (n : Nat) : (doMerge e n s).Held := by
  unfold doMerge
  split
  · exact refuse_held h _ _ _
  split
  · exact refuse_held h _ _ _
  exact corrected_held table _ (h.of_same (by simp [State.sameGate])) (.of_same (by simp [State.sameBlocks]))

theorem doMove_held (n p : Nat) : (doMove e n p s).Held := by
  unfold doMove
  split
  · exact refuse_held h _ _ _
  split
  · exact refuse_held h _ _ _
  split
  · exact refuse_held h _ _ _
  exact corrected_held table _ (h.of_same (by simp [State.sameGate])) (.of_same (by simp [State.sameBlocks]))

theorem doSplit_held (n p : Nat) : (doSplit e n p s).Held := by
  unfold doSplit
  split
  · exact refuse_held h _ _ _
  split
  · exact refuse_held h _ _ _
  split
  · exact refuse_held h _ _ _
  split
  · exact refuse_held h _ _ _
  split
  · exact refuse_held h _ _ _
  extract_lets w u
  have held : w.st.Held := h.of_same (by simp [w, State.sameGate])
  have keeps : Keeps s w.st := .of_same (by simp [w, State.sameBlocks])
  refine corrected_held table _ (w := u) (held_ite (held.of_same (by simp [State.sameGate])) held) ?_
  exact .ite (keeps.trans (.of_same (by simp [State.sameBlocks]))) keeps

/-- Every accepted request keeps the laws. -/
theorem perform_held {k : Kind} {body : List Byte} {a : Action} (accepted : s.Accepts e k body a) : (perform e a s).Held := by
  have roll := accepted.roll
  have kind := accepted.kind
  rw [← kind] at roll
  cases a with
  | load p clamped => exact doLoad_held h e p clamped (by simpa [rollRefusal, Action.kind] using roll)
  | unload => exact doUnload_held e
  | present frame cls mode hold => exact doPresent_held h table e accepted (.inl kind.symm) _ _ _ _
  | run first count cls skip hold =>
    subst kind
    exact doRun_held h table e accepted _ _ _ _ _
  | jog delta => exact doJog_held h table e accepted (.inr (.inl kind.symm)) _
  | barrier => exact doBarrier_held h table e accepted (.inr (.inr kind.symm))
  | cancel t => exact doCancel_held h table e t
  | cancelAll => exact doCancelAll_held h table e
  | take t => exact doTake_held h table e t
  | release t => exact doRelease_held h table e t
  | expose => exact doExpose_held h e
  | halt => exact doHalt_held h e
  | resume => exact doResume_held h table e
  | clearFault => exact doClearFault_held h e
  | correct c =>
    cases c with
    | merge n => exact doMerge_held h table e n
    | split n p => exact doSplit_held h table e n p
    | move n p => exact doMove_held h table e n p
    | clearTaken x y => exact doClearTaken_held h e x y
  | resetLink =>
    exact finish_held (portReset_held (reply_held h e .done []) ((reply_keeps e .done [] (Ctx.start s)).table table) _)
  | setStation park wake => exact doSetStation_held h e park wake
  | watch | gateStatus | readIndex | indexStatus | focusFree | focusRead | configureLink | linkStatus | readEvents =>
    exact doneQuiet_held h e _ fun s h => h.of_same (by simp [State.sameGate])
  | focusLock x => exact doFocusLock_held h e x
  | focusUnlock x => exact finishQuiet_held (h.of_same (by simp [State.sameGate]))
  | focusSet x v => exact finishQuiet_held (h.of_same (by simp [State.sameGate]))
  | setNotices enables polarities => exact finishQuiet_held (h.of_same (by simp [setNotices, State.sameGate]))
  | clearEvents flags => exact finishQuiet_held (h.of_same (by simp [State.sameGate]))
  | ackAttn => exact doAckAttn_held h e

end requests

/-! ### Events -/

theorem countMark_held {w : Ctx} (h : w.st.Held) (d : Dir) (tallied : Bool) : (countMark d tallied w).st.Held := by
  unfold countMark
  dsimp only
  have sampled : (sampleMark d w.st.level tallied w.st).1.Held := h.of_same (by simp [State.sameGate])
  split
  · exact held_ite sampled (takeSighting_held (w := { w with st := _ }) sampled _)
  · exact sampled

theorem progress_held {s : State} (h : s.Held) : (progress s).Held :=
  h.same_job (progress_job s) (by simp [State.sameGate])

theorem endMotion_held {m : Move} {w : Ctx} (h : w.st.Held) (move : w.st.trc.move = some m) : (endMotion m w).st.Held := by
  have replan : (endReplan m w.st).Held := h.same_job (job_of_move move).symm (by simp [State.sameGate])
  unfold endMotion
  split
  · exact held_ite h replan
  · exact held_ite h replan
  · exact held_ite h replan
  · have lost := forwardLost_held h .notFound
    dsimp only
    split
    · exact held_ite lost (orderStop_held lost _)
    · exact lost
  · exact orderStop_held h _
  · exact h

section events
variable {s : State} (h : s.Held)
include h

theorem onThreadingTimeout_held : (onThreadingTimeout s).Held := by
  unfold onThreadingTimeout
  split
  case isFalse => exact h
  case isTrue threading =>
    exact finish_held (h.of_idle (h.idle_of_roll (by simp [threading.1])) (by simp))

theorem onRetensionFail_held : (onRetensionFail s).Held := by
  unfold onRetensionFail
  split
  · exact finish_held (h.of_same (by simp [State.sameGate]))
  · exact h

theorem onTensionPersistenceExpiry_held : (onTensionPersistenceExpiry s).Held := by
  unfold onTensionPersistenceExpiry
  split
  · exact finish_held (takeFault_free (w := Ctx.start s) _ h.grant).held
  · exact h

theorem onStallTimerExpiry_held : (onStallTimerExpiry s).Held := by
  unfold onStallTimerExpiry
  split
  · exact finish_held (takeFault_free (w := Ctx.start s) _ h.grant).held
  · exact h

theorem onLeaderTimerExpiry_held : (onLeaderTimerExpiry s).Held := by
  unfold onLeaderTimerExpiry
  split
  · exact finish_held (takeFault_free (w := Ctx.start s) _ h.grant).held
  · exact h

theorem onLeaderFall_held : (onLeaderFall s).Held := by
  have fallen : State.Held { s with pins.leader := false } := h.of_same (by simp [State.sameGate])
  unfold onLeaderFall
  dsimp only
  split
  · exact fallen
  · exact finish_held (checkRewindEnd_held (w := Ctx.start _) fallen)

theorem onEndRising_held : (onEndRising s).Held := by
  unfold onEndRising
  split
  · rename_i m move
    split
    · have found : (endFound (Ctx.start s)).st.Held := h.of_same (by simp [State.sameGate])
      dsimp only
      split
      · exact finish_held (endMotion_held (w := Ctx.start s) h move)
      · exact finish_held (endMotion_held found (by simpa using move))
    · exact h
  · exact h

theorem onTravelLegRest_held : (onTravelLegRest s).Held := by
  unfold onTravelLegRest
  split
  · rename_i m move
    split
    · refine finish_held (h.same_job (t := afterLeg m (atRest s)) ?_ (by simp [State.sameGate]))
      exact (afterLeg_job (s := atRest s) move).trans (job_of_move move).symm
    · exact h
  · exact h

theorem onCreepRest_held : (onCreepRest s).Held := by
  unfold onCreepRest
  split
  · rename_i m move
    split
    · exact finish_held (h.same_job (t := enterSettling m s) (job_of_move move).symm (by simp [State.sameGate]))
    · exact h
  · exact h

theorem onFocusLineArrival_held (late : Bool) (line : List (BitVec 10)) : (onFocusLineArrival late line s).Held := by
  unfold onFocusLineArrival
  split
  · split
    · exact finish_held (addSample_held (w := Ctx.start s) h _ _)
    · exact h
  · exact h

theorem onFocusSampleTimeout_held : (onFocusSampleTimeout s).Held := by
  unfold onFocusSampleTimeout
  split
  · split
    · split
      · exact finish_held (sweepDefault_held (w := Ctx.start s) h _ _)
      · exact h.of_same (by simp [State.sameGate])
    · exact h
  · exact h

theorem onLensMoveComplete_held : (onLensMoveComplete s).Held := by
  unfold onLensMoveComplete
  split
  · exact finish_held (beginHeld_held (lensDone_held (w := Ctx.upd _ _) (h.of_same (by simp [State.sameGate])) _))
  · exact h

theorem onLensHomingComplete_held : (onLensHomingComplete s).Held := by
  unfold onLensHomingComplete
  split
  · exact finish_held (beginHeld_held (w := Ctx.upd _ _) (h.of_same (by simp [State.sameGate])))
  · exact h

theorem onParkTimerExpiry_held : (onParkTimerExpiry s).Held := by
  unfold onParkTimerExpiry
  split
  · exact finish_held (h.of_same (t := parkNow s) (by simp [parkNow, State.sameGate]))
  · exact h

variable (table : s.tableLaw)
include table

theorem onThreadingSuccess_held (x y : Byte) : (onThreadingSuccess x y s).Held := by
  unfold onThreadingSuccess
  split
  case isFalse => exact h
  case isTrue threading =>
    dsimp only
    have threaded : (setLevel .rollState true [Roll.code .loaded] ((Ctx.start s).upd (threadedState x y))).st.Held :=
      h.of_idle (h.idle_of_roll (by simp [threading.1])) (by simp [threadedState])
    refine finish_held (examine_held (threaded.of_same (by simp [State.sameGate])) ?_)
    refine (completeTimed_keeps _ _ _ _).table ?_
    simpa [State.tableLaw, threadedState] using table

theorem onRetensionSuccess_held : (onRetensionSuccess s).Held := by
  unfold onRetensionSuccess
  split
  case isFalse => exact h
  case isTrue ends =>
    dsimp only
    have ready := retensioned_keeps (w := Ctx.start s) ends.1
    have held : (setLevel .fault false [Cause.code .none] ((Ctx.start s).upd retensioned)).st.Held :=
      h.of_same (by simp [State.sameGate, retensioned])
    refine finish_held (examine_held (resumeRewind_held (held.of_same (by simp [State.sameGate]))) ?_)
    exact ((ready.trans (completeTimed_keeps _ _ _ _)).trans (resumeRewind_keeps _)).table table

theorem onEncoderCount_held (d : Dir) (x : Sample) : (onEncoderCount d x s).Held := by
  unfold onEncoderCount
  split
  · exact h
  split
  · exact h.of_same (by simp [State.sameGate])
  extract_lets c w a b
  have counted : w.st.Held := h.of_same (by simp [w, c, State.sameGate])
  have keeps : Keeps s w.st := .of_same (by simp [w, c, State.sameBlocks])
  have checked : a.st.Held := held_ite (becomeUnverified_held counted _) counted
  have keepsA : Keeps w.st a.st := by
    unfold a
    split
    case isTrue lost => exact becomeUnverified_keeps w 2 fun _ => lost.2
    case isFalse => exact .refl _
  have marked : b.st.Held := countMark_held (w := a.upd progress) (progress_held checked) _ _
  have keepsB : Keeps a.st b.st := (progress_keeps a.st).trans (countMark_keeps d c.2.tallied (a.upd progress))
  refine finish_held (examine_held (checkRewindEnd_held (frontierLimit_held marked _ _)) ?_)
  exact ((keeps.trans keepsA).trans ((keepsB.trans (frontierLimit_keeps _ _ _)).trans (checkRewindEnd_keeps _))).table table

theorem onStopRampRest_held : (onStopRampRest s).Held := by
  unfold onStopRampRest
  split
  · rename_i m move
    have moves : s.job ≠ none := by simp [job_of_move move]
    split
    case isTrue motion =>
      have live := Motion.live_of_moving motion
      have ended : ((Ctx.start s).upd moveOver).st.Held := moveOver_held (w := Ctx.start s) h
      have keeps : Keeps s ((Ctx.start s).upd moveOver).st := moveOver_keeps live
      obtain ⟨shown, phase⟩ := h.moving moves
      have rewind := finish_held (examine_held (beginRewind_held ended (by simpa using phase))
        ((keeps.trans (beginRewind_keeps _ rfl)).table table))
      dsimp only
      split
      · split
        · exact rewind
        · exact finish_held (examine_held (disposeStopped_free ended (by simpa using shown)).held
            ((keeps.trans (disposeStopped_keeps _ rfl)).table table))
      · split
        · exact rewind
        · refine finish_held (h.same_job (t := nextLeg m.legSpeed true m (atRest s)) ?_ (by simp [State.sameGate]))
          exact (nextLeg_job _ _ _ _).trans (job_of_move move).symm
      · exact h
      · exact h
    case isFalse => exact h
  · exact h

theorem onBoundRest_held : (onBoundRest s).Held := by
  unfold onBoundRest
  split
  · rename_i m move
    have moves : s.job ≠ none := by simp [job_of_move move]
    split
    case isTrue bound =>
      exact finish_held (examine_held (moveBound_held (w := Ctx.start s) h moves)
        ((moveBound_keeps (Ctx.start s) (Motion.live_of_moving bound.1)).table table))
    case isFalse => exact h
  · exact h

theorem onSettleTimerExpiry_held : (onSettleTimerExpiry s).Held := by
  unfold onSettleTimerExpiry
  split
  case isTrue settled =>
    simp only [State.settled, Bool.and_eq_true, decide_eq_true_eq] at settled
    have live : s.trc.motion.live = true := by rw [settled.1]; rfl
    cases move : s.trc.move with
    | none => simp [move] at settled
    | some m =>
      exact finish_held (examine_held (moveSettled_held (w := Ctx.start s) h move)
        ((moveSettled_keeps (Ctx.start s) live).table table))
  case isFalse => exact h

theorem onSettleLimitExpiry_held : (onSettleLimitExpiry s).Held := by
  unfold onSettleLimitExpiry
  split
  · rename_i m move settling
    have live : s.trc.motion.live = true := by rw [settling]; rfl
    have shown := (h.moving (by simp [job_of_move move])).1
    split
    · have ended : ((Ctx.start s).upd moveOver).st.Held := moveOver_held (w := Ctx.start s) h
      have keeps : Keeps s ((Ctx.start s).upd moveOver).st := moveOver_keeps live
      exact finish_held (examine_held (positionFail_held ended (by simpa using shown))
        ((keeps.trans (positionFail_keeps _)).table table))
    · refine finish_held (h.same_job (t := settleRetry m s) ?_ (by simp [State.sameGate]))
      exact (settleRetry_job m s).trans (job_of_move move).symm
  · exact h

theorem onWakeTimerExpiry_held : (onWakeTimerExpiry s).Held := by
  unfold onWakeTimerExpiry
  split
  case isTrue wakes =>
    have live : s.trc.motion.live = true := by rw [wakes]; rfl
    refine finish_held (examine_held ?_ ((wakeEnds_keeps (w := Ctx.start s) live).table table))
    unfold wakeEnds
    extract_lets u
    have timed : u.st.Held := h.of_same (by simp [u, State.sameGate])
    split
    · rename_i rewinding
      exact beginRewind_held timed (idle_phase (timed.idle_of_roll (by simp [rewinding])))
    · rename_i m _ move
      refine timed.same_job (t := startMove m u.st) ?_ (by simp [State.sameGate])
      exact (startMove_job m u.st).trans (job_of_move move).symm
    all_goals exact timed.of_same (t := setMotion .idle u.st) (by simp [State.sameGate])
  case isFalse => exact h

theorem onHoldTimerExpiry_held : (onHoldTimerExpiry s).Held := by
  unfold onHoldTimerExpiry
  split
  · rename_i x _
    split
    · have latched : (pulse .lapsed x.holder.port ([x.holder.tag] ++ be 2 x.frame) (Ctx.start s)).st.Held := h
      exact finish_held (examine_held (endPresentation_held latched _)
        ((endPresentation_keeps (pulse _ _ _ (Ctx.start s)) _).table table))
    · exact h
  · exact h

theorem onExpdoneRising_held : (onExpdoneRising s).Held := by
  unfold onExpdoneRising
  split
  · exact finish_held (examine_held (endExposure_held (w := Ctx.start s) h _)
      ((endExposure_keeps (Ctx.start s) _).table table))
  · exact h

theorem onExposureTimerExpiry_held : (onExposureTimerExpiry s).Held := by
  unfold onExposureTimerExpiry
  split
  · exact finish_held (examine_held (endExposure_held (w := Ctx.start s) h _)
      ((endExposure_keeps (Ctx.start s) _).table table))
  · exact h

/-- Every event keeps the laws. -/
theorem event_held {c : Instr} {t : State} (event : isEvent c = true) (next : exec c s = .next t) : t.Held := by
  cases c with
  | threadingSuccess x y => cases next; exact onThreadingSuccess_held h table x y
  | threadingTimeout => cases next; exact onThreadingTimeout_held h
  | retensionSuccess => cases next; exact onRetensionSuccess_held h table
  | retensionFail => cases next; exact onRetensionFail_held h
  | tensionPersistenceExpiry => cases next; exact onTensionPersistenceExpiry_held h
  | stallTimerExpiry => cases next; exact onStallTimerExpiry_held h
  | leaderTimerExpiry => cases next; exact onLeaderTimerExpiry_held h
  | encoderCount d x => cases next; exact onEncoderCount_held h table d x
  | leaderFall => cases next; exact onLeaderFall_held h
  | endRising => cases next; exact onEndRising_held h
  | travelLegRest => cases next; exact onTravelLegRest_held h
  | creepRest => cases next; exact onCreepRest_held h
  | stopRampRest => cases next; exact onStopRampRest_held h table
  | boundRest => cases next; exact onBoundRest_held h table
  | settleTimerExpiry => cases next; exact onSettleTimerExpiry_held h table
  | settleLimitExpiry => cases next; exact onSettleLimitExpiry_held h table
  | parkTimerExpiry => cases next; exact onParkTimerExpiry_held h
  | wakeTimerExpiry => cases next; exact onWakeTimerExpiry_held h table
  | lensMoveComplete => cases next; exact onLensMoveComplete_held h
  | lensHomingComplete => cases next; exact onLensHomingComplete_held h
  | focusLineArrival late line => cases next; exact onFocusLineArrival_held h late line
  | focusSampleTimeout => cases next; exact onFocusSampleTimeout_held h
  | holdTimerExpiry => cases next; exact onHoldTimerExpiry_held h table
  | expdoneRising => cases next; exact onExpdoneRising_held h table
  | exposureTimerExpiry => cases next; exact onExposureTimerExpiry_held h table
  | _ => cases event

end events

/-- The laws of the table, the grant and the gate together are ones that every command keeps. -/
theorem held_keptByCommands : KeptByCommands fun s => s.tableLaw ∧ s.Held where
  core s := and_congr (tableLaw_keptByCommands.core s) (held_core s)
  reset _ _ _ :=
    have ⟨table, _, grant, gate, _⟩ := lawsHoldAtReset
    ⟨table, (State.Held.mk grant (gated_iff.mpr gate)).of_same ⟨⟨rfl, rfl, rfl, rfl, rfl, rfl, rfl⟩, rfl⟩⟩
  perform e k body a s accepted law :=
    ⟨tableLaw_keptByCommands.perform e k body a s accepted law.1, perform_held law.2 law.1 e accepted⟩
  portReset p s law := ⟨tableLaw_keptByCommands.portReset p s law.1, portReset_held (w := Ctx.start s) law.2 law.1 p⟩
  event c s t event law next :=
    ⟨tableLaw_keptByCommands.event c s t event law.1 next, event_held law.2 law.1 event next⟩

/-- Settles O58: every step keeps the laws of the grant and of the gate (`held_keptByCommands`). -/
theorem grantAndGateLawsKept : Obligations.GrantAndGateLawsKept := by
  intro s t table grant gate next
  obtain ⟨-, held⟩ := held_keptByCommands.step ⟨table, ⟨grant, gated_iff.mpr gate⟩⟩ next
  exact ⟨held.grant, gated_iff.mp held.gate⟩

end Sys2Proof.Machine
end

section
/-! SUPPORT. Lists of positions whose neighbours keep a least distance (R51), the edits of such lists, and the places of FILLED entries
(R58, R59). -/

namespace Sys2Proof.Machine

/-- Neighbours of the list lie at least `d` apart, in rising order. -/
def gapped (d : Nat) (l : List Nat) : Prop := l.IsChain fun a b => a + d ≤ b

section lists
variable {d : Nat} {l : List Nat}

theorem gapped_iff_pairwise : gapped d l ↔ l.Pairwise fun a b => a + d ≤ b := by
  have : IsTrans Nat fun a b => a + d ≤ b := ⟨fun a b c _ _ => by omega⟩
  exact List.isChain_iff_pairwise

theorem gapped_one : gapped 1 l ↔ l.Pairwise (· < ·) := gapped_iff_pairwise

theorem gapped.mono {c : Nat} (h : gapped d l) (less : c ≤ d) : gapped c l := h.imp fun _ _ _ => by omega

theorem gapped.sublist {k : List Nat} (h : gapped d l) (sub : k.Sublist l) : gapped d k :=
  gapped_iff_pairwise.mpr ((gapped_iff_pairwise.mp h).sublist sub)

theorem gapped_append {k : List Nat} :
    gapped d (l ++ k) ↔ gapped d l ∧ gapped d k ∧ ∀ x ∈ l.getLast?, ∀ y ∈ k.head?, x + d ≤ y := List.isChain_append

theorem gapped_iff_getElem? :
    gapped d l ↔ ∀ (n x y : Nat), l[n]? = some x → l[n + 1]? = some y → x + d ≤ y := by
  unfold gapped
  rw [List.isChain_iff_getElem]
  constructor
  · intro h n x y hx hy
    obtain ⟨below, rfl⟩ := List.getElem?_eq_some_iff.mp hx
    obtain ⟨above, rfl⟩ := List.getElem?_eq_some_iff.mp hy
    exact h n above
  · exact fun h n above => h n _ _ (List.getElem?_eq_getElem _) (List.getElem?_eq_getElem above)

/-- A position that keeps the distance from the neighbours it comes between. -/
theorem gapped.splice {i j m : Nat} (h : gapped d l) (below : ∀ x, 0 < i → l[i - 1]? = some x → x + d ≤ m) (bound : i ≤ l.length)
    (above : ∀ y, l[j]? = some y → m + d ≤ y) : gapped d (l.take i ++ m :: l.drop j) := by
  refine gapped_append.mpr ⟨h.sublist (List.take_sublist i l), ?_, fun x hx y hy => ?_⟩
  · refine List.isChain_cons.mpr ⟨fun y hy => above y ?_, h.sublist (List.drop_sublist j l)⟩
    rwa [← List.head?_drop]
  · cases Option.mem_some_iff.mp hy
    rw [List.getLast?_take] at hx
    by_cases none : i = 0
    · simp [none] at hx
    · rw [if_neg none] at hx
      have inside : i - 1 < l.length := by omega
      rw [List.getElem?_eq_getElem inside] at hx
      exact below x (by omega) ((List.getElem?_eq_getElem inside).trans hx)

theorem gapped.concat {m : Nat} (h : gapped d l) (last : ∀ x, l.getLast? = some x → x + d ≤ m) : gapped d (l ++ [m]) :=
  gapped_append.mpr ⟨h, List.isChain_singleton _, fun x hx y hy => by
    cases Option.mem_some_iff.mp hy
    exact last x hx⟩

theorem gapped.follow {x : Nat} {k : List Nat} (h : gapped d l) (last : l.getLast? = some x) (next : gapped d (x :: k)) :
    gapped d (l ++ k) := by
  obtain ⟨first, rest⟩ := List.isChain_cons.mp next
  refine gapped_append.mpr ⟨h, rest, fun y hy z hz => ?_⟩
  rw [last] at hy
  cases hy
  exact first z hz

end lists

/-! ### Rounding (R1) -/

theorem roundHalfUp_bounds {n d : Int} (pos : 0 < d) :
    2 * n - d ≤ 2 * d * roundHalfUp n d ∧ 2 * d * roundHalfUp n d ≤ 2 * n + d := by
  have whole := Int.mul_ediv_add_emod (2 * n + d) (2 * d)
  have low := Int.emod_nonneg (2 * n + d) (b := 2 * d) (by omega)
  have high := Int.emod_lt_of_pos (2 * n + d) (b := 2 * d) (by omega)
  unfold roundHalfUp
  omega

theorem roundHalfEven_bounds {n d : Int} (pos : 0 < d) :
    2 * n - d ≤ 2 * d * roundHalfEven n d ∧ 2 * d * roundHalfEven n d ≤ 2 * n + d := by
  have whole := Int.mul_ediv_add_emod n d
  have low := Int.emod_nonneg n (b := d) (by omega)
  have high := Int.emod_lt_of_pos n pos
  have up : 2 * d * (n / d + 1) = 2 * (d * (n / d)) + 2 * d := by ring
  have down : 2 * d * (n / d) = 2 * (d * (n / d)) := by ring
  unfold roundHalfEven
  dsimp only
  split
  · omega
  · split
    · omega
    · split <;> omega

/-- A rounded quotient lies within a half of the exact one. -/
theorem roundQuot_bounds (mode : Rounding) {n d : Int} (pos : 0 < d) :
    2 * n - d ≤ 2 * d * roundQuot mode n d ∧ 2 * d * roundQuot mode n d ≤ 2 * n + d := by
  cases mode with
  | halfUp => simpa [roundQuot, not_lt.mpr pos.le] using roundHalfUp_bounds pos
  | halfEven => simpa [roundQuot, not_lt.mpr pos.le] using roundHalfEven_bounds pos

/-! ### The places of FILLED entries (R59) -/

/-- The position of the entry `j` places after L in a gap of `k` frames and `i` counts. -/
def fillPlace (mode : Rounding) (l : Nat) (i : Int) (k : Nat) (j : Nat) : Nat :=
  ((l : Int) + roundQuot mode ((j : Int) * i) (k : Int)).toNat

theorem roundQuot_zero (mode : Rounding) {d : Int} (pos : 0 < d) : roundQuot mode 0 d = 0 := by
  have bounds := roundQuot_bounds mode (n := 0) pos
  nlinarith

theorem roundQuot_mul_self (mode : Rounding) (i : Int) {d : Int} (pos : 0 < d) : roundQuot mode (d * i) d = i := by
  have bounds := roundQuot_bounds mode (n := d * i) pos
  nlinarith

section fills
variable {mode : Rounding} {l k min : Nat} {i est : Int}

theorem fillPlace_zero (two : 2 ≤ k) : fillPlace mode l i k 0 = l := by
  simp [fillPlace, roundQuot_zero mode (d := k) (by omega)]

theorem fillPlace_last (two : 2 ≤ k) : fillPlace mode l i k k = ((l : Int) + i).toNat := by
  simp [fillPlace, roundQuot_mul_self mode i (d := k) (by omega)]

/-- A gap is at least half an estimate shorter than `k` estimates, so its parts are at least three quarters of the least pitch. -/
theorem gap_step (two : 2 ≤ k) (pitch : 64 ≤ min) (clamp : 256 * (min : Int) ≤ est)
    (frames : (k : Int) = roundQuot mode (256 * i) est) (j : Nat) :
    roundQuot mode ((j : Int) * i) k + ((min + 1) / 2 : Nat) ≤ roundQuot mode (((j + 1 : Nat) : Int) * i) k := by
  have pos : 0 < est := by omega
  have count := (roundQuot_bounds mode (n := 256 * i) pos).2
  have kpos : (0 : Int) < k := by omega
  have lower := (roundQuot_bounds mode (n := (j : Int) * i) kpos).2
  have upper := (roundQuot_bounds mode (n := ((j + 1 : Nat) : Int) * i) kpos).1
  rw [← frames] at count
  generalize roundQuot mode ((j : Int) * i) k = a at *
  generalize roundQuot mode (((j + 1 : Nat) : Int) * i) k = b at *
  have apart : i - k ≤ k * (b - a) := by push_cast at *; nlinarith
  by_contra short
  have close : 2 * (b - a) ≤ min - 1 := by omega
  have wide : (2 * (k : Int) - 1) * min ≤ 2 * i := by nlinarith
  nlinarith

theorem gap_step_pos (two : 2 ≤ k) (pitch : 64 ≤ min) (clamp : 256 * (min : Int) ≤ est)
    (frames : (k : Int) = roundQuot mode (256 * i) est) (j : Nat) : 0 ≤ roundQuot mode ((j : Int) * i) k := by
  induction j with
  | zero => simp [roundQuot_zero mode (d := k) (by omega)]
  | succ j ih =>
    have := gap_step two pitch clamp frames j
    omega

theorem fillPlace_step (two : 2 ≤ k) (pitch : 64 ≤ min) (clamp : 256 * (min : Int) ≤ est)
    (frames : (k : Int) = roundQuot mode (256 * i) est) (j : Nat) :
    fillPlace mode l i k j + (min + 1) / 2 ≤ fillPlace mode l i k (j + 1) := by
  have := gap_step two pitch clamp frames j
  have := gap_step_pos two pitch clamp frames j
  unfold fillPlace
  omega

/-- The FILLED entries and the OBSERVED one of a gap keep the least distance, from L on. -/
theorem gapped_fills (two : 2 ≤ k) (pitch : 64 ≤ min) (clamp : 256 * (min : Int) ≤ est)
    (frames : (k : Int) = roundQuot mode (256 * i) est) :
    gapped ((min + 1) / 2) ((List.range (k + 1)).map (fillPlace mode l i k)) := by
  refine gapped_iff_getElem?.mpr fun n x y hx hy => ?_
  obtain ⟨_, rfl⟩ := List.getElem?_eq_some_iff.mp hx
  obtain ⟨_, rfl⟩ := List.getElem?_eq_some_iff.mp hy
  simpa using fillPlace_step two pitch clamp frames n

/-- More than one and a half estimates round to two frames or more. -/
theorem two_le_frames (pos : 0 < est) (far : 3 * est < 512 * i) : 2 ≤ roundQuot mode (256 * i) est := by
  have lower := (roundQuot_bounds mode (n := 256 * i) pos).1
  nlinarith

end fills

end Sys2Proof.Machine
end

section
/-! SUPPORT. The law of the frame index in terms of the list of positions, and the operations that edit the index (R50 to R64, R72,
R81 to R84). -/

namespace Sys2Proof.Machine

/-- The positions of the entries, frame 0 first. -/
def State.positions (s : State) : List Nat := s.fit.entries.map (·.pos)

@[simp] theorem positions_length (s : State) : s.positions.length = s.fit.entries.length := List.length_map _

@[simp] theorem positions_eq_nil {s : State} : s.positions = [] ↔ s.fit.entries = [] := List.map_eq_nil_iff

theorem positions_getElem? (s : State) (n : Nat) : s.positions[n]? = s.fit.entries[n]?.map (·.pos) := List.getElem?_map

/-- The law of the frame index, in terms of the positions of its entries. -/
structure State.Indexed (s : State) : Prop where
  length : s.positions.length ≤ 16384
  rising : gapped 1 s.positions
  empty : s.fit.index = .empty → s.positions = []
  opened : s.fit.index = .opened → s.positions ≠ [] ∧ s.positions.length < 16384
  full : s.fit.index = .full → s.positions ≠ []
  pitches : ∀ p, s.trc.profile = some p →
    64 ≤ p.pitchMin ∧ p.pitchMin ≤ p.pitchNominal ∧ p.pitchNominal ≤ p.pitchMax
  profiled : s.trc.roll = .threading ∨ s.trc.roll = .loaded → s.trc.profile.isSome = true
  estimate : s.trc.roll = .loaded → 256 * s.profile.pitchMin ≤ s.fit.p256 ∧ s.fit.p256 ≤ 256 * s.profile.pitchMax
  spacing : s.trc.roll = .loaded → gapped s.minGap s.positions
  detector : s.trc.roll ≠ .loaded → s.mkd = .off

theorem gapped_positions {s : State} {d : Nat} : gapped d s.positions ↔
    ∀ n a b, s.fit.entries[n]? = some a → s.fit.entries[n + 1]? = some b → a.pos + d ≤ b.pos := by
  simp only [gapped_iff_getElem?, positions_getElem?, Option.map_eq_some_iff]
  constructor
  · exact fun h n a b ha hb => h n _ _ ⟨a, ha, rfl⟩ ⟨b, hb, rfl⟩
  · rintro h n _ _ ⟨a, ha, rfl⟩ ⟨b, hb, rfl⟩
    exact h n a b ha hb

theorem indexed_iff {s : State} : s.Indexed ↔ s.indexLaw := by
  constructor
  · rintro ⟨length, rising, empty, opened, full, pitches, profiled, estimate, spacing, detector⟩
    exact ⟨by simpa using length, gapped_one.mp rising, by simpa using empty, by simpa using opened, by simpa using full, pitches,
      profiled, estimate, fun loaded => gapped_positions.mp (spacing loaded), detector⟩
  · rintro ⟨length, rising, empty, opened, full, pitches, profiled, estimate, spacing, detector⟩
    exact ⟨by simpa using length, gapped_one.mpr rising, by simpa using empty, by simpa using opened, by simpa using full, pitches,
      profiled, estimate, fun loaded => gapped_positions.mpr (spacing loaded), detector⟩

/-- The parts that the law of the index speaks of are the same, and the detector does not leave OFF. -/
def State.sameIndex (s t : State) : Prop :=
  t.positions = s.positions ∧ t.fit.index = s.fit.index ∧ t.fit.p256 = s.fit.p256 ∧ t.trc.profile = s.trc.profile ∧
  t.trc.roll = s.trc.roll ∧ (s.mkd = .off → t.mkd = .off)

theorem State.sameIndex.trans {s t u : State} (first : s.sameIndex t) (then' : t.sameIndex u) : s.sameIndex u := by
  obtain ⟨positions, index, p256, profile, roll, mkd⟩ := first
  obtain ⟨positions', index', p256', profile', roll', mkd'⟩ := then'
  exact ⟨positions'.trans positions, index'.trans index, p256'.trans p256, profile'.trans profile, roll'.trans roll, mkd' ∘ mkd⟩

theorem State.Indexed.of_same {s t : State} (h : s.Indexed) (same : s.sameIndex t) : t.Indexed := by
  obtain ⟨positions, index, p256, profile, roll, mkd⟩ := same
  have profile' : t.profile = s.profile := congrArg (·.getD Profile.blank) profile
  have gap : t.minGap = s.minGap := by rw [State.minGap, State.minGap, profile']
  obtain ⟨length, rising, empty, opened, full, pitches, profiled, estimate, spacing, detector⟩ := h
  constructor
  · rwa [positions]
  · rwa [positions]
  · rwa [positions, index]
  · rwa [positions, index]
  · rwa [positions, index]
  · rwa [profile]
  · rwa [profile, roll]
  · rwa [profile', p256, roll]
  · rwa [positions, roll, gap]
  · exact fun other => mkd (detector (by rwa [← roll]))

/-- The entries, the estimate, the profile, the roll and the detector are the same. -/
def State.sameFit (s t : State) : Prop :=
  t.fit.entries = s.fit.entries ∧ t.fit.index = s.fit.index ∧ t.fit.p256 = s.fit.p256 ∧ t.trc.profile = s.trc.profile ∧
  t.trc.roll = s.trc.roll ∧ t.mkd = s.mkd

theorem State.sameFit.index {s t : State} (same : s.sameFit t) : s.sameIndex t := by
  obtain ⟨entries, index, p256, profile, roll, mkd⟩ := same
  exact ⟨congrArg (·.map Entry.pos) entries, index, p256, profile, roll, mkd.trans⟩

theorem State.Indexed.left {s t : State} (h : s.Indexed) (same : s.sameFit t) : t.Indexed := h.of_same same.index

section loaded
variable {s : State} (h : s.Indexed) (loaded : s.trc.roll = .loaded)
include h loaded

theorem State.Indexed.minPitch : 64 ≤ s.profile.pitchMin := by
  obtain ⟨p, profile⟩ := Option.isSome_iff_exists.mp (h.profiled (.inr loaded))
  rw [State.profile, profile]
  exact (h.pitches p profile).1

theorem State.Indexed.pitchOrder : s.profile.pitchMin ≤ s.profile.pitchMax := by
  obtain ⟨p, profile⟩ := Option.isSome_iff_exists.mp (h.profiled (.inr loaded))
  obtain ⟨-, low, high⟩ := h.pitches p profile
  rw [State.profile, profile]
  exact low.trans high

/-- An edit of the index of a LOADED roll. -/
theorem State.Indexed.edited {t : State} (profile : t.trc.profile = s.trc.profile) (roll : t.trc.roll = s.trc.roll)
    (estimate : 256 * s.profile.pitchMin ≤ t.fit.p256 ∧ t.fit.p256 ≤ 256 * s.profile.pitchMax)
    (spacing : gapped s.minGap t.positions) (length : t.positions.length ≤ 16384)
    (empty : t.fit.index = .empty → t.positions = [])
    (opened : t.fit.index = .opened → t.positions ≠ [] ∧ t.positions.length < 16384)
    (full : t.fit.index = .full → t.positions ≠ []) : t.Indexed := by
  have profile' : t.profile = s.profile := congrArg (·.getD Profile.blank) profile
  have gap : t.minGap = s.minGap := by rw [State.minGap, State.minGap, profile']
  have pitch := h.minPitch loaded
  refine ⟨length, spacing.mono ?_, empty, opened, full, ?_, ?_, fun _ => ?_, fun _ => ?_, fun other => ?_⟩
  · unfold State.minGap
    omega
  · rw [profile]
    exact h.pitches
  · rw [profile, roll]
    exact h.profiled
  · rwa [profile']
  · rwa [gap]
  · exact absurd (roll.trans loaded) other

/-! ### Building (R55 to R62) -/

theorem clampP256_between (x : Int) :
    256 * s.profile.pitchMin ≤ clampP256 s.profile x ∧ clampP256 s.profile x ≤ 256 * s.profile.pitchMax := by
  have order := h.pitchOrder loaded
  exact clampNat_between (by omega) _

omit h loaded in
theorem spliceFirst_pos (pending : Bool) (l : List Entry) : (spliceFirst pending l).map (·.pos) = l.map (·.pos) := by
  cases l with
  | nil => rfl
  | cons e rest => cases pending <;> rfl

omit h loaded in
theorem makeEntries_positions (new : List Entry) (p256 : Nat) :
    (makeEntries new p256 s).positions =
      s.positions ++ (new.map (·.pos)).take (16384 - s.fit.entries.length) := by
  have entries : (makeEntries new p256 s).fit.entries =
      s.fit.entries ++ spliceFirst s.fit.splice (new.take (16384 - s.fit.entries.length)) := by
    simp only [makeEntries]
    split <;> simp [Config.maxEntries]
  rw [State.positions, entries, List.map_append, spliceFirst_pos, List.map_take]
  rfl

omit h loaded in
theorem makeEntries_index (new : List Entry) (p256 : Nat) :
    (makeEntries new p256 s).fit.index = if 16384 ≤ (makeEntries new p256 s).fit.entries.length then .full else .opened := by
  simp only [makeEntries]
  split <;> simp [Config.maxEntries]

omit h loaded in
theorem makeEntries_p256 (new : List Entry) (p256 : Nat) :
    (makeEntries new p256 s).fit.p256 = p256 ∨ (makeEntries new p256 s).fit.p256 = s.fit.p256 := by
  simp only [makeEntries]
  split
  · simp only [splicePending_frame]
    split <;> simp
  · dsimp only
    split <;> simp

theorem makeEntries_indexed {new : List Entry} {p256 : Nat} (some' : new ≠ []) (room : s.fit.entries.length < 16384)
    (estimate : 256 * s.profile.pitchMin ≤ p256 ∧ p256 ≤ 256 * s.profile.pitchMax)
    (spacing : gapped s.minGap (s.positions ++ new.map (·.pos))) : (makeEntries new p256 s).Indexed := by
  have grown := makeEntries_positions (s := s) new p256
  have state := makeEntries_index (s := s) new p256
  have made : 0 < ((new.map (·.pos)).take (16384 - s.fit.entries.length)).length := by
    have := List.length_pos_iff.mpr some'
    simp only [List.length_take, List.length_map]
    omega
  have length : (makeEntries new p256 s).positions.length ≤ 16384 := by
    rw [grown, List.length_append, List.length_take, positions_length]
    omega
  have nonempty : (makeEntries new p256 s).positions ≠ [] := by
    refine List.ne_nil_of_length_pos ?_
    rw [grown, List.length_append]
    omega
  refine h.edited loaded (by simp) (by simp) ?_ ?_ length ?_ ?_ fun _ => nonempty
  · rcases makeEntries_p256 (s := s) new p256 with same | same
    · rwa [same]
    · rw [same]
      exact h.estimate loaded
  · rw [grown]
    exact spacing.sublist ((List.Sublist.refl _).append (List.take_sublist _ _))
  · intro isEmpty
    rw [state] at isEmpty
    split at isEmpty <;> cases isEmpty
  · intro isOpen
    rw [state] at isOpen
    split at isOpen
    · cases isOpen
    · rename_i room'
      exact ⟨nonempty, by simpa using room'⟩

end loaded

/-! ### Corrections (R72, R81 to R84) -/

theorem insertIdx_eq_take_append_cons_drop {α : Type} {l : List α} {n : Nat} {a : α} (inside : n ≤ l.length) :
    l.insertIdx n a = l.take n ++ a :: l.drop n := by
  induction n generalizing l with
  | zero => rfl
  | succ n ih =>
    cases l with
    | nil => cases inside
    | cons x l => simp [ih (Nat.le_of_succ_le_succ inside)]

section edits
variable {s : State} (h : s.Indexed)
include h

/-- An edit that keeps how many entries there are. -/
theorem State.Indexed.moved {t : State} (loaded : s.trc.roll = .loaded) (profile : t.trc.profile = s.trc.profile)
    (roll : t.trc.roll = s.trc.roll) (index : t.fit.index = s.fit.index) (p256 : t.fit.p256 = s.fit.p256)
    (length : t.positions.length = s.positions.length) (spacing : gapped s.minGap t.positions) : t.Indexed := by
  have none_iff : t.positions = [] ↔ s.positions = [] := by rw [← List.length_eq_zero_iff, length, List.length_eq_zero_iff]
  refine h.edited loaded profile roll (by rw [p256]; exact h.estimate loaded) spacing (by rw [length]; exact h.length) ?_ ?_ ?_
  · rw [index, none_iff]
    exact h.empty
  · rw [index, Ne, none_iff, length]
    exact h.opened
  · rw [index, Ne, none_iff]
    exact h.full

theorem modify_positions_indexed (loaded : s.trc.roll = .loaded) {n m : Nat} {f : Entry → Entry} (pos : ∀ e, (f e).pos = m)
    (inside : n < s.fit.entries.length) (below : s.clearBelow n m = true) (above : s.clearAbove (n + 1) m = true) :
    State.Indexed { s with fit.entries := s.fit.entries.modify n f } := by
  refine h.moved loaded rfl rfl rfl rfl (by simp) ?_
  have places : State.positions { s with fit.entries := s.fit.entries.modify n f } =
      s.positions.take n ++ m :: s.positions.drop (n + 1) := by
    simp only [State.positions]
    rw [List.modify_eq_take_cons_drop inside]
    simp [pos]
  rw [places]
  refine (h.spacing loaded).splice (fun x positive hx => ?_) (by simp; omega) fun y hy => ?_
  · obtain ⟨k, rfl⟩ := Nat.exists_eq_succ_of_ne_zero (Nat.ne_of_gt positive)
    rw [positions_getElem?, Option.map_eq_some_iff] at hx
    obtain ⟨e, he, rfl⟩ := hx
    simpa [State.clearBelow, show s.fit.entries[k]? = some e from he] using below
  · rw [positions_getElem?, Option.map_eq_some_iff] at hy
    obtain ⟨e, he, rfl⟩ := hy
    simpa [State.clearAbove, he] using above

theorem insert_indexed (loaded : s.trc.roll = .loaded) {n : Nat} {e : Entry} {index : IndexState}
    (inside : n ≤ s.fit.entries.length) (room : s.fit.entries.length < 16384)
    (below : s.clearBelow n e.pos = true) (above : s.clearAbove n e.pos = true)
    (state : index ≠ .empty) (opened : index = .opened → s.fit.entries.length + 1 < 16384) :
    State.Indexed { s with fit.entries := s.fit.entries.insertIdx n e, fit.index := index } := by
  have length : (s.fit.entries.insertIdx n e).length = s.fit.entries.length + 1 := List.length_insertIdx_of_le_length inside _
  have nonempty : s.fit.entries.insertIdx n e ≠ [] := List.ne_nil_of_length_pos (by omega)
  refine h.edited loaded rfl rfl (h.estimate loaded) ?_ (by simpa [length] using room) (fun none => absurd none state)
    (fun isOpen => ⟨by simpa using nonempty, by simpa [length] using opened isOpen⟩) (fun _ => by simpa using nonempty)
  have places : State.positions { s with fit.entries := s.fit.entries.insertIdx n e, fit.index := index } =
      s.positions.take n ++ e.pos :: s.positions.drop n := by
    simp only [State.positions]
    rw [insertIdx_eq_take_append_cons_drop inside]
    simp
  rw [places]
  refine (h.spacing loaded).splice (fun x positive hx => ?_) (by simpa using inside) fun y hy => ?_
  · obtain ⟨k, rfl⟩ := Nat.exists_eq_succ_of_ne_zero (Nat.ne_of_gt positive)
    rw [positions_getElem?, Option.map_eq_some_iff] at hx
    obtain ⟨e, he, rfl⟩ := hx
    simpa [State.clearBelow, show s.fit.entries[k]? = some e from he] using below
  · rw [positions_getElem?, Option.map_eq_some_iff] at hy
    obtain ⟨e, he, rfl⟩ := hy
    simpa [State.clearAbove, he] using above

theorem mergeEntries_indexed (loaded : s.trc.roll = .loaded) (n : Nat) : (mergeEntries n s).Indexed := by
  have shorter : (s.fit.entries.eraseIdx n).length ≤ s.fit.entries.length := (List.eraseIdx_sublist _ _).length_le
  have length := h.length
  rw [positions_length] at length
  have positions : (mergeEntries n s).positions = s.positions.eraseIdx n :=
    (List.eraseIdx_map _ _ _).symm
  have index : (mergeEntries n s).fit.index = if (mergeEntries n s).positions = [] then .empty else s.fit.index := by
    simp [mergeEntries]
  refine h.edited loaded (by simp) (by simp) (h.estimate loaded) ?_ ?_ ?_ ?_ ?_
  · rw [positions]
    exact (h.spacing loaded).sublist (List.eraseIdx_sublist _ _)
  · simp only [positions_length, mergeEntries]
    omega
  · rw [index]
    split
    · exact fun _ => by assumption
    · intro wasEmpty
      rw [positions, h.empty wasEmpty]
      rfl
  · rw [index]
    split
    · nofun
    · intro wasOpen
      refine ⟨by assumption, ?_⟩
      have := (h.opened wasOpen).2
      simp only [positions_length, mergeEntries] at this ⊢
      omega
  · rw [index]
    split
    · nofun
    · exact fun _ => by assumption

theorem modify_indexed (n : Nat) {f : Entry → Entry} (pos : ∀ e, (f e).pos = e.pos) :
    State.Indexed { s with fit.entries := s.fit.entries.modify n f } := by
  refine h.of_same ⟨?_, rfl, rfl, rfl, rfl, id⟩
  refine List.ext_getElem? fun i => ?_
  simp only [positions_getElem?, List.getElem?_modify]
  cases s.fit.entries[i]? <;> simp [apply_ite Entry.pos, pos]

theorem clearTakenEntries_indexed (a b : Nat) : (clearTakenEntries a b s).Indexed := by
  refine h.of_same ⟨?_, rfl, rfl, rfl, rfl, id⟩
  refine List.ext_getElem? fun i => ?_
  simp only [positions_getElem?, clearTakenEntries, List.getElem?_mapIdx]
  cases s.fit.entries[i]? <;> simp [apply_ite Entry.pos]

end edits

end Sys2Proof.Machine
end

section
/-! SUPPORT. Sightings, counts and the rewind keep the law of the frame index (R16, R46, R54 to R63, R69 to R78). -/

namespace Sys2Proof.Machine

/-- The entries of a GAP, from L on, keep the least distance (R59). -/
theorem gapped_gap {mode : Rounding} {min l k centre : Nat} {weak : Bool} {est : Int} {positions : List Nat}
    (spacing : gapped ((min + 1) / 2) positions) (last : positions.getLast? = some l) (two : 2 ≤ k) (pitch : 64 ≤ min)
    (clamp : 256 * (min : Int) ≤ est) (frames : (k : Int) = roundQuot mode (256 * ((centre : Int) - l)) est) :
    gapped ((min + 1) / 2) (positions ++
      (((List.range (k - 1)).map fun j =>
        filledEntry ((l : Int) + roundQuot mode (((j : Int) + 1) * ((centre : Int) - l)) k).toNat) ++
        [observedEntry centre weak false]).map (·.pos)) := by
  refine spacing.follow last ?_
  have fills := gapped_fills (l := l) two pitch clamp frames
  have final := fillPlace_last (mode := mode) (l := l) (i := (centre : Int) - l) two
  rw [List.range_succ_eq_map, List.map_cons, fillPlace_zero two] at fills
  convert fills using 2
  obtain ⟨m, rfl⟩ : ∃ m, k = m + 1 := ⟨k - 1, by omega⟩
  have numbers : (do let j ← List.range m; pure (j : Int)) = (List.range m).map ((↑) : Nat → Int) := by
    simp [← List.map_eq_flatMap]
  rw [List.range_succ, List.map_append, List.map_append, List.map_append, Nat.add_sub_cancel, numbers, List.map_map, List.map_map,
    List.map_map]
  refine congrArg₂ (· ++ ·) (List.map_congr_left fun j _ => ?_) ?_
  · simp [fillPlace, filledEntry]
  · simp [final, observedEntry]

section operations
variable {w : Ctx} (h : w.st.Indexed)
include h

/-! ### Building (R54 to R63) -/

omit h in
theorem buildEntries_same (new : List Entry) (p256 : Nat) :
    (makeEntries new p256 w.st).sameIndex (buildEntries new p256 w).st := by
  have index : (buildEntries new p256 w).st.fit.index = (makeEntries new p256 w.st).fit.index := by
    unfold buildEntries
    dsimp only
    repeat' split
    all_goals simp
  obtain ⟨entries, estimate, -⟩ := buildEntries_fit new p256 w
  exact State.sameFit.index ⟨entries, index, estimate, by simp, by simp, by simp⟩

theorem buildSighting_indexed (loaded : w.st.trc.roll = .loaded) (g : Sighting) (room : w.st.fit.entries.length < 16384) :
    (buildSighting g w).st.Indexed := by
  have pitch := h.minPitch loaded
  have estimate := h.estimate loaded
  have spacing := h.spacing loaded
  have built {new : List Entry} {p256 : Nat} (nonempty : new ≠ [])
      (clamped : 256 * w.st.profile.pitchMin ≤ p256 ∧ p256 ≤ 256 * w.st.profile.pitchMax)
      (gaps : gapped w.st.minGap (w.st.positions ++ new.map (·.pos))) : (buildEntries new p256 w).st.Indexed :=
    (makeEntries_indexed h loaded nonempty room clamped gaps).of_same (buildEntries_same new p256)
  unfold buildSighting
  dsimp only
  cases frontier : w.st.frontierPos with
  | none =>
    have noEntries : w.st.positions = [] := by simpa [State.frontierPos] using frontier
    exact built (List.cons_ne_nil _ _) estimate (by rw [noEntries]; exact List.isChain_singleton _)
  | some l =>
    have last : w.st.positions.getLast? = some l := by simpa [State.positions, State.frontierPos] using frontier
    have one (weak brk : Bool) (far : (w.st.fit.p256 : Int) ≤ 512 * ((g.centre : Int) - l)) :
        gapped w.st.minGap (w.st.positions ++ [observedEntry g.centre weak brk].map (·.pos)) := by
      refine spacing.concat fun x hx => ?_
      rw [last] at hx
      cases hx
      show l + (w.st.profile.pitchMin + 1) / 2 ≤ g.centre
      omega
    dsimp only
    split
    · exact modify_indexed h _ fun _ => rfl
    split
    · exact built (List.cons_ne_nil _ _) (clampP256_between h loaded _) (one _ _ (by omega))
    split
    case isFalse =>
      exact built (List.cons_ne_nil _ _) estimate (one _ _ (by omega))
    case isTrue near far few =>
      refine built (by simp) (clampP256_between h loaded _) ?_
      have two := two_le_frames (mode := w.st.profile.rounding) (i := (g.centre : Int) - l) (est := w.st.fit.p256) (by omega)
        (by omega)
      generalize frames : (roundQuot w.st.profile.rounding (256 * ((g.centre : Int) - l)) w.st.fit.p256).toNat = k at *
      have whole : (k : Int) = roundQuot w.st.profile.rounding (256 * ((g.centre : Int) - l)) w.st.fit.p256 := by omega
      exact gapped_gap spacing last (by omega) pitch (by omega) whole

/-! ### Sightings and counts (R46, R69 to R78) -/

omit h in
theorem applyCorrection_sameIndex (d : Int) (s : State) : s.sameIndex (applyCorrection d s) :=
  ⟨by simp [State.positions], by simp, by simp, by simp, by simp, fun off => by simp [applyCorrection, off]⟩

omit h in
theorem confirmEntry_indexed {s : State} (h : s.Indexed) (loaded : s.trc.roll = .loaded) (n : Nat) (g : Sighting)
    (inside : n < s.fit.entries.length) : (confirmEntry n g s).Indexed := by
  unfold confirmEntry
  split
  case isFalse => exact h
  case isTrue clear =>
    obtain ⟨below, above⟩ := Bool.and_eq_true_iff.mp clear
    have moved := modify_positions_indexed h loaded (f := fun e => { e with pos := g.centre, kind := .observed, weak := g.weak })
      (fun _ => rfl) inside below above
    exact moved.left (by simp [State.sameFit])

theorem resync_indexed (loaded : w.st.trc.roll = .loaded) (g : Sighting) : (resync g w).st.Indexed := by
  unfold resync
  split
  · exact h
  · split
    · exact h
    · rename_i found
      extract_lets d
      split
      · split
        · exact h.of_same (applyCorrection_sameIndex (-d) w.st)
        · exact confirmEntry_indexed h loaded _ g (List.getElem?_eq_some_iff.mp found).1
      · split
        · exact h.left (by simp [State.sameFit])
        · exact h

theorem verifySighting_indexed (v : Verify) (g : Sighting) : (verifySighting v g w).st.Indexed := by
  unfold verifySighting
  split
  · exact h
  · split
    · exact h
    · split
      · rename_i n a _ e _ _
        refine State.Indexed.left (s := applyCorrection ((e.pos : Int) - (g.centre : Int)) w.st)
          (h.of_same (applyCorrection_sameIndex _ _)) ?_
        simp [State.sameFit]
      · exact h

theorem takeSighting_indexed (loaded : w.st.trc.roll = .loaded) (g : Sighting) : (takeSighting g w).st.Indexed := by
  unfold takeSighting
  extract_lets s plain
  have plain_indexed : plain.st.Indexed := by
    unfold plain
    split
    case isTrue builds =>
      simp only [Bool.and_eq_true, Bool.not_eq_true', State.indexShut, decide_eq_false_iff_not, not_or] at builds
      obtain ⟨_, notClosed, notFull⟩ := builds
      refine buildSighting_indexed h loaded g ?_
      rw [← positions_length]
      cases index : w.st.fit.index with
      | empty =>
        rw [h.empty index]
        exact Nat.zero_lt_succ _
      | opened => exact (h.opened index).2
      | full => exact absurd index notFull
      | closed => exact absurd index notClosed
    case isFalse =>
      split
      · exact resync_indexed h loaded g
      · exact h
  split
  · split
    · exact plain_indexed
    · exact verifySighting_indexed h _ g
  · exact plain_indexed

omit h in
theorem sampleMark_sameIndex (d : Dir) (level : Nat) (tallied : Bool) (s : State) :
    s.sameIndex (sampleMark d level tallied s).1 :=
  ⟨by simp [State.positions], by simp, by simp, by simp, by simp, fun off => by simp [sampleMark, off]⟩

theorem countMark_indexed (d : Dir) (tallied : Bool) : (countMark d tallied w).st.Indexed := by
  unfold countMark
  dsimp only
  generalize hx : sampleMark d w.st.level tallied w.st = x
  have sampled : x.1.Indexed := by
    rw [← hx]
    exact h.of_same (sampleMark_sameIndex _ _ _ _)
  split
  · rename_i g made
    split
    · exact sampled
    · refine takeSighting_indexed (w := { w with st := x.1 }) sampled ?_ g
      by_contra other
      have off := sampled.detector other
      rw [← hx] at made off
      rw [sampleMark_armed made] at off
      cases off
  · exact sampled

/-! ### The end of the rewind (R15, R16) -/

theorem checkRewindEnd_indexed : (checkRewindEnd w).st.Indexed := by
  unfold checkRewindEnd
  split
  case isFalse => exact h
  case isTrue ends =>
    have off : w.st.mkd = .off := h.detector (by simp [ends.1])
    obtain ⟨length, rising, empty, opened, full, -⟩ := h
    have entries : (rewindEnd w).st.positions = w.st.positions := by simp [State.positions]
    have index : (rewindEnd w).st.fit.index = w.st.fit.index := by simp
    have roll : (rewindEnd w).st.trc.roll = .empty := by simp [rewindEnd]
    have profile : (rewindEnd w).st.trc.profile = none := by simp [rewindEnd]
    exact ⟨by rwa [entries], by rwa [entries], by rwa [entries, index], by rwa [entries, index], by rwa [entries, index],
      by simp [profile], by simp [roll], by simp [roll], by simp [roll], fun _ => by simpa using off⟩

theorem beginRewind_indexed : (beginRewind w).st.Indexed := by
  unfold beginRewind
  split
  · exact h.left (by simp [State.sameFit])
  · exact checkRewindEnd_indexed (h.left (by simp [State.sameFit]))

omit h in
theorem indexed_ite {c : Prop} [Decidable c] {u v : Ctx} (hu : u.st.Indexed) (hv : v.st.Indexed) :
    (if c then u else v).st.Indexed := by
  split
  · exact hu
  · exact hv

theorem rewindFrom_indexed : (rewindFrom w).st.Indexed := by
  have begun := beginRewind_indexed h
  unfold rewindFrom
  cases motion : w.st.trc.motion with
  | idle | settling => exact begun
  | accel | cruise | decel | creepIn =>
    exact indexed_ite (h.left (by simp [State.sameFit])) begun
  | parked => exact h.left (by simp [State.sameFit])
  | waking | faulted | off => exact h.left (by simp [State.sameFit])

theorem resumeRewind_indexed : (resumeRewind w).st.Indexed := by
  unfold resumeRewind
  split
  · exact beginRewind_indexed h
  · exact h

end operations

end Sys2Proof.Machine
end

section
/-! SUPPORT. Every request keeps the law of the frame index (R9, R10, R13, R80 to R84, R147). -/

namespace Sys2Proof.Machine

/-! ### Requests -/

/-- The requests that may change what the law of the index speaks of. -/
def Action.edits : Action → Bool
  | .load _ _ | .unload | .take _ | .correct _ | .resume => true
  | _ => false

theorem perform_sameFit (e : Env) {a : Action} (s : State) (plain : a.edits = false) : s.sameFit (perform e a s) := by
  cases a with
  | present | run | jog | barrier => simp [State.sameFit, perform, doPresent, doRun, doJog, doBarrier, makeRecord]
  | halt => simp [State.sameFit, perform, doHalt]
  | cancel t =>
    simp only [perform, doCancel]
    split <;> simp [State.sameFit]
  | cancelAll =>
    simp only [perform, doCancelAll]
    split <;> simp [State.sameFit]
  | release t =>
    simp only [perform, doRelease]
    split
    · simp [State.sameFit]
    · split <;> simp [State.sameFit]
  | expose =>
    simp only [perform, doExpose]
    repeat' split
    all_goals simp [State.sameFit]
  | clearFault =>
    simp only [perform, doClearFault]
    repeat' split
    all_goals simp [State.sameFit]
  | setStation park wake =>
    simp only [perform, doSetStation]
    split <;> simp [State.sameFit]
  | focusLock x =>
    simp only [perform, doFocusLock]
    repeat' split
    all_goals simp [State.sameFit]
  | ackAttn =>
    simp only [perform, doAckAttn]
    split
    · simp [State.sameFit, doneQuiet]
    · split <;> simp [State.sameFit]
  | watch | gateStatus | readIndex | indexStatus | focusFree | focusRead | configureLink | linkStatus | readEvents =>
    simp [State.sameFit, perform, doWatch, doGateStatus, doReadIndex, doIndexStatus, doFocusFree, doFocusRead, doConfigureLink,
      doLinkStatus, doReadEvents, doneQuiet]
  | focusUnlock | focusSet => simp [State.sameFit, perform, doFocusUnlock, doFocusSet]
  | resetLink => simp [State.sameFit, perform, doResetLink]
  | setNotices => simp [State.sameFit, perform, doSetNotices, setNotices]
  | clearEvents => simp [State.sameFit, perform, doClearEvents]
  | load | unload | take | correct | resume => cases plain

/-- The profile that check 5 lets a LOAD store has its pitches in order (R5 to R7). -/
theorem loaded_pitches {body : List Byte} {p : Profile} {clamped : List Nat} (h : parseLoad body = .ok (.load p clamped)) :
    64 ≤ p.pitchMin ∧ p.pitchMin ≤ p.pitchNominal ∧ p.pitchNominal ≤ p.pitchMax := by
  have consistent : inconsistent p = none ∧ ∃ l, p = loadProfile l := by
    unfold parseLoad at h
    dsimp only at h
    repeat' split at h
    all_goals cases h
    exact ⟨by assumption, _, rfl⟩
  obtain ⟨consistent, l, rfl⟩ := consistent
  unfold inconsistent at consistent
  split at consistent
  · cases consistent
  · rename_i order
    exact ⟨(clampNat_between (by omega) _).1, by omega, by omega⟩

section requests
variable {s : State} (h : s.Indexed) (e : Env)
include h

theorem doLoad_indexed {p : Profile} (clamped : List Nat)
    (pitches : 64 ≤ p.pitchMin ∧ p.pitchMin ≤ p.pitchNominal ∧ p.pitchNominal ≤ p.pitchMax) (empty : s.trc.roll = .empty) :
    (doLoad e p clamped s).Indexed := by
  have off := h.detector (by simp [empty])
  obtain ⟨length, rising, none, opened, full, -⟩ := h
  have threading : State.Indexed { s with trc.roll := .threading, trc.profile := some p } :=
    { length, rising, empty := none, opened, full
      pitches := fun q hq => by
        cases hq
        exact pitches
      profiled := fun _ => rfl
      estimate := nofun
      spacing := nofun
      detector := fun _ => off }
  exact threading.left (by simp [State.sameFit, doLoad])

theorem doUnload_indexed : (doUnload e s).Indexed := by
  unfold doUnload
  extract_lets w u
  have profile : u.st.trc.profile = s.trc.profile := by simp [u, w]
  have cleared : u.st.Indexed :=
    { length := Nat.zero_le _
      rising := List.isChain_nil
      empty := fun _ => rfl
      opened := nofun
      full := nofun
      pitches := by
        rw [profile]
        exact h.pitches
      profiled := nofun
      estimate := nofun
      spacing := nofun
      detector := fun _ => rfl }
  exact (rewindFrom_indexed (w := setLevel .rollState false [Roll.code .rewinding] u) (cleared.left (by simp [State.sameFit]))).left
    (by simp [State.sameFit])

theorem doResume_indexed : (doResume e s).Indexed := by
  refine State.Indexed.left (s := (resumeRewind (setLevel .halted false []
    ((e.reply .done [] (Ctx.start s)).upd fun s => { s with rqt.halted := false }))).st) (resumeRewind_indexed ?_)
    (by simp [State.sameFit, doResume])
  exact h.left (by simp [State.sameFit])

theorem doTake_indexed (t : Byte) : (doTake e t s).Indexed := by
  have marked (n : Nat) : (markTaken n s).Indexed := modify_indexed h n fun _ => rfl
  unfold doTake
  split
  · exact h.left (by simp [State.sameFit])
  · rename_i x _
    dsimp only
    split
    · exact (marked x.frame).left (by simp [State.sameFit])
    · exact (marked x.frame).left (by simp [State.sameFit])

theorem indexed_of_notEdited {c : Prop} [Decidable c] (st : Status) {u : State} (edited : ¬ c → u.Indexed) :
    State.Indexed (if c then refuse e st [] s else u) := by
  split
  · exact h.left (by simp [State.sameFit])
  · exact edited (by assumption)

theorem doMerge_indexed (loaded : s.trc.roll = .loaded) (n : Nat) : (doMerge e n s).Indexed :=
  indexed_of_notEdited h e _ fun _ => indexed_of_notEdited h e _ fun _ =>
    (mergeEntries_indexed h loaded n).left (by simp [State.sameFit, correctReply])

theorem doMove_indexed (loaded : s.trc.roll = .loaded) (n p : Nat) : (doMove e n p s).Indexed :=
  indexed_of_notEdited h e _ fun _ => indexed_of_notEdited h e _ fun inside => indexed_of_notEdited h e _ fun fits => by
    simp only [State.indexed, Bool.not_eq_true', decide_eq_false_iff_not, not_not] at inside
    simp only [State.moveFits, Bool.not_eq_true', Bool.not_eq_false, Bool.and_eq_true] at fits
    have moved := modify_positions_indexed h loaded (f := fun e => { e with pos := p, kind := .manual, weak := false })
      (fun _ => rfl) inside fits.1 fits.2
    exact moved.left (by simp [State.sameFit, correctReply, moveEntry])

theorem splitEntries_indexed (loaded : s.trc.roll = .loaded) {n p : Nat} (inside : n < s.fit.entries.length)
    (room : s.fit.entries.length < 16384) (fits : s.splitFits n p = true) : (splitEntries n p s).Indexed := by
  obtain ⟨below, above⟩ := Bool.and_eq_true_iff.mp fits
  have length : (s.fit.entries.insertIdx (n + 1) ⟨p, .manual, false, false, false, false, false⟩).length =
      s.fit.entries.length + 1 := List.length_insertIdx_of_le_length inside _
  refine insert_indexed h (e := ⟨p, .manual, false, false, false, false, false⟩) loaded inside room below above ?_ ?_
  · split
    · nofun
    · intro empty
      have := h.empty empty
      simp only [positions_eq_nil] at this
      simp [this] at inside
  · intro stays
    split at stays
    · cases stays
    · rename_i notFull
      rw [length] at notFull
      simp only [stays, true_and, Config.maxEntries] at notFull
      omega

theorem doSplit_indexed (loaded : s.trc.roll = .loaded) (n p : Nat) : (doSplit e n p s).Indexed :=
  indexed_of_notEdited h e _ fun _ => indexed_of_notEdited h e _ fun inside => indexed_of_notEdited h e _ fun room =>
    indexed_of_notEdited h e _ fun fits => indexed_of_notEdited h e _ fun _ => by
      simp only [State.indexed, Bool.not_eq_true', decide_eq_false_iff_not, not_not] at inside
      simp only [Bool.not_eq_true', Bool.not_eq_false] at fits
      simp only [not_or, Config.maxEntries] at room
      have edited := splitEntries_indexed h loaded inside (by omega) fits
      dsimp only
      split
      · exact edited.left (by simp [State.sameFit, correctReply])
      · exact edited.left (by simp [State.sameFit, correctReply])

theorem doClearTaken_indexed (a b : Nat) : (doClearTaken e a b s).Indexed :=
  indexed_of_notEdited h e _ fun _ => indexed_of_notEdited h e _ fun _ =>
    (clearTakenEntries_indexed h a b).left (by simp [State.sameFit, correctReply])

theorem perform_indexed {k : Kind} {body : List Byte} {a : Action} (accepted : s.Accepts e k body a) :
    (perform e a s).Indexed := by
  have roll := accepted.roll
  rw [← accepted.kind] at roll
  cases edits : a.edits with
  | false => exact h.left (perform_sameFit e s edits)
  | true =>
    cases a with
    | load p clamped =>
      have kind := accepted.kind
      have parsed := accepted.parsed
      rw [← kind] at parsed
      exact doLoad_indexed h e clamped (loaded_pitches parsed) (by simpa [rollRefusal, Action.kind] using roll)
    | unload => exact doUnload_indexed h e
    | take t => exact doTake_indexed h e t
    | resume => exact doResume_indexed h e
    | correct c =>
      have loaded : s.trc.roll = .loaded := by simpa [rollRefusal, Action.kind, Kind.needsRoll] using roll
      cases c with
      | merge n => exact doMerge_indexed h e loaded n
      | split n p => exact doSplit_indexed h e loaded n p
      | move n p => exact doMove_indexed h e loaded n p
      | clearTaken a b => exact doClearTaken_indexed h e a b
    | _ => cases edits

end requests

end Sys2Proof.Machine
end

section
/-! SUPPORT. Every event keeps the law of the frame index (R50 to R64, R69 to R84), and O53. -/

namespace Sys2Proof.Machine

section events
variable {s : State} (h : s.Indexed)
include h

omit h in
theorem finish_indexed {w : Ctx} (law : w.st.Indexed) : (finish w).Indexed := law.left (by simp [State.sameFit])

omit h in
theorem examine_indexed {w : Ctx} (law : w.st.Indexed) : (examine w).st.Indexed := law.left (by simp [State.sameFit])

theorem onThreadingSuccess_indexed (x y : Byte) : (onThreadingSuccess x y s).Indexed := by
  unfold onThreadingSuccess
  split
  case isFalse => exact h
  case isTrue threading =>
    obtain ⟨p, profile⟩ := Option.isSome_iff_exists.mp (h.profiled (.inl threading.1))
    have nominal : s.profile = p := by rw [State.profile, profile]; rfl
    obtain ⟨-, low, high⟩ := h.pitches p profile
    have threaded : (threadedState x y s).Indexed :=
      { length := Nat.zero_le _
        rising := List.isChain_nil
        empty := fun _ => rfl
        opened := nofun
        full := nofun
        pitches := h.pitches
        profiled := fun _ => h.profiled (.inl threading.1)
        estimate := fun _ => by
          rw [← nominal] at low high
          exact ⟨Nat.mul_le_mul_left 256 low, Nat.mul_le_mul_left 256 high⟩
        spacing := fun _ => List.isChain_nil
        detector := fun other => absurd rfl other }
    exact threaded.left (by simp [State.sameFit])

theorem onThreadingTimeout_indexed : (onThreadingTimeout s).Indexed := by
  unfold onThreadingTimeout
  split
  case isFalse => exact h
  case isTrue threading =>
    have off := h.detector (by simp [threading.1])
    obtain ⟨length, rising, empty, opened, full, -⟩ := h
    have unloaded : State.Indexed { s with trc.roll := .empty, trc.profile := none, fit.p256 := 0 } :=
      { length, rising, empty, opened, full
        pitches := nofun
        profiled := nofun
        estimate := nofun
        spacing := nofun
        detector := fun _ => off }
    exact unloaded.left (by simp [State.sameFit])

theorem onRetensionSuccess_indexed : (onRetensionSuccess s).Indexed := by
  unfold onRetensionSuccess
  split
  · refine finish_indexed (examine_indexed (resumeRewind_indexed ?_))
    exact h.left (by simp [State.sameFit])
  · exact h

theorem onEncoderCount_indexed (d : Dir) (x : Sample) : (onEncoderCount d x s).Indexed := by
  unfold onEncoderCount
  split
  · exact h
  split
  · exact h.left (by simp [State.sameFit])
  extract_lets c w a b
  have counted : (a.upd progress).st.Indexed := by
    refine h.left ?_
    unfold a
    split <;> simp [State.sameFit, w, c]
  have marked : b.st.Indexed := countMark_indexed counted d c.2.tallied
  have limited : (frontierLimit d c.2.tallied b).st.Indexed := marked.left (by simp [State.sameFit])
  exact finish_indexed (examine_indexed (checkRewindEnd_indexed limited))

theorem onLeaderFall_indexed : (onLeaderFall s).Indexed := by
  have fallen : State.Indexed { s with pins.leader := false } := h.left (by simp [State.sameFit])
  unfold onLeaderFall
  dsimp only
  split
  · exact fallen
  · exact finish_indexed (checkRewindEnd_indexed (w := Ctx.start _) fallen)

omit h in
theorem endFound_indexed {w : Ctx} (h : w.st.Indexed) : (endFound w).st.Indexed := by
  obtain ⟨length, rising, empty, opened, full, pitches, profiled, estimate, spacing, detector⟩ := h
  have index : (endFound w).st.fit.index = if w.st.fit.index = .full then .full else .closed := by simp [endFound]
  have ended : State.Indexed { w.st with fit.index := if w.st.fit.index = .full then .full else .closed } :=
    { length, rising, pitches, profiled, estimate, spacing, detector
      empty := fun none => by
        dsimp only at none
        split at none <;> cases none
      opened := fun isOpen => by
        dsimp only at isOpen
        split at isOpen <;> cases isOpen
      full := fun isFull => by
        dsimp only at isFull
        split at isFull
        · exact full (by assumption)
        · cases isFull }
  exact ended.left ⟨by simp, index, by simp, by simp, by simp, by simp⟩

theorem onEndRising_indexed : (onEndRising s).Indexed := by
  unfold onEndRising
  split
  · split
    · dsimp only
      split
      · exact h.left (by simp [State.sameFit])
      · exact (endFound_indexed (w := Ctx.start s) h).left (by simp [State.sameFit])
    · exact h
  · exact h

theorem onStopRampRest_indexed : (onStopRampRest s).Indexed := by
  have ended : ((Ctx.start s).upd moveOver).st.Indexed := h.left (by simp [State.sameFit])
  have rewind := finish_indexed (examine_indexed (beginRewind_indexed ended))
  unfold onStopRampRest
  split
  · split
    · dsimp only
      split
      · split
        · exact rewind
        · exact ended.left (by simp [State.sameFit])
      · split
        · exact rewind
        · exact h.left (by simp [State.sameFit])
      · exact h
      · exact h
    · exact h
  · exact h

theorem onWakeTimerExpiry_indexed : (onWakeTimerExpiry s).Indexed := by
  unfold onWakeTimerExpiry
  split
  · refine finish_indexed (examine_indexed ?_)
    unfold wakeEnds
    extract_lets u
    have timed : u.st.Indexed := h.left (by simp [State.sameFit, u])
    split
    · exact beginRewind_indexed timed
    all_goals exact timed.left (by simp [State.sameFit])
  · exact h

/-- An event without a branch that the law of the index sees. -/
theorem indexed_when {c : Prop} [Decidable c] {u : State} (same : s.sameFit u) : State.Indexed (if c then u else s) := by
  split
  · exact h.left same
  · exact h

/-- Every event keeps the law of the frame index. -/
theorem event_indexed {c : Instr} {t : State} (event : isEvent c = true) (next : exec c s = .next t) : t.Indexed := by
  cases c with
  | threadingSuccess x y => cases next; exact onThreadingSuccess_indexed h x y
  | threadingTimeout => cases next; exact onThreadingTimeout_indexed h
  | retensionSuccess => cases next; exact onRetensionSuccess_indexed h
  | encoderCount d x => cases next; exact onEncoderCount_indexed h d x
  | leaderFall => cases next; exact onLeaderFall_indexed h
  | endRising => cases next; exact onEndRising_indexed h
  | stopRampRest => cases next; exact onStopRampRest_indexed h
  | wakeTimerExpiry => cases next; exact onWakeTimerExpiry_indexed h
  | retensionFail | tensionPersistenceExpiry | stallTimerExpiry | leaderTimerExpiry | settleTimerExpiry | parkTimerExpiry
  | lensHomingComplete | expdoneRising | exposureTimerExpiry =>
    cases next
    exact indexed_when h (by simp [State.sameFit, parkNow])
  | travelLegRest =>
    cases next
    simp only [onTravelLegRest]
    split
    · exact indexed_when h (by simp [State.sameFit])
    · exact h
  | creepRest =>
    cases next
    simp only [onCreepRest]
    split
    · exact indexed_when h (by simp [State.sameFit])
    · exact h
  | boundRest =>
    cases next
    simp only [onBoundRest]
    split
    · exact indexed_when h (by simp [State.sameFit])
    · exact h
  | settleLimitExpiry =>
    cases next
    simp only [onSettleLimitExpiry]
    split
    · split
      · exact h.left (by simp [State.sameFit])
      · exact h.left (by simp [State.sameFit])
    · exact h
  | lensMoveComplete =>
    cases next
    simp only [onLensMoveComplete]
    split
    · exact h.left (by simp [State.sameFit])
    · exact h
  | focusLineArrival late line =>
    cases next
    simp only [onFocusLineArrival]
    split
    · exact indexed_when h (by simp [State.sameFit])
    · exact h
  | focusSampleTimeout =>
    cases next
    simp only [onFocusSampleTimeout]
    repeat' split
    all_goals exact h.left (by simp [State.sameFit])
  | holdTimerExpiry =>
    cases next
    simp only [onHoldTimerExpiry]
    split
    · exact indexed_when h (by simp [State.sameFit])
    · exact h
  | _ => cases event

end events

/-- The law of the frame index is one that every command keeps. -/
theorem indexed_keptByCommands : KeptByCommands State.Indexed where
  core s := ⟨fun h => h.left (by simp [State.sameFit, State.core]), fun h => h.left (by simp [State.sameFit, State.core])⟩
  reset _ _ _ := (indexed_iff.mpr lawsHoldAtReset.2.2.2.2.2.2.2).left (by simp [State.sameFit, resetTo])
  perform _ _ _ _ _ accepted h := perform_indexed h _ accepted
  portReset _ _ h := h.left (by simp [State.sameFit])
  event _ _ _ event h next := event_indexed h event next

/-- Settles O53: every step keeps the law of the frame index (`indexed_keptByCommands`). -/
theorem indexLawKept : Obligations.IndexLawKept := fun _ _ law next =>
  indexed_iff.mp (indexed_keptByCommands.step (indexed_iff.mpr law) next)

end Sys2Proof.Machine
end

section
/-! SUPPORT. What an operation adds to the messages and the occurrences of a command, and what the end of the command makes of them
(R189, R201, R202). -/

namespace Sys2Proof.Machine

/-! ### Messages (R189) -/

theorem messagesFor_append (p : Port) (l k : List (Port × OutMsg)) :
    messagesFor p (l ++ k) = messagesFor p l ++ messagesFor p k := by simp [messagesFor]

theorem messagesFor_same (p : Port) (m : OutMsg) : messagesFor p [(p, m)] = [m] := by simp [messagesFor]

theorem sends_of_sendsFirst {s t : State} {p : Port} {m : OutMsg} (h : sendsFirst s t p m) : sends s t p m := by
  obtain ⟨more, h⟩ := h
  exact ⟨[], more, by simpa using h⟩

/-- A message that a command has for a port is one that the outbox of the port gains. -/
theorem sends_finish {s : State} {w : Ctx} {p : Port} {m : OutMsg} (same : (w.st.link p).outbox = (s.link p).outbox)
    (mem : (p, m) ∈ w.sends) : sends s (finish w) p m := by
  obtain ⟨notices, h, -⟩ := finish_outbox w p
  obtain ⟨before, after, split⟩ := List.append_of_mem mem
  refine ⟨messagesFor p before, messagesFor p after ++ notices, ?_⟩
  rw [h, same, split, show (p, m) :: after = [(p, m)] ++ after from rfl, messagesFor_append, messagesFor_append, messagesFor_same]
  simp

theorem sendsFirst_finish {s : State} {w : Ctx} {p : Port} {m : OutMsg} (same : (w.st.link p).outbox = (s.link p).outbox)
    (first : ∃ more, w.sends = (p, m) :: more) : sendsFirst s (finish w) p m := by
  obtain ⟨notices, h, -⟩ := finish_outbox w p
  obtain ⟨more, first⟩ := first
  refine ⟨messagesFor p more ++ notices, ?_⟩
  rw [h, same, first, show (p, m) :: more = [(p, m)] ++ more from rfl, messagesFor_append, messagesFor_same]
  simp

/-! ### Latches (R201, R202) -/

section latches
variable {p : Port} {k : EventSource} {d : List Byte}

theorem latchOne_slot (o : Occ) (s : State) (p : Port) (k : EventSource) : (latchOne o s).slot p k =
    if o.port = p ∧ o.source = k ∧ (s.slot p k).enabled = true then (s.slot p k).latched o.data else s.slot p k := by
  unfold latchOne
  dsimp only
  by_cases here : o.port = p ∧ o.source = k
  · obtain ⟨rfl, rfl⟩ := here
    by_cases enabled : (s.slot o.port o.source).enabled = true
    · rw [if_pos enabled, if_pos ⟨rfl, rfl, enabled⟩]
      simp
    · simp only [enabled, and_false, if_false, Bool.false_eq_true]
  · have elsewhere : ¬(o.port = p ∧ o.source = k ∧ (s.slot p k).enabled = true) := fun h => here ⟨h.1, h.2.1⟩
    rw [if_neg elsewhere]
    split
    · by_cases port : o.port = p
      · have source : o.source ≠ k := fun source => here ⟨port, source⟩
        simp [port, source]
      · simp [port]
    · rfl

/-- Every occurrence of a source on a port carries the same data, and one has come or the latch holds that data already. -/
theorem foldl_latchOne_data {l : List Occ} {s : State} (enabled : (s.slot p k).enabled = true)
    (data : ∀ o ∈ l, o.port = p → o.source = k → o.data = d)
    (one : (∃ o ∈ l, o.port = p ∧ o.source = k) ∨ ∃ x, (s.slot p k).latch = some x ∧ x.data = d) :
    ∃ x, ((l.foldl (fun s o => latchOne o s) s).slot p k).latch = some x ∧ x.data = d := by
  induction l generalizing s with
  | nil => simpa using one
  | cons o l ih =>
    have slot := latchOne_slot o s p k
    refine ih (s := latchOne o s) ?_ (fun o ho => data o (List.mem_cons_of_mem _ ho)) ?_
    · rw [slot]
      split <;> exact enabled
    · by_cases here : o.port = p ∧ o.source = k
      · right
        rw [slot, if_pos ⟨here.1, here.2, enabled⟩]
        exact ⟨_, rfl, data o List.mem_cons_self here.1 here.2⟩
      · rw [slot, if_neg fun h => here ⟨h.1, h.2.1⟩]
        refine one.imp_left fun ⟨x, hx, port, source⟩ => ?_
        rcases List.mem_cons.mp hx with rfl | hx
        · exact absurd ⟨port, source⟩ here
        · exact ⟨x, hx, port, source⟩

theorem mem_sortOccs {o : Occ} {l : List Occ} : o ∈ sortOccs l ↔ o ∈ l := by
  simp only [sortOccs, List.mem_flatMap, List.mem_filter, decide_eq_true_eq]
  exact ⟨fun ⟨_, _, h, _⟩ => h, fun h => ⟨_, mem_allSources o.source, h, rfl⟩⟩

theorem finish_slot (w : Ctx) (p : Port) (k : EventSource) : (finish w).slot p k = (latchAll w.occs (queueAll w.sends w.st)).slot p k := by
  simp [finish]

theorem queueAll_slot (l : List (Port × OutMsg)) (s : State) (p : Port) (k : EventSource) :
    (queueAll l s).slot p k = s.slot p k := by simp

/-- The occurrences of an enabled source leave their data in its latch. -/
theorem latch_finish {w : Ctx} (enabled : (w.st.slot p k).enabled = true)
    (data : ∀ o ∈ w.occs, o.port = p → o.source = k → o.data = d) (one : ⟨k, p, d⟩ ∈ w.occs) :
    ∃ x, ((finish w).slot p k).latch = some x ∧ x.data = d := by
  rw [finish_slot]
  exact foldl_latchOne_data (by rwa [queueAll_slot]) (fun o ho => data o (mem_sortOccs.mp ho))
    (.inl ⟨_, mem_sortOccs.mpr one, rfl, rfl⟩)

end latches

/-! ### What an operation adds -/

/-- Messages and occurrences are only added, and the occurrences are of level sources or of the sources `loud`. -/
def Ctx.Grows (loud : List EventSource) (w v : Ctx) : Prop :=
  (∃ m, v.sends = w.sends ++ m) ∧ ∃ l, v.occs = w.occs ++ l ∧ ∀ o ∈ l, o.source.isLevel = true ∨ o.source ∈ loud

namespace Ctx.Grows

variable {loud : List EventSource} {u v w : Ctx}

theorem refl (w : Ctx) : w.Grows loud w := ⟨⟨[], by simp⟩, [], by simp, by simp⟩

theorem of_same (sends : v.sends = w.sends) (occs : v.occs = w.occs) : w.Grows loud v :=
  ⟨⟨[], by simp [sends]⟩, [], by simp [occs], by simp⟩

theorem trans (first : u.Grows loud v) (next : v.Grows loud w) : u.Grows loud w := by
  obtain ⟨⟨m, hm⟩, l, hl, levels⟩ := first
  obtain ⟨⟨m', hm'⟩, l', hl', levels'⟩ := next
  refine ⟨⟨m ++ m', by rw [hm', hm, List.append_assoc]⟩, l ++ l', by rw [hl', hl, List.append_assoc], fun o ho => ?_⟩
  rcases List.mem_append.mp ho with ho | ho
  · exact levels o ho
  · exact levels' o ho

theorem ite {c : Prop} [Decidable c] (hu : w.Grows loud u) (hv : w.Grows loud v) : w.Grows loud (if c then u else v) := by
  split
  · exact hu
  · exact hv

theorem mem (h : w.Grows loud v) {x : Port × OutMsg} (mem : x ∈ w.sends) : x ∈ v.sends := by
  obtain ⟨⟨m, hm⟩, -⟩ := h
  simp [hm, mem]

theorem mem_occs (h : w.Grows loud v) {o : Occ} (mem : o ∈ w.occs) : o ∈ v.occs := by
  obtain ⟨-, l, hl, -⟩ := h
  simp [hl, mem]

theorem first (h : w.Grows loud v) {x : Port × OutMsg} (first : w.sends = [x]) : ∃ more, v.sends = x :: more := by
  obtain ⟨⟨m, hm⟩, -⟩ := h
  exact ⟨m, by simp [hm, first]⟩

/-- An operation that leaves a pulse source alone leaves the data of its occurrences. -/
theorem data (h : w.Grows loud v) {k : EventSource} (pulse : k.isLevel = false) (quiet : k ∉ loud) {p : Port} {d : List Byte}
    (data : ∀ o ∈ w.occs, o.port = p → o.source = k → o.data = d) : ∀ o ∈ v.occs, o.port = p → o.source = k → o.data = d := by
  obtain ⟨-, l, hl, sources⟩ := h
  intro o ho port source
  rw [hl] at ho
  rcases List.mem_append.mp ho with ho | ho
  · exact data o ho port source
  · subst source
    rcases sources o ho with level | mem
    · simp [pulse] at level
    · exact absurd mem quiet

end Ctx.Grows

section operations
variable {loud : List EventSource} (w : Ctx)

theorem upd_grows (f : State → State) : w.Grows loud (w.upd f) := .of_same rfl rfl

theorem pulse_grows {k : EventSource} (known : k.isLevel = true ∨ k ∈ loud) (p : Port) (d : List Byte) :
    w.Grows loud (pulse k p d w) :=
  ⟨⟨[], by simp⟩, [⟨k, p, pad8 d⟩], by simp, fun o ho => by
    cases List.mem_singleton.mp ho
    exact known⟩

theorem pulseAll_grows {k : EventSource} (known : k.isLevel = true ∨ k ∈ loud) (d : List Byte) :
    w.Grows loud (pulseAll k d w) :=
  ((pulse_grows w known _ d).trans (pulse_grows _ known _ d)).trans (pulse_grows _ known _ d)

theorem transitionOn_grows {k : EventSource} (level : k.isLevel = true) (high : Bool) (d : List Byte) (p : Port) :
    w.Grows loud (transitionOn k high d p w) := .ite (pulse_grows w (.inl level) p d) (.refl w)

theorem setLevel_grows {k : EventSource} (level : k.isLevel = true) (high : Bool) (d : List Byte) :
    w.Grows loud (setLevel k high d w) := by
  refine .ite (.refl w) ?_
  exact (((upd_grows w _).trans (transitionOn_grows _ level _ _ _)).trans (transitionOn_grows _ level _ _ _)).trans
    (transitionOn_grows _ level _ _ _)

theorem reply_grows (e : Env) (st : Status) (r : List Byte) : w.Grows loud (e.reply st r w) :=
  .ite (.refl w) ⟨⟨_, rfl⟩, [], by simp, by simp⟩

theorem complete_grows (p : Port) (tag : Byte) (kind : Nat) (o : OutcomeCode) (r : List Byte) :
    w.Grows loud (complete p tag kind o r w) := ⟨⟨_, rfl⟩, [], by simp [complete], by simp⟩

theorem completeTimedOn_grows (k : TimedKind) (o : OutcomeCode) (r : List Byte) (p : Port) :
    w.Grows loud (completeTimedOn k o r p w) := by
  unfold completeTimedOn
  split
  · exact .refl w
  · exact (upd_grows w _).trans (complete_grows _ _ _ _ _ _)

theorem completeTimed_grows (k : TimedKind) (o : OutcomeCode) (r : List Byte) : w.Grows loud (completeTimed k o r w) :=
  ((completeTimedOn_grows w _ _ _ _).trans (completeTimedOn_grows _ _ _ _ _)).trans (completeTimedOn_grows _ _ _ _ _)

/-! ### Records and the run (R117, R134, R173) -/

theorem completeRecordOnly_grows (r : Record) (o : OutcomeCode) : w.Grows loud (completeRecordOnly r o w) :=
  ((complete_grows w _ _ _ _ _).trans (upd_grows _ _)).trans (setLevel_grows _ rfl _ _)

theorem examineBarriersN_grows (n : Nat) (p : Port) : w.Grows loud (examineBarriersN n p w) := by
  induction n generalizing w with
  | zero => exact .refl w
  | succ n ih =>
    unfold examineBarriersN
    split
    · exact (completeRecordOnly_grows w _ _).trans (ih _)
    · exact .refl w

theorem examineBarriers_grows (p : Port) : w.Grows loud (examineBarriers p w) := examineBarriersN_grows w _ p

theorem completeRecord_grows (r : Record) (o : OutcomeCode) : w.Grows loud (completeRecord r o w) :=
  (completeRecordOnly_grows w r o).trans (examineBarriers_grows _ _)

theorem completeTag_grows (p : Port) (t : Byte) (o : OutcomeCode) : w.Grows loud (completeTag p t o w) := by
  unfold completeTag
  split
  · exact completeRecord_grows w _ o
  · exact .refl w

theorem completeRunOnly_grows (o : OutcomeCode) : w.Grows loud (completeRunOnly o w) := by
  unfold completeRunOnly
  split
  · exact .refl w
  · exact (complete_grows w _ _ _ _ _).trans (upd_grows _ _)

theorem completeRun_grows (o : OutcomeCode) : w.Grows loud (completeRun o w) :=
  (completeRunOnly_grows w o).trans (examineBarriers_grows _ _)

theorem runAdvance_grows (n : Nat) : w.Grows loud (runAdvance n w) := by
  unfold runAdvance
  split
  · exact .refl w
  · refine .ite ((upd_grows w _).trans (completeRun_grows _ _)) (.ite ?_ ?_)
    · exact ((upd_grows w _).trans (upd_grows _ _)).trans (completeRun_grows _ _)
    · exact ((upd_grows w _).trans (upd_grows _ _)).trans (upd_grows _ _)

theorem completeEach_grows (o : OutcomeCode) (l : List Record) : w.Grows loud (completeEach o l w) := by
  induction l generalizing w with
  | nil => exact .refl w
  | cons r l ih => exact (completeRecord_grows w r o).trans (ih _)

theorem completeEachOnly_grows (o : OutcomeCode) (l : List Record) : w.Grows loud (completeEachOnly o l w) := by
  induction l generalizing w with
  | nil => exact .refl w
  | cons r l ih => exact (completeRecordOnly_grows w r o).trans (ih _)

/-! ### The grant opportunity (R119, R120, R165) -/

theorem clearUnreachable_grows : w.Grows loud (clearUnreachable w) := by
  unfold clearUnreachable
  extract_lets u o l
  have chosen : w.Grows loud u := .ite (upd_grows w _) (.refl w)
  refine chosen.trans ?_
  split
  · refine .ite ?_ (completeEach_grows u _ _)
    exact ((completeEach_grows u _ _).trans (completeRun_grows _ _)).trans (completeEach_grows _ _ _)
  · exact completeEach_grows u _ _

theorem setVerified_grows (reason : Byte) : w.Grows loud (setVerified reason w) :=
  (upd_grows w _).trans (setLevel_grows _ rfl _ _)

theorem examine_grows : w.Grows loud (examine w) := by
  have cleared := clearUnreachable_grows (loud := loud) w
  refine .ite ?_ (.refl w)
  refine .ite (cleared.trans (upd_grows _ _)) (.ite ?_ (cleared.trans (upd_grows _ _)))
  exact (cleared.trans (setVerified_grows _ _)).trans (upd_grows _ _)

/-! ### The transport, faults and stop orders (R16, R31, R37, R75, R121, R131) -/

theorem rewindEnd_grows : w.Grows loud (rewindEnd w) :=
  ((upd_grows w _).trans (setLevel_grows _ rfl _ _)).trans (completeTimed_grows _ _ _ _)

theorem checkRewindEnd_grows : w.Grows loud (checkRewindEnd w) := .ite (rewindEnd_grows w) (.refl w)

theorem beginRewind_grows : w.Grows loud (beginRewind w) :=
  .ite (upd_grows w _) ((upd_grows w _).trans (checkRewindEnd_grows _))

theorem rewindFrom_grows : w.Grows loud (rewindFrom w) := by
  have begun := beginRewind_grows (loud := loud) w
  unfold rewindFrom
  cases w.st.trc.motion with
  | idle | settling => exact begun
  | accel | cruise | decel | creepIn => exact .ite (upd_grows w _) begun
  | parked | waking | faulted | off => exact upd_grows w _

theorem resumeRewind_grows : w.Grows loud (resumeRewind w) := .ite (beginRewind_grows w) (.refl w)

theorem completeExpose_grows (e : Exposure) (o : OutcomeCode) : w.Grows loud (completeExpose e o w) :=
  (upd_grows w _).trans (complete_grows _ _ _ _ _ _)

theorem abandonExposure_grows (o : OutcomeCode) : w.Grows loud (abandonExposure o w) := by
  unfold abandonExposure
  split
  · exact .refl w
  · exact (completeExpose_grows w _ o).trans (upd_grows _ _)

theorem faultGrant_grows : w.Grows loud (faultGrant w) := by
  unfold faultGrant
  split
  · exact completeTag_grows w _ _ _
  all_goals exact .refl w

theorem takeFault_grows (c : Cause) : w.Grows loud (takeFault c w) := by
  unfold takeFault
  extract_lets was a b d e
  have granted : w.Grows loud a := (upd_grows w _).trans (faultGrant_grows _)
  have cleared : w.Grows loud d := ((granted.trans (upd_grows a _)).trans (abandonExposure_grows b _)).trans (upd_grows _ _)
  have level : w.Grows loud e := cleared.trans (setLevel_grows d rfl _ _)
  exact .ite (level.trans (setLevel_grows e rfl _ _)) level

theorem disposeStopped_grows : w.Grows loud (disposeStopped w) := by
  unfold disposeStopped
  split
  · exact upd_grows w _
  · exact upd_grows w _
  · exact upd_grows w _
  · exact .ite (upd_grows w _) ((upd_grows w _).trans (takeFault_grows _ _))

theorem orderStop_grows (r : StopReason) : w.Grows loud (orderStop r w) := by
  unfold orderStop
  split
  · exact .refl w
  · refine .ite (.refl w) ?_
    cases w.st.trc.motion with
    | accel | cruise | decel | creepIn => exact upd_grows w _
    | settling | waking => exact (upd_grows w _).trans (disposeStopped_grows _)
    | off | idle | parked | faulted => exact .refl w

theorem unverifiedGrant_grows : w.Grows loud (unverifiedGrant w) := by
  have stopped := orderStop_grows (loud := loud) w .unverified
  unfold unverifiedGrant
  split
  · exact .refl w
  · exact .refl w
  all_goals
    refine .ite (upd_grows w _) ?_
    split
    · split
      · exact stopped
      · exact stopped
      · exact stopped
      all_goals exact .refl w
    · exact .refl w

theorem becomeUnverified_grows (reason : Byte) : w.Grows loud (becomeUnverified reason w) :=
  .ite (((upd_grows w _).trans (setLevel_grows _ rfl _ _)).trans (unverifiedGrant_grows _)) (.refl w)

/-! ### The gate (R23, R28, R131, R151) -/

theorem endPresentation_grows (o : PresEnd) : w.Grows loud (endPresentation o w) := by
  have cleared := upd_grows (loud := loud) w clearPresentation
  have record (p : Port) (t : Byte) (o : OutcomeCode) : w.Grows loud (completeTag p t o (w.upd clearPresentation)) :=
    cleared.trans (completeTag_grows _ _ _ _)
  have run (o : OutcomeCode) : w.Grows loud (completeRun o (w.upd clearPresentation)) := cleared.trans (completeRun_grows _ _)
  have advance (n : Nat) : w.Grows loud (runAdvance n (w.upd clearPresentation)) := cleared.trans (runAdvance_grows _ _)
  unfold endPresentation
  split
  · exact .refl w
  · dsimp only
    split
    · exact cleared.trans (upd_grows _ _)
    · exact record _ _ _
    · exact record _ _ _
    · exact record _ _ _
    · exact record _ _ _
    · exact advance _
    · exact advance _
    · exact run _
    · exact run _

theorem positionFail_grows : w.Grows loud (positionFail w) := by
  have dropped := upd_grows (loud := loud) w dropInHand
  unfold positionFail
  dsimp only
  split
  · exact dropped.trans (completeTag_grows _ _ _ _)
  · exact dropped.trans (completeRun_grows _ _)
  · exact dropped
  · exact dropped

theorem gateUnreachable_grows (n : Nat) : w.Grows loud (gateUnreachable n w) := by
  have dropped := upd_grows (loud := loud) w dropInHand
  unfold gateUnreachable
  dsimp only
  split
  · exact dropped.trans (completeTag_grows _ _ _ _)
  · exact dropped.trans (completeRun_grows _ _)
  · exact dropped
  · exact dropped

theorem moveBound_grows : w.Grows loud (moveBound w) := by
  unfold moveBound
  extract_lets u
  have rested : w.Grows loud u := upd_grows w _
  have dropped : w.Grows loud (u.upd dropInHand) := rested.trans (upd_grows u _)
  split
  · exact dropped.trans (completeTag_grows _ _ _ _)
  · exact dropped.trans (completeRun_grows _ _)
  · exact .ite (rested.trans (upd_grows u _)) ((rested.trans (upd_grows u _)).trans (takeFault_grows _ _))
  · exact rested

theorem endGrantWork_grows : w.Grows loud (endGrantWork w) :=
  .ite (upd_grows w _) ((upd_grows w _).trans (orderStop_grows _ _))

theorem haltTransport_grows : w.Grows loud (haltTransport w) := by
  unfold haltTransport
  split
  · exact .refl w
  · exact .ite (.ite (upd_grows w _) (.refl w)) (orderStop_grows w _)

end operations

/-! ### Operations that may present a frame (R142, R144) -/

section presenting
variable {loud : List EventSource} (presents : EventSource.presented ∈ loud) (w : Ctx)
include presents

theorem makePresentation_grows (src : FocusSource) : w.Grows loud (makePresentation src w) := by
  unfold makePresentation
  split
  · exact .refl w
  · exact (upd_grows w _).trans (pulse_grows _ (.inr presents) _ _)

theorem focusReady_grows (src : FocusSource) : w.Grows loud (focusReady src w) :=
  .ite (.ite (upd_grows w _) (makePresentation_grows presents w src)) (.refl w)

theorem lensDone_grows (p : LensPurpose) : w.Grows loud (lensDone p w) := by
  unfold lensDone
  split
  · exact .ite (upd_grows w _) (.refl w)
  · exact focusReady_grows presents w _
  · exact .refl w

theorem orderLens_grows (mv : LensMove) : w.Grows loud (orderLens mv w) :=
  .ite (upd_grows w _) (.ite (lensDone_grows presents w _) (.ite (upd_grows w _) (upd_grows w _)))

theorem beginHeld_grows : w.Grows loud (beginHeld w) := by
  unfold beginHeld
  split
  · exact .refl w
  · exact .ite ((upd_grows w _).trans (orderLens_grows presents _ _)) (.refl w)

omit presents in
theorem afterExposure_grows : w.Grows loud (afterExposure w) := by
  unfold afterExposure
  split
  · exact .refl w
  · split
    · exact endPresentation_grows w _
    · exact endPresentation_grows w _
    · exact endPresentation_grows w _
    · exact endPresentation_grows w _
    · exact upd_grows w _

theorem endExposure_grows (o : OutcomeCode) : w.Grows loud (endExposure o w) := by
  unfold endExposure
  split
  · exact .refl w
  · rename_i e _
    extract_lets u v x
    have dropped : w.Grows loud u := (completeExpose_grows w e o).trans (upd_grows _ _)
    have ended : w.Grows loud v := .ite (dropped.trans (afterExposure_grows u)) dropped
    have reported : w.Grows loud x := by
      unfold x
      split
      · exact (ended.trans (upd_grows v _)).trans (focusReady_grows presents _ _)
      · exact ended
    exact reported.trans (beginHeld_grows presents x)

end presenting

end Sys2Proof.Machine
end

section
/-! SUPPORT. Station settings, parking and waking, arm readings and the reading of the operands of a record (R35, R40 to R43, R67). -/

namespace Sys2Proof.Machine

/-! ### The end of a command and the grant opportunity -/

/-- The end of a command leaves the transport but for its timers. -/
theorem finish_trc (w : Ctx) : (finish w).trc = { w.st.trc with timers := (finish w).trc.timers } := by
  obtain ⟨-, -, -, -, -, -, -, -, roll, profile, counter, endPos, overrun, motion, travelDir, speed, move, epoch, verified, slip,
    cause, retension, parkDelay, wakeDelay, wakeFor, -⟩ := finish_frame w
  generalize (finish w).trc = t at *
  cases t
  simp_all

theorem opportunity_halted {s : State} (halted : s.rqt.halted = true) : s.opportunity = false := by
  simp [State.opportunity, halted]

theorem opportunity_busy {s : State} (busy : s.trc.motion.free = false) : s.opportunity = false := by
  simp [State.opportunity, busy]

theorem examine_none {w : Ctx} (none : w.st.opportunity = false) : examine w = w := by
  unfold examine
  rw [none]
  rfl

/-! ### Parking and waking (R40, R42) -/

/-- The leg of an ordered PRESENT whose approach point lies ahead is a forward travel leg (R25). -/
theorem startMove_ahead {m : Move} {s : State} (job : m.job = .present) (ahead : s.trc.counter < min m.target s.posBound - 40) :
    startMove m s =
      travelLeg { m with target := min m.target s.posBound } .forward m.speed true
        { motionStart s with trc.speed := 0 } := by
  have bound : (motionStart s).posBound = s.posBound := rfl
  have here : s.trc.counter ≠ min m.target s.posBound - 40 := by omega
  simp only [startMove, job, Job.isOpen, nextLeg, approachLeg, approachPoint, Config.approachMargin, bound]
  rw [if_neg (by simp), if_neg (by simpa using here), if_pos (by simpa using ahead)]

theorem wakeEnds_ordered {w : Ctx} {m : Move} (loaded : w.st.trc.roll = .loaded) (move : w.st.trc.move = some m) :
    wakeEnds w = w.upd fun s => startMove m { s with trc.timers.persistence := none } := by
  simp only [wakeEnds, Ctx.upd, loaded, move]

theorem wakeEnds_unordered {w : Ctx} (loaded : w.st.trc.roll = .loaded) (move : w.st.trc.move = none) :
    wakeEnds w = w.upd fun s => setMotion .idle { s with trc.timers.persistence := none } := by
  simp only [wakeEnds, Ctx.upd, loaded, move]

/-- Settles O55: the park timer parks (`finish_trc`), and the wake ends with the ordered move (`wakeEnds_ordered`,
`startMove_ahead`) or without (`wakeEnds_unordered`). -/
theorem parkingAndWaking : Obligations.ParkingAndWaking := by
  intro s
  refine ⟨fun parks timer => ⟨_, rfl, ?_⟩, fun m waking loaded move job ahead => ?_, fun waking loaded move halted => ?_⟩
  · have parked : onParkTimerExpiry s = finish ((Ctx.start s).upd parkNow) := by
      rw [onParkTimerExpiry, parks, timer]
      rfl
    rw [parked]
    exact ⟨finish_trc _, by simp [parkNow], by simp [parkNow], by simp [parkNow], by simp [parkNow]⟩
  · have started := startMove_ahead (s := { s with trc.timers.persistence := none }) job ahead
    have woken : onWakeTimerExpiry s = finish ((Ctx.start s).upd fun s => startMove m { s with trc.timers.persistence := none }) := by
      rw [onWakeTimerExpiry, if_pos waking, wakeEnds_ordered loaded move, examine_none]
      refine opportunity_busy ?_
      simp only [Ctx.upd, Ctx.start, started]
      rfl
    refine ⟨_, { m with target := min m.target s.posBound, dir := .forward, legSpeed := m.speed, ramp := .none, creepIn := false }, rfl, ?_⟩
    rw [woken]
    simp [Ctx.upd, Ctx.start, started, travelLeg, motionStart, setMotion, State.posBound]
  · have woken : onWakeTimerExpiry s =
        finish ((Ctx.start s).upd fun s => setMotion .idle { s with trc.timers.persistence := none }) := by
      rw [onWakeTimerExpiry, if_pos waking, wakeEnds_unordered loaded move, examine_none (opportunity_halted halted)]
    refine ⟨_, rfl, ?_⟩
    rw [woken]
    simp

end Sys2Proof.Machine
end

section
/-! SUPPORT. The nearest entry of an index (R67, R70, R78), and O43. -/

namespace Sys2Proof.Machine

section nearest
variable {ok : Entry → Bool} {dist : Entry → Nat}

/-- The place `n` holds an admitted entry at distance `a`, and no admitted entry is nearer, nor as near at a lower place. -/
def NearestAt (ok : Entry → Bool) (dist : Entry → Nat) (l : List Entry) (n a : Nat) : Prop :=
  (∃ e, l[n]? = some e ∧ ok e = true ∧ dist e = a) ∧
  ∀ j x, l[j]? = some x → ok x = true → a < dist x ∨ a = dist x ∧ n ≤ j

theorem NearestAt.unique {l : List Entry} {n a m b : Nat} (first : NearestAt ok dist l n a) (second : NearestAt ok dist l m b) :
    n = m ∧ a = b := by
  obtain ⟨⟨e, he, oke, rfl⟩, least⟩ := first
  obtain ⟨⟨x, hx, okx, rfl⟩, least'⟩ := second
  have := least m x hx okx
  have := least' n e he oke
  omega

/-- The best after entry `e` at place `i`. -/
def nextBest (ok : Entry → Bool) (dist : Entry → Nat) (e : Entry) (i : Nat) (best : Option (Nat × Nat)) : Option (Nat × Nat) :=
  if ok e then
    match best with
    | some (j, d) => if dist e < d then some (i, dist e) else some (j, d)
    | none => some (i, dist e)
  else best

theorem nearestEntry_cons (e : Entry) (l : List Entry) (i : Nat) (best : Option (Nat × Nat)) :
    nearestEntry ok dist (e :: l) i best = nearestEntry ok dist l (i + 1) (nextBest ok dist e i best) := rfl

theorem nextBest_of_not {e : Entry} (excluded : ¬ ok e = true) (i : Nat) (best : Option (Nat × Nat)) :
    nextBest ok dist e i best = best := if_neg excluded

theorem nextBest_of_near {e : Entry} {n b : Nat} (near : b ≤ dist e) (i : Nat) :
    nextBest ok dist e i (some (n, b)) = some (n, b) := by
  simp [nextBest, not_lt.mpr near]

theorem nextBest_of_nearer {e : Entry} {best : Option (Nat × Nat)} (admitted : ok e = true)
    (nearer : ∀ n b, best = some (n, b) → dist e < b) (i : Nat) : nextBest ok dist e i best = some (i, dist e) := by
  cases best with
  | none => simp [nextBest, admitted]
  | some x => simp [nextBest, admitted, nearer x.1 x.2 rfl]

/-- The search over the rest `l` of an index from place `i` on: the best so far stands unless an entry of the rest is nearer. -/
theorem nearestEntry_cases (l : List Entry) (i : Nat) (best : Option (Nat × Nat)) :
    (nearestEntry ok dist l i best = best ∧
      ∀ e ∈ l, ok e = true → ∃ n a, best = some (n, a) ∧ a ≤ dist e) ∨
    ∃ j a, nearestEntry ok dist l i best = some (i + j, a) ∧ NearestAt ok dist l j a ∧ ∀ n b, best = some (n, b) → a < b := by
  induction l generalizing i best with
  | nil => exact .inl ⟨rfl, by simp⟩
  | cons e l ih =>
    rw [nearestEntry_cons]
    by_cases admitted : ok e = true
    case neg =>
      rw [nextBest_of_not admitted]
      rcases ih (i + 1) best with ⟨stays, far⟩ | ⟨j, a, found, ⟨⟨x, hx, okx, rfl⟩, least⟩, nearer⟩
      · refine .inl ⟨stays, fun x hx okx => ?_⟩
        rcases List.mem_cons.mp hx with rfl | hx
        · exact absurd okx admitted
        · exact far x hx okx
      · refine .inr ⟨j + 1, dist x, by rw [found, Nat.add_assoc, Nat.add_comm 1 j], ⟨⟨x, hx, okx, rfl⟩, fun k y hy oky => ?_⟩, nearer⟩
        cases k with
        | zero =>
          cases hy
          exact absurd oky admitted
        | succ k =>
          have := least k y hy oky
          omega
    case pos =>
      by_cases better : ∃ n b, best = some (n, b) ∧ b ≤ dist e
      · obtain ⟨n, b, rfl, near⟩ := better
        rw [nextBest_of_near near]
        rcases ih (i + 1) (some (n, b)) with ⟨stays, far⟩ | ⟨j, a, found, ⟨⟨x, hx, okx, rfl⟩, least⟩, nearer⟩
        · refine .inl ⟨stays, fun x hx okx => ?_⟩
          rcases List.mem_cons.mp hx with rfl | hx
          · exact ⟨n, b, rfl, near⟩
          · exact far x hx okx
        · refine .inr ⟨j + 1, dist x, by rw [found, Nat.add_assoc, Nat.add_comm 1 j], ⟨⟨x, hx, okx, rfl⟩, fun k y hy oky => ?_⟩,
            nearer⟩
          cases k with
          | zero =>
            cases hy
            have := nearer n b rfl
            omega
          | succ k =>
            have := least k y hy oky
            omega
      · have nearer (n b : Nat) (h : best = some (n, b)) : dist e < b := by
          by_contra near
          exact better ⟨n, b, h, not_lt.mp near⟩
        rw [nextBest_of_nearer admitted nearer]
        rcases ih (i + 1) (some (i, dist e)) with ⟨stays, far⟩ | ⟨j, a, found, ⟨⟨x, hx, okx, rfl⟩, least⟩, nearest⟩
        · refine .inr ⟨0, dist e, by rw [stays]; rfl, ⟨⟨e, rfl, admitted, rfl⟩, fun k y hy oky => ?_⟩, nearer⟩
          cases k with
          | zero =>
            cases hy
            omega
          | succ k =>
            obtain ⟨n, b, h, near⟩ := far y (List.mem_of_getElem? hy) oky
            cases h
            omega
        · have below := nearest i (dist e) rfl
          refine .inr ⟨j + 1, dist x, by rw [found, Nat.add_assoc, Nat.add_comm 1 j], ⟨⟨x, hx, okx, rfl⟩, fun k y hy oky => ?_⟩,
            fun n b h => below.trans (nearer n b h)⟩
          cases k with
          | zero =>
            cases hy
            omega
          | succ k =>
            have := least k y hy oky
            omega

theorem nearestEntry_eq_none {l : List Entry} : nearestEntry ok dist l 0 none = none ↔ ∀ e ∈ l, ok e = false := by
  rcases nearestEntry_cases (ok := ok) (dist := dist) l 0 none with ⟨stays, far⟩ | ⟨j, a, found, ⟨⟨x, hx, okx, -⟩, -⟩, -⟩
  · refine ⟨fun _ e he => ?_, fun _ => stays⟩
    by_contra admitted
    obtain ⟨n, a, h, -⟩ := far e he (by simpa using admitted)
    cases h
  · rw [found]
    refine ⟨nofun, fun none => ?_⟩
    rw [none x (List.mem_of_getElem? hx)] at okx
    cases okx

theorem nearestEntry_eq_some {l : List Entry} {n a : Nat} :
    nearestEntry ok dist l 0 none = some (n, a) ↔ NearestAt ok dist l n a := by
  rcases nearestEntry_cases (ok := ok) (dist := dist) l 0 none with ⟨stays, far⟩ | ⟨j, b, found, nearest, -⟩
  · rw [stays]
    refine ⟨nofun, fun ⟨⟨e, he, admitted, _⟩, _⟩ => ?_⟩
    obtain ⟨_, _, h, -⟩ := far e (List.mem_of_getElem? he) admitted
    cases h
  · rw [found, Nat.zero_add]
    constructor
    · rintro ⟨⟩
      exact nearest
    · intro h
      obtain ⟨rfl, rfl⟩ := nearest.unique h
      rfl

end nearest

/-- Settles O43: the search for the nearest entry finds it (`nearestEntry_eq_some`). -/
theorem frameAtGateIsTheNearest : Obligations.FrameAtGateIsTheNearest := by
  intro s n
  have targets (j u : Nat) : s.gateTarget j = some u ↔ ∃ e, s.fit.entries[j]? = some e ∧ s.gateTargetOf e.pos = u := by
    simp [State.gateTarget]
  unfold State.frameAtGate
  split
  case isTrue away =>
    refine ⟨nofun, fun ⟨loaded, verified, inside, _⟩ => ?_⟩
    simp [loaded, verified, inside] at away
  case isFalse stands =>
    simp only [not_or, not_not, Nat.pos_iff_ne_zero, Bool.not_eq_false] at stands
    constructor
    · intro found
      split at found
      · rename_i m d nearest
        obtain ⟨⟨e, he, -, rfl⟩, least⟩ := nearestEntry_eq_some.mp nearest
        split at found
        · rename_i near
          cases found
          refine ⟨stands.1, stands.2.1, stands.2.2, _, (targets n _).mpr ⟨e, he, rfl⟩, near, fun j u hu => ?_⟩
          obtain ⟨x, hx, rfl⟩ := (targets j u).mp hu
          exact least j x hx rfl
        · cases found
      · cases found
    · rintro ⟨-, -, -, t, ht, near, least⟩
      obtain ⟨e, he, rfl⟩ := (targets n t).mp ht
      have nearest := nearestEntry_eq_some (ok := fun _ => true)
        (dist := fun e => absDiff s.trc.counter (s.gateTargetOf e.pos)).mpr
        ⟨⟨e, he, rfl, rfl⟩, fun j x hx _ => least j _ ((targets j _).mpr ⟨x, hx, rfl⟩)⟩
      rw [nearest]
      exact if_pos near

end Sys2Proof.Machine
end

section
/-! SUPPORT. Station settings, tension and its supervision (R35 to R43). -/

namespace Sys2Proof.Machine

/-! ### The answer of a request (R216) -/

/-- Only the released mark of port C follows an answer (R192). -/
@[simp] theorem releaseAll_frame (e : Env) (s : State) :
    (releaseAll e s).pending = s.pending ∧ (releaseAll e s).pins = s.pins ∧ (releaseAll e s).resetHeld = s.resetHeld ∧
    (releaseAll e s).unitAddress = s.unitAddress ∧ (releaseAll e s).rqt = s.rqt ∧ (releaseAll e s).trc = s.trc ∧
    (releaseAll e s).mkd = s.mkd ∧ (releaseAll e s).fit = s.fit ∧ (releaseAll e s).fcc = s.fcc ∧ (releaseAll e s).gtu = s.gtu ∧
    (releaseAll e s).ntu = s.ntu ∧ (∀ q, ((releaseAll e s).lnk.get q).outbox = (s.lnk.get q).outbox) ∧
    (∀ q, ((releaseAll e s).lnk.get q).reserved = (s.lnk.get q).reserved) ∧
    (∀ q, ((releaseAll e s).lnk.get q).outstanding = (s.lnk.get q).outstanding) := by
  unfold releaseAll
  split
  · refine ⟨rfl, rfl, rfl, rfl, rfl, rfl, rfl, rfl, rfl, rfl, rfl, fun q => ?_, fun q => ?_, fun q => ?_⟩ <;> cases q <;> rfl
  · simp

/-- A command without an occurrence leaves the sources. -/
theorem finish_ntu {w : Ctx} (none : w.occs = []) : (finish w).ntu = w.st.ntu := by
  have nothing : sortOccs w.occs = [] := by rw [none]; rfl
  simp [finish, latchAll, nothing]

/-- The reply that a request sends before all else is the first message that its port gains. -/
theorem answersFirst_finish {loud : List EventSource} {r : Request} {code : Nat} {st : Status} {results : List Byte} {s : State} {u w : Ctx}
    (silent : u.sends = []) (grows : ((requestEnv code r).reply st results u).Grows loud w)
    (same : ((w.st.link (sourcePort r.source)).outbox = (s.link (sourcePort r.source)).outbox)) :
    answersFirst s (releaseAll (requestEnv code r) (finish w)) r code st results := by
  cases broadcast : sourceBroadcast r.source with
  | true => exact .inl broadcast
  | false =>
    right
    have first : ((requestEnv code r).reply st results u).sends =
        [(sourcePort r.source, replyMsg r.tag code (st.code :: results))] := by
      simp [Env.reply, requestEnv, broadcast, silent]
    obtain ⟨more, gained⟩ := sendsFirst_finish same (grows.first first)
    exact ⟨more, by simpa using gained⟩

/-! ### Station settings (R43, R220) -/

theorem parse_setStation {given' : Byte} {park wake : Nat} (hp : park < 65536) (hw : wake < 65536) :
    Kind.setStation.parse ([given'] ++ be 2 park ++ be 2 wake) =
      .ok (.setStation (if given'.getLsbD 0 then some park else none) (if given'.getLsbD 1 then some wake else none)) := by
  have first : numAt ([given'] ++ be 2 park ++ be 2 wake) 1 2 = park := numAt_two hp (be 2 wake)
  have second : numAt ([given'] ++ be 2 park ++ be 2 wake) 3 2 = wake := by simpa [numAt, be_two] using numAt_two hw []
  simp only [Kind.parse, ifGiven, first, second]
  simp [given_cons]

/-- The delays in force after a SET-STATION, and the parking that a shorter park delay brings at once (R43). -/
def setDelays (park wake : Nat) (due : Bool) (s : State) : State :=
  if due then parkIfDue { s with trc.parkDelay := park, trc.wakeDelay := wake }
  else { s with trc.parkDelay := park, trc.wakeDelay := wake }

theorem parkIfDue_motion (s : State) : (parkIfDue s).trc.motion = .parked ∨ parkIfDue s = s := by
  unfold parkIfDue
  split
  · split
    · exact .inl rfl
    · exact .inr rfl
  · exact .inr rfl

theorem parkIfDue_due {s : State} {n : Nat} (timer : s.trc.timers.park = some n) (parks : s.mayPark = true)
    (due : 1000 * s.trc.parkDelay ≤ n) : (parkIfDue s).trc.motion = .parked := by
  simp [parkIfDue, timer, parks, due, parkNow]

theorem parkIfDue_stays {s : State} (idle : s.trc.parkDelay = 0 ∨ s.trc.timers.park = none) : parkIfDue s = s := by
  unfold parkIfDue
  rcases idle with never | stopped
  · simp only [State.mayPark, never]
    split <;> simp
  · simp [stopped]

@[simp] theorem setDelays_frame (park wake : Nat) (due : Bool) (s : State) :
    (setDelays park wake due s).trc.parkDelay = park ∧ (setDelays park wake due s).trc.wakeDelay = wake ∧
    (setDelays park wake due s).rqt = s.rqt ∧ (setDelays park wake due s).fcc = s.fcc ∧
    (setDelays park wake due s).ntu = s.ntu ∧ (setDelays park wake due s).fit.entries = s.fit.entries ∧
    (setDelays park wake due s).trc.counter = s.trc.counter ∧ (setDelays park wake due s).trc.epoch = s.trc.epoch ∧
    (setDelays park wake due s).trc.verified = s.trc.verified ∧ (setDelays park wake due s).gtu.watches = s.gtu.watches ∧
    (setDelays park wake due s).lnk = s.lnk := by
  cases due <;> simp [setDelays]

theorem clampNat_eq (lo hi n : Nat) (order : lo ≤ hi) : clampNat lo hi n = max lo (min n hi) := by
  unfold clampNat
  split_ifs <;> omega

/-- The effect and the answer of a SET-STATION, its operands named. -/
theorem doSetStation_eq (e : Env) (given' : Byte) (park wake : Nat) (s : State) {pd wd : Nat}
    (hpd : pd = if given'.getLsbD 0 then min park 3600 else s.trc.parkDelay)
    (hwd : wd = if given'.getLsbD 1 then max 50 (min wake 2000) else s.trc.wakeDelay) :
    doSetStation e (if given'.getLsbD 0 then some park else none) (if given'.getLsbD 1 then some wake else none) s =
      finish ((e.reply .done (be 2 pd ++ be 2 wd ++
        [(if given'.getLsbD 0 && decide (3600 < park) then 1 else 0) +
          if given'.getLsbD 1 && decide (wake < 50 ∨ 2000 < wake) then 2 else 0]) (Ctx.start s)).upd
        (setDelays pd wd (given'.getLsbD 0))) := by
  have flags (a b : Bool) : BitVec.ofNat 8 (flagsNum [a, b]) = (if a then 1 else 0) + if b then 2 else 0 := by
    cases a <;> cases b <;> rfl
  have parkFlag : decide (park ≠ min park 3600) = decide (3600 < park) := decide_eq_decide.mpr (by omega)
  have wakeFlag : decide (wake ≠ max 50 (min wake 2000)) = decide (wake < 50 ∨ 2000 < wake) := decide_eq_decide.mpr (by omega)
  have clamp := clampNat_eq 50 2000 wake (by omega)
  subst hpd hwd
  cases given'.getLsbD 0 <;> cases given'.getLsbD 1 <;>
    simp only [doSetStation, flags, if_true, if_false, Bool.false_eq_true, Option.any, clamp, parkFlag, wakeFlag,
      Bool.true_and, Bool.false_and] <;> rfl

/-- Settles O27: check 5 gives the two delays as they are (`parse_setStation`), and the effect of the request is `doSetStation`. -/
theorem setStationSetsTheDelays : Obligations.SetStationSetsTheDelays := by
  intro r given' park wake s takes port hp hw body
  rw [exec_setStation, requestArrives_performed 32 .setStation rfl takes (.inr rfl) (by rw [body]; simp [Kind.lengthOk, be_two])
    (by rw [port]; rfl) (.inl rfl) (by rw [body, parse_setStation hp hw]) rfl rfl]
  obtain ⟨pd, hpd⟩ : ∃ pd, pd = if given'.getLsbD 0 then min park 3600 else s.trc.parkDelay := ⟨_, rfl⟩
  obtain ⟨wd, hwd⟩ : ∃ wd, wd = if given'.getLsbD 1 then max 50 (min wake 2000) else s.trc.wakeDelay := ⟨_, rfl⟩
  simp only [perform, doSetStation_eq _ _ _ _ _ hpd hwd]
  generalize given'.getLsbD 0 = first at *
  generalize given'.getLsbD 1 = second at *
  have stays (idle : pd = 0 ∨ s.trc.timers.park = none) : (setDelays pd wd first s).trc.motion = s.trc.motion := by
    unfold setDelays
    split
    · rw [parkIfDue_stays idle]
    · rfl
  generalize hw' : ((requestEnv 32 r).reply .done _ (Ctx.start s)).upd (setDelays pd wd first) = w
  have st : w.st = setDelays pd wd first s := by simp [← hw']
  have occs : w.occs = [] := by simp [← hw']
  refine ⟨_, rfl, ?_, ?_, ?_, ?_, fun n given timer positive due parks => ?_, fun other => ?_, ?_⟩
  · simpa [st] using hpd
  · simpa [st] using hwd
  · have delays : (finish w).trc.parkDelay = pd ∧ (finish w).trc.wakeDelay = wd := by simp [st]
    rw [(releaseAll_frame _ _).2.2.2.2.2.1, delays.1, delays.2]
    refine answersFirst_finish (loud := []) (u := Ctx.start s) rfl ?_ (by simp [st])
    exact .of_same (by simp [← hw']) (by simp [← hw'])
  · simp only [releaseAll_frame, finish_frame, st]
    unfold setDelays
    split
    · rcases parkIfDue_motion _ with parked | same
      · exact .inl parked
      · exact .inr (by rw [same])
    · exact .inr rfl
  · simp only [releaseAll_frame, finish_frame, st]
    rw [given, if_pos rfl] at hpd
    simp only [setDelays, given, if_true]
    refine parkIfDue_due (n := n) timer ?_ (by rw [hpd]; exact due)
    have runs : pd ≠ 0 := by omega
    simp_all [State.mayPark]
  · simp only [releaseAll_frame, finish_frame, st]
    rcases other with kept | never | stopped
    · simp [setDelays, kept]
    · cases first with
      | false => rfl
      | true => exact stays (.inl (by simp [hpd, never]))
    · exact stays (.inr stopped)
  · simp [st, finish_ntu occs]

end Sys2Proof.Machine
end

section
/-! SUPPORT. What the completion of a record and a fault leave (R37, R117), arm readings and the supervisions (R9, R16, R35, R36). -/

namespace Sys2Proof.Machine

/-! ### A completed record (R117) -/

/-- The table holds no record of the port with the tag. -/
def State.gone (s : State) (p : Port) (t : Byte) : Prop := ∀ x ∈ s.rqt.records, ¬(x.port = p ∧ x.tag = t)

theorem State.gone.of_keeps {s u : State} {p : Port} {t : Byte} (gone : s.gone p t) (keeps : Keeps s u) : u.gone p t := by
  rintro x hx ⟨rfl, rfl⟩
  obtain ⟨y, hy, same⟩ := List.mem_map.mp (keeps.keys.subset (List.mem_map_of_mem hx))
  obtain ⟨port, tag⟩ := Prod.mk.inj same
  exact gone y hy ⟨port, tag⟩

theorem findRecord_eq_some {s : State} {p : Port} {t : Byte} {r : Record} (found : s.findRecord p t = some r) :
    r ∈ s.rqt.records ∧ r.port = p ∧ r.tag = t := by
  have mem := List.mem_of_find?_eq_some found
  have key := List.find?_some found
  exact ⟨mem, by simpa using key⟩

theorem findRecord_of_rqt {s u : State} (same : u.rqt = s.rqt) (p : Port) (t : Byte) : u.findRecord p t = s.findRecord p t := by
  unfold State.findRecord
  rw [same]

theorem completeTag_eq {w : Ctx} {p : Port} {t : Byte} {r : Record} (found : w.st.findRecord p t = some r) (o : OutcomeCode) :
    completeTag p t o w = completeRecord r o w := by simp only [completeTag, found]

theorem completeRecordOnly_sends (r : Record) (o : OutcomeCode) (w : Ctx) :
    (completeRecordOnly r o w).sends =
      w.sends ++ [(r.port, replyMsg r.tag r.work.code (o.code :: w.st.recordResults r))] := by
  simp [completeRecordOnly, examineAlmostFull, complete]

theorem completeRecord_sends (r : Record) (o : OutcomeCode) (w : Ctx) :
    (r.port, replyMsg r.tag r.work.code (o.code :: w.st.recordResults r)) ∈ (completeRecord r o w).sends :=
  (examineBarriers_grows (loud := []) (completeRecordOnly r o w) r.port).mem (by simp [completeRecordOnly_sends])

theorem completeTag_sends {w : Ctx} {p : Port} {t : Byte} {r : Record} (found : w.st.findRecord p t = some r) (o : OutcomeCode) :
    (p, replyMsg r.tag r.work.code (o.code :: w.st.recordResults r)) ∈ (completeTag p t o w).sends := by
  obtain ⟨-, rfl, -⟩ := findRecord_eq_some found
  rw [completeTag_eq found]
  exact completeRecord_sends r o w

theorem completeRecordOnly_gone (r : Record) (o : OutcomeCode) (w : Ctx) : (completeRecordOnly r o w).st.gone r.port r.tag := by
  intro x hx same
  rw [completeRecordOnly_records] at hx
  simpa [same] using (List.mem_filter.mp hx).2

theorem completeRecord_gone (r : Record) (o : OutcomeCode) (w : Ctx) : (completeRecord r o w).st.gone r.port r.tag :=
  (completeRecordOnly_gone r o w).of_keeps (examineBarriers_keeps _ _)

theorem completeTag_gone (p : Port) (t : Byte) (o : OutcomeCode) (w : Ctx) : (completeTag p t o w).st.gone p t := by
  cases found : w.st.findRecord p t with
  | some r =>
    obtain ⟨-, rfl, rfl⟩ := findRecord_eq_some found
    rw [completeTag_eq found]
    exact completeRecord_gone r o w
  | none =>
    simp only [completeTag, found]
    exact fun x hx ⟨port, tag⟩ => findRecord_eq_none.mp found x hx port tag

/-! ### Faults (R37) -/

theorem abandonExposure_exposure (o : OutcomeCode) (w : Ctx) : (abandonExposure o w).st.gtu.exposure = none := by
  unfold abandonExposure
  split
  · assumption
  · rfl

theorem abandonExposure_trig (o : OutcomeCode) {w : Ctx} (law : w.st.trigLaw) : (abandonExposure o w).st.gtu.trig = false := by
  unfold abandonExposure
  split
  · rename_i none
    rw [law, none]
    rfl
  · rfl

theorem takeFault_fields (c : Cause) (w : Ctx) :
    (takeFault c w).st.trc.motion = .faulted ∧ (takeFault c w).st.trc.cause = c ∧ (takeFault c w).st.trc.verified = false ∧
    (takeFault c w).st.trc.slip = 0 ∧ (takeFault c w).st.trc.move = none ∧ (takeFault c w).st.trc.retension = false ∧
    (takeFault c w).st.fit.building = false ∧ (takeFault c w).st.fit.verify = none ∧
    (takeFault c w).st.gtu.presentation = none ∧ (takeFault c w).st.gtu.inHand = none ∧ (takeFault c w).st.gtu.phase = .idle ∧
    (takeFault c w).st.gtu.hold = none ∧ (takeFault c w).st.gtu.exposure = none ∧
    (takeFault c w).st.gtu.watches = PerPort.all false ∧ (takeFault c w).st.fcc.sweep = none ∧
    (takeFault c w).st.fcc.sampleTimer = none ∧ (takeFault c w).st.rqt.grant = .none ∧
    (takeFault c w).st.ntu.levels.fault = true := by
  unfold takeFault
  dsimp only
  split <;>
    simp [faultState, setMotion, suspendRun, dropInHand, clearPresentation, abandonLookup, Levels.set, abandonExposure_exposure,
      Motion.moving]

theorem takeFault_trig (c : Cause) {w : Ctx} (law : w.st.trigLaw) : (takeFault c w).st.gtu.trig = false := by
  have dropped := abandonExposure_trig .fault (w := faultRecords c w) (by simpa [faultRecords, State.trigLaw] using law)
  rw [takeFault_eq]
  split <;> simpa [faultWork] using dropped

theorem takeFault_lines (c : Cause) (w : Ctx) :
    (takeFault c w).st.fcc.lines = w.st.fcc.lines ∧ (takeFault c w).st.fcc.lru = w.st.fcc.lru := by simp

theorem finish_phase {w : Ctx} (none : w.st.gtu.inHand = none) : (finish w).gtu.phase = w.st.gtu.phase := by
  simp [finish, syncPhase, none]

/-- A command that ends with a fault leaves what R37 says. -/
theorem finish_afterFault (c : Cause) {w : Ctx} (law : w.st.trigLaw) : w.st.afterFault (finish (takeFault c w)) c := by
  obtain ⟨motion, cause, verified, slip, move, retension, building, verify, presentation, inHand, phase, hold, exposure, watches,
    sweep, sampleTimer, grant, fault⟩ := takeFault_fields c w
  have trig := takeFault_trig c law
  have idle := (finish_phase inHand).trans phase
  refine ⟨?_, ?_, ?_, ?_, ?_, ?_, ?_, ?_, ?_, ?_, ?_, ?_, ?_, ?_, ?_, ?_, ?_, ?_, ?_, ?_, idle, ?_, ?_, ?_, ?_, ?_, ?_, ?_, ?_, ?_,
    ?_, ?_⟩ <;> simp [*]

/-- A fault leaves the table as the end of the grant's holder does, with the run SUSPENDED. -/
theorem takeFault_table (c : Cause) (w : Ctx) :
    (takeFault c w).st.rqt.records = (faultGrant (w.upd (faultState c))).st.rqt.records ∧
    (takeFault c w).st.rqt.run = w.st.rqt.run.map fun x => { x with state := .suspended } := by
  rw [takeFault_eq]
  split <;> simp [faultWork, faultRecords, suspendRun, setRunState, faultState]

theorem takeFault_grows_faultGrant (c : Cause) (w : Ctx) : (faultGrant (w.upd (faultState c))).Grows loud (takeFault c w) := by
  unfold takeFault
  extract_lets was a b d e
  have cleared : a.Grows loud d := ((upd_grows a _).trans (abandonExposure_grows b _)).trans (upd_grows _ _)
  have level : a.Grows loud e := cleared.trans (setLevel_grows d rfl _ _)
  exact .ite (level.trans (setLevel_grows e rfl _ _)) level

theorem faultGrant_eq {w : Ctx} {p : Port} {t : Byte} (grant : w.st.rqt.grant = .record p t) :
    faultGrant w = completeTag p t .fault w := by simp only [faultGrant, grant]

/-- The record that held the grant is gone, and it has completed FAULT; the run is SUSPENDED. -/
theorem finish_grantFaulted (c : Cause) {s : State} {w : Ctx} (rqt : w.st.rqt = s.rqt) (lnk : w.st.lnk = s.lnk) :
    s.grantFaulted (finish (takeFault c w)) := by
  obtain ⟨records, run⟩ := takeFault_table c w
  refine ⟨fun p tag r grant found => ?_, fun x held => ⟨{ x with state := .suspended }, ?_, rfl, rfl, rfl⟩⟩
  · have ended := faultGrant_eq (w := w.upd (faultState c)) (p := p) (t := tag) (by simp [rqt, grant])
    have same : (w.upd (faultState c)).st.findRecord p tag = some r := (findRecord_of_rqt (by simp [rqt]) p tag).trans found
    refine ⟨?_, _, sends_finish (by simp [lnk]) ((takeFault_grows_faultGrant (loud := []) c w).mem
      (ended ▸ completeTag_sends same .fault))⟩
    have gone := completeTag_gone p tag .fault (w.upd (faultState c))
    rw [← ended] at gone
    rw [State.gone, ← records] at gone
    simpa only [finish_frame] using gone
  · simp [run, rqt, held]

/-! ### Arm readings and the supervisions (R9, R16, R35, R36, R39) -/

theorem tensioning_iff (s : State) : s.tensioning = true ↔ s.trc.roll = .threading ∨ s.trc.retension = true := by
  simp [State.tensioning]

theorem syncTimers_tensionBad (s : State) : (syncTimers s).tensionBad = s.tensionBad := rfl
theorem syncTimers_armsInWindow (s : State) : (syncTimers s).armsInWindow = s.armsInWindow := rfl

/-- The level of an arm, before the timers look at it. -/
def takeArm (arm : Arm) (reading : Byte) (s : State) : State :=
  match arm with
  | .arm1 => { s with pins.arm1 := reading }
  | .arm2 => { s with pins.arm2 := reading }

theorem onTensionArmReading_eq (arm : Arm) (reading : Byte) {s : State} (live : s.resetHeld = false) :
    onTensionArmReading arm reading s = syncTimers (takeArm arm reading s) := by
  cases arm <;> simp [onTensionArmReading, takeArm, live]

/-- Settles O31: an arm reading sets its level and looks at the timers; the three supervisions end in a fault. -/
theorem armReadingsAndSupervision : Obligations.ArmReadingsAndSupervision := by
  refine ⟨fun arm reading s live => ⟨_, rfl, ?_⟩, fun s law => ⟨fun roll bad timer => ?_, fun moving timer => ?_, fun awaited timer => ?_⟩⟩
  · rw [onTensionArmReading_eq arm reading live, syncTimers_tensionBad, syncTimers_armsInWindow]
    refine ⟨by cases arm <;> rfl, ?_, ?_, by cases arm <;> rfl⟩
    · cases arm <;> rfl
    · have window := tensioning_iff (takeArm arm reading s)
      have same : (takeArm arm reading s).trc = s.trc := by cases arm <;> rfl
      rw [same] at window
      simp [syncTimers, runWhile, window, same]
  · have tension : s.tensionBad = true := by
      rcases bad with ⟨idle | moving | settling, out⟩ | ⟨parked | waking, broken⟩
      · simp [State.tensionBad, roll, idle, out]
      · cases motion : s.trc.motion <;> simp [State.tensionBad, roll, motion, out] <;> simp [motion, Motion.moving] at moving
      · simp [State.tensionBad, roll, settling, out]
      · simp [State.tensionBad, roll, parked, broken]
      · simp [State.tensionBad, roll, waking, broken]
    refine ⟨_, exec_tensionPersistenceExpiry s, ?_⟩
    rw [onTensionPersistenceExpiry, tension, timer]
    exact ⟨finish_afterFault (w := Ctx.start s) .tension law, finish_grantFaulted .tension rfl rfl⟩
  · refine ⟨_, exec_stallTimerExpiry s, ?_⟩
    rw [onStallTimerExpiry, moving, timer]
    exact ⟨finish_afterFault (w := Ctx.start s) .stall law, finish_grantFaulted .stall rfl rfl⟩
  · refine ⟨_, exec_leaderTimerExpiry s, ?_⟩
    rw [onLeaderTimerExpiry, awaited, timer]
    exact ⟨finish_afterFault (w := Ctx.start s) .stall law, finish_grantFaulted .stall rfl rfl⟩

end Sys2Proof.Machine
end

section
/-! SUPPORT. EXPOSE, and the requests that make a record, a run or a barrier (R112 to R118, R134, R154, R155, R162). -/

namespace Sys2Proof.Machine

/-! ### How a request row came (R188) -/

@[simp] theorem requestEnv_fields (code : Nat) (r : Request) :
    (requestEnv code r).port = sourcePort r.source ∧ (requestEnv code r).bc = sourceBroadcast r.source ∧
    (requestEnv code r).tag = r.tag ∧ (requestEnv code r).code = code := ⟨rfl, rfl, rfl, rfl⟩

theorem lnk_a (s : State) : s.lnk.a = s.link .a := rfl
theorem lnk_c (s : State) : s.lnk.c = s.link .c := rfl

/-! ### Reservations (R189, R213, R216) -/

theorem reserve_reserved (p : Port) (s : State) : ((reserve p s).link p).reserved = (s.link p).reserved + 1 := by
  simp [reserve]

theorem reserveTimed_reserved (e : Env) (k : TimedKind) (s : State) :
    ((reserveTimed e k s).link e.port).reserved = (s.link e.port).reserved + 1 := by
  simp [reserveTimed, reserve]

theorem reserveTimed_outstanding (e : Env) (k : TimedKind) (s : State) :
    ((reserveTimed e k s).link e.port).outstanding = (s.link e.port).outstanding ++ [(e.tag, k)] := by
  simp [reserveTimed, reserve]

/-- A command that sends nothing and has no occurrence leaves the outboxes. -/
theorem finish_outbox_silent {w : Ctx} (sends : w.sends = []) (occs : w.occs = []) (p : Port) :
    ((finish w).link p).outbox = (w.st.link p).outbox := by
  have nothing : sortOccs w.occs = [] := by rw [occs]; rfl
  simp [finish, latchAll, queueAll, nothing, sends]

/-! ### EXPOSE (R154, R155) -/

/-- The state in which an exposure is in progress for the sender. -/
def exposing (e : Env) (s : State) : State :=
  { reserveTimed e .expose s with
    gtu.exposure := some ⟨e.port, e.tag, s.frameAtGate, s.trc.epoch, s.gtu.presentation.isSome, 0⟩
    gtu.route := some e.port
    gtu.trig := true
    gtu.phase := if s.gtu.presentation.isSome then .exposing else s.gtu.phase
    gtu.hold := if s.gtu.presentation.isSome then none else s.gtu.hold }

theorem doExpose_eq {e : Env} {s : State} (watch : s.gtu.watches.get e.port = true) (owner : s.presentedElsewhere e.port = false)
    (free : s.gtu.exposure = none) : doExpose e s = finish (Ctx.start (exposing e s)) := by
  simp [doExpose, watch, owner, free, exposing]

/-- Only a grant in hand that is on its way has its phase follow the transport (R140). -/
theorem syncPhase_stays {s : State} (positioning : s.gtu.phase ≠ .positioning) (settling : s.gtu.phase ≠ .settling) : syncPhase s = s := by
  cases inHand : s.gtu.inHand with
  | none => simp only [syncPhase, inHand]
  | some g => cases phase : s.gtu.phase <;> simp_all [syncPhase]

theorem finish_phase_stays {w : Ctx} (positioning : w.st.gtu.phase ≠ .positioning) (settling : w.st.gtu.phase ≠ .settling) :
    (finish w).gtu.phase = w.st.gtu.phase := by
  rw [finish, syncPhase_stays (by simpa using positioning) (by simpa using settling)]
  simp

/-- Settles O49: the checks of GTU in their order (`doExpose`), and the exposure that begins (`doExpose_eq`). -/
theorem exposeStartsAnExposure : Obligations.ExposeStartsAnExposure := by
  intro r s takes single body loaded tagFree
  have performed : requestArrives 12 r s = releaseAll (requestEnv 12 r) (doExpose (requestEnv 12 r) s) :=
    requestArrives_performed 12 .expose rfl takes (.inl single) (by rw [body]; rfl) rfl (.inr tagFree) rfl
      (rollRefusal_of_loaded nofun loaded) rfl
  rw [exec_expose, performed]
  have port : (requestEnv 12 r).port = sourcePort r.source := rfl
  refine ⟨fun unwatched => ?_, fun x watch shown other => ?_, fun watch owner => ?_⟩
  · rw [doExpose, if_pos (by exact unwatched), releaseAll_refuse]
  · have elsewhere : s.presentedElsewhere (requestEnv 12 r).port = true := by simp [State.presentedElsewhere, shown, other]
    rw [doExpose, port, watch, if_neg nofun, ← port, elsewhere, if_pos rfl, releaseAll_refuse]
  · have own : s.presentedElsewhere (requestEnv 12 r).port = false := by
      unfold State.presentedElsewhere
      split
      · rename_i x shown
        simpa [port] using owner x shown
      · rfl
    refine ⟨fun busy => ?_, fun free => ?_⟩
    · rw [doExpose, port, watch, if_neg nofun, ← port, own, if_neg nofun, if_pos busy, releaseAll_refuse]
    · rw [doExpose_eq watch own free]
      have ntu := finish_ntu (w := Ctx.start (exposing (requestEnv 12 r) s)) rfl
      have outbox := finish_outbox_silent (w := Ctx.start (exposing (requestEnv 12 r) s)) rfl rfl (sourcePort r.source)
      have reserved := reserveTimed_reserved (requestEnv 12 r) .expose s
      have trc := finish_trc (Ctx.start (exposing (requestEnv 12 r) s))
      refine ⟨_, rfl, by simp [exposing], by simp [exposing], by simp [exposing], ?_, by simp [exposing],
        by simp [exposing], fun shown => ⟨?_, by simp [exposing, shown]⟩, fun absent => by simp [exposing, absent], ?_, ?_,
        by simp [exposing], by simp [exposing], by simp [exposing], ?_, ?_⟩
      · cases sender : sourcePort r.source <;> simp [State.route1, State.route0, exposing, sender]
      · have phase : (exposing (requestEnv 12 r) s).gtu.phase = .exposing := by simp [exposing, shown]
        rw [(releaseAll_frame _ _).2.2.2.2.2.2.2.2.2.1, finish_phase_stays] <;> simp [phase]
      · simpa [exposing] using outbox
      · simpa [exposing, port] using reserved
      · simpa [exposing] using ntu
      · simpa [exposing] using trc

/-! ### Records, the run and barriers (R112 to R118, R134, R162) -/

/-- A record that joins the table is WAITING, takes the next arrival number, and the level follows the table (R115, R118). -/
theorem makeRecord_made {e : Env} (work : Work) (cls : Nat) {s : State} {w : Ctx} (st : w.st = reserve e.port s) :
    (makeRecord e work cls w).st.rqt =
      { s.rqt with records := s.rqt.records ++ [⟨e.port, e.tag, work, cls, 0, s.rqt.arrival, .waiting⟩], arrival := s.rqt.arrival + 1 } ∧
    (makeRecord e work cls w).st.ntu.levels.queueAlmostFull = decide (28 ≤ s.rqt.records.length + 1) ∧
    (makeRecord e work cls w).st.trc = { s.trc with timers := (makeRecord e work cls w).st.trc.timers } := by
  simp [makeRecord, examineAlmostFull, st, Levels.set, Config.almostFull]

/-- What a request that makes a record leaves, when nothing else follows. -/
theorem finish_madeRecord {e : Env} (work : Work) (cls : Nat) {s : State} {w : Ctx} (st : w.st = reserve e.port s) :
    s.madeRecord (releaseAll e (finish (makeRecord e work cls w))) e.port
      ⟨e.port, e.tag, work, cls, 0, s.rqt.arrival, .waiting⟩ := by
  obtain ⟨rqt, level, trc⟩ := makeRecord_made work cls st
  have reserved := reserve_reserved e.port s
  refine ⟨by simpa using rqt, ?_, by simpa using level, ?_, ?_, ?_⟩
  · simpa [st] using reserved
  · rw [(releaseAll_frame _ _).2.2.2.2.2.1, finish_trc, trc]
  · simp [st]
  · simp [st]

theorem makeRecord_grows {loud : List EventSource} (e : Env) (work : Work) (cls : Nat) (w : Ctx) : w.Grows loud (makeRecord e work cls w) :=
  (upd_grows w _).trans (setLevel_grows _ rfl _ _)

theorem makeRecord_opportunity (e : Env) (work : Work) (cls : Nat) {s : State} {w : Ctx} (st : w.st = reserve e.port s) :
    (makeRecord e work cls w).st.opportunity = s.opportunity := by
  simp [State.opportunity, st]

/-- A request that makes a record without an opportunity is answered ACCEPTED and makes its record. -/
theorem recordMade {e : Env} {r : Request} {code : Nat} (env : e = requestEnv code r) (work : Work) (cls : Nat) (results : List Byte)
    {s : State} (idle : s.opportunity = false) :
    let t := releaseAll e (finish (examine (makeRecord e work cls (e.reply .accepted results ((Ctx.start s).upd (reserve e.port))))))
    answersFirst s t r code .accepted results ∧
      s.madeRecord t (sourcePort r.source) ⟨sourcePort r.source, r.tag, work, cls, 0, s.rqt.arrival, .waiting⟩ := by
  subst env
  have st : (Env.reply (requestEnv code r) .accepted results ((Ctx.start s).upd (reserve (requestEnv code r).port))).st =
    reserve (requestEnv code r).port s := by simp
  intro t
  have stays : t = releaseAll (requestEnv code r) (finish (makeRecord (requestEnv code r) work cls
      ((requestEnv code r).reply .accepted results ((Ctx.start s).upd (reserve (requestEnv code r).port))))) := by
    show releaseAll _ (finish (examine _)) = _
    rw [examine_none ((makeRecord_opportunity _ work cls st).trans idle)]
  rw [stays]
  refine ⟨answersFirst_finish (loud := []) rfl (makeRecord_grows _ _ _ _) ?_, finish_madeRecord work cls st⟩
  simp

/-- The bytes of a number of three bytes (R180). -/
theorem be_three (n : Nat) : be 3 n = [BitVec.ofNat 8 (n / 65536), BitVec.ofNat 8 (n / 256), BitVec.ofNat 8 n] := by simp [be]

theorem numAt_three {n : Nat} (h : n < 16777216) : numAt (be 3 n) 0 3 = n := by
  simp [numAt, be_three, beNum]
  omega

/-- Settles O44: the acceptance path hands the request over, and `recordMade` says what follows. -/
theorem recordsAndTheRunAreMade : Obligations.RecordsAndTheRunAreMade := by
  refine ⟨fun r f cls mode hold s takes single length parsed tagFree loaded room idle => ?_,
    fun r n s takes source small body tagFree loaded room idle => ?_,
    fun r f n c skip hold s takes source length parsed tagFree loaded free idle => ?_⟩
  · rw [exec_present, requestArrives_performed 3 .present rfl takes (.inl single) length rfl (.inr tagFree) parsed
      (rollRefusal_of_loaded nofun loaded) room]
    exact ⟨_, _, rfl, rfl, recordMade rfl (.present f mode hold) _ _ idle⟩
  · have port : sourcePort r.source = .c := by rw [source]; rfl
    have single : sourceBroadcast r.source = false := by rw [source]; rfl
    rw [exec_jog, requestArrives_performed 5 .jog rfl takes (.inl single) (by simp [body, Kind.lengthOk, be_three])
      (by rw [port]; rfl) (.inr (port ▸ tagFree)) rfl (rollRefusal_of_loaded nofun loaded) (port ▸ room)]
    have made := recordMade (r := r) (code := 5) rfl (.jog (jogDelta n)) 3 (beInt 3 (jogDelta n)) idle
    rw [port] at made
    refine ⟨_, rfl, ?_⟩
    rw [body, numAt_three small]
    exact made
  · have port : sourcePort r.source = .a := by rw [source]; rfl
    have single : sourceBroadcast r.source = false := by rw [source]; rfl
    rw [exec_run, requestArrives_performed 4 .run rfl takes (.inl single) length
      (by rw [port]; rfl) (.inr (port ▸ tagFree)) parsed (rollRefusal_of_loaded nofun loaded) (by simp [capacityRefusal, free])]
    simp only [perform, doRun]
    rw [examine_none (by simpa [State.opportunity] using idle)]
    refine ⟨_, rfl, answersFirst_finish (loud := []) (u := (Ctx.start s).upd (reserve (requestEnv 4 r).port)) rfl (upd_grows _ _)
      (by simp), by simp, ?_, ?_, by simp, by simp⟩
    · have reserved := reserve_reserved (requestEnv 4 r).port s
      rw [show (requestEnv 4 r).port = .a from port] at reserved
      rw [lnk_a, lnk_a, show (requestEnv 4 r).port = .a from port]
      simpa using reserved
    · rw [(releaseAll_frame _ _).2.2.2.2.2.1, finish_trc]
      simp

/-- A request for a barrier passes the checks that its operands and the roll leave (R211). -/
theorem barrier_performed {r : Request} {s : State} (takes : s.takesNow r) (single : sourceBroadcast r.source = false)
    (body : r.body = []) (tagFree : s.tagInUse (sourcePort r.source) r.tag = false)
    (room : capacityRefusal .barrier (sourcePort r.source) s = none) :
    requestArrives 6 r s = releaseAll (requestEnv 6 r) (doBarrier (requestEnv 6 r) s) :=
  requestArrives_performed 6 .barrier rfl takes (.inl single) (by rw [body]; rfl) rfl (.inr tagFree) rfl rfl room

/-- No barrier of the port is free: the table stands. -/
theorem examineBarriersN_waits {w : Ctx} {p : Port} (waits : ∀ r ∈ w.st.rqt.records, w.st.barrierFree p r = false) (n : Nat) :
    examineBarriersN n p w = w := by
  cases n with
  | zero => rfl
  | succ n =>
    have nothing : w.st.rqt.records.find? (w.st.barrierFree p) = none := List.find?_eq_none.mpr fun r hr => by simp [waits r hr]
    simp only [examineBarriersN, nothing]

/-- A barrier of a port that finds no record or run before it is free (R134). -/
theorem barrierFree_alone {s : State} {p : Port} {b : Record} {l : List Record} (records : s.rqt.records = l ++ [b])
    (own : b.port = p) (barrier : b.work = .barrier) (alone : ∀ x ∈ l, x.port ≠ p) (noRun : p = .a → s.rqt.run = none) :
    s.barrierFree p b = true := by
  have self : older b.arrival b.arrival = false := by simp [older]
  have others : (l.any fun x => decide (x.port = p) && older x.arrival b.arrival) = false :=
    List.any_eq_false.mpr fun x hx => by simp [alone x hx]
  by_cases onA : p = .a
  · simp [State.barrierFree, records, own, barrier, self, others, noRun onA]
  · simp [State.barrierFree, records, own, barrier, self, others, onA]

/-- A barrier that finds no record or run of its port before it completes DONE and leaves the table as it was (R134). -/
theorem examineBarriers_alone {w : Ctx} {b : Record} {l : List Record} (records : w.st.rqt.records = l ++ [b])
    (barrier : b.work = .barrier) (alone : ∀ x ∈ l, x.port ≠ b.port) (noRun : b.port = .a → w.st.rqt.run = none) :
    examineBarriers b.port w = completeRecordOnly b .done w ∧ (completeRecordOnly b .done w).st.rqt.records = l := by
  have left : (completeRecordOnly b .done w).st.rqt.records = l := by
    rw [completeRecordOnly_records, records, List.filter_append, List.filter_eq_self.mpr fun x hx => by simp [alone x hx]]
    simp
  have first : w.st.rqt.records.find? (w.st.barrierFree b.port) = some b := by
    have others : l.find? (w.st.barrierFree b.port) = none :=
      List.find?_eq_none.mpr fun x hx => by simp [State.barrierFree, alone x hx]
    rw [records, List.find?_append, others]
    simp [barrierFree_alone records rfl barrier alone noRun]
  refine ⟨?_, left⟩
  have count : w.st.rqt.records.length = l.length + 1 := by simp [records]
  unfold examineBarriers
  rw [count]
  simp only [examineBarriersN, first]
  exact examineBarriersN_waits (fun r hr => by simp [State.barrierFree, alone r (left ▸ hr)]) _

/-- Settles O45: a barrier with nothing before it completes (`examineBarriers_alone`), one with an older record waits
(`examineBarriersN_waits`). -/
theorem barrierWaitsForItsElders : Obligations.BarrierWaitsForItsElders := by
  intro r s takes single body tagFree room
  rw [exec_barrier, barrier_performed takes single body tagFree room]
  set e := requestEnv 6 r with env
  have port : e.port = sourcePort r.source := rfl
  set w := e.reply .accepted [] ((Ctx.start s).upd (reserve e.port)) with hw
  have st : w.st = reserve e.port s := by simp [hw]
  obtain ⟨rqt, level, trc⟩ := makeRecord_made .barrier (defaultClass e.port) st
  have records := congrArg (·.records) rqt
  have performed : doBarrier e s = finish (examineBarriers e.port (makeRecord e .barrier (defaultClass e.port) w)) := rfl
  rw [performed]
  refine ⟨fun alone noRun => ?_, fun elder others => ?_⟩
  · obtain ⟨completes, left⟩ := examineBarriers_alone (w := makeRecord e .barrier (defaultClass e.port) w) records rfl alone
      (fun onA => by simpa [st] using noRun onA)
    rw [show examineBarriers e.port _ = _ from completes]
    generalize hb : (⟨e.port, e.tag, .barrier, defaultClass e.port, 0, s.rqt.arrival, .waiting⟩ : Record) = b at *
    have sent : (completeRecordOnly b .done (makeRecord e .barrier (defaultClass e.port) w)).sends =
        [(e.port, replyMsg r.tag 6 [0]), (e.port, replyMsg r.tag 6 [78])] := by
      rw [completeRecordOnly_sends, ← hb]
      simp [makeRecord, examineAlmostFull, hw, Env.reply, env, single, State.recordResults]
      exact ⟨rfl, rfl⟩
    obtain ⟨notices, outbox, -⟩ :=
      finish_outbox (completeRecordOnly b .done (makeRecord e .barrier (defaultClass e.port) w)) e.port
    rw [sent] at outbox
    refine ⟨_, rfl, by simpa using left, by simp [rqt], ?_, by simp [st], by simp [st], notices, ?_⟩
    · rw [(releaseAll_frame _ _).2.2.2.2.2.1, finish_trc, (completeRecordOnly_frame b .done _).2.2.2.2.2.2.2.2.2.2.2.1, trc]
    · simpa [messagesFor, st, port] using outbox
  · obtain ⟨x, hx, onPort, before, -⟩ := elder
    have waits : examineBarriers e.port (makeRecord e .barrier (defaultClass e.port) w) = makeRecord e .barrier (defaultClass e.port) w := by
      refine examineBarriersN_waits (fun y hy => ?_) _
      rw [records] at hy
      rcases List.mem_append.mp hy with old | new
      · by_cases own : y.port = e.port
        · simp [State.barrierFree, others y old own]
        · simp [State.barrierFree, own]
      · obtain rfl := List.mem_singleton.mp new
        have elders : ((makeRecord e .barrier (defaultClass e.port) w).st.rqt.records.any fun z =>
            decide (z.port = e.port) && older z.arrival s.rqt.arrival) = true :=
          List.any_eq_true.mpr ⟨x, records ▸ List.mem_append_left _ hx, by simp [onPort, port, before]⟩
        simp [State.barrierFree, elders]
    rw [waits]
    refine ⟨_, rfl, answersFirst_finish (loud := []) rfl (makeRecord_grows _ _ _ _) (by simp [st]), finish_madeRecord .barrier _ st⟩

end Sys2Proof.Machine
end

section
/-! SUPPORT. Roll sessions and faults: LOAD, the ends of threading and re-tensioning, the end of the rewind, END and SPLICE (R9 to R19,
R37 to R39, R64). -/

namespace Sys2Proof.Machine

/-! ### An opportunity without work (R119, R122) -/

/-- No PRESENT or JOG waits for a grant, nor the run. -/
def State.workless (s : State) : Prop := (∀ r ∈ s.rqt.records, r.candidate = false) ∧ s.runWaits = false

theorem clearUnreachable_workless {w : Ctx} (idle : w.st.workless) : clearUnreachable w = w := by
  obtain ⟨records, run⟩ := idle
  have reachable : w.st.rqt.records.filter w.st.unreachable = [] := List.filter_eq_nil_iff.mpr fun r hr => by
    have stays := records r hr
    cases work : r.work <;> simp_all [State.unreachable, Record.candidate]
  simp only [clearUnreachable, run, reachable, Bool.false_and, Bool.false_eq_true, if_false]
  split <;> rfl

theorem chooseRecord_workless {s : State} (records : ∀ r ∈ s.rqt.records, r.candidate = false) : chooseRecord s = s := by
  have nobody : (s.rqt.records.filter fun r => r.candidate && decide (r.cls = s.topClass)) = [] :=
    List.filter_eq_nil_iff.mpr fun r hr => by simp [records r hr]
  simp [chooseRecord, State.chosen, nobody]

theorem chooseWork_workless {s : State} (idle : s.workless) : chooseWork s = s := by
  obtain ⟨records, run⟩ := idle
  have waits : ¬s.runWaits = true := by simp [run]
  simp only [chooseWork, if_neg waits, chooseRecord_workless records]
  split <;> rfl

/-- With the position verified an opportunity that finds no work changes nothing. -/
theorem examine_workless {w : Ctx} (idle : w.st.workless) (verified : w.st.trc.verified = true) : examine w = w := by
  unfold examine
  refine ite_eq_right_iff.mpr fun _ => ?_
  rw [clearUnreachable_workless idle]
  simp [verified, Ctx.upd, chooseWork_workless idle]

/-! ### The completion of a LOAD, an UNLOAD or a CLEAR-FAULT (R213, R217) -/

/-- The outstanding request of a port has completed. -/
def completedOn (k : TimedKind) (o : OutcomeCode) (results : List Byte) (p : Port) (t : Byte) (w : Ctx) : Ctx :=
  complete p t k.code o results
    (w.upd fun s => s.setLink p { s.link p with outstanding := (s.link p).outstanding.filter fun e => decide (e ≠ (t, k)) })

theorem completeTimedOn_none {k : TimedKind} {p : Port} {w : Ctx} (none : w.st.outstandingTag p k = none) (o : OutcomeCode)
    (results : List Byte) : completeTimedOn k o results p w = w := by
  simp only [completeTimedOn, none]

theorem completeTimedOn_some {k : TimedKind} {p : Port} {t : Byte} {w : Ctx} (some : w.st.outstandingTag p k = some t) (o : OutcomeCode)
    (results : List Byte) : completeTimedOn k o results p w = completedOn k o results p t w := by
  simp only [completeTimedOn, some, completedOn]

theorem completedOn_outstandingTag {k : TimedKind} {p q : Port} (other : q ≠ p) (o : OutcomeCode) (results : List Byte) (t : Byte)
    (w : Ctx) : (completedOn k o results p t w).st.outstandingTag q k = w.st.outstandingTag q k := by
  simp [completedOn, complete, State.outstandingTag, other.symm]

/-- One port alone has such a request outstanding: it completes there. -/
theorem completeTimed_eq {k : TimedKind} {p : Port} {t : Byte} {w : Ctx} (some : w.st.outstandingTag p k = some t)
    (alone : ∀ q, q ≠ p → w.st.outstandingTag q k = none) (o : OutcomeCode) (results : List Byte) :
    completeTimed k o results w = completedOn k o results p t w := by
  have after {q : Port} (other : q ≠ p) : (completedOn k o results p t w).st.outstandingTag q k = none :=
    (completedOn_outstandingTag other o results t w).trans (alone q other)
  unfold completeTimed
  cases p with
  | a => rw [completeTimedOn_some some, completeTimedOn_none (after (q := .b) nofun), completeTimedOn_none (after (q := .c) nofun)]
  | b => rw [completeTimedOn_none (alone .a nofun), completeTimedOn_some some, completeTimedOn_none (after (q := .c) nofun)]
  | c => rw [completeTimedOn_none (alone .a nofun), completeTimedOn_none (alone .b nofun), completeTimedOn_some some]

theorem completeTimed_sends {k : TimedKind} {p : Port} {t : Byte} {w : Ctx} (some : w.st.outstandingTag p k = some t)
    (alone : ∀ q, q ≠ p → w.st.outstandingTag q k = none) (o : OutcomeCode) (results : List Byte) :
    (p, replyMsg t k.code (o.code :: results)) ∈ (completeTimed k o results w).sends := by
  rw [completeTimed_eq some alone]
  simp [completedOn, complete]

/-! ### LOAD and the ends of threading (R9 to R12) -/

/-- A message whose roll state does not suit its kind is refused with the status of check 6 (R4, R211). -/
theorem requestArrives_rollRefused (code : Nat) (k : Kind) {r : Request} {a : Action} {st : Status} {s : State} (known : k.code = code)
    (takes : s.takesNow r) (single : sourceBroadcast r.source = false) (length : k.lengthOk r.body = true)
    (permitted : k.permitted (sourcePort r.source) = true) (tagFree : s.tagInUse (sourcePort r.source) r.tag = false)
    (parsed : k.parse r.body = .ok a) (roll : rollRefusal k s = some st) :
    requestArrives code r s = s.replied (requestEnv code r) st [] := by
  subst known
  have kept : ¬((requestEnv k.code r).bc = true ∧ k.timed = true) := by simp [single]
  rw [requestArrives_taken takes, handle_known (ofCode_code k) kept, ← releaseAll_refuse]
  simp [acceptKind, length, permitted, tagFree, parsed, roll]

/-- What the timers look at: pins, roll, transport, table, and the presentation. -/
def State.sameWatched (s t : State) : Prop := t.pins = s.pins ∧ t.trc = s.trc ∧ t.rqt = s.rqt ∧ t.gtu.presentation = s.gtu.presentation

theorem syncTimers_of_sameWatched {s t : State} (same : s.sameWatched t) : (syncTimers t).trc.timers = (syncTimers s).trc.timers := by
  obtain ⟨pins, trc, rqt, presentation⟩ := same
  simp only [syncTimers, State.tensioning, State.armsInWindow, State.tensionBad, State.filmBroken, State.leaderAwaited, State.rewindRuns,
    State.settled, State.inBand, State.mayPark, State.profile, pins, trc, rqt, presentation] <;> rfl

/-- The timers after a command are those of the state that its work left. -/
theorem finish_timers (w : Ctx) : (finish w).trc.timers = (syncTimers w.st).trc.timers := by
  rw [← syncTimers_of_sameWatched (s := w.st) (t := syncPhase (latchAll w.occs (queueAll w.sends w.st)))]
  · simp [finish]
  · simp [State.sameWatched]

theorem armsInWindow_of_same {s t : State} (pins : t.pins = s.pins) (profile : t.trc.profile = s.trc.profile) :
    t.armsInWindow = s.armsInWindow := by
  unfold State.armsInWindow State.profile
  rw [pins, profile]

/-- Settles O32: the acceptance path hands the LOAD over, and `doLoad` starts threading. -/
theorem loadStartsThreading : Obligations.LoadStartsThreading := by
  intro r p clamped s takes single port length parsed tagFree
  have permitted : Kind.load.permitted (sourcePort r.source) = true := by simpa [Kind.permitted] using port
  refine ⟨fun loaded => ?_, fun empty => ?_⟩
  · rw [exec_load, requestArrives_rollRefused 1 .load rfl takes single length permitted tagFree parsed
      (by simp [rollRefusal, loaded]; rfl)]
  · rw [exec_load, requestArrives_performed 1 .load rfl takes (.inl single) length permitted (.inr tagFree)
      parsed (by simp [rollRefusal, empty]) rfl]
    simp only [perform, doLoad]
    have reserved := reserveTimed_reserved (requestEnv 1 r) .load s
    have outstanding := reserveTimed_outstanding (requestEnv 1 r) .load s
    generalize hw : ((requestEnv 1 r).reply .accepted (clamped.map (BitVec.ofNat 8)) ((Ctx.start s).upd
      (reserveTimed (requestEnv 1 r) .load))).upd _ = w
    have st : w.st = { reserveTimed (requestEnv 1 r) .load s with
        trc.roll := .threading, trc.profile := some p, trc.timers.threading := some 0, trc.timers.inWindow := none } := by
      simp [← hw]
    have occs : w.occs = [] := by simp [← hw]
    refine ⟨_, rfl, answersFirst_finish (loud := []) (u := (Ctx.start s).upd (reserveTimed (requestEnv 1 r) .load)) rfl ?_ ?_, ?_, ?_, ?_,
      ?_, ?_, by simp [st], by simp [st], by simp [st], by simp [st], by simp [st, finish_ntu occs]⟩
    · exact hw ▸ upd_grows _ _
    · simp [st]
    · rw [(releaseAll_frame _ _).2.2.2.2.2.1, finish_trc]
      simp [st]
    · simp [finish_timers, syncTimers, State.tensioning, st]
    · rw [armsInWindow_of_same (s := w.st) (by simp) (by simp)]
      have timer : w.st.trc.timers.inWindow = none := by rw [st]
      have threading : w.st.tensioning = true := (tensioning_iff _).mpr (.inl (by rw [st]))
      simp [finish_timers, syncTimers, runWhile, threading, timer]
    · simpa [st] using reserved
    · simpa [st] using outstanding

/-- Settles O34: the LOAD completes on its port (`completeTimed_sends`), and no work waits (`examine_workless`). -/
theorem threadingEnds : Obligations.ThreadingEnds := by
  refine ⟨fun track0 track1 port tag s roll timer records run some alone => ?_, fun port tag s roll timer some alone => ?_⟩
  · rw [exec_threadingSuccess, onThreadingSuccess, if_pos ⟨roll, timer⟩]
    generalize hw : setLevel .rollState true _ ((Ctx.start s).upd (threadedState track0 track1)) = w
    have st : w.st = { threadedState track0 track1 s with ntu.levels := s.ntu.levels.set .rollState true } := by simp [← hw]
    have tags (q : Port) : w.st.outstandingTag q .load = s.outstandingTag q .load := by simp [st, State.outstandingTag]
    have idle : (completeTimed .load .loaded (loadedResults w.st) w).st.workless := by
      simp [State.workless, State.runWaits, st, records, run]
    simp only []
    rw [examine_workless idle (by simp [st, threadedState])]
    have sent := completeTimed_sends ((tags port).trans some) (fun q other => (tags q).trans (alone q other)) .loaded (loadedResults w.st)
    refine ⟨_, rfl, ?_, ?_, ?_, ?_, ?_, ?_, ?_, ?_, ?_, ?_, ?_, ?_, ?_, ?_, ?_⟩
    case refine_15 =>
      have profile : w.st.profile = s.profile := by simp [st, State.profile]
      have results : loadedResults w.st = BitVec.ofNat 8 s.profile.label.length :: s.profile.label ++ be 3 (256 * s.profile.pitchNominal) := by
        simp [loadedResults, profile]
        simp [st, threadedState]
      rw [results] at sent
      exact sends_finish (by simp [st]) (results ▸ sent)
    all_goals simp [st, threadedState, Levels.set]
    unfold firstDetector
    by_cases track : s.profile.track = 0 <;> simp [track]
  · rw [exec_threadingTimeout, onThreadingTimeout, if_pos ⟨roll, timer⟩]
    generalize hw : (Ctx.start s).upd _ = w
    have st : w.st = { s with trc.roll := .empty, trc.profile := none, fit.p256 := 0 } := by simp [← hw]
    have tags (q : Port) : w.st.outstandingTag q .load = s.outstandingTag q .load := by simp [st, State.outstandingTag]
    have sent := completeTimed_sends ((tags port).trans some) (fun q other => (tags q).trans (alone q other)) .threadFail []
    refine ⟨_, rfl, ?_, by simp [st], by simp [st], by simp [st], by simp [st], sends_finish (by simp [st]) sent⟩
    rw [finish_trc]
    simp [st]

end Sys2Proof.Machine
end

section
/-! SUPPORT. Faults and their end, the end of the rewind, END and SPLICE (R13 to R19, R37 to R39, R64). -/

namespace Sys2Proof.Machine

/-! ### The arbiter never leaves the transport FAULTED (R119, R126) -/

theorem chooseRecord_live {s : State} (live : s.trc.motion.live = true) : (chooseRecord s).trc.motion.live = true := by
  unfold chooseRecord
  split
  · exact grantRecord_live _ live
  · exact live

theorem chooseWork_live {s : State} (live : s.trc.motion.live = true) : (chooseWork s).trc.motion.live = true := by
  unfold chooseWork
  split
  · split
    · split
      · exact chooseRecord_live live
      · exact handToGate_live _ _
    · exact chooseRecord_live live
  · exact chooseRecord_live live

/-- An opportunity leaves the motion state, or leads from a live one to a live one. -/
theorem examine_sameOrLive (w : Ctx) : w.st.sameOrLive (examine w).st := by
  unfold examine
  split
  case isTrue opportunity =>
    have free : w.st.trc.motion.free = true := by
      simp only [State.opportunity, Bool.and_eq_true] at opportunity
      exact opportunity.1.1.1.1.2
    have cleared : (clearUnreachable w).st.trc.motion.live = true := by simpa using Motion.live_of_free free
    refine sameOrLive_of_live (Motion.live_of_free free) ?_
    dsimp only
    split
    · exact chooseWork_live cleared
    · split
      · exact chooseWork_live (by simpa using Motion.live_of_free free)
      · exact grantVerify_live _
  case isFalse => exact sameOrLive_refl _

theorem notFaulted_of_sameOrLive {s t : State} (same : s.sameOrLive t) (sound : s.trc.motion ≠ .faulted) : t.trc.motion ≠ .faulted := by
  rcases same with same | ⟨-, live⟩
  · rwa [same]
  · intro faulted
    rw [faulted] at live
    cases live

theorem rewindEnd_motion (w : Ctx) : (rewindEnd w).st.trc.motion = .off := by simp [rewindEnd]

theorem checkRewindEnd_notFaulted {w : Ctx} (sound : w.st.trc.motion ≠ .faulted) : (checkRewindEnd w).st.trc.motion ≠ .faulted := by
  unfold checkRewindEnd
  split
  · rw [rewindEnd_motion]
    nofun
  · exact sound

theorem beginRewind_notFaulted (w : Ctx) : (beginRewind w).st.trc.motion ≠ .faulted := by
  unfold beginRewind
  split
  · nofun
  · exact checkRewindEnd_notFaulted nofun

theorem resumeRewind_notFaulted {w : Ctx} (sound : w.st.trc.motion ≠ .faulted) : (resumeRewind w).st.trc.motion ≠ .faulted := by
  unfold resumeRewind
  split
  · exact beginRewind_notFaulted w
  · exact sound

/-! ### CLEAR-FAULT and its two ends (R39) -/

/-- The state in which a re-tensioning has succeeded, and its completion. -/
def retensionedCtx (s : State) : Ctx :=
  completeTimed .clearFault .done [Cause.code .none] (setLevel .fault false [Cause.code .none] ((Ctx.start s).upd retensioned))

theorem onRetensionSuccess_eq {s : State} (retension : s.trc.retension = true) (timer : s.trc.timers.inWindow.isSome = true) :
    onRetensionSuccess s = finish (examine (resumeRewind (retensionedCtx s))) := by
  rw [onRetensionSuccess, if_pos ⟨retension, timer⟩]
  rfl

/-- With the tag of one port's request alone every port's tag is known. -/
theorem alone_on_c {s : State} {k : TimedKind} (onA : s.outstandingTag .a k = none) (onB : s.outstandingTag .b k = none) (q : Port)
    (other : q ≠ .c) : s.outstandingTag q k = none := by
  cases q with
  | a => exact onA
  | b => exact onB
  | c => exact absurd rfl other

theorem outstandingTag_of_lnk {s t : State} (same : t.lnk = s.lnk) (q : Port) (k : TimedKind) :
    t.outstandingTag q k = s.outstandingTag q k := by
  simp [State.outstandingTag, same]

theorem retensionedCtx_sends {tag : Byte} {s : State} (some : s.outstandingTag .c .clearFault = some tag)
    (onA : s.outstandingTag .a .clearFault = none) (onB : s.outstandingTag .b .clearFault = none) :
    (.c, replyMsg tag 16 [78, 0]) ∈ (retensionedCtx s).sends := by
  have lnk : (setLevel .fault false [Cause.code .none] ((Ctx.start s).upd retensioned)).st.lnk = s.lnk := by simp [retensioned]
  exact completeTimed_sends ((outstandingTag_of_lnk lnk _ _).trans some)
    (fun q other => (outstandingTag_of_lnk lnk _ _).trans (alone_on_c onA onB q other)) .done [Cause.code .none]

theorem retensionedCtx_fields (s : State) :
    (retensionedCtx s).st.trc = { s.trc with motion := .idle, cause := .none, retension := false } ∧
    (retensionedCtx s).st.ntu.levels.fault = false ∧ (retensionedCtx s).st.rqt = s.rqt ∧
    (retensionedCtx s).st.fcc = s.fcc ∧ (retensionedCtx s).st.fit.entries = s.fit.entries ∧
    (∀ q, ((retensionedCtx s).st.link q).outbox = (s.link q).outbox) := by
  simp [retensionedCtx, retensioned, setMotion, Levels.set]

/-- The rewind that goes on after a re-tensioning waits in IDLE while HALTED is set (R15). -/
theorem resumeRewind_halted {w : Ctx} (halted : w.st.rqt.halted = true) (idle : w.st.trc.motion = .idle) :
    (resumeRewind w).st.trc.motion = .idle ∧ (resumeRewind w).st.trc.counter = w.st.trc.counter ∧
    (resumeRewind w).st.trc.epoch = w.st.trc.epoch := by
  unfold resumeRewind
  split
  · simp [beginRewind, halted]
  · exact ⟨idle, rfl, rfl⟩

theorem retensionSuccess_ends {tag : Byte} {s : State} (retension : s.trc.retension = true)
    (timer : s.trc.timers.inWindow.isSome = true) (some : s.outstandingTag .c .clearFault = some tag)
    (onA : s.outstandingTag .a .clearFault = none) (onB : s.outstandingTag .b .clearFault = none) :
    ∃ t, exec .retensionSuccess s = .next t ∧ t.trc.cause = .none ∧ t.trc.retension = false ∧
      t.ntu.levels.fault = false ∧ sends s t .c (replyMsg tag 16 [78, 0]) ∧ t.trc.motion ≠ .faulted ∧
      t.fit.entries = s.fit.entries ∧ t.fcc.lines = s.fcc.lines ∧ t.rqt.halted = s.rqt.halted ∧
      (s.rqt.halted = true → t.trc.motion = .idle ∧ t.trc.counter = s.trc.counter ∧ t.trc.epoch = s.trc.epoch) := by
  have sent := retensionedCtx_sends some onA onB
  obtain ⟨trc, level, rqt, fcc, entries, outbox⟩ := retensionedCtx_fields s
  rw [exec_retensionSuccess, onRetensionSuccess_eq retension timer]
  generalize retensionedCtx s = u at *
  have idle : u.st.trc.motion = .idle := by rw [trc]
  have sound := notFaulted_of_sameOrLive (examine_sameOrLive (resumeRewind u)) (resumeRewind_notFaulted (by simp [idle]))
  have law := (examine_keeps (resumeRewind u)).fault ((resumeRewind_keeps u).fault (by simp [level, idle]))
  have grows : u.Grows [] (examine (resumeRewind u)) := (resumeRewind_grows u).trans (examine_grows _)
  refine ⟨_, rfl, by simp [trc], by simp [trc], by simp [law, sound], sends_finish ?_ (grows.mem sent), by simpa using sound,
    by simp [entries], by simp [fcc], by simp [rqt], fun halted => ?_⟩
  · simpa using outbox .c
  · rw [← rqt] at halted
    obtain ⟨motion, counter, epoch⟩ := resumeRewind_halted halted idle
    rw [examine_none (opportunity_halted (by simpa using halted))]
    simp [motion, counter, epoch, trc]

theorem retensionFail_ends {tag : Byte} {s : State} (retension : s.trc.retension = true)
    (timer : s.trc.timers.threading.isSome = true) (some : s.outstandingTag .c .clearFault = some tag)
    (onA : s.outstandingTag .a .clearFault = none) (onB : s.outstandingTag .b .clearFault = none) :
    ∃ t, exec .retensionFail s = .next t ∧ t.trc = { s.trc with retension := false, cause := .tension, timers := t.trc.timers } ∧
      sends s t .c (replyMsg tag 16 [71, 1]) ∧ t.rqt = s.rqt ∧ t.fit = s.fit ∧ t.fcc = s.fcc ∧ t.ntu.levels = s.ntu.levels := by
  rw [exec_retensionFail, onRetensionFail, if_pos ⟨retension, timer⟩]
  generalize hw : (Ctx.start s).upd _ = w
  have st : w.st = faultCauseChanged .tension { s with trc.retension := false, trc.cause := .tension } := by rw [← hw]; rfl
  have lnk : w.st.lnk = s.lnk := by simp [st]
  have sent := completeTimed_sends ((outstandingTag_of_lnk lnk _ _).trans some)
    (fun q other => (outstandingTag_of_lnk lnk _ _).trans (alone_on_c onA onB q other)) .fault [Cause.code .tension]
  refine ⟨_, rfl, ?_, sends_finish (by simp [lnk]) sent, by simp [st], by simp [st], by simp [st], by simp [st]⟩
  rw [finish_trc]
  simp [st]

/-- Settles O30: the checks of CLEAR-FAULT in their order, and the two ends (`retensionSuccess_ends`, `retensionFail_ends`). -/
theorem clearFaultAndItsEnd : Obligations.ClearFaultAndItsEnd := by
  refine ⟨fun r s takes source body tagFree => ?_, fun tag s retension timer some onA onB => ?_, fun tag s retension timer some onA onB => ?_⟩
  · have port : sourcePort r.source = .c := by rw [source]; rfl
    have single : sourceBroadcast r.source = false := by rw [source]; rfl
    have performed : requestArrives 16 r s = releaseAll (requestEnv 16 r) (doClearFault (requestEnv 16 r) s) :=
      requestArrives_performed 16 .clearFault rfl takes (.inl single) (by rw [body]; rfl) (by rw [port]; rfl) (.inr (port ▸ tagFree))
        rfl rfl rfl
    rw [exec_clearFault, performed]
    refine ⟨fun sound => ?_, fun faulted busy => ?_, fun faulted free => ?_⟩
    · rw [doClearFault, if_pos sound, releaseAll_refuse]
    · rw [doClearFault, if_neg (not_not.mpr faulted), if_pos busy, releaseAll_refuse]
    · rw [doClearFault, if_neg (not_not.mpr faulted), if_neg (by simp [free])]
      have reserved := reserveTimed_reserved (requestEnv 16 r) .clearFault s
      have outstanding := reserveTimed_outstanding (requestEnv 16 r) .clearFault s
      generalize hw : ((requestEnv 16 r).reply .accepted [] ((Ctx.start s).upd (reserveTimed (requestEnv 16 r) .clearFault))).upd _ = w
      have st : w.st = { reserveTimed (requestEnv 16 r) .clearFault s with
          trc.retension := true, trc.timers.threading := some 0, trc.timers.inWindow := none } := by
        simp [← hw]
      have occs : w.occs = [] := by simp [← hw]
      refine ⟨_, rfl, answersFirst_finish (loud := []) (u := (Ctx.start s).upd (reserveTimed (requestEnv 16 r) .clearFault)) rfl ?_ ?_,
        ?_, ?_, ?_, ?_, by simp [st], by simp [st], by simp [st], by simp [st, finish_ntu occs]⟩
      · exact hw ▸ upd_grows _ _
      · simp [st]
      · rw [(releaseAll_frame _ _).2.2.2.2.2.1, finish_trc]
        simp [st]
      · simp [finish_timers, syncTimers, State.tensioning, st]
      · rw [show (requestEnv 16 r).port = .c from port] at reserved
        rw [lnk_c, lnk_c]
        simpa [st] using reserved
      · rw [show (requestEnv 16 r).port = .c from port] at outstanding
        rw [lnk_c, lnk_c]
        simpa [st] using outstanding
  · exact retensionSuccess_ends retension timer some onA onB
  · exact retensionFail_ends retension timer some onA onB

end Sys2Proof.Machine
end

section
/-! SUPPORT. The end of the rewind, END and SPLICE (R16 to R19, R64). -/

namespace Sys2Proof.Machine

/-! ### The end of the rewind (R16) -/

theorem rewindEnd_fields (w : Ctx) :
    (rewindEnd w).st.trc.roll = .empty ∧ (rewindEnd w).st.trc.motion = .off ∧ (rewindEnd w).st.trc.move = none ∧
    (rewindEnd w).st.trc.counter = 0 ∧ (rewindEnd w).st.trc.verified = true ∧ (rewindEnd w).st.trc.profile = none ∧
    (rewindEnd w).st.trc.endPos = none ∧ (rewindEnd w).st.fit.p256 = 0 ∧ (rewindEnd w).st.ntu.levels.unverified = false := by
  simp [rewindEnd, setMotion, Levels.set]

theorem rewindEnd_sends {port : Port} {tag : Byte} {w : Ctx} (some : w.st.outstandingTag port .unload = some tag)
    (alone : ∀ q, q ≠ port → w.st.outstandingTag q .unload = none) : (port, replyMsg tag 2 [78]) ∈ (rewindEnd w).sends := by
  unfold rewindEnd
  exact completeTimed_sends ((outstandingTag_of_lnk (by simp [setMotion]) _ _).trans some)
    (fun q other => (outstandingTag_of_lnk (by simp [setMotion]) _ _).trans (alone q other)) .done []

/-- Settles O36: LEADER low either ends the rewind (`rewindEnd_fields`) or is only the level of the line. -/
theorem leaderFallEndsTheRewind : Obligations.LeaderFallEndsTheRewind := by
  intro s live
  have falls : onLeaderFall s = finish (checkRewindEnd (Ctx.start { s with pins.leader := false })) := by
    simp [onLeaderFall, live]
  rw [exec_leaderFall, falls]
  refine ⟨fun rewinding runs home => ?_, fun other => ?_⟩
  · have ends : checkRewindEnd (Ctx.start { s with pins.leader := false }) = rewindEnd (Ctx.start { s with pins.leader := false }) :=
      if_pos ⟨rewinding, runs, home, rfl⟩
    rw [ends]
    obtain ⟨roll, motion, move, counter, verified, profile, endPos, p256, unverified⟩ :=
      rewindEnd_fields (Ctx.start { s with pins.leader := false })
    refine ⟨_, rfl, by simp [roll], by simp [motion], by simp [move], by simp [counter], by simp [verified], by simp [profile],
      by simp [endPos], by simp, by simp [p256], by simp [unverified], by simp, by simp, by simp, fun port tag some alone => ?_⟩
    exact sends_finish (by simp) (rewindEnd_sends some alone)
  · have stays : checkRewindEnd (Ctx.start { s with pins.leader := false }) = Ctx.start { s with pins.leader := false } :=
      if_neg fun h => other ⟨h.1, h.2.1, h.2.2.1⟩
    rw [stays]
    refine ⟨_, rfl, by simp, ?_, by simp, by simp, by simp, by simp, finish_ntu rfl⟩
    rw [finish_trc]
    rfl

/-! ### Stop orders (R31) -/

/-- The film ramps to rest under a stop order. -/
def rampToStop (m : Move) (r : StopReason) (s : State) : State :=
  { setMotion .decel s with trc.move := some { m with ramp := .stop }, rqt.stopReason := r }

@[simp] theorem rampToStop_fields (m : Move) (r : StopReason) (s : State) :
    (rampToStop m r s).trc = { s.trc with motion := .decel, move := some { m with ramp := .stop } } ∧
    (rampToStop m r s).rqt = { s.rqt with stopReason := r } ∧ (rampToStop m r s).fit = s.fit ∧ (rampToStop m r s).fcc = s.fcc ∧
    (rampToStop m r s).gtu = s.gtu ∧ (rampToStop m r s).ntu = s.ntu ∧ (rampToStop m r s).lnk = s.lnk ∧
    (rampToStop m r s).pins = s.pins ∧ (rampToStop m r s).mkd = s.mkd := by
  have building : (s.fit.building && Motion.decel.moving) = s.fit.building := by simp [Motion.moving]
  simp [rampToStop, setMotion, building]

/-- A stop order for a move whose film moves begins its ramp. -/
theorem orderStop_moving {m : Move} {w : Ctx} (move : w.st.trc.move = some m) (ramp : m.ramp ≠ .stop)
    (moving : w.st.trc.motion.moving = true) (r : StopReason) : orderStop r w = w.upd (rampToStop m r) := by
  simp only [orderStop, move, if_neg ramp]
  cases motion : w.st.trc.motion <;> simp_all [Motion.moving] <;> rfl

/-! ### END and SPLICE (R17, R19, R64) -/

/-- What an operation that ramps the film leaves: the position, the roll, the index and focus. -/
def State.ramped (s t : State) : Prop :=
  t.trc.motion = .decel ∧ t.trc.verified = s.trc.verified ∧ t.fit = s.fit ∧ t.fcc = s.fcc

theorem ramped_of_stop {m : Move} {r : StopReason} {s : State} {v : Ctx} (trc : v.st.trc = s.trc) (fit : v.st.fit = s.fit)
    (fcc : v.st.fcc = s.fcc) : s.ramped (v.upd (rampToStop m r)).st := by
  simp [State.ramped, trc, fit, fcc]

section ends
variable {m : Move} {w : Ctx} (move : w.st.trc.move = some m) (ramp : m.ramp ≠ .stop) (moving : w.st.trc.motion.moving = true)
include move ramp moving

/-- The end of an index-forward move that can no longer reach its frame leaves the move as it is, or under a stop order. -/
theorem forwardLost_ramps (o : OutcomeCode) :
    forwardLost o w = w ∨
      w.st.ramped (forwardLost o w).st ∧ (forwardLost o w).st.trc.move = some { m with ramp := .stop } := by
  unfold forwardLost
  split
  · split
    · exact .inl rfl
    · split
      · rw [orderStop_moving (m := m) (by simp [move]) ramp (by simp [moving])]
        exact .inr ⟨ramped_of_stop (by simp) (by simp) (by simp), by simp⟩
      · split
        · exact .inl rfl
        · rw [orderStop_moving (m := m) (by simp [move]) ramp (by simp [moving])]
          exact .inr ⟨ramped_of_stop (by simp) (by simp) (by simp), by simp⟩
      · exact .inl rfl
      · exact .inl rfl
  · exact .inl rfl

/-- END finds a moving film with an order: the film ramps. -/
theorem endMotion_ramps (job : m.job ≠ .rewind) : w.st.ramped (endMotion m w).st := by
  have stopped (r : StopReason) : w.st.ramped (orderStop r w).st := by
    rw [orderStop_moving move ramp moving]
    exact ramped_of_stop rfl rfl rfl
  have replanned : w.st.ramped (w.upd (endReplan m)).st := by
    simp [State.ramped, endReplan, setMotion, Motion.moving]
  cases kind : m.job with
  | rewind => exact absurd kind job
  | verify => simpa only [endMotion, kind] using stopped .none
  | forward =>
    simp only [endMotion, kind]
    rcases forwardLost_ramps move ramp moving .notFound with same | ⟨ramps, held⟩
    · simpa only [same, move, if_neg ramp] using stopped .none
    · simpa only [held, if_true] using ramps
  | present | returnL | jog => simpa only [endMotion, kind, if_neg ramp] using replanned

end ends

theorem endFound_data (w : Ctx) (occs : w.occs = []) (p : Port) :
    (∀ o ∈ (endFound w).occs, o.port = p → o.source = .indexClosed → o.data = pad8 ([0] ++ beFrame w.st.frontier)) ∧
    ⟨.indexClosed, p, pad8 ([0] ++ beFrame w.st.frontier)⟩ ∈ (endFound w).occs := by
  cases p <;> simp [endFound, pulseAll, occs, State.frontier]

theorem forwardLost_grows {loud : List EventSource} (o : OutcomeCode) (w : Ctx) : w.Grows loud (forwardLost o w) := by
  unfold forwardLost
  split
  · refine .ite (.refl w) ?_
    split
    · exact ((upd_grows w _).trans (completeTag_grows _ _ _ _)).trans (orderStop_grows _ _)
    · exact .ite (.refl w) (((upd_grows w _).trans (completeRun_grows _ _)).trans (orderStop_grows _ _))
    · exact .refl w
    · exact .refl w
  · exact .refl w

theorem endMotion_grows {loud : List EventSource} (m : Move) (w : Ctx) : w.Grows loud (endMotion m w) := by
  have lost := forwardLost_grows (loud := loud) .notFound w
  unfold endMotion
  split
  · exact .ite (.refl w) (upd_grows w _)
  · exact .ite (.refl w) (upd_grows w _)
  · exact .ite (.refl w) (upd_grows w _)
  · dsimp only
    split
    · exact .ite lost (lost.trans (orderStop_grows _ _))
    · exact lost
  · exact orderStop_grows _ _
  · exact .refl w

/-- Settles O37: E is found, and the motion ramps (`endMotion_ramps`); SPLICE needs the building flag. -/
theorem endAndSpliceRising : Obligations.EndAndSpliceRising := by
  refine ⟨fun m s move => ⟨fun loaded moving forward job ramp unknown => ?_, fun idle => ?_⟩, fun s => ⟨fun building => ?_, fun idle => ?_⟩⟩
  · have rises : onEndRising s = finish (endMotion m (endFound (Ctx.start s))) := by
      simp only [onEndRising, move, loaded, moving, forward, unknown]
      rfl
    rw [exec_endRising, rises]
    have found : (endFound (Ctx.start s)).st.trc.move = some m ∧ (endFound (Ctx.start s)).st.trc.motion.moving = true := by
      simp [move, moving]
    obtain ⟨motion, verified, fit, fcc⟩ := endMotion_ramps found.1 ramp found.2 job
    refine ⟨_, rfl, ?_, by simp, ?_, ?_, by simp, by simp [motion], by simp, by simp [loaded], by simp [verified], by simp [fcc],
      fun p enabled => ?_⟩
    · simp [endFound]
    · simp only [finish_frame, fit]
      rfl
    · simp only [finish_frame, fit]
      rfl
    · obtain ⟨data, one⟩ := endFound_data (Ctx.start s) rfl p
      have grows := endMotion_grows (loud := []) m (endFound (Ctx.start s))
      exact latch_finish (by simpa using enabled) (grows.data rfl (by simp) data) (grows.mem_occs one)
  · rw [exec_endRising]
    simp only [onEndRising, move]
    rw [if_neg]
    rintro ⟨loaded, moving, forward⟩
    rcases idle with h | h | h
    · exact h loaded
    · simp [moving] at h
    · simp [forward] at h
  · simp [onSpliceRising, building]
  · simp [onSpliceRising, idle]

end Sys2Proof.Machine
end

section
/-! SUPPORT. HALT and RESUME (R16, R31, R33, R34). -/

namespace Sys2Proof.Machine

/-! ### RESUME (R34) -/

theorem opportunity_notLoaded {s : State} (roll : s.trc.roll ≠ .loaded) : s.opportunity = false := by
  simp [State.opportunity, roll]

theorem resumeRewind_other {w : Ctx} (other : w.st.trc.roll ≠ .rewinding) : resumeRewind w = w :=
  if_neg fun h => other h.1

/-- A rewind away from 0 begins with a motion start, in reverse at SHUTTLE (R15, R32). -/
theorem beginRewind_runs {w : Ctx} (resumed : w.st.rqt.halted = false) (away : 0 < w.st.trc.counter) :
    beginRewind w = w.upd fun s => travelLeg (openMove .rewind .reverse .shuttle none) .reverse .shuttle true (motionStart s) := by
  have goes : ¬w.st.rqt.halted = true := by simp [resumed]
  unfold beginRewind checkRewindEnd
  rw [if_neg goes, if_neg]
  rintro ⟨-, -, home, -⟩
  have : w.st.trc.counter = 0 := by simpa [motionStart] using home
  omega

/-- HALTED has cleared, and its source falls. -/
def resumedCtx (r : Request) (s : State) : Ctx :=
  setLevel .halted false [] (((requestEnv 15 r).reply .done [] (Ctx.start s)).upd fun s => { s with rqt.halted := false })

theorem resumedCtx_st (r : Request) (s : State) :
    (resumedCtx r s).st = { s with rqt.halted := false, ntu.levels := s.ntu.levels.set .halted false } := by
  simp [resumedCtx]

theorem resumedCtx_grows (r : Request) (s : State) :
    ((requestEnv 15 r).reply .done [] (Ctx.start s)).Grows [] (resumedCtx r s) :=
  (upd_grows _ _).trans (setLevel_grows _ rfl _ _)

theorem exec_resume_performed {r : Request} {s : State} (takes : s.takesNow r) (port : sourcePort r.source = .c) (body : r.body = []) :
    exec (.resume r) s = .next (releaseAll (requestEnv 15 r) (finish (examine (resumeRewind (resumedCtx r s))))) := by
  rw [exec_resume, exec_plain 15 .resume rfl takes body rfl rfl (by rw [port]; rfl) rfl rfl rfl]
  rfl

/-- Settles O29: RESUME is `resumedCtx`; without work the opportunity changes nothing (`examine_workless`), and a rewind that waited
begins (`beginRewind_runs`). -/
theorem resumeClearsHalted : Obligations.ResumeClearsHalted := by
  intro r s takes port body
  rw [exec_resume_performed takes port body]
  have st := resumedCtx_st r s
  have grows := (resumedCtx_grows r s).trans ((resumeRewind_grows _).trans (examine_grows _))
  generalize resumedCtx r s = w at *
  have law := (examine_keeps (resumeRewind w)).halted ((resumeRewind_keeps w).halted (by simp [st, Levels.set]))
  refine ⟨_, rfl, by simp [st], by simpa [st] using law, answersFirst_finish (loud := []) (u := Ctx.start s) rfl grows (by simp [st]),
    by simp [st], by simp [st], by simp [st], by simp [st], fun loaded => ?_, fun loaded verified records run => ?_,
    fun rewinding idle away => ?_⟩
  · rw [resumeRewind_other (by simp [st, loaded])]
    simp [st, loaded]
  · rw [resumeRewind_other (by simp [st, loaded]), examine_workless ⟨by simp [st, records], by simp [State.runWaits, st, run]⟩ (by simp [st, verified])]
    simp [st]
  · have begins : resumeRewind w = w.upd fun s =>
        travelLeg (openMove .rewind .reverse .shuttle none) .reverse .shuttle true (motionStart s) := by
      unfold resumeRewind
      rw [if_pos ⟨by simp [st, rewinding], by simp [st, idle]⟩, beginRewind_runs (by simp [st]) (by simpa [st] using away)]
    rw [begins, examine_none (opportunity_notLoaded (by simp [st, rewinding, motionStart]))]
    exact ⟨by simp, by simp [motionStart, st], { openMove .rewind .reverse .shuttle none with ramp := .none }, by simp [travelLeg, openMove], rfl, rfl, rfl⟩

/-! ### HALT (R31, R33) -/

/-- HALTED is set, and its source rises. -/
def haltedCtx (r : Request) (s : State) : Ctx :=
  setLevel .halted true [] (((requestEnv 14 r).reply .done [] (Ctx.start s)).upd fun s => { s with rqt.halted := true })

theorem haltedCtx_st (r : Request) (s : State) :
    (haltedCtx r s).st = { s with rqt.halted := true, ntu.levels := s.ntu.levels.set .halted true } := by
  simp [haltedCtx]

theorem haltedCtx_grows (r : Request) (s : State) :
    ((requestEnv 14 r).reply .done [] (Ctx.start s)).Grows [] (haltedCtx r s) :=
  (upd_grows _ _).trans (setLevel_grows _ rfl _ _)

theorem exec_halt_performed {r : Request} {s : State} (takes : s.takesNow r) (port : sourcePort r.source = .c) (body : r.body = []) :
    exec (.halt r) s = .next (releaseAll (requestEnv 14 r) (finish (haltTransport (haltedCtx r s)))) := by
  rw [exec_halt, exec_plain 14 .halt rfl takes body rfl rfl (by rw [port]; rfl) rfl rfl rfl]
  rfl

/-- What is left of a move that HALT has ended: the holder of the grant waits again, and a VERIFY move is forgotten (R31, R121). -/
def disposeHalted (s : State) : State :=
  match s.rqt.grant with
  | .none => { s with rqt.stopReason := .none }
  | .record _ _ | .run => dropInHand { returnGrant s with rqt.stopReason := .none }
  | .verify => { s with rqt.grant := .none, rqt.stopReason := .none, fit.verify := none }

theorem disposeStopped_halted {w : Ctx} (halt : w.st.rqt.stopReason = .halt) : disposeStopped w = w.upd disposeHalted := by
  unfold disposeStopped
  split <;> rename_i grant
  · simp only [Ctx.upd, disposeHalted, grant]
  · simp only [Ctx.upd, disposeHalted, grant]
  · simp only [Ctx.upd, disposeHalted, grant]
  · simp only [Ctx.upd, disposeHalted, grant, halt, decide_true, Bool.or_true, if_true]

/-- What a stop of the film leaves of the gate. -/
def State.sameShow (s t : State) : Prop :=
  t.gtu.presentation = s.gtu.presentation ∧ t.gtu.hold = s.gtu.hold ∧ t.gtu.exposure = s.gtu.exposure ∧
  t.gtu.watches = s.gtu.watches

theorem disposeHalted_sameShow (s : State) : s.sameShow (disposeHalted s) := by
  unfold disposeHalted
  split <;> simp [State.sameShow]

@[simp] theorem disposeHalted_trc (s : State) : (disposeHalted s).trc = s.trc := by
  unfold disposeHalted
  split <;> simp

theorem disposeHalted_record {s : State} {p : Port} {t : Byte} (grant : s.rqt.grant = .record p t) :
    (disposeHalted s).rqt = { s.rqt with
      records := s.rqt.records.map fun x => if x.port = p ∧ x.tag = t then { x with state := .waiting } else x
      grant := .none, stopReason := .none } ∧ (disposeHalted s).gtu.inHand = none := by
  simp [disposeHalted, returnGrant, grant, setRecState, dropInHand]

theorem disposeHalted_run {s : State} (grant : s.rqt.grant = .run) :
    (disposeHalted s).rqt = { s.rqt with
      run := s.rqt.run.map fun x => { x with state := .ready }
      grant := .none, stopReason := .none } ∧ (disposeHalted s).gtu.inHand = none := by
  simp [disposeHalted, returnGrant, grant, setRunState, dropInHand]

/-- A settling move that HALT finds ends at once. -/
def haltSettling (s : State) : State := disposeHalted { moveOver s with rqt.stopReason := .halt }

/-- An order that HALT finds in WAKING is withdrawn. -/
def haltWaking (s : State) : State := disposeHalted { s with trc.move := none, rqt.stopReason := .halt }

theorem haltSettling_trc (s : State) : (haltSettling s).trc.motion = .idle ∧ (haltSettling s).trc.move = none := by
  simp [haltSettling, moveOver]

theorem haltSettling_record {s : State} {p : Port} {t : Byte} (grant : s.rqt.grant = .record p t) :
    (haltSettling s).rqt = { s.rqt with
      records := s.rqt.records.map fun x => if x.port = p ∧ x.tag = t then { x with state := .waiting } else x
      grant := .none, stopReason := .none } := by
  rw [haltSettling, (disposeHalted_record (by simpa using grant)).1]
  rfl

section halt
variable {m : Move} {w : Ctx} (move : w.st.trc.move = some m)
include move

theorem orderStop_settling (ramp : m.ramp ≠ .stop) (settling : w.st.trc.motion = .settling) :
    orderStop .halt w = w.upd haltSettling := by
  simp only [orderStop, move, if_neg ramp, settling]
  rw [disposeStopped_halted rfl]
  rfl

theorem orderStop_waking (ramp : m.ramp ≠ .stop) (waking : w.st.trc.motion = .waking) :
    orderStop .halt w = w.upd haltWaking := by
  simp only [orderStop, move, if_neg ramp, waking]
  rw [disposeStopped_halted rfl]
  rfl

theorem haltTransport_move (job : m.job ≠ .rewind) : haltTransport w = orderStop .halt w := by
  simp only [haltTransport, move, if_neg job]

/-- A stop order that HALT gives leaves what the gate shows, exposes and watches. -/
theorem orderStop_halt_sameShow : w.st.sameShow (orderStop .halt w).st := by
  by_cases ramp : m.ramp = .stop
  · simp only [orderStop, move, if_pos ramp]
    simp [State.sameShow]
  · cases motion : w.st.trc.motion with
    | settling =>
      rw [orderStop_settling move ramp motion]
      exact disposeHalted_sameShow { moveOver w.st with rqt.stopReason := .halt }
    | waking =>
      rw [orderStop_waking move ramp motion]
      exact disposeHalted_sameShow { w.st with trc.move := none, rqt.stopReason := .halt }
    | accel | cruise | decel | creepIn =>
      rw [orderStop_moving move ramp (by rw [motion]; rfl)]
      simp [State.sameShow]
    | off | idle | parked | faulted =>
      simp only [orderStop, move, if_neg ramp, motion]
      simp [State.sameShow]

end halt

theorem haltTransport_sameShow (w : Ctx) : w.st.sameShow (haltTransport w).st := by
  cases move : w.st.trc.move with
  | none =>
    simp only [haltTransport, move]
    simp [State.sameShow]
  | some m =>
    by_cases job : m.job = .rewind
    · simp only [haltTransport, move, if_pos job]
      split <;> simp [State.sameShow]
    · rw [haltTransport_move move job]
      exact orderStop_halt_sameShow move

/-- Settles O28: HALT gives a stop order by the motion state (`orderStop_moving`, `orderStop_settling`, `orderStop_waking`), and a
rewind that has ramped to rest waits in IDLE. -/
theorem haltStopsTheFilm : Obligations.HaltStopsTheFilm := by
  refine ⟨fun r s takes port body => ?_, fun m s move job ramp moving rewinding halted => ?_⟩
  · rw [exec_halt_performed takes port body]
    have st := haltedCtx_st r s
    have grows := (haltedCtx_grows r s).trans (haltTransport_grows _)
    generalize haltedCtx r s = w at *
    have law := (haltTransport_keeps w).halted (by simp [st, Levels.set])
    obtain ⟨presentation, hold, exposure, watches⟩ := haltTransport_sameShow w
    have records : w.st.rqt.records = s.rqt.records := by simp [st]
    have runs : w.st.rqt.run = s.rqt.run := by simp [st]
    have moves {m : Move} (move : s.trc.move = some m) : w.st.trc.move = some m := by simp [st, move]
    refine ⟨_, rfl, by simp [st], by simpa [st] using law, answersFirst_finish (loud := []) (u := Ctx.start s) rfl grows (by simp [st]),
      fun none => ?_, fun m move ramp job moving => ?_, fun m p tag move ramp job settling grant => ?_,
      fun m p tag move ramp job waking grant => ?_, fun m x move ramp job motion grant run => ?_, fun m move job ramp moving => ?_,
      by simp [presentation, st], by simp [hold, st], by simp [exposure, st], by simp [watches, st], by simp [st], by simp [st],
      by simp [st], by simp [st], by simp [st]⟩
    · have stays : haltTransport w = w := by simp only [haltTransport, st, none]
      rw [stays]
      simp [st]
    · rw [haltTransport_move (moves move) job, orderStop_moving (moves move) ramp (by simp [st, moving])]
      simp [st]
    · rw [haltTransport_move (moves move) job, orderStop_settling (moves move) ramp (by simp [st, settling])]
      have rqt := haltSettling_record (s := w.st) (p := p) (t := tag) (by simp [st, grant])
      obtain ⟨motion, ended⟩ := haltSettling_trc w.st
      refine ⟨by simpa using motion, by simpa using ended, by simp [rqt], by simp [rqt], by simp [rqt, records]⟩
    · rw [haltTransport_move (moves move) job, orderStop_waking (moves move) ramp (by simp [st, waking])]
      obtain ⟨rqt, inHand⟩ := disposeHalted_record (s := { w.st with trc.move := none, rqt.stopReason := .halt }) (p := p) (t := tag) (by simp [st, grant])
      have wake : (haltWaking w.st).trc = { s.trc with move := none } := by simp [haltWaking, st]
      have rqt' : (haltWaking w.st).rqt = _ := rqt
      have inHand' : (haltWaking w.st).gtu.inHand = none := inHand
      refine ⟨by simp [wake, waking], by simp [wake], ?_, by simp [rqt'], by simp [inHand'], by simp [rqt'], by simp [rqt', records]⟩
      simp [finish_timers, syncTimers, wake, waking]
    · rw [haltTransport_move (moves move) job]
      rcases motion with settling | waking
      · rw [orderStop_settling (moves move) ramp (by simp [st, settling])]
        obtain ⟨rqt, inHand⟩ := disposeHalted_run (s := { moveOver w.st with rqt.stopReason := .halt }) (by simp [st, grant])
        have rqt' : (haltSettling w.st).rqt = _ := rqt
        have inHand' : (haltSettling w.st).gtu.inHand = none := inHand
        exact ⟨by simp [haltSettling, moveOver], by simp [rqt'], by simp [inHand'], by simp [rqt', runs, run], by simp [rqt', records]⟩
      · rw [orderStop_waking (moves move) ramp (by simp [st, waking])]
        obtain ⟨rqt, inHand⟩ := disposeHalted_run (s := { w.st with trc.move := none, rqt.stopReason := .halt }) (by simp [st, grant])
        have rqt' : (haltWaking w.st).rqt = _ := rqt
        have inHand' : (haltWaking w.st).gtu.inHand = none := inHand
        exact ⟨by simp [haltWaking], by simp [rqt'], by simp [inHand'], by simp [rqt', runs, run], by simp [rqt', records]⟩
    · have stops : haltTransport w = w.upd fun s => { setMotion .decel s with trc.move := some { m with ramp := .stop } } := by
        simp only [haltTransport, moves move, if_pos job]
        rw [if_pos ⟨ramp, by simp [st, moving]⟩]
      rw [stops]
      simp [st]
  · have stops : onStopRampRest s = finish (examine (beginRewind ((Ctx.start s).upd moveOver))) := by
      simp only [onStopRampRest, move, moving, ramp, if_pos job, if_true]
    have waits : beginRewind ((Ctx.start s).upd moveOver) =
        (Ctx.start s).upd fun s => { setMotion .idle (moveOver s) with trc.move := none, trc.speed := 0 } := by
      unfold beginRewind
      rw [if_pos (by simp [halted])]
      rfl
    rw [exec_stopRampRest, stops, waits, examine_none (opportunity_halted (by simp [halted]))]
    exact ⟨_, rfl, by simp, by simp, by simp [rewinding], by simp, by simp, by simp, by simp⟩

end Sys2Proof.Machine
end

section
/-! SUPPORT. The lens stage comes to rest (R90, R91, R96, R142, R144). -/

namespace Sys2Proof.Machine

/-! ### A held lens move (R90) -/

theorem beginHeld_none {w : Ctx} (none : w.st.fcc.held = none) : beginHeld w = w := by
  simp only [beginHeld, none]

theorem beginHeld_some {w : Ctx} {h : LensMove} (held : w.st.fcc.held = some h) (idle : w.st.fcc.stage = .idle) :
    beginHeld w = orderLens h (w.upd fun s => { s with fcc.held := none }) := by
  simp only [beginHeld, held, idle, if_true]

theorem orderLens_begins {w : Ctx} {h : LensMove} (idle : w.st.fcc.stage = .idle) (away : h.target ≠ w.st.fcc.lens)
    (free : w.st.gtu.exposure = none) :
    orderLens h w = w.upd fun s => { s with fcc.running := some h, fcc.stage := .moving } := by
  simp [orderLens, idle, away, free]

theorem orderLens_waits {w : Ctx} {h : LensMove} (idle : w.st.fcc.stage = .idle) (away : h.target ≠ w.st.fcc.lens)
    (exposing : w.st.gtu.exposure.isSome = true) : orderLens h w = w.upd fun s => { s with fcc.held := some h } := by
  simp [orderLens, idle, away, exposing]

/-- With the stage IDLE a held move begins, waits for an exposure, or needs no motion. -/
theorem beginHeld_afterLens {w : Ctx} (idle : w.st.fcc.stage = .idle) (rests : w.st.fcc.running = none) :
    w.st.afterLens (beginHeld w).st := by
  refine ⟨by simp, by simp, by simp, by simp, by simp, by simp, fun none => ?_, fun h held away free => ?_, fun h held away exposing => ?_⟩
  · rw [beginHeld_none none]
    exact ⟨idle, rests, none⟩
  · have away' : h.target ≠ w.st.fcc.lens := by simpa using away
    rw [beginHeld_some held idle, orderLens_begins (by simp [idle]) (by simpa using away') (by simp [free])]
    simp
  · have away' : h.target ≠ w.st.fcc.lens := by simpa using away
    rw [beginHeld_some held idle, orderLens_waits (by simp [idle]) (by simpa using away') (by simpa using exposing)]
    simp [idle]

/-- What `afterLens` looks at before the motion. -/
theorem afterLens_of_same {s u t : State} (lines : u.fcc.lines = s.fcc.lines) (lru : u.fcc.lru = s.fcc.lru) (sweep : u.fcc.sweep = s.fcc.sweep)
    (counter : u.trc.counter = s.trc.counter) (fit : u.fit = s.fit) (exposure : u.gtu.exposure = s.gtu.exposure)
    (held : u.fcc.held = s.fcc.held) (after : u.afterLens t) : s.afterLens t := by
  simpa only [State.afterLens, lines, lru, sweep, counter, fit, exposure, held] using after

/-- The end of the command leaves what the end of a lens motion left. -/
theorem finish_afterLens {s : State} {w : Ctx} (after : s.afterLens w.st) : s.afterLens (finish w) := by
  simpa only [State.afterLens, finish_frame] using after

/-! ### The presentation of a grant in FOCUSING (R142, R144) -/

theorem focusReady_presents {src : FocusSource} {w : Ctx} {g : InHand} (phase : w.st.gtu.phase = .focusing)
    (inHand : w.st.gtu.inHand = some g) (free : w.st.gtu.exposure = none) : focusReady src w = makePresentation src w := by
  simp [focusReady, phase, inHand, free]

theorem makePresentation_gtu (src : FocusSource) {w : Ctx} {g : InHand} (inHand : w.st.gtu.inHand = some g) :
    (makePresentation src w).st.gtu = { w.st.gtu with
      presentation := some ⟨g.holder, g.frame, w.st.trc.epoch, src, g.hold.getD w.st.profile.holdTime, .none⟩
      phase := .presented
      watches := w.st.gtu.watches.set g.holder.port true
      hold := some (g.hold.getD w.st.profile.holdTime)
      inHand := none
      heldReport := none } := by
  simp only [makePresentation, inHand]
  cases g.holder <;> simp [setRecState, presentRun]

/-! ### The lens stage comes to rest (R90, R91) -/

/-- The stepper stands at its target. -/
def lensAtTarget (mv : LensMove) (s : State) : State :=
  { s with fcc.lens := mv.target, fcc.stage := .idle, fcc.running := none, lensRead := none }

theorem onLensMoveComplete_eq {mv : LensMove} {s : State} (stage : s.fcc.stage = .moving) (running : s.fcc.running = some mv) :
    onLensMoveComplete s = finish (beginHeld (lensDone mv.purpose ((Ctx.start s).upd (lensAtTarget mv)))) := by
  simp only [onLensMoveComplete, stage, running]
  rfl

/-- Settles O25: at rest a held move follows (`beginHeld_afterLens`), and with none what the move was for (`lensDone`). -/
theorem lensStageComesToRest : Obligations.LensStageComesToRest := by
  refine ⟨fun mv s stage running => ?_, fun s stage running live => ?_⟩
  · rw [exec_lensMoveComplete, onLensMoveComplete_eq stage running]
    have stands : ((Ctx.start s).upd (lensAtTarget mv)).st = lensAtTarget mv s := rfl
    generalize hw : (Ctx.start s).upd (lensAtTarget mv) = w at *
    have after := beginHeld_afterLens (w := lensDone mv.purpose w) (by simp [stands, lensAtTarget]) (by simp [stands, lensAtTarget])
    refine ⟨_, rfl, by simp [stands, lensAtTarget], finish_afterLens (afterLens_of_same ?_ ?_ ?_ ?_ ?_ ?_ ?_ after),
      fun purpose none => ?_, fun purpose none sweep => ?_, fun src g purpose none phase inHand free => ?_⟩
    case refine_8 =>
      rw [beginHeld_none (by simp [stands, lensAtTarget, none]), purpose]
      simp [lensDone, stands, lensAtTarget]
    case refine_9 =>
      rw [beginHeld_none (by simp [stands, lensAtTarget, none]), purpose]
      simp [lensDone, stands, lensAtTarget, sweep]
    case refine_10 =>
      have held : w.st.gtu.inHand = some g := by simp [stands, lensAtTarget, inHand]
      rw [beginHeld_none (by simp [stands, lensAtTarget, none]), purpose, lensDone,
        focusReady_presents (by simp [stands, lensAtTarget, phase]) held (by simp [stands, lensAtTarget, free])]
      have gtu := makePresentation_gtu src held
      have profile : w.st.profile = s.profile := by simp [stands, lensAtTarget, State.profile]
      have epoch : w.st.trc.epoch = s.trc.epoch := by simp [stands, lensAtTarget]
      refine ⟨by simp [gtu, profile, epoch], ?_, by simp [gtu], by simp [gtu, profile], by simp [gtu]⟩
      rw [finish_phase (by simp [gtu]), gtu]
    all_goals simp [stands, lensAtTarget]
  · have homed : onLensHomingComplete s = finish (beginHeld ((Ctx.start s).upd fun s => { s with fcc.lens := 0, fcc.stage := .idle })) :=
      if_pos ⟨stage, live⟩
    rw [exec_lensHomingComplete, homed]
    have after := beginHeld_afterLens (w := (Ctx.start s).upd fun s => { s with fcc.lens := 0, fcc.stage := .idle }) rfl running
    exact ⟨_, rfl, by simp, finish_afterLens after⟩

end Sys2Proof.Machine
end

section
/-! SUPPORT. The ends of exposures and of presentations that nobody ended (R146, R150, R156, R157, R172, R173). -/

namespace Sys2Proof.Machine

/-! ### Ends of presentations (R151, R173) -/

theorem endPresentation_gone (o : PresEnd) (w : Ctx) : (endPresentation o w).st.gtu.presentation = none := by
  unfold endPresentation
  split
  · assumption
  · dsimp only
    split <;> simp [clearPresentation]

theorem completeRunOnly_sends {w : Ctx} {x : Run} (run : w.st.rqt.run = some x) (o : OutcomeCode) :
    (completeRunOnly o w).sends = w.sends ++ [(.a, replyMsg x.tag 4 (o.code :: runResults x))] := by
  simp [completeRunOnly, run, complete]

theorem completeRun_sends {w : Ctx} {x : Run} (run : w.st.rqt.run = some x) (o : OutcomeCode) :
    (.a, replyMsg x.tag 4 (o.code :: runResults x)) ∈ (completeRun o w).sends :=
  (examineBarriers_grows (loud := []) (completeRunOnly o w) .a).mem (by simp [completeRunOnly_sends run])

theorem completeRun_run (o : OutcomeCode) (w : Ctx) : (completeRun o w).st.rqt.run = none := by
  simp [completeRun, completeRunOnly_run]

theorem run_none_of_keeps {s t : State} (keeps : Keeps s t) (empty : s.rqt.run = none) : t.rqt.run = none := by
  cases run : t.rqt.run with
  | none => rfl
  | some y =>
    obtain ⟨x, held, -⟩ := keeps.run y run
    rw [empty] at held
    cases held

/-! ### The end of an exposure (R150, R156, R157) -/

/-- Without a grant in FOCUSING a lens move that comes to rest shows nothing. -/
theorem focusReady_other {w : Ctx} (other : w.st.gtu.phase ≠ .focusing) (src : FocusSource) : focusReady src w = w :=
  if_neg fun h => other h.1

theorem lensDone_gtu {w : Ctx} (other : w.st.gtu.phase ≠ .focusing) (p : LensPurpose) : (lensDone p w).st.gtu = w.st.gtu := by
  cases p with
  | sample =>
    unfold lensDone
    dsimp only
    split <;> rfl
  | final src => rw [lensDone, focusReady_other other]
  | dropped => rfl

theorem orderLens_gtu {w : Ctx} (other : w.st.gtu.phase ≠ .focusing) (mv : LensMove) : (orderLens mv w).st.gtu = w.st.gtu := by
  unfold orderLens
  split
  · rfl
  · split
    · exact lensDone_gtu other _
    · split <;> rfl

theorem beginHeld_gtu {w : Ctx} (other : w.st.gtu.phase ≠ .focusing) : (beginHeld w).st.gtu = w.st.gtu := by
  unfold beginHeld
  split
  · rfl
  · split
    · rw [orderLens_gtu (by simpa using other)]
      rfl
    · rfl

/-- What the completion of an EXPOSE and the deferred end of its presentation leave. -/
def exposureOver (e : Exposure) (o : OutcomeCode) (w : Ctx) : Ctx :=
  if e.withPresentation then afterExposure ((completeExpose e o w).upd dropExposure) else (completeExpose e o w).upd dropExposure

/-- A report of focus that an exposure held goes on. -/
def reportHeld (w : Ctx) : Ctx :=
  match w.st.gtu.heldReport with
  | some src => focusReady src (w.upd fun s => { s with gtu.heldReport := none })
  | none => w

theorem endExposure_eq {w : Ctx} {e : Exposure} (exposure : w.st.gtu.exposure = some e) (o : OutcomeCode) :
    endExposure o w = beginHeld (reportHeld (exposureOver e o w)) := by
  simp only [endExposure, exposure]
  rfl

theorem reportHeld_none {w : Ctx} (none : w.st.gtu.heldReport = none) : reportHeld w = w := by
  simp only [reportHeld, none]

@[simp] theorem reportHeld_frame (w : Ctx) :
    (reportHeld w).st.gtu.exposure = w.st.gtu.exposure ∧ (reportHeld w).st.gtu.trig = w.st.gtu.trig ∧
    (reportHeld w).st.fcc = w.st.fcc := by
  unfold reportHeld
  split <;> simp

theorem exposureOver_exposure (e : Exposure) (o : OutcomeCode) (w : Ctx) :
    (exposureOver e o w).st.gtu.exposure = none ∧ (exposureOver e o w).st.gtu.trig = false := by
  unfold exposureOver
  split <;> simp [dropExposure]

theorem endExposure_exposure (o : OutcomeCode) {w : Ctx} {e : Exposure} (exposure : w.st.gtu.exposure = some e) :
    (endExposure o w).st.gtu.exposure = none ∧ (endExposure o w).st.gtu.trig = false := by
  simp [endExposure_eq exposure, exposureOver_exposure]

theorem completeExpose_sends (e : Exposure) (o : OutcomeCode) (w : Ctx) :
    (e.port, replyMsg e.tag 12 (o.code :: (beFrame e.frame ++ be 2 e.epoch.toNat))) ∈ (completeExpose e o w).sends := by
  simp [completeExpose, complete, TimedKind.code]

theorem endExposure_sends {w : Ctx} {e : Exposure} (exposure : w.st.gtu.exposure = some e) (o : OutcomeCode) :
    (e.port, replyMsg e.tag 12 (o.code :: (beFrame e.frame ++ be 2 e.epoch.toNat))) ∈ (endExposure o w).sends := by
  have dropped : (completeExpose e o w).Grows [.presented] ((completeExpose e o w).upd dropExposure) := upd_grows _ _
  have ended : (completeExpose e o w).Grows [.presented] (exposureOver e o w) := .ite (dropped.trans (afterExposure_grows _)) dropped
  have reported : (completeExpose e o w).Grows [.presented] (reportHeld (exposureOver e o w)) := by
    unfold reportHeld
    split
    · exact (ended.trans (upd_grows _ _)).trans (focusReady_grows (by simp) _ _)
    · exact ended
  rw [endExposure_eq exposure]
  exact (reported.trans (beginHeld_grows (by simp) _)).mem (completeExpose_sends e o w)

/-- A presentation that was exposed without a deferred end is PRESENTED again with its full hold. -/
theorem exposureOver_again {w : Ctx} {e : Exposure} {x : Presentation} (with_ : e.withPresentation = true)
    (shown : w.st.gtu.presentation = some x) (goesOn : x.deferred = .none) (o : OutcomeCode) :
    (exposureOver e o w).st.gtu = { w.st.gtu with exposure := none, trig := false, phase := .presented, hold := some x.hold } := by
  have same : ((completeExpose e o w).upd dropExposure).st.gtu.presentation = some x := by simp [dropExposure, shown]
  simp only [exposureOver, with_, if_true, afterExposure, same, goesOn]
  simp [dropExposure]

/-- A presentation that was exposed with a deferred end is gone. -/
theorem exposureOver_deferred {w : Ctx} {e : Exposure} {x : Presentation} (with_ : e.withPresentation = true)
    (shown : w.st.gtu.presentation = some x) (deferred : x.deferred ≠ .none) (o : OutcomeCode) :
    (exposureOver e o w).st.gtu.presentation = none := by
  have same : ((completeExpose e o w).upd dropExposure).st.gtu.presentation = some x := by simp [dropExposure, shown]
  simp only [exposureOver, with_, if_true, afterExposure, same]
  split
  · exact endPresentation_gone _ _
  · exact endPresentation_gone _ _
  · exact endPresentation_gone _ _
  · exact endPresentation_gone _ _
  · rename_i none
    exact absurd none deferred

theorem opportunity_shown {s : State} (phase : s.gtu.phase ≠ .idle) : s.opportunity = false := by
  simp [State.opportunity, phase]

/-- What the end of an exposure leaves, by EXPDONE and by timeout alike. -/
theorem exposureEnd_leaves {s : State} {e : Exposure} (exposure : s.gtu.exposure = some e) (o : OutcomeCode) :
    let t := finish (examine (endExposure o (Ctx.start s)))
    t.gtu.exposure = none ∧ t.gtu.trig = false ∧ t.gtu.route = s.gtu.route ∧
    sends s t e.port (replyMsg e.tag 12 (o.code :: (beFrame e.frame ++ be 2 e.epoch.toNat))) ∧
    t.trc.counter = s.trc.counter ∧ t.fit.entries = s.fit.entries ∧ t.fcc.lines = s.fcc.lines ∧
    (∀ x, e.withPresentation = true → s.gtu.presentation = some x → x.deferred = .none → s.gtu.heldReport = none →
      t.gtu.presentation = some x ∧ t.gtu.phase = .presented ∧ t.gtu.hold = some x.hold) ∧
    (∀ x, e.withPresentation = true → s.gtu.presentation = some x → x.deferred ≠ .none → s.gtu.heldReport = none →
      s.fcc.held = none → t.gtu.presentation = none) := by
  intro t
  obtain ⟨dropped, trig⟩ := endExposure_exposure o (w := Ctx.start s) exposure
  have sent := (examine_grows (loud := []) (endExposure o (Ctx.start s))).mem (endExposure_sends exposure o)
  refine ⟨by simp [t, dropped], by simp [t, trig], by simp [t], sends_finish (by simp) sent, by simp [t], by simp [t], by simp [t],
    fun x with_ shown goesOn quiet => ?_, fun x with_ shown deferred quiet free => ?_⟩
  · have again := exposureOver_again (w := Ctx.start s) with_ shown goesOn o
    have gtu : (endExposure o (Ctx.start s)).st.gtu = (exposureOver e o (Ctx.start s)).st.gtu := by
      rw [endExposure_eq exposure, reportHeld_none (by simp [again, quiet]), beginHeld_gtu (by simp [again])]
    rw [again] at gtu
    simp only [t]
    rw [examine_none (opportunity_shown (by simp [gtu]))]
    refine ⟨by simp [gtu, shown], ?_, by simp [gtu]⟩
    rw [finish_phase_stays (by simp [gtu]) (by simp [gtu]), gtu]
  · have gone := exposureOver_deferred (w := Ctx.start s) with_ shown deferred o
    have fcc : (exposureOver e o (Ctx.start s)).st.fcc.held = none := by
      unfold exposureOver
      split <;> simp [dropExposure, free]
    have report : (exposureOver e o (Ctx.start s)).st.gtu.heldReport = none := by
      unfold exposureOver
      split <;> simp [dropExposure, quiet]
    simp only [t]
    rw [endExposure_eq exposure, reportHeld_none report, beginHeld_none fcc]
    simpa using gone

/-- Settles O50: both ends of an exposure leave the same (`exposureEnd_leaves`), and without one they are ignored. -/
theorem exposureEnds : Obligations.ExposureEnds := by
  refine fun s => ⟨fun none => ?_, fun e exposure => ?_⟩
  · simp [onExpdoneRising, onExposureTimerExpiry, none]
  · have taken : onExpdoneRising s = finish (examine (endExposure .done (Ctx.start s))) := by simp [onExpdoneRising, exposure]
    have expired : onExposureTimerExpiry s = finish (examine (endExposure .exposeTimeout (Ctx.start s))) := by
      simp [onExposureTimerExpiry, exposure]
    rw [exec_expdoneRising, exec_exposureTimerExpiry, taken, expired]
    obtain ⟨tExposure, tTrig, tRoute, tSends, tCounter, tEntries, tLines, tAgain, tDeferred⟩ := exposureEnd_leaves exposure .done
    obtain ⟨uExposure, uTrig, uRoute, uSends, uCounter, uEntries, uLines, uAgain, uDeferred⟩ := exposureEnd_leaves exposure .exposeTimeout
    refine ⟨_, _, rfl, rfl, tExposure, uExposure, tTrig, uTrig, tRoute, uRoute, tSends, uSends, tCounter, uCounter, tEntries, uEntries, tLines, uLines, fun x with_ shown goesOn quiet => ?_,
      fun x with_ shown deferred quiet free => ⟨tDeferred x with_ shown deferred quiet free, uDeferred x with_ shown deferred quiet free⟩⟩
    obtain ⟨tShown, tPhase, tHold⟩ := tAgain x with_ shown goesOn quiet
    exact ⟨tShown, tPhase, tHold, uAgain x with_ shown goesOn quiet⟩

/-! ### The hold timer (R146, R172, R173) -/

theorem endPresentation_record {o : PresEnd} {c : OutcomeCode} {w : Ctx} {x : Presentation} {p : Port} {t : Byte}
    (shown : w.st.gtu.presentation = some x) (holder : x.holder = .record p t)
    (ends : (o, c) ∈ [(.taken, .taken), (.released, .released), (.lapsed, .lapsed), (.cancelled, .cancelled)]) :
    endPresentation o w = completeTag p t c (w.upd clearPresentation) := by
  simp only [List.mem_cons, Prod.mk.injEq, List.not_mem_nil, or_false] at ends
  rcases ends with ⟨rfl, rfl⟩ | ⟨rfl, rfl⟩ | ⟨rfl, rfl⟩ | ⟨rfl, rfl⟩ <;> simp only [endPresentation, shown, holder]

theorem endPresentation_run {o : PresEnd} {c : OutcomeCode} {w : Ctx} {x : Presentation} {t : Byte}
    (shown : w.st.gtu.presentation = some x) (holder : x.holder = .run t) (ends : (o, c) ∈ [(.lapsed, .lapsed), (.cancelled, .cancelled)]) :
    endPresentation o w = completeRun c (w.upd clearPresentation) := by
  simp only [List.mem_cons, Prod.mk.injEq, List.not_mem_nil, or_false] at ends
  rcases ends with ⟨rfl, rfl⟩ | ⟨rfl, rfl⟩ <;> simp only [endPresentation, shown, holder]

theorem endPresentation_gtu {w : Ctx} {x : Presentation} (shown : w.st.gtu.presentation = some x) (o : PresEnd) :
    (endPresentation o w).st.gtu.hold = none ∧ (endPresentation o w).st.gtu.phase = .idle := by
  simp only [endPresentation, shown]
  split <;> simp [clearPresentation]

theorem examineBarriersN_grant_none {w : Ctx} (none : w.st.rqt.grant = .none) (n : Nat) (p : Port) :
    (examineBarriersN n p w).st.rqt.grant = .none := by
  induction n generalizing w with
  | zero => exact none
  | succ n ih =>
    unfold examineBarriersN
    split
    · exact ih (by simp [completeRecordOnly_grant, none])
    · exact none

theorem completeTag_grant_none {w : Ctx} {p : Port} {t : Byte} {r : Record} (found : w.st.findRecord p t = some r)
    (grant : w.st.rqt.grant = .record p t) (o : OutcomeCode) : (completeTag p t o w).st.rqt.grant = .none := by
  obtain ⟨-, rfl, rfl⟩ := findRecord_eq_some found
  rw [completeTag_eq found]
  exact examineBarriersN_grant_none (by simp [completeRecordOnly_grant, grant]) _ _

theorem completeRun_grant_none {w : Ctx} {x : Run} (run : w.st.rqt.run = some x) (grant : w.st.rqt.grant = .run) (o : OutcomeCode) :
    (completeRun o w).st.rqt.grant = .none :=
  examineBarriersN_grant_none (by simp [completeRunOnly, run, removeRun, grant]) _ _

/-- LAPSED latches on the port of the holder, and the presentation ends. -/
def lapsing (x : Presentation) (s : State) : Ctx := pulse .lapsed x.holder.port ([x.holder.tag] ++ be 2 x.frame) (Ctx.start s)

theorem onHoldTimerExpiry_eq {x : Presentation} {s : State} (shown : s.gtu.presentation = some x) (phase : s.gtu.phase = .presented)
    (hold : s.gtu.hold.isSome = true) : onHoldTimerExpiry s = finish (examine (endPresentation .lapsed (lapsing x s))) := by
  simp only [onHoldTimerExpiry, shown, phase, hold]
  rfl

/-- What a lapse leaves, whoever holds the presentation. -/
theorem lapse_leaves {x : Presentation} {s : State} (shown : s.gtu.presentation = some x) :
    let t := finish (examine (endPresentation .lapsed (lapsing x s)))
    t.gtu.presentation = none ∧ t.gtu.hold = none ∧ t.fit.entries = s.fit.entries ∧ t.trc.counter = s.trc.counter ∧ t.fcc = s.fcc ∧
    (s.rqt.halted = true → t.gtu.phase = .idle ∧ t.gtu.watches = s.gtu.watches ∧ t.trc.motion = s.trc.motion ∧
      t.rqt.grant = (endPresentation .lapsed (lapsing x s)).st.rqt.grant) ∧
    ((s.slot x.holder.port .lapsed).enabled = true → ∃ l, (t.slot x.holder.port .lapsed).latch = some l ∧
      l.data = pad8 ([x.holder.tag] ++ be 2 x.frame)) := by
  intro t
  have shown' : (lapsing x s).st.gtu.presentation = some x := shown
  obtain ⟨hold, phase⟩ := endPresentation_gtu shown' .lapsed
  have gone := endPresentation_gone .lapsed (lapsing x s)
  have st : (lapsing x s).st = s := rfl
  refine ⟨by simp [t, gone], by simp [t, hold], by simp [t, st], by simp [t, st], by simp [t, st], fun halted => ?_, fun enabled => ?_⟩
  · simp only [t]
    rw [examine_none (opportunity_halted (by simp [st, halted]))]
    refine ⟨?_, by simp [st], by simp [st], by simp⟩
    rw [finish_phase_stays (by simp [phase]) (by simp [phase]), phase]
  · have grows : (lapsing x s).Grows [] (examine (endPresentation .lapsed (lapsing x s))) :=
      (endPresentation_grows _ _).trans (examine_grows _)
    have data : ∀ o ∈ (lapsing x s).occs, o.port = x.holder.port → o.source = .lapsed → o.data = pad8 ([x.holder.tag] ++ be 2 x.frame) := by
      simp [lapsing, Ctx.start]
    exact latch_finish (by simpa [st] using enabled) (grows.data rfl (by simp) data) (grows.mem_occs (by simp [lapsing, Ctx.start]))

/-- Settles O51: the presentation ends (`lapse_leaves`), and its record or the run completes LAPSED. -/
theorem holdExpiryLapsesThePresentation : Obligations.HoldExpiryLapsesThePresentation := by
  refine ⟨fun p tag x y s shown holder phase hold found => ?_, fun tag x y s shown holder phase hold run => ?_⟩
  · rw [exec_holdTimerExpiry, onHoldTimerExpiry_eq shown phase hold]
    have completes := endPresentation_record (w := lapsing x s) (o := .lapsed) (c := .lapsed) shown holder (by simp)
    obtain ⟨gone, stopped, entries, counter, fcc, halts, latch⟩ := lapse_leaves shown
    have found' : ((lapsing x s).upd clearPresentation).st.findRecord p tag = some y := found
    have recordGone := (completeTag_gone p tag .lapsed ((lapsing x s).upd clearPresentation)).of_keeps (examine_keeps _)
    have sent := (examine_grows (loud := []) (completeTag p tag .lapsed ((lapsing x s).upd clearPresentation))).mem
      (completeTag_sends found' .lapsed)
    rw [← completes] at recordGone sent
    refine ⟨_, rfl, gone, stopped, by simpa only [finish_frame, State.gone] using recordGone, sends_finish (by simp [lapsing]) sent, entries, counter, fcc,
      fun halted => ?_, fun halted => ⟨(halts halted).2.1, (halts halted).2.2.1⟩, ?_⟩
    · by_cases grant : s.rqt.grant = .record p tag
      · obtain ⟨idle, -, -, same⟩ := halts halted
        exact .inl ⟨idle, same.trans (completes ▸ completeTag_grant_none found' grant .lapsed)⟩
      · exact .inr grant
    · simpa [holder, Holder.port, Holder.tag] using latch
  · rw [exec_holdTimerExpiry, onHoldTimerExpiry_eq shown phase hold]
    have completes := endPresentation_run (w := lapsing x s) (o := .lapsed) (c := .lapsed) shown holder (by simp)
    obtain ⟨gone, stopped, entries, counter, fcc, halts, latch⟩ := lapse_leaves shown
    have run' : ((lapsing x s).upd clearPresentation).st.rqt.run = some y := run
    have slot := run_none_of_keeps (examine_keeps (completeRun .lapsed ((lapsing x s).upd clearPresentation))) (completeRun_run _ _)
    have sent := (examine_grows (loud := []) (completeRun .lapsed ((lapsing x s).upd clearPresentation))).mem
      (completeRun_sends run' .lapsed)
    rw [← completes] at slot sent
    refine ⟨_, rfl, gone, stopped, by simpa using slot, sends_finish (by simp [lapsing]) sent, entries, counter, fcc, fun halted => ?_, ?_⟩
    · obtain ⟨idle, watches, motion, same⟩ := halts halted
      exact ⟨idle, watches, motion, fun grant => same.trans (completes ▸ completeRun_grant_none run' grant .lapsed)⟩
    · simpa [holder, Holder.port, Holder.tag] using latch

end Sys2Proof.Machine
end

section
/-! SUPPORT. TAKE and RELEASE (R147 to R151, R171, R173). -/

namespace Sys2Proof.Machine

/-! ### Which presentation a TAKE or RELEASE ends (R149, R150) -/

theorem endable_none {s : State} {p : Port} {t : Byte}
    (other : ∀ x, s.gtu.presentation = some x → ¬(x.holder.port = p ∧ x.holder.tag = t)) : s.endable p t = none := by
  unfold State.endable
  split
  · rename_i x shown
    exact if_neg fun h => other x shown ⟨h.1, h.2.1⟩
  · rfl

theorem endable_some {s : State} {p : Port} {t : Byte} {x : Presentation} (shown : s.gtu.presentation = some x)
    (port : x.holder.port = p) (tag : x.holder.tag = t) (phase : s.gtu.phase = .presented ∨ s.gtu.phase = .exposing ∧ x.deferred = .none) :
    s.endable p t = some x := by
  simp only [State.endable, shown]
  exact if_pos ⟨port, tag, phase⟩

section requests
variable {r : Request} {tag : Byte} {s : State} (takes : s.takesNow r) (body : r.body = [tag])
include takes body

theorem take_performed : exec (.take r) s = .next (releaseAll (requestEnv 9 r) (doTake (requestEnv 9 r) tag s)) := by
  rw [exec_take, requestArrives_performed 9 .take rfl takes (.inr rfl) (by rw [body]; rfl) rfl (.inl rfl) (by rw [body]; rfl) rfl rfl]
  rfl

theorem release_performed : exec (.release r) s = .next (releaseAll (requestEnv 10 r) (doRelease (requestEnv 10 r) tag s)) := by
  rw [exec_release, requestArrives_performed 10 .release rfl takes (.inr rfl) (by rw [body]; rfl) rfl (.inl rfl) (by rw [body]; rfl)
    rfl rfl]
  rfl

end requests

section ended
variable {e : Env} {t : Byte} {s : State} {x : Presentation} (ends : s.endable e.port t = some x)
include ends

theorem doTake_exposing (phase : s.gtu.phase = .exposing) :
    doTake e t s = finish (((e.reply .done [] (Ctx.start s)).upd (markTaken x.frame)).upd (setDeferred x .taken)) := by
  simp only [doTake, ends, phase, if_true]

theorem doRelease_exposing (phase : s.gtu.phase = .exposing) :
    doRelease e t s = finish ((e.reply .done [] (Ctx.start s)).upd (setDeferred x .released)) := by
  simp only [doRelease, ends, phase, if_true]

theorem doTake_presented (phase : s.gtu.phase = .presented) :
    doTake e t s = finish (examine (endPresentation .taken ((e.reply .done [] (Ctx.start s)).upd (markTaken x.frame)))) := by
  simp only [doTake, ends, phase]
  rfl

theorem doRelease_presented (phase : s.gtu.phase = .presented) :
    doRelease e t s = finish (examine (endPresentation .released (e.reply .done [] (Ctx.start s)))) := by
  simp only [doRelease, ends, phase]
  rfl

end ended

theorem sends_releaseAll {e : Env} {s t : State} {p : Port} {m : OutMsg} (sent : sends s t p m) : sends s (releaseAll e t) p m := by
  simpa [sends] using sent

/-- A command that leaves the gate phase where no move follows it leaves the gate as its work left it. -/
theorem finish_gtu_stays {w : Ctx} (positioning : w.st.gtu.phase ≠ .positioning) (settling : w.st.gtu.phase ≠ .settling) :
    (finish w).gtu = w.st.gtu := by
  rw [finish, syncPhase_stays (by simpa using positioning) (by simpa using settling)]
  simp

/-! ### The end of a record's presentation (R147, R148) -/

/-- What a TAKE or RELEASE of a record's frame leaves; `w` is the command with its answer and the TAKEN mark. -/
theorem recordEnds {o : PresEnd} {c : OutcomeCode} {s : State} {w : Ctx} {x : Presentation} {y : Record} {p : Port} {t : Byte}
    (gtu : w.st.gtu = s.gtu) (rqt : w.st.rqt = s.rqt) (trc : w.st.trc = s.trc) (lnk : w.st.lnk = s.lnk)
    (shown : s.gtu.presentation = some x) (holder : x.holder = .record p t) (found : s.findRecord p t = some y)
    (ends : (o, c) ∈ [(.taken, .taken), (.released, .released), (.lapsed, .lapsed), (.cancelled, .cancelled)]) :
    let u := finish (examine (endPresentation o w))
    u.gtu.presentation = none ∧ u.gtu.hold = none ∧ u.fit.entries = w.st.fit.entries ∧ u.trc.counter = s.trc.counter ∧
    u.fcc = w.st.fcc ∧ (∀ z ∈ u.rqt.records, ¬(z.port = p ∧ z.tag = t)) ∧
    sends s u p (replyMsg t y.work.code (c.code :: s.recordResults y)) := by
  intro u
  have shown' : w.st.gtu.presentation = some x := by rw [gtu, shown]
  have completes := endPresentation_record shown' holder ends
  obtain ⟨hold, -⟩ := endPresentation_gtu shown' o
  have found' : (w.upd clearPresentation).st.findRecord p t = some y := by
    rw [findRecord_of_rqt (s := s) (by simp [clearPresentation, rqt])]
    exact found
  have gone := (completeTag_gone p t c (w.upd clearPresentation)).of_keeps (examine_keeps _)
  have sent := (examine_grows (loud := []) (completeTag p t c (w.upd clearPresentation))).mem (completeTag_sends found' c)
  have results : (w.upd clearPresentation).st.recordResults y = s.recordResults y := by
    simp [State.recordResults, clearPresentation, trc]
  obtain ⟨-, -, tag⟩ := findRecord_eq_some found
  rw [← completes] at gone sent
  rw [results, tag] at sent
  exact ⟨by simp [u, endPresentation_gone], by simp [u, hold], by simp [u], by simp [u, trc], by simp [u],
    by simpa only [u, finish_frame, State.gone] using gone, sends_finish (by simp [lnk]) sent⟩

/-! ### A run's frame (R171, R173) -/

/-- The run after a frame: the next one, and one fewer to come. -/
def Run.after (y : Run) (n : Nat) : Run := { y with next := n + 1, remaining := y.remaining.map (· - 1) }

theorem runAdvance_last {w : Ctx} {y : Run} {n : Nat} (run : w.st.rqt.run = some y) (last : y.remaining = some 1) :
    runAdvance n w = completeRun .complete (w.upd fun s => { s with rqt.run := some (y.after n) }) := by
  simp [runAdvance, run, last, Run.after]

theorem runAdvance_next {w : Ctx} {y : Run} {n : Nat} (run : w.st.rqt.run = some y) (more : ∀ k, y.remaining = some k → 2 ≤ k)
    (skip : y.skipTaken = false) (opened : w.st.fit.index = .opened) (low : n < 16383) :
    runAdvance n w = w.upd fun s =>
      { s with rqt.run := some { y.after n with state := .ready }, rqt.grant := .none, trc.timers.park := none } := by
  have left : y.remaining.map (· - 1) ≠ some 0 := by
    cases remaining : y.remaining with
    | none => simp
    | some k =>
      have := more k remaining
      simp
      omega
  have room : ¬n + 1 = 16384 := by omega
  simp [runAdvance, run, left, chooseRunFrame, skip, State.runExhausted, State.indexShut, opened, Run.after, setRunState, Ctx.upd,
    Config.maxEntries, room]

theorem endPresentation_runFrame {o : PresEnd} {w : Ctx} {x : Presentation} {t : Byte} (shown : w.st.gtu.presentation = some x)
    (holder : x.holder = .run t) (ends : o = .taken ∨ o = .released) :
    endPresentation o w = runAdvance x.frame (w.upd clearPresentation) := by
  rcases ends with rfl | rfl <;> simp only [endPresentation, shown, holder]

/-- What a TAKE or RELEASE of a run's frame leaves while HALTED is set; `w` is the command with its answer and the TAKEN mark. -/
theorem runFrameEnds {o : PresEnd} {s : State} {w : Ctx} {x : Presentation} {y : Run} {t : Byte}
    (gtu : w.st.gtu = s.gtu) (rqt : w.st.rqt = s.rqt) (lnk : w.st.lnk = s.lnk) (index : w.st.fit.index = .opened)
    (shown : s.gtu.presentation = some x) (holder : x.holder = .run t) (run : s.rqt.run = some y) (skip : y.skipTaken = false)
    (low : x.frame < 16383) (halted : s.rqt.halted = true) (ends : o = .taken ∨ o = .released) :
    let u := finish (examine (endPresentation o w))
    u.gtu.presentation = none ∧ u.fit.entries = w.st.fit.entries ∧
    (y.remaining = some 1 → u.rqt.run = none ∧
      sends s u .a (replyMsg y.tag 4 (73 :: (be 2 y.presented ++ beFrame y.last ++ be 2 (x.frame + 1) ++ [0, 0, 0])))) ∧
    ((∀ n, y.remaining = some n → 2 ≤ n) →
      u.rqt.run = some { y with next := x.frame + 1, remaining := y.remaining.map (· - 1), state := .ready } ∧
      u.rqt.grant = .none) := by
  intro u
  have advances := endPresentation_runFrame (w := w) (by rw [gtu, shown]) holder ends
  have run' : (w.upd clearPresentation).st.rqt.run = some y := by simp [clearPresentation, rqt, run]
  have waits : examine (endPresentation o w) = endPresentation o w := examine_none (opportunity_halted (by simp [rqt, halted]))
  have stays : u = finish (endPresentation o w) := congrArg finish waits
  refine ⟨by simp [u, endPresentation_gone], by simp [u], fun last => ?_, fun more => ?_⟩
  · have sent := completeRun_sends (w := (w.upd clearPresentation).upd fun s => { s with rqt.run := some (y.after x.frame) }) rfl .complete
    rw [← runAdvance_last run' last, ← advances] at sent
    have results : OutcomeCode.complete.code :: runResults (y.after x.frame) =
        73 :: (be 2 y.presented ++ beFrame y.last ++ be 2 (x.frame + 1) ++ [0, 0, 0]) := by
      simp [runResults, Run.after, last, be_three]
      rfl
    rw [results] at sent
    rw [stays]
    refine ⟨?_, sends_finish (by simp [lnk]) sent⟩
    rw [advances, runAdvance_last run' last]
    simp [completeRun_run]
  · rw [stays, advances, runAdvance_next run' more skip (by simpa [clearPresentation] using index) low]
    simp [Run.after]

/-- Settles O48: which presentation the request ends (`endable_some`), and what its end leaves (`recordEnds`, `runFrameEnds`). -/
theorem takeAndReleaseEndThePresentation : Obligations.TakeAndReleaseEndThePresentation := by
  intro r tag s takes body
  rw [take_performed takes body, release_performed takes body]
  refine ⟨fun other => ?_, fun x shown port same phase goesOn => ?_, fun x y shown holder phase found code => ?_,
    fun x y shown holder port phase run skip opened low halted => ?_⟩
  · have nobody := endable_none (p := sourcePort r.source) (t := tag) other
    have nobody9 : s.endable (requestEnv 9 r).port tag = none := nobody
    have nobody10 : s.endable (requestEnv 10 r).port tag = none := nobody
    simp only [doTake, doRelease, nobody9, nobody10, releaseAll_refuse]
    exact ⟨trivial, trivial⟩
  · have ends := endable_some shown port same (.inr ⟨phase, goesOn⟩)
    rw [doTake_exposing ends phase, doRelease_exposing ends phase]
    refine ⟨_, _, rfl, rfl, answersFirst_finish (loud := []) (u := Ctx.start s) rfl ((upd_grows _ _).trans (upd_grows _ _)) (by simp [setDeferred, markTaken]),
      answersFirst_finish (loud := []) (u := Ctx.start s) rfl (upd_grows _ _) (by simp [setDeferred]), ?_, ?_, ?_, ?_, ?_, ?_, ?_, ?_⟩
    · rw [(releaseAll_frame _ _).2.2.2.2.2.2.2.2.2.1, finish_gtu_stays] <;> simp [setDeferred, markTaken, phase]
    · rw [(releaseAll_frame _ _).2.2.2.2.2.2.2.2.2.1, finish_gtu_stays] <;> simp [setDeferred, phase]
    all_goals simp [setDeferred, markTaken]
  · have ends := endable_some shown (t := tag) (p := sourcePort r.source) (by rw [holder]; rfl) (by rw [holder]; rfl) (.inl phase)
    rw [doTake_presented ends phase, doRelease_presented ends phase]
    generalize took : ((requestEnv 9 r).reply .done [] (Ctx.start s)).upd (markTaken x.frame) = v
    generalize released : (requestEnv 10 r).reply .done [] (Ctx.start s) = w
    have vst : v.st = markTaken x.frame s := by simp [← took]
    have wst : w.st = s := by simp [← released]
    obtain ⟨tGone, tHold, tEntries, tCounter, tFcc, tRecord, tSends⟩ := recordEnds (o := .taken) (c := .taken) (w := v)
      (by simp [vst, markTaken]) (by simp [vst, markTaken]) (by simp [vst, markTaken]) (by simp [vst, markTaken]) shown holder found (by simp)
    obtain ⟨uGone, uHold, uEntries, uCounter, uFcc, uRecord, uSends⟩ := recordEnds (o := .released) (c := .released) (w := w)
      (by rw [wst]) (by rw [wst]) (by rw [wst]) (by rw [wst]) shown holder found (by simp)
    have tGrows : ((requestEnv 9 r).reply .done [] (Ctx.start s)).Grows [] (examine (endPresentation .taken v)) :=
      took ▸ ((upd_grows _ _).trans (endPresentation_grows _ _)).trans (examine_grows _)
    have uGrows : ((requestEnv 10 r).reply .done [] (Ctx.start s)).Grows [] (examine (endPresentation .released w)) :=
      released ▸ (endPresentation_grows _ _).trans (examine_grows _)
    rw [code] at tSends uSends
    refine ⟨_, _, rfl, rfl, answersFirst_finish (loud := []) (u := Ctx.start s) rfl tGrows (by simp [vst, markTaken]),
      answersFirst_finish (loud := []) (u := Ctx.start s) rfl uGrows (by simp [wst]), ?_, ?_, ?_, ?_, ?_, ?_, ?_, ?_, ?_, ?_, ?_, ?_,
      sends_releaseAll tSends, sends_releaseAll uSends⟩
    · simpa using tGone
    · simpa using uGone
    · simpa using tHold
    · simpa using uHold
    · simp [vst, markTaken]
    · simp [wst]
    · simpa using tCounter
    · simpa using uCounter
    · simpa [vst, markTaken] using tFcc
    · simpa [wst] using uFcc
    · simpa using tRecord
    · simpa using uRecord
  · have ends := endable_some shown (t := tag) (p := sourcePort r.source) (by rw [holder, port]; rfl) (by rw [holder]; rfl) (.inl phase)
    rw [doTake_presented ends phase, doRelease_presented ends phase]
    generalize took : ((requestEnv 9 r).reply .done [] (Ctx.start s)).upd (markTaken x.frame) = v
    generalize released : (requestEnv 10 r).reply .done [] (Ctx.start s) = w
    have vst : v.st = markTaken x.frame s := by simp [← took]
    have wst : w.st = s := by simp [← released]
    obtain ⟨tGone, tEntries, tLast, tNext⟩ := runFrameEnds (o := .taken) (w := v) (by simp [vst, markTaken]) (by simp [vst, markTaken])
      (by simp [vst, markTaken]) (by simp [vst, markTaken, opened]) shown holder run skip low halted (.inl rfl)
    obtain ⟨uGone, uEntries, uLast, uNext⟩ := runFrameEnds (o := .released) (w := w) (by rw [wst]) (by rw [wst]) (by rw [wst])
      (by rw [wst, opened]) shown holder run skip low halted (.inr rfl)
    have tGrows : ((requestEnv 9 r).reply .done [] (Ctx.start s)).Grows [] (examine (endPresentation .taken v)) :=
      took ▸ ((upd_grows _ _).trans (endPresentation_grows _ _)).trans (examine_grows _)
    have uGrows : ((requestEnv 10 r).reply .done [] (Ctx.start s)).Grows [] (examine (endPresentation .released w)) :=
      released ▸ (endPresentation_grows _ _).trans (examine_grows _)
    refine ⟨_, _, rfl, rfl, answersFirst_finish (loud := []) (u := Ctx.start s) rfl tGrows (by simp [vst, markTaken]),
      answersFirst_finish (loud := []) (u := Ctx.start s) rfl uGrows (by simp [wst]), ?_, ?_, ?_, ?_, fun last => ?_, fun more => ?_⟩
    · simpa using tGone
    · simpa using uGone
    · simp [vst, markTaken]
    · simp [wst]
    · exact ⟨by simpa using (tLast last).1, by simpa using (uLast last).1, sends_releaseAll (tLast last).2, sends_releaseAll (uLast last).2⟩
    · obtain ⟨tRun, tGrant⟩ := tNext more
      obtain ⟨uRun, uGrant⟩ := uNext more
      exact ⟨by simpa using tRun, by simpa using uRun.trans tRun.symm, by simpa using tGrant, by simpa using uGrant⟩

end Sys2Proof.Machine
end

section
/-! SUPPORT. CANCEL and CANCEL-ALL (R31, R132, R133, R150, R173, R174). -/

namespace Sys2Proof.Machine

/-! ### What a cancel leaves for the work after it (R133) -/

/-- The run keeps all but its state, and no presentation comes to be EXPOSING. -/
structure State.Spares (s t : State) : Prop where
  run : ∀ x, s.rqt.run = some x → ∃ state, t.rqt.run = some { x with state := state }
  phase : s.gtu.phase ≠ .exposing → t.gtu.phase ≠ .exposing

namespace State.Spares
variable {s t u : State}

theorem refl (s : State) : s.Spares s := ⟨fun x h => ⟨x.state, h⟩, id⟩

theorem trans (h : s.Spares t) (k : t.Spares u) : s.Spares u where
  run x hx := by
    obtain ⟨a, ha⟩ := h.run x hx
    exact k.run { x with state := a } ha
  phase := k.phase ∘ h.phase

theorem of_same (run : t.rqt.run = s.rqt.run) (phase : t.gtu.phase = s.gtu.phase) : s.Spares t where
  run x hx := ⟨x.state, run.trans hx⟩
  phase h := by rwa [phase]

theorem of_idle (run : t.rqt.run = s.rqt.run) (phase : t.gtu.phase = .idle) : s.Spares t where
  run x hx := ⟨x.state, run.trans hx⟩
  phase _ := by rw [phase]; nofun

end State.Spares

theorem dropInHand_unexposed {s : State} (unexposed : s.gtu.phase ≠ .exposing) : (dropInHand s).gtu.phase ≠ .exposing := by
  cases phase : s.gtu.phase <;> simp_all [dropInHand]

theorem dropInHand_spares (s : State) : s.Spares (dropInHand s) :=
  ⟨fun x hx => ⟨x.state, by simpa using hx⟩, dropInHand_unexposed⟩

theorem returnGrant_spares (s : State) : s.Spares (returnGrant s) := by
  refine ⟨fun x hx => ?_, fun h => by simpa using h⟩
  unfold returnGrant
  split
  · exact ⟨x.state, by simpa using hx⟩
  · exact ⟨.ready, by simp [setRunState, hx]⟩
  · exact ⟨x.state, hx⟩
  · exact ⟨x.state, hx⟩

theorem takeFault_spares (c : Cause) (w : Ctx) : w.st.Spares (takeFault c w).st where
  run x hx := ⟨.suspended, by simp [(takeFault_table c w).2, hx]⟩
  phase _ := by
    obtain ⟨-, -, -, -, -, -, -, -, -, -, phase, -⟩ := takeFault_fields c w
    rw [phase]
    nofun

theorem disposeStopped_spares (w : Ctx) : w.st.Spares (disposeStopped w).st := by
  have returned : w.st.Spares (dropInHand { returnGrant w.st with rqt.stopReason := .none }) :=
    ⟨fun x hx => by simpa using (returnGrant_spares w.st).run x hx, fun h => dropInHand_unexposed (by simpa using h)⟩
  unfold disposeStopped
  split
  · exact .of_same rfl rfl
  · exact returned
  · exact returned
  · extract_lets hit halted u
    have forgotten : w.st.Spares u.st := .of_same rfl rfl
    by_cases quiet : (hit || halted) = true
    · rw [if_pos quiet]
      exact forgotten
    · rw [if_neg quiet]
      exact forgotten.trans (takeFault_spares _ u)

theorem orderStop_spares (r : StopReason) (w : Ctx) : w.st.Spares (orderStop r w).st := by
  unfold orderStop
  split
  · exact .refl _
  · split
    · exact .refl _
    · rename_i m _ _
      split
      · exact .of_same rfl rfl
      · exact .of_same rfl rfl
      · exact .of_same rfl rfl
      · exact .of_same rfl rfl
      · exact .trans (.of_same (by simp) (by simp)) (disposeStopped_spares (w.upd fun s => { moveOver s with rqt.stopReason := r }))
      · exact .trans (.of_same (by simp) (by simp)) (disposeStopped_spares (w.upd fun s => { s with trc.move := none, rqt.stopReason := r }))
      · exact .refl _
      · exact .refl _
      · exact .refl _
      · exact .refl _

theorem endGrantWork_spares (w : Ctx) : w.st.Spares (endGrantWork w).st := by
  unfold endGrantWork
  dsimp only
  split
  · exact (dropInHand_spares w.st).trans (.of_same (by simp) (by simp))
  · exact (dropInHand_spares w.st).trans (orderStop_spares .none (w.upd dropInHand))

/-! ### One record (R132) -/

section record
variable {done : Record → OutcomeCode → Ctx → Ctx} {r : Record} {w : Ctx}

theorem cancelRecord_grows {loud : List EventSource} (grows : ∀ w : Ctx, w.Grows loud (done r .cancelled w)) : w.Grows loud (cancelRecord done r w) := by
  unfold cancelRecord
  split
  · exact grows w
  · exact (grows w).trans (endGrantWork_grows _)
  · exact .ite (upd_grows _ _) ((upd_grows _ _).trans (grows _))

theorem cancelRecord_spares (spares : ∀ w : Ctx, w.st.Spares (done r .cancelled w).st) : w.st.Spares (cancelRecord done r w).st := by
  unfold cancelRecord
  split
  · exact spares w
  · exact (spares w).trans (endGrantWork_spares _)
  · split
    · exact .of_same (by simp) (by simp)
    · exact .trans (.of_idle (by simp [clearPresentation]) rfl) (spares (w.upd clearPresentation))

/-- A record that is not shown in an exposure completes CANCELLED and is gone. -/
theorem cancelRecord_completes (gone : ∀ w, (done r .cancelled w).st.gone r.port r.tag)
    (sent : ∀ w, (r.port, replyMsg r.tag r.work.code (67 :: w.st.recordResults r)) ∈ (done r .cancelled w).sends)
    (ends : r.state ≠ .atGate ∨ w.st.gtu.phase ≠ .exposing) :
    (cancelRecord done r w).st.gone r.port r.tag ∧
      (r.port, replyMsg r.tag r.work.code (67 :: w.st.recordResults r)) ∈ (cancelRecord done r w).sends := by
  unfold cancelRecord
  split
  · exact ⟨gone w, sent w⟩
  · exact ⟨(gone w).of_keeps (endGrantWork_keeps _), (endGrantWork_grows (loud := []) _).mem (sent w)⟩
  · rename_i atGate
    have unexposed : ¬w.st.gtu.phase = .exposing := ends.resolve_left (not_not.mpr atGate)
    rw [if_neg unexposed]
    have results : (w.upd clearPresentation).st.recordResults r = w.st.recordResults r := rfl
    exact ⟨gone _, results ▸ sent _⟩

end record

/-! ### The run (R132, R174) -/

section run
variable {done : OutcomeCode → Ctx → Ctx} {x : Run} {w : Ctx}

theorem cancelRun_grows {loud : List EventSource} (grows : ∀ w : Ctx, w.Grows loud (done .cancelled w)) : w.Grows loud (cancelRun done x w) := by
  unfold cancelRun
  split
  · exact grows w
  · exact grows w
  · exact (grows w).trans (endGrantWork_grows _)
  · exact .ite (upd_grows _ _) ((upd_grows _ _).trans (grows _))

theorem cancelRun_unexposed (stays : ∀ w : Ctx, (done .cancelled w).st.gtu.phase = w.st.gtu.phase) (unexposed : w.st.gtu.phase ≠ .exposing) :
    (cancelRun done x w).st.gtu.phase ≠ .exposing := by
  unfold cancelRun
  split
  · rwa [stays]
  · rwa [stays]
  · exact (endGrantWork_spares _).phase (by rwa [stays])
  · rw [if_neg unexposed, stays]
    nofun

/-- A run that is not shown in an exposure completes CANCELLED, and the slot is empty. -/
theorem cancelRun_completes {y : Run} (ends : x.state ≠ .atGate ∨ w.st.gtu.phase ≠ .exposing) (run : w.st.rqt.run = some y)
    (empty : ∀ w, (done .cancelled w).st.rqt.run = none)
    (sent : ∀ w : Ctx, w.st.rqt.run = some y → (.a, replyMsg y.tag 4 (67 :: runResults y)) ∈ (done .cancelled w).sends) :
    (cancelRun done x w).st.rqt.run = none ∧ (.a, replyMsg y.tag 4 (67 :: runResults y)) ∈ (cancelRun done x w).sends := by
  unfold cancelRun
  split
  · exact ⟨empty w, sent w run⟩
  · exact ⟨empty w, sent w run⟩
  · exact ⟨run_none_of_keeps (endGrantWork_keeps _) (empty w), (endGrantWork_grows (loud := []) _).mem (sent w run)⟩
  · rename_i atGate
    have unexposed : ¬w.st.gtu.phase = .exposing := ends.resolve_left (not_not.mpr atGate)
    rw [if_neg unexposed]
    exact ⟨empty _, sent (w.upd clearPresentation) run⟩

end run

theorem runResults_state (x : Run) (state : RunState) : runResults { x with state := state } = runResults x := rfl

/-! ### Every record of a list (R133) -/

theorem cancelEach_grows {loud : List EventSource} (l : List Record) (w : Ctx) : w.Grows loud (cancelEach l w) := by
  induction l generalizing w with
  | nil => exact .refl w
  | cons r l ih => exact (cancelRecord_grows fun w => completeRecordOnly_grows w r .cancelled).trans (ih _)

theorem completeRecordOnly_spares (r : Record) (o : OutcomeCode) (w : Ctx) : w.st.Spares (completeRecordOnly r o w).st :=
  .of_same (by simp) (by simp)

theorem cancelEach_spares (l : List Record) (w : Ctx) : w.st.Spares (cancelEach l w).st := by
  induction l generalizing w with
  | nil => exact .refl _
  | cons r l ih => exact (cancelRecord_spares fun w => completeRecordOnly_spares r .cancelled w).trans (ih _)

theorem recordResults_of_counter {s t : State} (counter : t.trc.counter = s.trc.counter) (epoch : t.trc.epoch = s.trc.epoch)
    (r : Record) : t.recordResults r = s.recordResults r := by
  simp [State.recordResults, counter, epoch]

/-- Outside an exposure every record of the list completes CANCELLED and is gone. -/
theorem cancelEach_completes {l : List Record} {w : Ctx} (unexposed : w.st.gtu.phase ≠ .exposing) {r : Record} (mem : r ∈ l) :
    (cancelEach l w).st.gone r.port r.tag ∧
      (r.port, replyMsg r.tag r.work.code (67 :: w.st.recordResults r)) ∈ (cancelEach l w).sends := by
  induction l generalizing w with
  | nil => cases mem
  | cons a l ih =>
    change (cancelEach l (cancelRecord completeRecordOnly a w)).st.gone r.port r.tag ∧
      _ ∈ (cancelEach l (cancelRecord completeRecordOnly a w)).sends
    rcases List.mem_cons.mp mem with rfl | mem
    · obtain ⟨gone, sent⟩ := cancelRecord_completes (done := completeRecordOnly) (completeRecordOnly_gone r .cancelled)
        (fun w => by simp [completeRecordOnly_sends, OutcomeCode.code]) (w := w) (.inr unexposed)
      exact ⟨gone.of_keeps (cancelEach_keeps _ _), (cancelEach_grows (loud := []) l _).mem sent⟩
    · have unexposed' := (cancelRecord_spares (r := a) (w := w) fun w => completeRecordOnly_spares a .cancelled w).phase unexposed
      have results : (cancelRecord completeRecordOnly a w).st.recordResults r = w.st.recordResults r :=
        recordResults_of_counter (by simp) (by simp) r
      rw [← results]
      exact ih unexposed' mem

end Sys2Proof.Machine
end

section
/-! CANCEL and CANCEL-ALL as requests (R132, R133, R174). -/

namespace Sys2Proof.Machine

section requests
variable {r : Request} {s : State} (takes : s.takesNow r)
include takes

theorem cancel_performed {tag : Byte} (body : r.body = [tag]) :
    exec (.cancel r) s = .next (releaseAll (requestEnv 7 r) (doCancel (requestEnv 7 r) tag s)) := by
  rw [exec_cancel, requestArrives_performed 7 .cancel rfl takes (.inr rfl) (by rw [body]; rfl) rfl (.inl rfl) (by rw [body]; rfl) rfl rfl]
  rfl

theorem cancelAll_performed (body : r.body = []) :
    exec (.cancelAll r) s = .next (releaseAll (requestEnv 8 r) (doCancelAll (requestEnv 8 r) s)) := by
  rw [exec_cancelAll, requestArrives_performed 8 .cancelAll rfl takes (.inr rfl) (by rw [body]; rfl) rfl (.inl rfl) (by rw [body]; rfl)
    rfl rfl]
  rfl

end requests

/-! ### Which work a CANCEL ends (R132) -/

section found
variable {e : Env} {t : Byte} {s : State}

theorem doCancel_none (record : s.findRecord e.port t = none) (run : s.runTagged e.port t = none) :
    doCancel e t s = refuse e .notFoundTag [] s := by
  simp only [doCancel, record, run]

theorem doCancel_record {x : Record} (record : s.findRecord e.port t = some x) :
    doCancel e t s = finish (examine (cancelRecord completeRecord x (e.reply .done [] (Ctx.start s)))) := by
  simp only [doCancel, record]

theorem doCancel_run {x : Run} (record : s.findRecord e.port t = none) (run : s.runTagged e.port t = some x) :
    doCancel e t s = finish (examine (cancelRun completeRun x (e.reply .done [] (Ctx.start s)))) := by
  simp only [doCancel, record, run]

end found

/-! ### What the cancel of work in motion leaves (R31, R132) -/

/-- The grant is none, and the film ramps to rest. -/
theorem endGrantWork_moving {w : Ctx} {m : Move} (phase : w.st.gtu.phase ≠ .focusing) (move : w.st.trc.move = some m)
    (ramp : m.ramp ≠ .stop) (moving : w.st.trc.motion.moving = true) :
    endGrantWork w = (w.upd dropInHand).upd (rampToStop m .none) := by
  simp only [endGrantWork, phase, decide_false]
  exact orderStop_moving (w := w.upd dropInHand) (by simpa using move) ramp (by simpa using moving) .none

theorem movingGrantEnds {w : Ctx} {m : Move} (phase : w.st.gtu.phase ≠ .focusing) (move : w.st.trc.move = some m)
    (ramp : m.ramp ≠ .stop) (moving : w.st.trc.motion.moving = true) (grant : w.st.rqt.grant = .none) :
    let t := finish (examine (endGrantWork w))
    t.trc.motion = .decel ∧ t.rqt.grant = .none ∧ t.gtu.inHand = none ∧ ∃ n, t.trc.move = some n ∧ n.ramp = .stop := by
  intro t
  have ramps := endGrantWork_moving phase move ramp moving
  have busy : examine (endGrantWork w) = endGrantWork w := examine_none (opportunity_busy (by simp [ramps, Motion.free]))
  have stays : t = finish (endGrantWork w) := congrArg finish busy
  rw [stays, ramps]
  exact ⟨by simp, by simp [grant], by simp [dropInHand], { m with ramp := .stop }, by simp, rfl⟩

theorem deferredCancel {w : Ctx} {z : Presentation} (phase : w.st.gtu.phase = .exposing) (shown : w.st.gtu.presentation = some z)
    (undecided : z.deferred = .none) :
    let t := finish (examine (w.upd deferCancel))
    t.gtu.presentation = some { z with deferred := .cancelled } ∧ t.rqt = w.st.rqt := by
  intro t
  have waits : examine (w.upd deferCancel) = w.upd deferCancel :=
    examine_none (opportunity_shown (by simp [deferCancel, phase]))
  have stays : t = finish (w.upd deferCancel) := congrArg finish waits
  rw [stays]
  exact ⟨by simp [deferCancel, shown, undecided], by simp [deferCancel]⟩

/-! ### CANCEL of a record -/

theorem completeRecord_grant_none {w : Ctx} {x : Record} (grant : w.st.rqt.grant = .record x.port x.tag) (o : OutcomeCode) :
    (completeRecord x o w).st.rqt.grant = .none :=
  examineBarriersN_grant_none (by simp [completeRecordOnly_grant, grant]) _ _

section record
variable {w : Ctx} {s : State} {x : Record}

theorem cancelRecord_leaves (rqt : w.st.rqt = s.rqt) (trc : w.st.trc = s.trc) (gtu : w.st.gtu = s.gtu) (lnk : w.st.lnk = s.lnk) :
    let t := finish (examine (cancelRecord completeRecord x w))
    (x.state = .waiting ∨ x.state = .granted ∨ s.gtu.phase ≠ .exposing →
      t.gone x.port x.tag ∧ sends s t x.port (replyMsg x.tag x.work.code (67 :: s.recordResults x))) ∧
    (∀ m, x.state = .granted → s.gtu.phase ≠ .focusing → s.trc.move = some m → m.ramp ≠ .stop →
      s.trc.motion.moving = true → s.rqt.grant = .record x.port x.tag →
      t.trc.motion = .decel ∧ t.rqt.grant = .none ∧ t.gtu.inHand = none ∧ ∃ n, t.trc.move = some n ∧ n.ramp = .stop) ∧
    (∀ z, x.state = .atGate → s.gtu.phase = .exposing → s.gtu.presentation = some z → z.deferred = .none →
      t.gtu.presentation = some { z with deferred := .cancelled } ∧ t.rqt.records = s.rqt.records) := by
  intro t
  refine ⟨fun ended => ?_, fun m granted phase move ramp moving grant => ?_, fun z atGate phase shown undecided => ?_⟩
  · have ends : x.state ≠ .atGate ∨ w.st.gtu.phase ≠ .exposing := by
      rw [gtu]
      rcases ended with waiting | granted | unexposed
      · exact .inl (by simp [waiting])
      · exact .inl (by simp [granted])
      · exact .inr unexposed
    obtain ⟨gone, sent⟩ := cancelRecord_completes (completeRecord_gone x .cancelled) (completeRecord_sends x .cancelled) ends
    have results : w.st.recordResults x = s.recordResults x := recordResults_of_counter (by rw [trc]) (by rw [trc]) x
    rw [results] at sent
    have gone' := gone.of_keeps (examine_keeps _)
    exact ⟨by simpa only [t, finish_frame, State.gone] using gone',
      sends_finish (by simp [lnk]) ((examine_grows (loud := []) _).mem sent)⟩
  · have cancels : cancelRecord completeRecord x w = endGrantWork (completeRecord x .cancelled w) := by
      simp only [cancelRecord, granted]
    have ends := movingGrantEnds (w := completeRecord x .cancelled w) (m := m) (by simpa [gtu] using phase) (by simpa [trc] using move) ramp
      (by simpa [trc] using moving) (completeRecord_grant_none (by rw [rqt, grant]) .cancelled)
    rwa [← cancels] at ends
  · have cancels : cancelRecord completeRecord x w = w.upd deferCancel := by
      simp only [cancelRecord, atGate, gtu, phase, if_true]
    have deferred := deferredCancel (w := w) (by rw [gtu, phase]) (by rw [gtu, shown]) undecided
    rw [← cancels, rqt] at deferred
    exact ⟨deferred.1, congrArg Rqt.records deferred.2⟩

end record

/-! ### CANCEL of the run -/

section run
variable {w : Ctx} {s : State} {x : Run}

theorem cancelRun_leaves (rqt : w.st.rqt = s.rqt) (trc : w.st.trc = s.trc) (gtu : w.st.gtu = s.gtu) (lnk : w.st.lnk = s.lnk)
    (run : s.rqt.run = some x) :
    let t := finish (examine (cancelRun completeRun x w))
    (x.state ≠ .atGate ∨ s.gtu.phase ≠ .exposing →
      t.rqt.run = none ∧ sends s t .a (replyMsg x.tag 4 (67 :: runResults x))) ∧
    (∀ m, x.state = .granted → s.gtu.phase ≠ .focusing → s.trc.move = some m → m.ramp ≠ .stop →
      s.trc.motion.moving = true → s.rqt.grant = .run →
      t.trc.motion = .decel ∧ t.rqt.grant = .none ∧ t.gtu.inHand = none ∧ ∃ n, t.trc.move = some n ∧ n.ramp = .stop) ∧
    (∀ z, x.state = .atGate → s.gtu.phase = .exposing → s.gtu.presentation = some z → z.deferred = .none →
      t.gtu.presentation = some { z with deferred := .cancelled } ∧ t.rqt.run = some x) := by
  intro t
  refine ⟨fun ended => ?_, fun m granted phase move ramp moving grant => ?_, fun z atGate phase shown undecided => ?_⟩
  · obtain ⟨empty, sent⟩ := cancelRun_completes (done := completeRun) (w := w) (x := x) (by rwa [gtu]) (by rw [rqt, run])
      (completeRun_run .cancelled) fun w run => completeRun_sends run .cancelled
    have empty' := run_none_of_keeps (examine_keeps _) empty
    exact ⟨by simpa only [t, finish_frame] using empty',
      sends_finish (by simp [lnk]) ((examine_grows (loud := []) _).mem sent)⟩
  · have cancels : cancelRun completeRun x w = endGrantWork (completeRun .cancelled w) := by
      simp only [cancelRun, granted]
    have ends := movingGrantEnds (w := completeRun .cancelled w) (m := m) (by simpa [gtu] using phase) (by simpa [trc] using move) ramp
      (by simpa [trc] using moving) (completeRun_grant_none (by rw [rqt, run]) (by rw [rqt, grant]) .cancelled)
    rwa [← cancels] at ends
  · have cancels : cancelRun completeRun x w = w.upd deferCancel := by
      simp only [cancelRun, atGate, gtu, phase, if_true]
    have deferred := deferredCancel (w := w) (by rw [gtu, phase]) (by rw [gtu, shown]) undecided
    rw [← cancels, rqt] at deferred
    exact ⟨deferred.1, (congrArg Rqt.run deferred.2).trans run⟩

end run

/-! ### CANCEL-ALL (R133) -/

/-- Work that keeps the table and leaves no record of a port that the table held leaves none of the port. -/
theorem State.noneOf_of_keeps {s u : State} {p : Port} (keeps : Keeps s u) (gone : ∀ x ∈ s.rqt.records, x.port = p → u.gone x.port x.tag) :
    ∀ x ∈ u.rqt.records, x.port ≠ p := by
  rintro x hx rfl
  obtain ⟨y, hy, same⟩ := List.mem_map.mp (keeps.keys.subset (List.mem_map_of_mem hx))
  obtain ⟨port, tag⟩ := Prod.mk.inj same
  exact gone y hy port x hx ⟨port.symm, tag.symm⟩

/-- The part after every record of a port, and the run of port A, has been cancelled. -/
def cancelPort (p : Port) (w : Ctx) : Ctx :=
  let l := w.st.rqt.records.filter fun r => decide (r.port = p)
  match (if p = .a then w.st.rqt.run else none) with
  | some r => cancelEach (l.filter fun x => !older x.arrival r.arrival)
      (cancelRun completeRunOnly r (cancelEach (l.filter fun x => older x.arrival r.arrival) w))
  | none => cancelEach l w

theorem doCancelAll_eq (e : Env) (s : State) :
    doCancelAll e s = finish (examine (cancelPort e.port (e.reply .done
      [BitVec.ofNat 8 ((s.rqt.records.countP fun x => decide (x.port = e.port)) +
        if e.port = .a ∧ s.rqt.run.isSome = true then 1 else 0)] (Ctx.start s)))) := by
  have records (n : List Byte) : (e.reply .done n (Ctx.start s)).st.rqt = s.rqt := by simp
  unfold doCancelAll cancelPort
  simp only [records, List.countP_eq_length_filter]
  by_cases a : e.port = .a
  · cases run : s.rqt.run <;> simp [a]
  · simp [a]

theorem cancelPort_grows {loud : List EventSource} (p : Port) (w : Ctx) : w.Grows loud (cancelPort p w) := by
  unfold cancelPort
  extract_lets l
  split
  · rename_i x _
    exact ((cancelEach_grows _ w).trans (cancelRun_grows fun w => completeRunOnly_grows w .cancelled)).trans (cancelEach_grows _ _)
  · exact cancelEach_grows _ w

theorem cancelPort_fields (p : Port) (w : Ctx) :
    (cancelPort p w).st.rqt.halted = w.st.rqt.halted ∧ (cancelPort p w).st.fit.entries = w.st.fit.entries ∧
      (cancelPort p w).st.trc.counter = w.st.trc.counter ∧
      ∀ q, ((cancelPort p w).st.link q).outbox = (w.st.link q).outbox := by
  unfold cancelPort
  extract_lets l
  split
  · simp
  · simp

theorem cancelPort_keeps (p : Port) (w : Ctx) : Keeps w.st (cancelPort p w).st := by
  unfold cancelPort
  extract_lets l
  split
  · rename_i x _
    exact .trans (.trans (cancelEach_keeps w (l.filter fun y => older y.arrival x.arrival))
      (cancelRun_keeps _ (fun o w => completeRunOnly_keeps w o) x)) (cancelEach_keeps _ _)
  · exact cancelEach_keeps _ _

theorem completeRunOnly_phase (o : OutcomeCode) (w : Ctx) : (completeRunOnly o w).st.gtu.phase = w.st.gtu.phase := by simp

/-- With no exposure every record of the port, and the run of port A, completes CANCELLED and is gone. -/
theorem cancelPort_completes {p : Port} {w : Ctx} (unexposed : w.st.gtu.phase ≠ .exposing) :
    (∀ r ∈ w.st.rqt.records, r.port = p → (cancelPort p w).st.gone r.port r.tag ∧
      (r.port, replyMsg r.tag r.work.code (67 :: w.st.recordResults r)) ∈ (cancelPort p w).sends) ∧
    (p = .a → (cancelPort p w).st.rqt.run = none) ∧
    (∀ x, p = .a → w.st.rqt.run = some x → (.a, replyMsg x.tag 4 (67 :: runResults x)) ∈ (cancelPort p w).sends) := by
  unfold cancelPort
  extract_lets l
  split
  · rename_i x held
    obtain ⟨rfl, run⟩ : p = .a ∧ w.st.rqt.run = some x := by
      split at held
      · exact ⟨by assumption, held⟩
      · cases held
    generalize first : cancelEach (l.filter fun y => older y.arrival x.arrival) w = u
    have spares : w.st.Spares u.st := first ▸ cancelEach_spares _ w
    obtain ⟨state, run'⟩ := spares.run x run
    have unexposed' := spares.phase unexposed
    obtain ⟨empty, sent⟩ := cancelRun_completes (done := completeRunOnly) (x := x) (.inr unexposed') run'
      (completeRunOnly_run .cancelled) fun v run => by simp [completeRunOnly_sends run, OutcomeCode.code]
    have still := cancelRun_unexposed (x := x) (completeRunOnly_phase .cancelled) unexposed'
    generalize second : cancelRun completeRunOnly x u = v at empty sent still
    refine ⟨fun r mem port => ?_, fun _ => run_none_of_keeps (cancelEach_keeps _ _) empty, fun y _ same => ?_⟩
    · have inPort : r ∈ l := List.mem_filter.mpr ⟨mem, by simp [port]⟩
      cases age : older r.arrival x.arrival with
      | true =>
        obtain ⟨gone, told⟩ := cancelEach_completes unexposed (List.mem_filter (p := fun y => older y.arrival x.arrival).mpr ⟨inPort, age⟩)
        rw [first] at gone told
        have told' := (cancelRun_grows (loud := []) (x := x) fun w => completeRunOnly_grows w .cancelled).mem told
        rw [second] at told'
        have gone' := gone.of_keeps (cancelRun_keeps u (fun o w => completeRunOnly_keeps w o) x)
        rw [second] at gone'
        exact ⟨gone'.of_keeps (cancelEach_keeps _ _), (cancelEach_grows (loud := []) _ v).mem told'⟩
      | false =>
        have results : v.st.recordResults r = w.st.recordResults r := by
          rw [← second, ← first]
          exact recordResults_of_counter (by simp) (by simp) r
        rw [← results]
        exact cancelEach_completes still (List.mem_filter.mpr ⟨inPort, by simp [age]⟩)
    · obtain rfl : x = y := by simpa [run] using same
      exact (cancelEach_grows (loud := []) _ v).mem sent
  · rename_i held
    refine ⟨fun r mem port => cancelEach_completes unexposed (List.mem_filter.mpr ⟨mem, by simp [port]⟩), ?_, ?_⟩
    · rintro rfl
      exact run_none_of_keeps (cancelEach_keeps _ _) held
    · rintro x rfl run
      rw [if_pos rfl, run] at held
      cases held

/-! ### O47 -/

theorem cancel_record_settles {r : Request} {tag : Byte} {s : State} {x : Record} (takes : s.takesNow r) (body : r.body = [tag])
    (found : s.findRecord (sourcePort r.source) tag = some x) :
    ∃ t, exec (.cancel r) s = .next t ∧ answersFirst s t r 7 .done [] ∧ t.fit.entries = s.fit.entries ∧
      t.trc.counter = s.trc.counter ∧ t.fcc.lines = s.fcc.lines ∧ t.rqt.halted = s.rqt.halted ∧
      (x.state = .waiting ∨ x.state = .granted ∨ s.gtu.phase ≠ .exposing →
        (∀ y ∈ t.rqt.records, ¬(y.port = sourcePort r.source ∧ y.tag = tag)) ∧
        ∃ results, sends s t (sourcePort r.source) (replyMsg tag x.work.code (67 :: results))) ∧
      (∀ m, x.state = .granted → s.gtu.phase ≠ .focusing → s.trc.move = some m → m.ramp ≠ .stop →
        s.trc.motion.moving = true → s.rqt.grant = .record (sourcePort r.source) tag →
        t.trc.motion = .decel ∧ t.rqt.grant = .none ∧ t.gtu.inHand = none ∧
        ∃ n, t.trc.move = some n ∧ n.ramp = .stop) ∧
      (∀ z, x.state = .atGate → s.gtu.phase = .exposing → s.gtu.presentation = some z → z.deferred = .none →
        t.gtu.presentation = some { z with deferred := .cancelled } ∧ t.rqt.records = s.rqt.records) := by
  obtain ⟨-, port, rfl⟩ := findRecord_eq_some found
  rw [cancel_performed takes body, doCancel_record (e := requestEnv 7 r) (by simpa using found)]
  generalize answer : (requestEnv 7 r).reply .done [] (Ctx.start s) = w
  have grows : w.Grows [] (examine (cancelRecord completeRecord x w)) :=
    (cancelRecord_grows fun w => completeRecord_grows w x .cancelled).trans (examine_grows _)
  obtain ⟨ended, moved, deferred⟩ := cancelRecord_leaves (w := w) (s := s) (x := x) (by simp [← answer]) (by simp [← answer])
    (by simp [← answer]) (by simp [← answer])
  simp only [port] at ended moved
  refine ⟨_, rfl, answersFirst_finish (loud := []) (u := Ctx.start s) rfl (by rwa [answer]) (by simp [← answer]), by simp [← answer],
    by simp [← answer], by simp [← answer], by simp [← answer], fun ends => ?_, fun m granted phase move ramp moving grant => ?_,
    fun z atGate phase shown undecided => ?_⟩
  · obtain ⟨gone, sent⟩ := ended ends
    exact ⟨by simpa [State.gone] using gone, s.recordResults x, sends_releaseAll sent⟩
  · simpa using moved m granted phase move ramp moving grant
  · simpa using deferred z atGate phase shown undecided

theorem cancel_run_settles {r : Request} {x : Run} {s : State} (takes : s.takesNow r) (onA : sourcePort r.source = .a)
    (run : s.rqt.run = some x) (body : r.body = [x.tag]) (law : s.tableLaw) :
    ∃ t, exec (.cancel r) s = .next t ∧ answersFirst s t r 7 .done [] ∧ t.fit.entries = s.fit.entries ∧
      t.trc.counter = s.trc.counter ∧ t.rqt.halted = s.rqt.halted ∧
      (x.state ≠ .atGate ∨ s.gtu.phase ≠ .exposing →
        t.rqt.run = none ∧
        sends s t .a (replyMsg x.tag 4 (67 :: (be 2 x.presented ++ beFrame x.last ++ be 2 x.next
          ++ be 3 (x.remaining.getD 16777215))))) ∧
      (∀ m, x.state = .granted → s.gtu.phase ≠ .focusing → s.trc.move = some m → m.ramp ≠ .stop →
        s.trc.motion.moving = true → s.rqt.grant = .run →
        t.trc.motion = .decel ∧ t.rqt.grant = .none ∧ t.gtu.inHand = none ∧ ∃ n, t.trc.move = some n ∧ n.ramp = .stop) ∧
      (∀ z, x.state = .atGate → s.gtu.phase = .exposing → s.gtu.presentation = some z → z.deferred = .none →
        t.gtu.presentation = some { z with deferred := .cancelled } ∧ t.rqt.run = some x) := by
  obtain ⟨-, -, -, apart⟩ := law
  have record : s.findRecord (sourcePort r.source) x.tag = none := by
    rw [findRecord_eq_none]
    intro y hy port tag
    exact apart x run y hy (port.trans onA) tag
  have tagged : s.runTagged (sourcePort r.source) x.tag = some x := by
    simp [State.runTagged, run, onA]
  rw [cancel_performed takes body, doCancel_run (e := requestEnv 7 r) (by simpa using record) (by simpa using tagged)]
  generalize answer : (requestEnv 7 r).reply .done [] (Ctx.start s) = w
  have grows : w.Grows [] (examine (cancelRun completeRun x w)) :=
    (cancelRun_grows fun w => completeRun_grows w .cancelled).trans (examine_grows _)
  obtain ⟨ended, moved, deferred⟩ := cancelRun_leaves (w := w) (s := s) (by simp [← answer]) (by simp [← answer])
    (by simp [← answer]) (by simp [← answer]) run
  refine ⟨_, rfl, answersFirst_finish (loud := []) (u := Ctx.start s) rfl (by rwa [answer]) (by simp [← answer]), by simp [← answer],
    by simp [← answer], by simp [← answer], fun ends => ?_, fun m granted phase move ramp moving grant => ?_,
    fun z atGate phase shown undecided => ?_⟩
  · obtain ⟨empty, sent⟩ := ended ends
    exact ⟨by simpa using empty, sends_releaseAll sent⟩
  · simpa using moved m granted phase move ramp moving grant
  · simpa using deferred z atGate phase shown undecided

theorem cancelAll_settles {r : Request} {s : State} (takes : s.takesNow r) (body : r.body = []) :
    ∃ t, exec (.cancelAll r) s = .next t ∧
      answersFirst s t r 8 .done
        [BitVec.ofNat 8 ((s.rqt.records.countP fun x => decide (x.port = sourcePort r.source)) +
          if sourcePort r.source = .a ∧ s.rqt.run.isSome = true then 1 else 0)] ∧
      (s.gtu.phase ≠ .exposing →
        (∀ x ∈ t.rqt.records, x.port ≠ sourcePort r.source) ∧ (sourcePort r.source = .a → t.rqt.run = none) ∧
        (∀ x ∈ s.rqt.records, x.port = sourcePort r.source →
          sends s t x.port (replyMsg x.tag x.work.code (67 :: s.recordResults x))) ∧
        (∀ x, sourcePort r.source = .a → s.rqt.run = some x →
          sends s t .a (replyMsg x.tag 4 (67 :: (be 2 x.presented ++ beFrame x.last ++ be 2 x.next
            ++ be 3 (x.remaining.getD 16777215)))))) ∧
      t.rqt.halted = s.rqt.halted ∧ t.fit.entries = s.fit.entries ∧ t.trc.counter = s.trc.counter := by
  have port : (requestEnv 8 r).port = sourcePort r.source := by simp
  rw [cancelAll_performed takes body, doCancelAll_eq, port]
  generalize count : BitVec.ofNat 8 ((s.rqt.records.countP fun x => decide (x.port = sourcePort r.source)) +
    if sourcePort r.source = .a ∧ s.rqt.run.isSome = true then 1 else 0) = n
  generalize answer : (requestEnv 8 r).reply .done [n] (Ctx.start s) = w
  obtain ⟨halted, entries, counter, outbox⟩ := cancelPort_fields (sourcePort r.source) w
  have same (p : Port) : ((examine (cancelPort (sourcePort r.source) w)).st.link p).outbox = (s.link p).outbox := by
    have lnk : w.st.lnk = s.lnk := by simp [← answer]
    have kept := outbox p
    simp only [State.link, lnk] at kept
    simp [kept]
  have rqt : w.st.rqt = s.rqt := by simp [← answer]
  have fit : w.st.fit = s.fit := by simp [← answer]
  have trc : w.st.trc = s.trc := by simp [← answer]
  have grows : w.Grows [] (examine (cancelPort (sourcePort r.source) w)) := (cancelPort_grows _ w).trans (examine_grows _)
  refine ⟨_, rfl, answersFirst_finish (loud := []) (u := Ctx.start s) rfl (by rwa [answer]) (same _), fun unexposed => ?_,
    by simp [halted, rqt], by simp [entries, fit], by simp [counter, trc]⟩
  obtain ⟨records, run, runSent⟩ := cancelPort_completes (p := sourcePort r.source) (w := w) (by simpa [← answer] using unexposed)
  have results (x : Record) : w.st.recordResults x = s.recordResults x :=
    recordResults_of_counter (by simp [← answer]) (by simp [← answer]) x
  rw [rqt] at records runSent
  have none := State.noneOf_of_keeps (p := sourcePort r.source) ((cancelPort_keeps (sourcePort r.source) w).trans (examine_keeps _))
    fun x mem port => (records x (by rwa [rqt] at mem) port).1.of_keeps (examine_keeps _)
  refine ⟨by simpa using none, fun a => by simpa using run_none_of_keeps (examine_keeps _) (run a), fun x mem port => ?_,
    fun x a held => ?_⟩
  · have sent := (records x mem port).2
    rw [results] at sent
    exact sends_releaseAll (sends_finish (same _) ((examine_grows (loud := []) _).mem sent))
  · exact sends_releaseAll (sends_finish (same _) ((examine_grows (loud := []) _).mem (runSent x a held)))

/-- Settles O47: a cancelled record or run completes where the work stands, and the film it moved ramps to rest; CANCEL-ALL does
so for each in turn, and no cancel makes a presentation EXPOSING or a run of another tag. -/
theorem cancelEndsThePortsWork : Obligations.CancelEndsThePortsWork := by
  refine ⟨fun r tag s takes body law => ⟨fun record run => ?_, fun x found => cancel_record_settles takes body found⟩,
    fun r s takes body => cancelAll_settles takes body,
    fun r x s takes onA run body law => cancel_run_settles takes onA run body law⟩
  rw [cancel_performed takes body, doCancel_none (e := requestEnv 7 r) (by simpa using record) (by simpa using run), releaseAll_refuse]

end Sys2Proof.Machine
end

section
/-! UNLOAD (R13 to R15). -/

namespace Sys2Proof.Machine

/-! ### The records of the session (R14) -/

theorem completeEachOnly_sends {o : OutcomeCode} {l : List Record} (w : Ctx) {r : Record} (mem : r ∈ l) :
    (r.port, replyMsg r.tag r.work.code (o.code :: w.st.recordResults r)) ∈ (completeEachOnly o l w).sends := by
  induction l generalizing w with
  | nil => cases mem
  | cons a l ih =>
    change _ ∈ (completeEachOnly o l (completeRecordOnly a o w)).sends
    rcases List.mem_cons.mp mem with rfl | mem
    · exact (completeEachOnly_grows (loud := []) _ o l).mem (by simp [completeRecordOnly_sends])
    · rw [← recordResults_of_counter (s := w.st) (t := (completeRecordOnly a o w).st) (by simp) (by simp)]
      exact ih _ mem

theorem unloadWork_grows {loud : List EventSource} (w : Ctx) : w.Grows loud (unloadWork w) := by
  unfold unloadWork
  extract_lets l
  split
  · exact ((completeEachOnly_grows _ _ _).trans (completeRunOnly_grows _ _)).trans (completeEachOnly_grows _ _ _)
  · exact completeEachOnly_grows _ _ _

theorem unloadWork_sends (w : Ctx) {r : Record} (mem : r ∈ w.st.rqt.records) :
    (r.port, replyMsg r.tag r.work.code (72 :: w.st.recordResults r)) ∈ (unloadWork w).sends := by
  unfold unloadWork
  extract_lets l
  split
  · rename_i x _
    cases age : older r.arrival x.arrival with
    | true =>
      have first := completeEachOnly_sends (o := .unloaded) w (List.mem_filter (p := fun y => older y.arrival x.arrival).mpr ⟨mem, age⟩)
      exact (completeEachOnly_grows (loud := []) _ _ _).mem ((completeRunOnly_grows (loud := []) _ _).mem first)
    | false =>
      rw [← recordResults_of_counter (s := w.st) (t := (completeRunOnly .unloaded (completeEachOnly .unloaded
        (l.filter fun y => older y.arrival x.arrival) w)).st) (by simp) (by simp)]
      exact completeEachOnly_sends _ (List.mem_filter.mpr ⟨mem, by simp [age]⟩)
  · exact completeEachOnly_sends w mem

/-! ### What stands when the rewind begins (R13) -/

/-- Nothing of the session is left at the gate, in the index, in the focus table and at the mark detector. -/
structure State.Cleared (s : State) : Prop where
  roll : s.trc.roll = .rewinding
  slip : s.trc.slip = 0
  grant : s.rqt.grant = .none
  entries : s.fit.entries = []
  index : s.fit.index = .empty
  building : s.fit.building = false
  splice : s.fit.splice = false
  verify : s.fit.verify = none
  detector : s.mkd = .off
  lines : s.fcc.lines = List.replicate 16 ⟨false, 0, true, 0, .sweep, false⟩
  sweep : s.fcc.sweep = none
  presentation : s.gtu.presentation = none
  inHand : s.gtu.inHand = none
  watches : s.gtu.watches = PerPort.all false

theorem unloadClear_cleared (s : State) : (unloadClear s).Cleared := by
  constructor <;> simp [unloadClear, abandonLookup, dropInHand, clearPresentation, FocusLine.invalid]

/-- Where the film is away from 0 the start of the rewind keeps all that is cleared, the profile and the counter. -/
theorem rewindFrom_cleared {w : Ctx} (cleared : w.st.Cleared) (away : 0 < w.st.trc.counter) :
    (rewindFrom w).st.Cleared ∧ (rewindFrom w).st.trc.profile = w.st.trc.profile ∧
      (rewindFrom w).st.trc.counter = w.st.trc.counter ∧ (rewindFrom w).st.ntu = w.st.ntu := by
  have ⟨roll, slip, grant, entries, index, building, splice, verify, detector, lines, sweep, presentation, inHand, watches⟩ := cleared
  have begins : (beginRewind w).st.Cleared ∧ (beginRewind w).st.trc.profile = w.st.trc.profile ∧
      (beginRewind w).st.trc.counter = w.st.trc.counter ∧ (beginRewind w).st.ntu = w.st.ntu := by
    cases halted : w.st.rqt.halted with
    | true =>
      unfold beginRewind
      rw [if_pos halted]
      refine ⟨⟨?_, ?_, ?_, ?_, ?_, ?_, ?_, ?_, ?_, ?_, ?_, ?_, ?_, ?_⟩, ?_, ?_, ?_⟩ <;> simp [setMotion, *]
    | false =>
      rw [beginRewind_runs halted away]
      refine ⟨⟨?_, ?_, ?_, ?_, ?_, ?_, ?_, ?_, ?_, ?_, ?_, ?_, ?_, ?_⟩, ?_, ?_, ?_⟩ <;>
        simp [travelLeg, setMotion, motionStart, *]
  have turns (m : Move) : ((w.upd fun s => { setMotion .decel s with trc.move := some m }).st).Cleared := by
    refine ⟨?_, ?_, ?_, ?_, ?_, ?_, ?_, ?_, ?_, ?_, ?_, ?_, ?_, ?_⟩ <;> simp [setMotion, *]
  unfold rewindFrom
  split
  · exact begins
  · exact begins
  iterate 4
    · extract_lets d
      split
      · exact ⟨turns _, by simp, by simp, by simp⟩
      · exact begins
  · refine ⟨⟨?_, ?_, ?_, ?_, ?_, ?_, ?_, ?_, ?_, ?_, ?_, ?_, ?_, ?_⟩, ?_, ?_, ?_⟩ <;> simp [setMotion, *]
  · exact ⟨{ cleared with }, rfl, rfl, rfl⟩
  · exact ⟨{ cleared with }, rfl, rfl, rfl⟩
  · exact ⟨{ cleared with }, rfl, rfl, rfl⟩

/-! ### O35 -/

/-- The part when the session has ended and the rewind has not begun. -/
def unloadedCtx (e : Env) (s : State) : Ctx :=
  setLevel .rollState false [Roll.code .rewinding] ((unloadWork (abandonExposure .unloaded
    (e.reply .accepted [] ((Ctx.start s).upd (reserveTimed e .unload))))).upd unloadClear)

theorem unloadedCtx_grows {loud : List EventSource} (e : Env) (s : State) :
    (e.reply .accepted [] ((Ctx.start s).upd (reserveTimed e .unload))).Grows loud (unloadedCtx e s) :=
  ((abandonExposure_grows _ _).trans (unloadWork_grows _)).trans ((upd_grows _ _).trans (setLevel_grows _ rfl _ _))

theorem unloadedCtx_cleared (e : Env) (s : State) : (unloadedCtx e s).st.Cleared := by
  have ⟨roll, slip, grant, entries, index, building, splice, verify, detector, lines, sweep, presentation, inHand, watches⟩ :=
    unloadClear_cleared (unloadWork (abandonExposure .unloaded
      (e.reply .accepted [] ((Ctx.start s).upd (reserveTimed e .unload))))).st
  constructor <;> simp [unloadedCtx, *]

/-- The transport and the lines have not changed yet; the records, the run and the exposure are gone. -/
theorem unloadedCtx_fields (e : Env) (s : State) :
    (unloadedCtx e s).st.trc = { s.trc with roll := .rewinding, slip := 0 } ∧
      (unloadedCtx e s).st.rqt.halted = s.rqt.halted ∧ (unloadedCtx e s).st.pins = s.pins ∧
      (unloadedCtx e s).st.rqt.records = [] ∧ (unloadedCtx e s).st.rqt.run = none ∧
      (unloadedCtx e s).st.gtu.exposure = none ∧ (unloadedCtx e s).st.ntu.levels.rollState = false ∧
      ∀ p, ((unloadedCtx e s).st.link p).outbox = (s.link p).outbox := by
  obtain ⟨records, run⟩ := unloadWork_empty (abandonExposure .unloaded
    (e.reply .accepted [] ((Ctx.start s).upd (reserveTimed e .unload))))
  refine ⟨?_, ?_, ?_, ?_, ?_, ?_, ?_, ?_⟩ <;>
    simp [unloadedCtx, Levels.set, records, run, abandonExposure_exposure, unloadClear, abandonLookup, dropInHand, clearPresentation]

theorem unloadedCtx_trig (e : Env) {s : State} (law : s.trigLaw) : (unloadedCtx e s).st.gtu.trig = false := by
  have dropped := abandonExposure_trig .unloaded (w := e.reply .accepted [] ((Ctx.start s).upd (reserveTimed e .unload)))
    (by simpa [State.trigLaw] using law)
  simp [unloadedCtx, dropped]

theorem unloadedCtx_sends (e : Env) {s : State} {x : Record} (mem : x ∈ s.rqt.records) :
    ∃ results, (x.port, replyMsg x.tag x.work.code (72 :: results)) ∈ (unloadedCtx e s).sends := by
  have sent := unloadWork_sends (abandonExposure .unloaded (e.reply .accepted [] ((Ctx.start s).upd (reserveTimed e .unload))))
    (r := x) (by simpa using mem)
  exact ⟨_, ((upd_grows _ _).trans (setLevel_grows (loud := []) _ rfl _ _)).mem sent⟩

theorem doUnload_eq (e : Env) (s : State) : doUnload e s = finish (rewindFrom (unloadedCtx e s)) := rfl

theorem unload_performed {r : Request} {s : State} (takes : s.takesNow r) (single : sourceBroadcast r.source = false)
    (port : sourcePort r.source ≠ .b) (body : r.body = []) (tagFree : s.tagInUse (sourcePort r.source) r.tag = false)
    (loaded : s.trc.roll = .loaded) :
    exec (.unload r) s = .next (releaseAll (requestEnv 2 r) (finish (rewindFrom (unloadedCtx (requestEnv 2 r) s)))) := by
  rw [exec_unload, requestArrives_performed 2 .unload rfl takes (.inl single) (by rw [body]; rfl)
    (by simpa [Kind.permitted] using port) (.inr tagFree) (by rw [body]; rfl) (rollRefusal_of_loaded nofun loaded) rfl]
  rfl

/-- Settles O35: all of the session is cleared before the rewind begins (`unloadedCtx_cleared`), and the start of the rewind away
from 0 keeps it so (`rewindFrom_cleared`). -/
theorem unloadEndsTheSession : Obligations.UnloadEndsTheSession := by
  intro r s takes single port body tagFree loaded table law away
  rw [unload_performed takes single port body tagFree loaded]
  obtain ⟨trc, halted, pins, records, run, exposure, rollState, outbox⟩ := unloadedCtx_fields (requestEnv 2 r) s
  have cleared := unloadedCtx_cleared (requestEnv 2 r) s
  have trig := unloadedCtx_trig (requestEnv 2 r) law
  have sent {x : Record} (mem : x ∈ s.rqt.records) := unloadedCtx_sends (requestEnv 2 r) mem
  have grows := (unloadedCtx_grows (loud := []) (requestEnv 2 r) s).trans (rewindFrom_grows _)
  generalize unloadedCtx (requestEnv 2 r) s = w at *
  obtain ⟨⟨roll, slip, grant, entries, index, building, splice, verify, detector, lines, sweep, presentation, inHand, watches⟩,
    profile, counter, ntu⟩ := rewindFrom_cleared cleared (by rw [trc]; exact away)
  have same (p : Port) : ((rewindFrom w).st.link p).outbox = (s.link p).outbox := by simpa using outbox p
  refine ⟨_, rfl, answersFirst_finish (loud := []) (u := (Ctx.start s).upd (reserveTimed (requestEnv 2 r) .unload)) rfl grows (same _),
    ?_, ?_, ?_, ?_, ?_, ?_, ?_, ?_, ?_, ?_, ?_, ?_, ?_, ?_, ?_, ?_, ?_, ?_, ?_, ?_, ?_, ?_, fun x mem => ?_, fun resumed still => ?_,
    fun parked => ?_, fun faulted => ?_⟩
  case refine_23 =>
    obtain ⟨results, told⟩ := sent mem
    exact ⟨results, sends_releaseAll (sends_finish (same _) ((rewindFrom_grows (loud := []) w).mem told))⟩
  case refine_24 =>
    have begins : rewindFrom w = beginRewind w := by
      rcases still with idle | settling
      · simp only [rewindFrom, trc, idle]
      · simp only [rewindFrom, trc, settling]
    rw [begins, beginRewind_runs (by rw [halted, resumed]) (by rw [trc]; exact away)]
    exact ⟨by simp, by simp [motionStart, trc], { openMove .rewind .reverse .shuttle none with ramp := .none },
      by simp [travelLeg, openMove], rfl, rfl⟩
  case refine_25 =>
    have wakes : rewindFrom w = w.upd fun s =>
        { setMotion .waking s with trc.move := none, trc.wakeFor := s.trc.wakeDelay, trc.timers.wake := some 0 } := by
      simp only [rewindFrom, trc, parked]
    rw [wakes]
    exact ⟨by simp, by simp [finish_timers, syncTimers], by simp [trc]⟩
  case refine_26 =>
    have stays : rewindFrom w = w.upd fun s => { s with trc.move := none } := by
      simp only [rewindFrom, trc, faulted]
    rw [stays]
    exact ⟨by simp [trc, faulted], by simp [trc]⟩
  all_goals simp [*, cleared.grant, cleared.entries, cleared.index, cleared.splice, cleared.verify, cleared.detector, cleared.lines,
    cleared.sweep, cleared.presentation, cleared.inHand]

end Sys2Proof.Machine
end

section
/-! SUPPORT. Where a move settles (R27 to R29, R131, R141, R142, R144) and what its focus lookup begins (R95 to R98). -/

namespace Sys2Proof.Machine

/-! ### The level FAULT under completions and the grant opportunity -/

theorem completeRecordOnly_faultLevel (r : Record) (o : OutcomeCode) (w : Ctx) :
    (completeRecordOnly r o w).st.ntu.levels.fault = w.st.ntu.levels.fault := by
  simp [completeRecordOnly, examineAlmostFull, complete, Levels.set, removeRecord]

theorem examineBarriersN_faultLevel (n : Nat) (p : Port) (w : Ctx) :
    (examineBarriersN n p w).st.ntu.levels.fault = w.st.ntu.levels.fault := by
  induction n generalizing w with
  | zero => rfl
  | succ n ih =>
    unfold examineBarriersN
    split
    · rw [ih, completeRecordOnly_faultLevel]
    · rfl

theorem completeRecord_faultLevel (r : Record) (o : OutcomeCode) (w : Ctx) :
    (completeRecord r o w).st.ntu.levels.fault = w.st.ntu.levels.fault := by
  rw [completeRecord, examineBarriers, examineBarriersN_faultLevel, completeRecordOnly_faultLevel]

theorem completeTag_faultLevel (p : Port) (t : Byte) (o : OutcomeCode) (w : Ctx) :
    (completeTag p t o w).st.ntu.levels.fault = w.st.ntu.levels.fault := by
  unfold completeTag
  split
  · exact completeRecord_faultLevel _ _ _
  · rfl

theorem completeRun_faultLevel (o : OutcomeCode) (w : Ctx) : (completeRun o w).st.ntu.levels.fault = w.st.ntu.levels.fault := by
  rw [completeRun, examineBarriers, examineBarriersN_faultLevel]
  unfold completeRunOnly
  split
  · rfl
  · simp [complete, removeRun]

theorem completeEach_faultLevel (o : OutcomeCode) (l : List Record) (w : Ctx) :
    (completeEach o l w).st.ntu.levels.fault = w.st.ntu.levels.fault := by
  induction l generalizing w with
  | nil => rfl
  | cons r l ih => exact (ih _).trans (completeRecord_faultLevel _ _ _)

theorem clearUnreachable_faultLevel (w : Ctx) : (clearUnreachable w).st.ntu.levels.fault = w.st.ntu.levels.fault := by
  unfold clearUnreachable
  extract_lets u o l
  have chosen : u.st.ntu.levels.fault = w.st.ntu.levels.fault := by
    unfold u
    split
    · simp
    · rfl
  split
  · split
    · rw [completeEach_faultLevel, completeRun_faultLevel, completeEach_faultLevel, chosen]
    · rw [completeEach_faultLevel, chosen]
  · rw [completeEach_faultLevel, chosen]

theorem examine_faultLevel (w : Ctx) : (examine w).st.ntu.levels.fault = w.st.ntu.levels.fault := by
  unfold examine
  extract_lets u
  have cleared := clearUnreachable_faultLevel w
  split
  · split
    · simpa using cleared
    · split
      · simpa [setVerified, Levels.set] using cleared
      · simpa using cleared
  · rfl

/-! ### The frame at the gate (R67) -/

theorem frameAtGate_of_same {s t : State} (roll : t.trc.roll = s.trc.roll) (verified : t.trc.verified = s.trc.verified)
    (passed : t.trc.overrun = s.trc.overrun) (counter : t.trc.counter = s.trc.counter) (profile : t.trc.profile = s.trc.profile)
    (endPos : t.trc.endPos = s.trc.endPos) (entries : t.fit.entries = s.fit.entries) (p256 : t.fit.p256 = s.fit.p256) : t.frameAtGate = s.frameAtGate := by
  simp only [State.frameAtGate, State.gateTargetOf, State.clampPos, State.posBound, State.profile, roll, verified, passed, counter, profile, endPos,
    entries, p256]

/-! ### Where a sweep starts (R97) -/

/-- A line that has a value. -/
def FocusLine.hasValue (l : FocusLine) : Prop := l.valid = true ∧ l.pending = false

/-- A line is as near to a sector as another, the lower tag of two as near. -/
def FocusLine.nearTo (x : Nat) (l k : FocusLine) : Prop :=
  absDiff l.sector x < absDiff k.sector x ∨ absDiff l.sector x = absDiff k.sector x ∧ l.sector ≤ k.sector

theorem FocusLine.nearTo_trans {x : Nat} {a b c : FocusLine} (h : a.nearTo x b) (k : b.nearTo x c) : a.nearTo x c := by
  unfold FocusLine.nearTo at *
  omega

theorem nearerLine_valueless {x : Nat} {best : Option FocusLine} {l : FocusLine} (none : ¬l.hasValue) : nearerLine x best l = best := by
  unfold nearerLine
  rw [if_neg]
  simpa [FocusLine.hasValue] using none

/-- The line found is one of those looked at that have a value, and as near as each of them. -/
theorem foldl_nearerLine (x : Nat) (l : List FocusLine) (best : Option FocusLine) :
    match l.foldl (nearerLine x) best with
    | none => best = none ∧ ∀ k ∈ l, ¬k.hasValue
    | some b => (best = some b ∨ b ∈ l ∧ b.hasValue) ∧ (∀ a, best = some a → b.nearTo x a) ∧ ∀ k ∈ l, k.hasValue → b.nearTo x k := by
  induction l generalizing best with
  | nil =>
    cases best with
    | none => simp
    | some b => simp [FocusLine.nearTo]
  | cons k l ih =>
    have step := ih (nearerLine x best k)
    rw [List.foldl_cons]
    by_cases value : k.hasValue
    · obtain ⟨b', chosen, from', bestBound, kBound⟩ : ∃ b', nearerLine x best k = some b' ∧ (best = some b' ∨ b' = k) ∧
          (∀ a, best = some a → b'.nearTo x a) ∧ b'.nearTo x k := by
        unfold nearerLine
        rw [if_pos (by simpa [FocusLine.hasValue] using value)]
        cases best with
        | none => exact ⟨k, rfl, .inr rfl, nofun, .inr ⟨rfl, le_rfl⟩⟩
        | some b =>
          dsimp only
          split
          · rename_i nearer
            refine ⟨k, rfl, .inr rfl, ?_, .inr ⟨rfl, le_rfl⟩⟩
            rintro a ⟨rfl⟩
            unfold FocusLine.nearTo
            omega
          · rename_i farther
            refine ⟨b, rfl, .inl rfl, ?_, ?_⟩
            · rintro a ⟨rfl⟩
              exact .inr ⟨rfl, le_rfl⟩
            · unfold FocusLine.nearTo
              omega
      rw [chosen] at step ⊢
      split at step
      · exact absurd step.1 nofun
      · rename_i b _
        obtain ⟨source, bound, least⟩ := step
        have nearest := bound b' rfl
        refine ⟨?_, fun a ha => FocusLine.nearTo_trans nearest (bestBound a ha), ?_⟩
        · rcases source with same | ⟨mem, hasValue⟩
          · cases same
            rcases from' with same | same
            · exact .inl same
            · subst same
              exact .inr ⟨by simp, value⟩
          · exact .inr ⟨by simp [mem], hasValue⟩
        · intro a mem hasValue
          rcases List.mem_cons.mp mem with rfl | mem
          · exact FocusLine.nearTo_trans nearest kBound
          · exact least a mem hasValue
    · rw [nearerLine_valueless value] at step ⊢
      split at step
      · refine ⟨step.1, ?_⟩
        intro a mem
        rcases List.mem_cons.mp mem with rfl | mem
        · exact value
        · exact step.2 a mem
      · obtain ⟨source, bound, least⟩ := step
        refine ⟨source.imp id fun ⟨mem, hasValue⟩ => ⟨by simp [mem], hasValue⟩, bound, ?_⟩
        intro a mem hasValue
        rcases List.mem_cons.mp mem with rfl | mem
        · exact absurd hasValue value
        · exact least a mem hasValue

theorem clampNat_zero (hi n : Nat) : clampNat 0 hi n = min hi n := by
  unfold clampNat
  rw [if_neg (by omega)]
  split <;> omega

theorem sweepCentre_of_value {s : State} {x v : Nat} (value : s.sweepValue x = v) :
    s.sweepCentre x = min 1023 (roundQuot s.profile.rounding (v : Int) 4).toNat := by
  rw [State.sweepCentre, value, clampNat_zero]

/-- Two valid lines of one sector are one line. -/
theorem State.focusLaw.sector_inj {s : State} (law : s.focusLaw) {a b : FocusLine} (ha : a ∈ s.fcc.lines) (hb : b ∈ s.fcc.lines)
    (va : a.valid = true) (vb : b.valid = true) (sector : a.sector = b.sector) : a = b := by
  obtain ⟨-, -, -, -, distinct⟩ := law
  exact List.inj_on_of_nodup_map distinct (List.mem_filter.mpr ⟨ha, va⟩) (List.mem_filter.mpr ⟨hb, vb⟩) sector

theorem sweepValue_of_nearest {s : State} (law : s.focusLaw) {x : Nat} {l : FocusLine} (mem : l ∈ s.fcc.lines) (value : l.hasValue)
    (nearest : ∀ k ∈ s.fcc.lines, k.hasValue → l.nearTo x k) : s.sweepValue x = l.value := by
  have found := foldl_nearerLine x s.fcc.lines none
  unfold State.sweepValue
  split at found
  · exact absurd value (found.2 l mem)
  · rename_i b chosen
    rw [chosen]
    obtain ⟨source, -, least⟩ := found
    obtain ⟨memb, valueb⟩ := source.resolve_left nofun
    have back := least l mem value
    have forth := nearest b memb valueb
    have sector : b.sector = l.sector := by
      unfold FocusLine.nearTo at back forth
      omega
    rw [law.sector_inj memb mem valueb.1 value.1 sector]

theorem sweepValue_of_none {s : State} {x : Nat} (none : ∀ k ∈ s.fcc.lines, ¬k.hasValue) : s.sweepValue x = s.profile.defaultFocus := by
  have found := foldl_nearerLine x s.fcc.lines Option.none
  unfold State.sweepValue
  split at found
  · rename_i chosen
    rw [chosen]
  · obtain ⟨source, -, -⟩ := found
    obtain ⟨mem, value⟩ := source.resolve_left nofun
    exact absurd value (none _ mem)

/-! ### The positions of a pass (R98, R100) -/

theorem passPositions_eq (start : Int) (step count : Nat) :
    passPositions start step count = (List.range count).filterMap fun i : Nat =>
      if 0 ≤ start + (i : Int) * (step : Int) ∧ start + (i : Int) * (step : Int) ≤ 1023
      then some (start + (i : Int) * (step : Int)).toNat else none := by
  have cast : ((List.range count) >>= fun a : Nat => pure (a : Int)) = (List.range count).map fun a : Nat => (a : Int) :=
    List.flatMap_pure_eq_map (fun a : Nat => (a : Int)) (List.range count)
  simp only [passPositions, cast, List.filterMap_map, Function.comp_def]

theorem mem_passPositions {start : Int} {step count x : Nat} :
    x ∈ passPositions start step count ↔ x ≤ 1023 ∧ ∃ i < count, (x : Int) = start + (i : Int) * (step : Int) := by
  simp only [passPositions_eq, List.mem_filterMap, List.mem_range]
  constructor
  · rintro ⟨i, hi, h⟩
    split at h
    · cases h
      exact ⟨by omega, i, hi, by omega⟩
    · cases h
  · rintro ⟨small, i, hi, h⟩
    exact ⟨i, hi, by rw [if_pos (by omega), ← h]; simp⟩

theorem passPositions_rising {start : Int} {step : Nat} (some : 1 ≤ step) (count : Nat) :
    (passPositions start step count).Pairwise (· < ·) := by
  rw [passPositions_eq, List.pairwise_filterMap]
  refine List.pairwise_lt_range.imp ?_
  intro i j less x hx y hy
  have grows : (i : Int) * (step : Int) < (j : Int) * (step : Int) :=
    Int.mul_lt_mul_of_pos_right (by omega) (by omega)
  split at hx <;> split at hy <;> simp at hx hy
  omega

theorem mem_coarsePositions {c span q x : Nat} (some : 1 ≤ q) :
    x ∈ coarsePositions c span q ↔ x ≤ 1023 ∧ x ≤ c + span ∧ ∃ k, x + span = c + k * q := by
  rw [coarsePositions, mem_passPositions]
  have count (k : Nat) : k < 2 * span / q + 1 ↔ k * q ≤ 2 * span := by
    rw [Nat.lt_succ_iff, Nat.le_div_iff_mul_le some]
  constructor
  · rintro ⟨small, k, hk, h⟩
    have within := (count k).mp hk
    have cast : ((k * q : Nat) : Int) = (k : Int) * (q : Int) := Int.natCast_mul k q
    exact ⟨small, by omega, k, by omega⟩
  · rintro ⟨small, bound, k, h⟩
    have cast : ((k * q : Nat) : Int) = (k : Int) * (q : Int) := Int.natCast_mul k q
    exact ⟨small, k, (count k).mpr (by omega), by omega⟩

/-- A coarse pass around a centre within 0..1,023 has a position. -/
theorem coarsePositions_ne_nil {c span q : Nat} (some : 1 ≤ q) (centre : c ≤ 1023) (fine : q ≤ span) (short : span ≤ 256) :
    coarsePositions c span q ≠ [] := by
  have first : ∃ k, span ≤ c + k * q ∧ c + k * q ≤ span + 1023 ∧ k * q ≤ 2 * span := by
    rcases Nat.lt_or_ge c span with before | after
    · have below := Nat.lt_mul_div_succ (span - c) (show 0 < q by omega)
      have above := Nat.div_mul_le_self (span - c) q
      have succ : ((span - c) / q + 1) * q = (span - c) / q * q + q := Nat.succ_mul _ _
      rw [Nat.mul_comm] at below
      exact ⟨(span - c) / q + 1, by omega, by omega, by omega⟩
    · exact ⟨0, by omega, by omega, by omega⟩
  obtain ⟨k, low, high, within⟩ := first
  refine List.ne_nil_of_mem (a := c + k * q - span) ((mem_coarsePositions some).mpr ⟨by omega, by omega, k, by omega⟩)

end Sys2Proof.Machine
end

section
/-! The settle timer, the settle limit and what they begin (R27 to R29, R95 to R98, R131, R140 to R144). -/

namespace Sys2Proof.Machine

/-! ### Moves whose record completes -/

/-- A table that held one record is empty when that record is gone. -/
theorem records_empty_of_gone {s t : State} {y : Record} (keeps : Keeps s t) (only : s.rqt.records = [y]) (gone : t.gone y.port y.tag) :
    t.rqt.records = [] := by
  rw [List.eq_nil_iff_forall_not_mem]
  intro z mem
  have key := keeps.keys.subset (List.mem_map_of_mem mem)
  rw [only] at key
  obtain ⟨port, tag⟩ := Prod.mk.inj (List.mem_singleton.mp key)
  exact gone z mem ⟨port, tag⟩

section completes
variable {w : Ctx} {p : Port} {tag : Byte} {y : Record} (found : w.st.findRecord p tag = some y)
include found

/-- The completion of a record that was the only work leaves nothing for an opportunity. -/
theorem examine_completesAlone (only : w.st.rqt.records = [y]) (run : w.st.rqt.run = none) (verified : w.st.trc.verified = true)
    (o : OutcomeCode) : examine (completeTag p tag o w) = completeTag p tag o w := by
  obtain ⟨-, port, same⟩ := findRecord_eq_some found
  have empty := records_empty_of_gone (completeTag_keeps w p tag o) only (by rw [port, same]; exact completeTag_gone p tag o w)
  have idle : (completeTag p tag o w).st.workless := ⟨fun r mem => by simp [empty] at mem, by simp [State.runWaits, run]⟩
  exact examine_workless idle (by simpa using verified)

/-- A granted record that was the only work leaves the transport and the grant at rest. -/
theorem completesAlone (grant : w.st.rqt.grant = .record p tag) (only : w.st.rqt.records = [y])
    (run : w.st.rqt.run = none) (verified : w.st.trc.verified = true) (o : OutcomeCode) :
    let t := finish (examine (completeTag p tag o w))
    t.trc.motion = w.st.trc.motion ∧ t.trc.move = w.st.trc.move ∧ t.rqt.grant = .none ∧ t.trc.epoch = w.st.trc.epoch ∧
      t.trc.verified = true := by
  intro t
  have waits : t = finish (completeTag p tag o w) := congrArg finish (examine_completesAlone found only run verified o)
  rw [waits]
  exact ⟨by simp, by simp, by simpa using completeTag_grant_none found grant o, by simp, by simpa using verified⟩

theorem completesOnce (o : OutcomeCode) {s : State} (lnk : w.st.lnk = s.lnk) (counter : w.st.trc.counter = s.trc.counter)
    (epoch : w.st.trc.epoch = s.trc.epoch) :
    let t := finish (examine (completeTag p tag o w))
    t.gone p tag ∧ sends s t p (replyMsg y.tag y.work.code (o.code :: s.recordResults y)) := by
  intro t
  have gone := (completeTag_gone p tag o w).of_keeps (examine_keeps _)
  have sent := completeTag_sends found o
  rw [recordResults_of_counter counter epoch] at sent
  exact ⟨by simpa only [t, finish_frame, State.gone] using gone,
    sends_finish (by simp [lnk]) ((examine_grows (loud := []) _).mem sent)⟩

end completes

/-! ### SETTLED (R27, R131, R141) -/

section settled
variable {m : Move} {s : State} (move : s.trc.move = some m)
include move

theorem exec_settleTimerExpiry_settled (settling : s.trc.motion = .settling) (band : s.inBand m.target = true) :
    exec .settleTimerExpiry s = .next (finish (examine (moveSettled (Ctx.start s)))) := by
  have settled : s.settled = true := by simp [State.settled, settling, move, band]
  rw [exec_settleTimerExpiry, onSettleTimerExpiry, if_pos settled]

theorem moveSettled_jog {p : Port} {tag : Byte} (job : m.job = .jog) (grant : s.rqt.grant = .record p tag) :
    moveSettled (Ctx.start s) = completeTag p tag .settled ((Ctx.start s).upd moveOver) := by
  have grant' : ((Ctx.start s).upd moveOver).st.rqt.grant = .record p tag := by simp [Ctx.start, grant]
  have start : (Ctx.start s).st.trc.move = some m := move
  simp only [moveSettled, start, job, grant']

/-- The move is over and GTU asks for focus. -/
def focusingCtx (s : State) : Ctx := ((Ctx.start s).upd moveOver).upd fun s => { s with gtu.phase := .focusing }

theorem moveSettled_present {g : InHand} (job : m.job = .present) (inHand : s.gtu.inHand = some g)
    (stands : s.frameAtGate = some g.frame) :
    moveSettled (Ctx.start s) =
      match g.mode with
      | .normal => focusLookup g.holder g.frame (focusingCtx s)
      | .hold => focusReady .held (focusingCtx s) := by
  have start : (Ctx.start s).st.trc.move = some m := move
  have inHand' : ((Ctx.start s).upd moveOver).st.gtu.inHand = some g := by simp [Ctx.start, inHand]
  have stands' : ((Ctx.start s).upd moveOver).st.frameAtGate = some g.frame := by
    rw [← stands]
    exact frameAtGate_of_same (by simp [Ctx.start]) (by simp [Ctx.start]) (by simp [Ctx.start]) (by simp [Ctx.start])
      (by simp [Ctx.start]) (by simp [Ctx.start]) (by simp [Ctx.start]) (by simp [Ctx.start])
  simp only [moveSettled, start, job, gateSettled, inHand', stands', if_true]
  rfl

end settled

theorem focusingCtx_fields (s : State) :
    (focusingCtx s).st.trc = (moveOver s).trc ∧ (focusingCtx s).st.gtu = { s.gtu with phase := .focusing } ∧
      (focusingCtx s).st.fcc = s.fcc ∧ (focusingCtx s).st.ntu = s.ntu ∧ (focusingCtx s).st.rqt = s.rqt ∧
      (focusingCtx s).st.lnk = s.lnk ∧ (focusingCtx s).occs = [] ∧ (focusingCtx s).st.profile = s.profile := by
  simp [focusingCtx, Ctx.start, State.profile]

theorem moveOver_trc (s : State) : (moveOver s).trc.motion = .idle ∧ (moveOver s).trc.move = none := by
  simp [moveOver]

/-- GTU shows the frame of the grant in hand, and no opportunity follows. -/
theorem presents {w : Ctx} {g : InHand} (src : FocusSource) (inHand : w.st.gtu.inHand = some g) :
    let t := finish (examine (makePresentation src w))
    t.gtu = { w.st.gtu with
      presentation := some ⟨g.holder, g.frame, w.st.trc.epoch, src, g.hold.getD w.st.profile.holdTime, .none⟩
      phase := .presented
      watches := w.st.gtu.watches.set g.holder.port true
      hold := some (g.hold.getD w.st.profile.holdTime)
      inHand := none
      heldReport := none } ∧
    t.trc.motion = w.st.trc.motion ∧ t.trc.move = w.st.trc.move ∧ t.trc.counter = w.st.trc.counter ∧
    t.trc.epoch = w.st.trc.epoch ∧ t.fcc = w.st.fcc := by
  intro t
  have gtu := makePresentation_gtu src inHand
  have stays : t = finish (makePresentation src w) :=
    congrArg finish (examine_none (opportunity_shown (by simp [gtu])))
  rw [stays]
  refine ⟨?_, by simp, by simp, by simp, by simp, by simp⟩
  rw [finish_gtu_stays (by simp [gtu]) (by simp [gtu]), gtu]

/-- PRESENTED latches on the port of the holder, where it is enabled (R144). -/
theorem presents_latches {w : Ctx} {g : InHand} (src : FocusSource) (inHand : w.st.gtu.inHand = some g) (silent : w.occs = [])
    (enabled : (w.st.slot g.holder.port .presented).enabled = true) :
    ∃ l, ((finish (examine (makePresentation src w))).slot g.holder.port .presented).latch = some l ∧
      l.data = pad8 ([g.holder.tag] ++ be 2 g.frame ++ [src.code] ++ be 2 w.st.trc.epoch.toNat) := by
  have gtu := makePresentation_gtu src inHand
  have occs : (makePresentation src w).occs =
      [⟨.presented, g.holder.port, pad8 ([g.holder.tag] ++ be 2 g.frame ++ [src.code] ++ be 2 w.st.trc.epoch.toNat)⟩] := by
    simp [makePresentation, inHand, silent]
  rw [examine_none (opportunity_shown (by simp [gtu]))]
  refine latch_finish (by simpa [State.slot] using enabled) ?_ (by simp [occs])
  intro o mem _ _
  rw [occs, List.mem_singleton] at mem
  rw [mem]

/-! ### Focus at presentation (R96 to R98) -/

/-- With a phase that is not IDLE no opportunity follows the focus lookup, and the gate stands as the lookup left it. -/
theorem lookup_stays {w : Ctx} (phase : w.st.gtu.phase = .focusing) :
    finish (examine w) = finish w ∧ (finish w).gtu = w.st.gtu :=
  ⟨congrArg finish (examine_none (opportunity_shown (by simp [phase]))), finish_gtu_stays (by simp [phase]) (by simp [phase])⟩

section lookup
variable {w : Ctx} {g : InHand} (phase : w.st.gtu.phase = .focusing) (inHand : w.st.gtu.inHand = some g)
  (free : w.st.gtu.exposure = none) (idle : w.st.fcc.stage = .idle)

theorem focusLookup_value {n x : Nat} {o : Holder} (line : w.st.lineOf (x / 256) = some n) (value : (w.st.focusLine n).pending = false) :
    focusLookup o x w = orderLens ⟨(w.st.focusLine n).value, .final .table⟩ (w.upd (touchLine n)) := by
  simp [focusLookup, line, value]

theorem focusLookup_sweeps {x : Nat} {o : Holder} (valueless : ∀ n, w.st.lineOf (x / 256) = some n → (w.st.focusLine n).pending = true) :
    focusLookup o x w = beginSweep o x (x / 256) w := by
  unfold focusLookup
  dsimp only
  split
  · rename_i n line
    rw [if_pos (valueless n line)]
  · rfl

include phase inHand free idle

/-- The lens goes to the value of the line, which becomes most recent; a lens that stands there shows the frame at once. -/
theorem value_leaves {n v : Nat} :
    let t := finish (examine (orderLens ⟨v, .final .table⟩ (w.upd (touchLine n))))
    t.trc.motion = w.st.trc.motion ∧ t.trc.move = w.st.trc.move ∧ t.fcc.lines = w.st.fcc.lines ∧
      t.fcc.lru = n :: w.st.fcc.lru.filter (· ≠ n) ∧ t.fcc.sweep = w.st.fcc.sweep ∧ t.fcc.lens = w.st.fcc.lens ∧
      t.trc.counter = w.st.trc.counter ∧ t.trc.epoch = w.st.trc.epoch ∧
      (v ≠ w.st.fcc.lens → t.fcc.stage = .moving ∧ t.fcc.running = some ⟨v, .final .table⟩ ∧ t.gtu.phase = .focusing ∧
        t.gtu.inHand = some g) ∧
      (v = w.st.fcc.lens → t.gtu.phase = .presented ∧ t.gtu.presentation =
        some ⟨g.holder, g.frame, w.st.trc.epoch, .table, g.hold.getD w.st.profile.holdTime, .none⟩) := by
  intro t
  have touched : (w.upd (touchLine n)).st.gtu = w.st.gtu := by simp
  by_cases home : v = w.st.fcc.lens
  · have shows : orderLens ⟨v, .final .table⟩ (w.upd (touchLine n)) = makePresentation .table (w.upd (touchLine n)) := by
      rw [← focusReady_presents (src := .table) (by simp [phase]) (by rw [touched, inHand]) (by simp [free])]
      simp [orderLens, idle, home, lensDone]
    obtain ⟨gtu, motion, moved, counter, epoch, fcc⟩ := presents (w := w.upd (touchLine n)) .table (by rw [touched, inHand])
    have same : t = finish (examine (makePresentation .table (w.upd (touchLine n)))) := by rw [← shows]
    rw [← same] at gtu motion moved counter epoch fcc
    have profile : (touchLine n w.st).profile = w.st.profile := by simp [State.profile]
    refine ⟨by simpa using motion, by simpa using moved, by simp [fcc], by simp [fcc, touchLine], by simp [fcc], by simp [fcc],
      by simpa using counter, by simpa using epoch, fun away => absurd home away, fun _ => ?_⟩
    simp [gtu, profile]
  · have begins := orderLens_begins (w := w.upd (touchLine n)) (h := ⟨v, .final .table⟩) (by simp [idle]) (by simpa using home) (by simp [free])
    obtain ⟨stays, gtu⟩ := lookup_stays (w := orderLens ⟨v, .final .table⟩ (w.upd (touchLine n))) (by simp [begins, phase])
    have same : t = finish (orderLens ⟨v, .final .table⟩ (w.upd (touchLine n))) := stays
    rw [← same] at gtu
    have fcc : t.fcc = { (touchLine n w.st).fcc with running := some ⟨v, .final .table⟩, stage := .moving } := by
      rw [same, begins]
      simp
    refine ⟨by simp [same], by simp [same], by simp [fcc], by simp [fcc, touchLine], by simp [fcc], by simp [fcc], by simp [same], by simp [same],
      fun _ => ⟨by rw [fcc], by rw [fcc], ?_, ?_⟩, fun here => absurd here home⟩
    · simp [gtu, begins, phase]
    · simp [gtu, begins, inHand]

end lookup

/-- The sweep that a lookup begins (R97, R98). -/
def State.freshSweep (s : State) (o : Holder) (n x : Nat) : Sweep :=
  ⟨o, n, x, s.sweepCentre x, .coarse, coarsePositions (s.sweepCentre x) s.profile.sweepSpan s.profile.coarseStep,
    coarsePositions (s.sweepCentre x) s.profile.sweepSpan s.profile.coarseStep, [], none, false, s.profile.sweepSpan,
    s.profile.coarseStep, s.profile.contrastFloor⟩

theorem beginSweep_eq (o : Holder) (n x : Nat) (w : Ctx) :
    beginSweep o n x w = takeSample (w.upd fun s => { s with fcc.sweep := some (w.st.freshSweep o n x) }) := rfl

/-- A sample's lens move begins, or its focus line is requested where the lens stands. -/
theorem takeSample_takes {w : Ctx} {sw : Sweep} (sweep : w.st.fcc.sweep = some sw) (idle : w.st.fcc.stage = .idle)
    (free : w.st.gtu.exposure = none) :
    (takeSample w).st.gtu = w.st.gtu ∧ ∀ j, sw.next.head? = some j →
      (4 * j ≠ w.st.fcc.lens → (takeSample w).st.fcc.stage = .moving ∧ (takeSample w).st.fcc.running = some ⟨4 * j, .sample⟩) ∧
      (4 * j = w.st.fcc.lens → (takeSample w).st.fcc.sampleTimer = some 0) := by
  simp only [takeSample, sweep]
  cases next : sw.next with
  | nil => exact ⟨rfl, nofun⟩
  | cons j rest =>
    by_cases home : 4 * j = w.st.fcc.lens
    · have waits : orderLens ⟨4 * j, .sample⟩ w = w.upd fun s => { s with fcc.sampleTimer := some 0 } := by
        simp [orderLens, idle, home, lensDone, sweep]
      dsimp only
      rw [waits]
      simp [home]
    · have begins := orderLens_begins (w := w) (h := ⟨4 * j, .sample⟩) idle home free
      simp [begins, home]

theorem sweep_leaves {w : Ctx} {g : InHand} (phase : w.st.gtu.phase = .focusing) (inHand : w.st.gtu.inHand = some g)
    (free : w.st.gtu.exposure = none) (idle : w.st.fcc.stage = .idle) (o : Holder) (n x : Nat) :
    let t := finish (examine (beginSweep o n x w))
    t.trc.motion = w.st.trc.motion ∧ t.trc.move = w.st.trc.move ∧ t.fcc.sweep = some (w.st.freshSweep o n x) ∧
      t.fcc.lines = w.st.fcc.lines ∧ t.fcc.lru = w.st.fcc.lru ∧ t.fcc.lens = w.st.fcc.lens ∧ t.gtu.phase = .focusing ∧
      t.gtu.inHand = some g ∧ t.trc.counter = w.st.trc.counter ∧ t.trc.epoch = w.st.trc.epoch ∧
      ∀ j, (w.st.freshSweep o n x).positions.head? = some j →
        (4 * j ≠ w.st.fcc.lens → t.fcc.stage = .moving ∧ t.fcc.running = some ⟨4 * j, .sample⟩) ∧
        (4 * j = w.st.fcc.lens → t.fcc.sampleTimer = some 0) := by
  intro t
  obtain ⟨gtu, samples⟩ := takeSample_takes (w := w.upd fun s => { s with fcc.sweep := some (w.st.freshSweep o n x) }) rfl
    (by simpa using idle) (by simpa using free)
  rw [← beginSweep_eq] at gtu samples
  have gtu' : (beginSweep o n x w).st.gtu = w.st.gtu := gtu
  obtain ⟨stays, gate⟩ := lookup_stays (w := beginSweep o n x w) (by rw [gtu', phase])
  have same : t = finish (beginSweep o n x w) := stays
  rw [← same, gtu'] at gate
  have sweep : (beginSweep o n x w).st.fcc.sweep = some (w.st.freshSweep o n x) := by simp [beginSweep_eq]
  rw [gate]
  refine ⟨by simp [same], by simp [same], by simp [same, sweep], by simp [same], by simp [same], by simp [same], phase, inHand, by simp [same], by simp [same], ?_⟩
  intro j head
  obtain ⟨away, home⟩ := samples j head
  simpa [same] using And.intro away home

end Sys2Proof.Machine
end

section
/-! Settling: the obligation (R27 to R29, R95 to R98, R131, R140 to R144). -/

namespace Sys2Proof.Machine

/-! ### The next leg of a move (R25, R28, R29) -/

/-- The move in flight is `m`, but for where its leg goes. -/
def State.onLegOf (s : State) (m : Move) : Prop :=
  ∃ d cls c, s.trc.move = some { m with dir := d, legSpeed := cls, ramp := .none, creepIn := c }

section legs
variable (m : Move) (s : State)

theorem travelLeg_onLeg (d : Dir) (cls : SpeedClass) (setDir : Bool) : (travelLeg m d cls setDir s).onLegOf m := ⟨d, cls, false, rfl⟩

theorem enterSettling_onLeg : (enterSettling m s).onLegOf m := ⟨m.dir, m.legSpeed, false, rfl⟩

theorem startCreep_onLeg : (startCreep m s).onLegOf m := by
  unfold startCreep
  split
  · exact enterSettling_onLeg m s
  · exact ⟨.forward, .creep, true, rfl⟩

theorem nextLeg_onLeg (cls : SpeedClass) (setDir : Bool) : (nextLeg cls setDir m s).onLegOf m := by
  have approach : (approachLeg cls setDir m s).onLegOf m := by
    unfold approachLeg
    extract_lets a
    split
    · exact startCreep_onLeg m s
    · split
      · exact travelLeg_onLeg m s _ _ _
      · exact travelLeg_onLeg m s _ _ _
  unfold nextLeg
  split
  · unfold directLeg
    split
    · exact enterSettling_onLeg m s
    · split
      · exact travelLeg_onLeg m s _ _ _
      · exact travelLeg_onLeg m s _ _ _
  all_goals exact approach

theorem travelLeg_keepsDir (d : Dir) (cls : SpeedClass) : (travelLeg m d cls false s).trc.travelDir = s.trc.travelDir := rfl

theorem startCreep_travelDir : (startCreep m s).trc.travelDir = s.trc.travelDir := by
  unfold startCreep
  split
  · simp
  · simp

theorem nextLeg_keepsDir (cls : SpeedClass) : (nextLeg cls false m s).trc.travelDir = s.trc.travelDir := by
  have approach : (approachLeg cls false m s).trc.travelDir = s.trc.travelDir := by
    unfold approachLeg
    extract_lets a
    split
    · exact startCreep_travelDir m s
    · split
      · rfl
      · rfl
  unfold nextLeg
  split
  · unfold directLeg
    split
    · simp
    · split
      · rfl
      · rfl
  all_goals exact approach

end legs

/-! ### The settle limit (R28) -/

section limit
variable {m : Move} {s : State} (move : s.trc.move = some m) (settling : s.trc.motion = .settling)
include move settling

theorem settleLimit_retries (fresh : m.retried = false) :
    exec .settleLimitExpiry s = .next (finish ((Ctx.start s).upd (settleRetry m))) := by
  rw [exec_settleLimitExpiry, onSettleLimitExpiry, move, settling]
  simp [fresh]

theorem settleLimit_fails {p : Port} {tag : Byte} (used : m.retried = true) (grant : s.rqt.grant = .record p tag) :
    exec .settleLimitExpiry s =
      .next (finish (examine (completeTag p tag .positionFail ((((Ctx.start s).upd moveOver)).upd dropInHand)))) := by
  have grant' : (((Ctx.start s).upd moveOver).upd dropInHand).st.rqt.grant = .record p tag := by simp [Ctx.start, grant]
  rw [exec_settleLimitExpiry, onSettleLimitExpiry, move, settling]
  simp only [used, if_true, positionFail, grant']

end limit

/-! ### O54 -/

theorem settled_jog {m : Move} {s : State} {p : Port} {tag : Byte} {y : Record} (move : s.trc.move = some m)
    (settling : s.trc.motion = .settling) (job : m.job = .jog) (band : s.inBand m.target = true)
    (grant : s.rqt.grant = .record p tag) (found : s.findRecord p tag = some y) :
    ∃ t, exec .settleTimerExpiry s = .next t ∧ (∀ z ∈ t.rqt.records, ¬(z.port = p ∧ z.tag = tag)) ∧
      sends s t p (replyMsg y.tag y.work.code (74 :: s.recordResults y)) ∧ t.trc.counter = s.trc.counter ∧
      t.fit.entries = s.fit.entries ∧
      (s.rqt.records = [y] → s.rqt.run = none → s.trc.verified = true →
        t.trc.motion = .idle ∧ t.trc.move = none ∧ t.rqt.grant = .none ∧ t.trc.epoch = s.trc.epoch) := by
  rw [exec_settleTimerExpiry_settled move settling band, moveSettled_jog move job grant]
  generalize st : (Ctx.start s).upd moveOver = w
  have rqt : w.st.rqt = s.rqt := by simp [← st, Ctx.start]
  have found' : w.st.findRecord p tag = some y := (findRecord_of_rqt rqt p tag).trans found
  have counter : w.st.trc.counter = s.trc.counter := by simp [← st, Ctx.start]
  have epoch : w.st.trc.epoch = s.trc.epoch := by simp [← st, Ctx.start]
  obtain ⟨gone, sent⟩ := completesOnce found' .settled (s := s) (by simp [← st, Ctx.start]) counter epoch
  refine ⟨_, rfl, gone, sent, by simp [counter], by simp [← st, Ctx.start], fun only run verified => ?_⟩
  obtain ⟨motion, moved, none, still, -⟩ := completesAlone found' (by rw [rqt, grant]) (by rw [rqt, only]) (by rw [rqt, run])
    (by simpa [← st, Ctx.start] using verified) .settled
  exact ⟨motion.trans (by simp [← st]), moved.trans (by simp [← st, moveOver_trc]), none, still.trans epoch⟩

theorem settleLimit_twice {m : Move} {s : State} {p : Port} {tag : Byte} {y : Record} (move : s.trc.move = some m)
    (settling : s.trc.motion = .settling) (used : m.retried = true) (grant : s.rqt.grant = .record p tag)
    (found : s.findRecord p tag = some y) :
    ∃ t, exec .settleLimitExpiry s = .next t ∧ (∀ z ∈ t.rqt.records, ¬(z.port = p ∧ z.tag = tag)) ∧
      sends s t p (replyMsg y.tag y.work.code (70 :: s.recordResults y)) ∧ t.trc.counter = s.trc.counter ∧
      t.trc.cause = s.trc.cause ∧ t.ntu.levels.fault = s.ntu.levels.fault ∧
      (s.rqt.records = [y] → s.rqt.run = none → s.trc.verified = true →
        t.trc.motion = .idle ∧ t.trc.move = none ∧ t.rqt.grant = .none ∧ t.trc.verified = true) := by
  rw [settleLimit_fails move settling used grant]
  generalize st : ((Ctx.start s).upd moveOver).upd dropInHand = w
  have rqt : w.st.rqt = s.rqt := by simp [← st, Ctx.start]
  have found' : w.st.findRecord p tag = some y := (findRecord_of_rqt rqt p tag).trans found
  have counter : w.st.trc.counter = s.trc.counter := by simp [← st, Ctx.start]
  have level : w.st.ntu = s.ntu := by simp [← st, Ctx.start]
  obtain ⟨gone, sent⟩ := completesOnce found' .positionFail (s := s) (by simp [← st, Ctx.start]) counter (by simp [← st, Ctx.start])
  refine ⟨_, rfl, gone, sent, by simp [counter], by simp [← st, Ctx.start], ?_, fun only run verified => ?_⟩
  · simp [examine_faultLevel, completeTag_faultLevel, level]
  · obtain ⟨motion, moved, none, -, verified⟩ := completesAlone found' (by rw [rqt, grant]) (by rw [rqt, only]) (by rw [rqt, run])
      (by simpa [← st, Ctx.start] using verified) .positionFail
    exact ⟨motion.trans (by simp [← st]), moved.trans (by simp [← st, moveOver_trc]), none, verified⟩

section present
variable {m : Move} {s : State} {g : InHand} (move : s.trc.move = some m) (settling : s.trc.motion = .settling) (job : m.job = .present)
  (band : s.inBand m.target = true) (inHand : s.gtu.inHand = some g) (stands : s.frameAtGate = some g.frame)
  (free : s.gtu.exposure = none)
include move settling job band inHand stands free

theorem settled_hold (mode : g.mode = .hold) :
    ∃ t, exec .settleTimerExpiry s = .next t ∧ t.trc.motion = .idle ∧ t.trc.move = none ∧
      t.gtu.presentation = some ⟨g.holder, g.frame, s.trc.epoch, .held, g.hold.getD s.profile.holdTime, .none⟩ ∧
      t.gtu.phase = .presented ∧ t.gtu.inHand = none ∧ t.gtu.hold = some (g.hold.getD s.profile.holdTime) ∧
      t.gtu.watches.get g.holder.port = true ∧ t.trc.counter = s.trc.counter ∧ t.trc.epoch = s.trc.epoch ∧
      ((s.slot g.holder.port .presented).enabled = true → ∃ l, (t.slot g.holder.port .presented).latch = some l ∧
        l.data = pad8 ([g.holder.tag] ++ be 2 g.frame ++ [4] ++ be 2 s.trc.epoch.toNat)) := by
  rw [exec_settleTimerExpiry_settled move settling band, moveSettled_present move job inHand stands]
  obtain ⟨trc, gtu, fcc, ntu, rqt, lnk, occs, profile⟩ := focusingCtx_fields s
  obtain ⟨idle, done⟩ := moveOver_trc s
  generalize focusingCtx s = w at *
  have inHand' : w.st.gtu.inHand = some g := by rw [gtu]; exact inHand
  have shows : focusReady .held w = makePresentation .held w :=
    focusReady_presents (by rw [gtu]) inHand' (by rw [gtu]; exact free)
  have latches := presents_latches (w := w) .held inHand' occs
  obtain ⟨gate, motion, moved, counter, epoch, -⟩ := presents (w := w) .held inHand'
  simp only [mode, shows]
  have epoch' : w.st.trc.epoch = s.trc.epoch := by simp [trc]
  rw [epoch', profile] at gate
  rw [epoch'] at latches
  refine ⟨_, rfl, by rw [motion, trc, idle], by rw [moved, trc, done], by rw [gate], by rw [gate], by rw [gate], by rw [gate], ?_,
    by rw [counter, trc]; simp, epoch.trans epoch', fun enabled => latches (by simpa [State.slot, ntu] using enabled)⟩
  rw [gate]
  simp

/-- The lookup of a PRESENT in NORMAL mode, from the state in which GTU asks for focus. -/
theorem settled_normal (mode : g.mode = .normal) (rests : s.fcc.stage = .idle) :
    (∀ n, s.lineOf (g.frame / 256) = some n → (s.focusLine n).pending = false →
      ∃ t, exec .settleTimerExpiry s = .next t ∧ t.trc.motion = .idle ∧ t.trc.move = none ∧
        t.fcc.lines = s.fcc.lines ∧ t.fcc.lru = n :: s.fcc.lru.filter (· ≠ n) ∧ t.fcc.sweep = s.fcc.sweep ∧
        t.fcc.lens = s.fcc.lens ∧ t.trc.counter = s.trc.counter ∧ t.trc.epoch = s.trc.epoch ∧
        ((s.focusLine n).value ≠ s.fcc.lens → t.fcc.stage = .moving ∧
          t.fcc.running = some ⟨(s.focusLine n).value, .final .table⟩ ∧ t.gtu.phase = .focusing ∧
          t.gtu.inHand = some g) ∧
        ((s.focusLine n).value = s.fcc.lens → t.gtu.phase = .presented ∧ t.gtu.presentation =
          some ⟨g.holder, g.frame, s.trc.epoch, .table, g.hold.getD s.profile.holdTime, .none⟩)) ∧
    ((∀ n, s.lineOf (g.frame / 256) = some n → (s.focusLine n).pending = true) →
      ∃ t w, exec .settleTimerExpiry s = .next t ∧ t.trc.motion = .idle ∧ t.trc.move = none ∧
        t.fcc.sweep = some w ∧ w.owner = g.holder ∧ w.frame = g.frame ∧ w.sector = g.frame / 256 ∧
        w.centre = s.sweepCentre (g.frame / 256) ∧ w.pass = .coarse ∧ w.samples = [] ∧ w.best = none ∧
        w.repeatUsed = false ∧ w.span = s.profile.sweepSpan ∧ w.step = s.profile.coarseStep ∧
        w.floor = s.profile.contrastFloor ∧ w.positions = coarsePositions w.centre w.span w.step ∧
        w.next = w.positions ∧ t.fcc.lines = s.fcc.lines ∧ t.fcc.lru = s.fcc.lru ∧ t.fcc.lens = s.fcc.lens ∧
        t.gtu.phase = .focusing ∧ t.gtu.inHand = some g ∧ t.trc.counter = s.trc.counter ∧ t.trc.epoch = s.trc.epoch ∧
        ∀ j, w.positions.head? = some j →
          (4 * j ≠ s.fcc.lens → t.fcc.stage = .moving ∧ t.fcc.running = some ⟨4 * j, .sample⟩) ∧
          (4 * j = s.fcc.lens → t.fcc.sampleTimer = some 0)) := by
  rw [exec_settleTimerExpiry_settled move settling band, moveSettled_present move job inHand stands]
  obtain ⟨trc, gtu, fcc, -, -, -, -, profile⟩ := focusingCtx_fields s
  obtain ⟨idle, done⟩ := moveOver_trc s
  generalize focusingCtx s = w at *
  have phase : w.st.gtu.phase = .focusing := by rw [gtu]
  have inHand' : w.st.gtu.inHand = some g := by rw [gtu]; exact inHand
  have free' : w.st.gtu.exposure = none := by rw [gtu]; exact free
  have rests' : w.st.fcc.stage = .idle := by rw [fcc, rests]
  have counter : w.st.trc.counter = s.trc.counter := by simp [trc]
  have epoch : w.st.trc.epoch = s.trc.epoch := by simp [trc]
  have lineOf : w.st.lineOf (g.frame / 256) = s.lineOf (g.frame / 256) := by rw [State.lineOf, fcc, State.lineOf]
  have focusLine (n : Nat) : w.st.focusLine n = s.focusLine n := by rw [State.focusLine, fcc, State.focusLine]
  simp only [mode]
  refine ⟨fun n line value => ?_, fun valueless => ?_⟩
  · rw [focusLookup_value (lineOf.trans line) (by rw [focusLine, value]), focusLine]
    have leaves := value_leaves phase inHand' free' rests' (n := n) (v := (s.focusLine n).value)
    simp only [trc, fcc, profile, idle, done] at leaves
    simp only [moveOver_frame] at leaves
    exact ⟨_, rfl, leaves⟩
  · rw [focusLookup_sweeps fun n line => by rw [focusLine]; exact valueless n (lineOf.symm.trans line)]
    have leaves := sweep_leaves phase inHand' free' rests' g.holder g.frame (g.frame / 256)
    have centre : w.st.sweepCentre (g.frame / 256) = s.sweepCentre (g.frame / 256) := by
      simp only [State.sweepCentre, State.sweepValue, profile, fcc]
    obtain ⟨motion, moved, sweep, lines, lru, lens, focusing, hand, counter', epoch', samples⟩ := leaves
    refine ⟨_, _, rfl, by rw [motion, trc, idle], by rw [moved, trc, done], sweep, rfl, rfl, rfl, centre, rfl, rfl, rfl, rfl, ?_, ?_, ?_, rfl, rfl,
      by rw [lines, fcc], by rw [lru, fcc], by rw [lens, fcc], focusing, hand, counter'.trans counter, epoch'.trans epoch, ?_⟩
    · exact congrArg Profile.sweepSpan profile
    · exact congrArg Profile.coarseStep profile
    · exact congrArg Profile.contrastFloor profile
    · rw [← fcc]
      exact samples

end present

/-- Settles O54: SETTLED ends a JOG (`completesOnce`) and shows a frame at once (`presents`) or looks its focus up (`value_leaves`,
`sweep_leaves`); the settle limit retries once; a sweep starts from the nearest value (`sweepValue_of_nearest`). -/
theorem settlingEndsTheMove : Obligations.SettlingEndsTheMove := by
  refine ⟨fun m s move settling => ⟨fun p tag y job band grant found => settled_jog move settling job band grant found,
      fun g job band inHand mode stands free => settled_hold move settling job band inHand stands free mode,
      fun g job band inHand mode stands free rests => settled_normal move settling job band inHand stands free mode rests,
      fun fresh => ?_, fun p tag y used grant found => settleLimit_twice move settling used grant found⟩,
    fun x s law => ⟨fun l mem valid value nearest => ?_, fun none => ?_⟩,
    fun c span q some => ⟨passPositions_rising some _, fun x => mem_coarsePositions some, coarsePositions_ne_nil some⟩⟩
  · rw [settleLimit_retries move settling fresh]
    obtain ⟨d, cls, c, leg⟩ := nextLeg_onLeg { m with retried := true } (motionStart s) .creep false
    have keepsDir := nextLeg_keepsDir { m with retried := true } (motionStart s) .creep
    refine ⟨_, { { m with retried := true } with dir := d, legSpeed := cls, ramp := .none, creepIn := c }, rfl, by simp [settleRetry, motionStart], by simp [settleRetry, motionStart], ?_, rfl, rfl, ?_, by simp [settleRetry, motionStart],
      by simp [settleRetry, motionStart], by simp [settleRetry, motionStart]⟩
    · simpa [settleRetry] using leg
    · simpa [settleRetry] using keepsDir
  · exact sweepCentre_of_value (sweepValue_of_nearest law mem ⟨valid, value⟩ fun k hk value => nearest k hk value.1 value.2)
  · exact sweepCentre_of_value (sweepValue_of_none fun k mem value => by simpa [value.2] using none k mem value.1)

end Sys2Proof.Machine
end

section
/-! Legs, ramps and bounds at rest (R19, R23 to R31, R78, R79, R121, R130, R131, R168). -/

namespace Sys2Proof.Machine

/-! ### The course of the film -/

theorem sameCourse_finish {s : State} {w : Ctx} (counter : w.st.trc.counter = s.trc.counter) (verified : w.st.trc.verified = s.trc.verified)
    (epoch : w.st.trc.epoch = s.trc.epoch) (roll : w.st.trc.roll = s.trc.roll) (cause : w.st.trc.cause = s.trc.cause)
    (watches : w.st.gtu.watches = s.gtu.watches) (entries : w.st.fit.entries = s.fit.entries) (p256 : w.st.fit.p256 = s.fit.p256)
    (fcc : w.st.fcc = s.fcc) : s.sameCourse (finish w) := by
  refine ⟨?_, ?_, ?_, ?_, ?_, ?_, ?_, ?_, ?_⟩ <;> simp [*]

/-- The state that a fault leaves is that of the state before it, where the blocks that a fault keeps are the same. -/
theorem State.afterFault.of_same {s u t : State} {c : Cause} (fault : u.afterFault t c) (roll : u.trc.roll = s.trc.roll)
    (profile : u.trc.profile = s.trc.profile) (counter : u.trc.counter = s.trc.counter) (endPos : u.trc.endPos = s.trc.endPos)
    (passed : u.trc.overrun = s.trc.overrun) (epoch : u.trc.epoch = s.trc.epoch) (entries : u.fit.entries = s.fit.entries)
    (index : u.fit.index = s.fit.index) (p256 : u.fit.p256 = s.fit.p256) (splice : u.fit.splice = s.fit.splice)
    (lines : u.fcc.lines = s.fcc.lines) (lru : u.fcc.lru = s.fcc.lru) (halted : u.rqt.halted = s.rqt.halted) : s.afterFault t c := by
  simpa only [State.afterFault, roll, profile, counter, endPos, passed, epoch, entries, index, p256, splice, lines, lru, halted] using fault

/-- A fault makes no grant opportunity. -/
theorem takeFault_stays (c : Cause) (w : Ctx) : finish (examine (takeFault c w)) = finish (takeFault c w) := by
  obtain ⟨motion, -⟩ := takeFault_fields c w
  exact congrArg finish (examine_none (opportunity_busy (by simp [motion, Motion.free])))

/-! ### Legs (R25, R26, R28, R29) -/

theorem moving_iff (x : Motion) : x.moving = true ↔ x = .accel ∨ x = .cruise ∨ x = .decel ∨ x = .creepIn := by
  cases x <;> simp [Motion.moving]

theorem enterSettling_leaves (m : Move) (s : State) :
    let t := finish ((Ctx.start s).upd (enterSettling m))
    t.trc.move = some { m with ramp := .none, creepIn := false } ∧ t.trc.motion = .settling ∧ t.trc.timers.settleLimit = some 0 ∧
      t.trc.speed = 0 ∧ s.sameCourse t := by
  refine ⟨by simp [enterSettling], by simp [enterSettling], by simp [finish_timers, syncTimers, enterSettling], by simp [enterSettling],
    sameCourse_finish ?_ ?_ ?_ ?_ ?_ ?_ ?_ ?_ ?_⟩ <;> simp [Ctx.start]

section leg
variable {m : Move} {s : State} (move : s.trc.move = some m)
include move

theorem exec_travelLegRest_ends (ends : m.legEnds = true) (moving : s.trc.motion.moving = true) :
    exec .travelLegRest s = .next (finish ((Ctx.start s).upd fun s => afterLeg m (atRest s))) := by
  rw [exec_travelLegRest, onTravelLegRest, move]
  dsimp only
  rw [if_pos ⟨ends, moving⟩]

theorem leg_rests_at_approach (ramp : m.ramp = .none) (travel : m.creepIn = false) (job : m.job = .present ∨ m.job = .returnL)
    (there : s.trc.counter = m.target - 40) (moving : s.trc.motion = .accel ∨ s.trc.motion = .cruise ∨ s.trc.motion = .decel) :
    ∃ t n, exec .travelLegRest s = .next t ∧ t.trc.move = some n ∧ n.target = m.target ∧ n.job = m.job ∧
      t.trc.speed = 0 ∧ s.sameCourse t ∧
      (s.trc.counter < m.target → t.trc.motion = (if m.target ≤ s.trc.counter + 1 then .decel else .creepIn) ∧
        n.creepIn = true ∧ n.ramp = .none ∧ n.dir = .forward ∧ n.legSpeed = .creep) ∧
      (m.target ≤ s.trc.counter → t.trc.motion = .settling ∧ t.trc.timers.settleLimit = some 0) := by
  have ends : m.legEnds = true := by rcases job with job | job <;> simp [Move.legEnds, ramp, job, travel]
  have goes : s.trc.motion.moving = true := by rcases moving with h | h | h <;> simp [h, Motion.moving]
  have short : pastEnd m (atRest s) = false := by
    have away : ¬s.trc.counter < approachPoint m.target := by simp [approachPoint, Config.approachMargin, there]
    have past : ¬approachPoint m.target < s.trc.counter := by simp [approachPoint, Config.approachMargin, there]
    rcases job with job | job <;> cases dir : m.dir <;> simp [pastEnd, job, dir, atRest, away, past]
  have next : afterLeg m (atRest s) = startCreep m (atRest s) := by
    rcases job with job | job <;> simp [afterLeg, ramp, job, short]
  rw [exec_travelLegRest_ends move ends goes]
  simp only [Ctx.upd, Ctx.start, next]
  by_cases done : m.target ≤ s.trc.counter
  · have settles : startCreep m (atRest s) = enterSettling m (atRest s) := if_pos done
    obtain ⟨moved, settling, limit, speed, course⟩ := enterSettling_leaves m (atRest s)
    rw [settles]
    exact ⟨_, _, rfl, moved, rfl, rfl, speed, course, fun more => absurd more (by omega), fun _ => ⟨settling, limit⟩⟩
  · have creeps : startCreep m (atRest s) =
        { creepPhase m.target (atRest s) with
          trc.move := some { m with dir := .forward, legSpeed := .creep, ramp := .none, creepIn := true } } := if_neg done
    have phase : m.target - s.trc.counter ≤ 1 ↔ m.target ≤ s.trc.counter + 1 := by omega
    rw [creeps]
    refine ⟨_, { m with dir := .forward, legSpeed := .creep, ramp := .none, creepIn := true }, rfl, ?_, rfl, rfl, ?_, ?_,
      fun _ => ⟨?_, rfl, rfl, rfl, rfl⟩, fun less => absurd less done⟩
    · simp
    · simp [creepPhase, atRest]
    · exact sameCourse_finish (by simp [atRest]) (by simp [atRest]) (by simp [atRest]) (by simp [atRest]) (by simp [atRest])
        (by simp [atRest]) (by simp [atRest]) (by simp [atRest]) (by simp [atRest])
    · simp [creepPhase, atRest, phase]

theorem jog_rests_in_band (ramp : m.ramp = .none) (travel : m.creepIn = false) (job : m.job = .jog)
    (near : absDiff s.trc.counter m.target ≤ s.profile.tolerance)
    (moving : s.trc.motion = .accel ∨ s.trc.motion = .cruise ∨ s.trc.motion = .decel) :
    ∃ t, exec .travelLegRest s = .next t ∧ t.trc.move = some m ∧ t.trc.motion = .settling ∧
      t.trc.timers.settleLimit = some 0 ∧ s.sameCourse t := by
  have ends : m.legEnds = true := by simp [Move.legEnds, ramp, job, travel]
  have goes : s.trc.motion.moving = true := by rcases moving with h | h | h <;> simp [h, Motion.moving]
  have band : (atRest s).inBand m.target = true := decide_eq_true near
  have short : pastEnd m (atRest s) = false := by cases dir : m.dir <;> simp [pastEnd, job, dir, band]
  have next : afterLeg m (atRest s) = enterSettling m (atRest s) := by simp [afterLeg, ramp, job, short]
  have same : { m with ramp := .none, creepIn := false } = m := by rw [← ramp, ← travel]
  obtain ⟨moved, settling, limit, -, course⟩ := enterSettling_leaves m (atRest s)
  rw [exec_travelLegRest_ends move ends goes]
  simp only [Ctx.upd, Ctx.start, next]
  exact ⟨_, rfl, moved.trans (congrArg some same), settling, limit, course⟩

theorem creep_rests (creep : m.creepIn = true) (ramp : m.ramp = .none) (moving : s.trc.motion = .creepIn ∨ s.trc.motion = .decel) :
    ∃ t, exec .creepRest s = .next t ∧ t.trc.move = some { m with creepIn := false } ∧ t.trc.motion = .settling ∧
      t.trc.timers.settleLimit = some 0 ∧ t.trc.speed = 0 ∧ s.sameCourse t := by
  have goes : s.trc.motion.moving = true := by rcases moving with h | h <;> simp [h, Motion.moving]
  obtain ⟨moved, settling, limit, speed, course⟩ := enterSettling_leaves m s
  rw [exec_creepRest, onCreepRest, move]
  dsimp only
  rw [if_pos ⟨creep, ramp, goes⟩]
  refine ⟨_, rfl, ?_, settling, limit, speed, course⟩
  rw [moved, ← ramp]

end leg

/-! ### A count within CREEP-IN (R26) -/

theorem countStep_forward {s : State} (endless : s.trc.endPos = none) (room : s.trc.counter < 4194303) :
    countStep .forward s = ({ s with trc.counter := s.trc.counter + 1 }, ⟨true, false⟩) := by
  simp [countStep, endless, Config.maxPosition, room]

/-- The part after a tallied forward count and what the building flag makes of it, before the move and the marks. -/
def tallied (x : Sample) (s : State) : State :=
  countBuilding .forward true { takeReading x s with trc.counter := s.trc.counter + 1 }

@[simp] theorem tallied_fields (x : Sample) (s : State) :
    (tallied x s).trc = { s.trc with
      counter := s.trc.counter + 1
      speed := x.speed
      timers := { s.trc.timers with stall := s.trc.timers.stall.map fun _ => 0 } } ∧
    (tallied x s).mkd = s.mkd ∧ (tallied x s).fit.verify = s.fit.verify ∧ (tallied x s).fit.entries = s.fit.entries ∧
    (tallied x s).fit.index = s.fit.index ∧ (tallied x s).fit.p256 = s.fit.p256 ∧ (tallied x s).fit.splice = s.fit.splice ∧
    (tallied x s).profile = s.profile ∧
    (tallied x s).level = (if s.profile.track = 0 then x.track0 else x.track1).toNat ∧ (tallied x s).rqt = s.rqt ∧
    (tallied x s).gtu = s.gtu := by
  refine ⟨?_, ?_, ?_, ?_, ?_, ?_, ?_, ?_, ?_, ?_, ?_⟩ <;>
    simp [tallied, takeReading, State.profile, State.level, State.selectedTrack]
  split <;> simp_all

theorem exec_encoderCount_tallied {x : Sample} {s : State} (held : s.resetHeld = false) (loaded : s.trc.roll = .loaded)
    (endless : s.trc.endPos = none) (room : s.trc.counter < 4194303) :
    exec (.encoderCount .forward x) s =
      .next (finish (examine (checkRewindEnd (frontierLimit .forward true
        (countMark .forward true ((Ctx.start (tallied x s)).upd progress)))))) := by
  have counts : countStep .forward (takeReading x s) =
      ({ takeReading x s with trc.counter := s.trc.counter + 1 }, ⟨true, false⟩) := countStep_forward endless room
  rw [exec_encoderCount, onEncoderCount, if_neg (by simp [held]), if_neg (by simp [loaded])]
  simp only [counts]
  rfl

theorem checkRewindEnd_loaded {w : Ctx} (loaded : w.st.trc.roll = .loaded) : checkRewindEnd w = w := by
  unfold checkRewindEnd
  rw [if_neg]
  simp [loaded]

theorem frontierLimit_none {w : Ctx} (verify : w.st.fit.verify = none) (d : Dir) (tallied : Bool) : frontierLimit d tallied w = w := by
  simp [frontierLimit, verify]

/-- A level below mark_on leaves an ARMED detector as it is (R46, R47). -/
theorem countMark_below {w : Ctx} (armed : w.st.mkd = .armed) (below : w.st.level < w.st.profile.markOn) (d : Dir) (tallied : Bool) :
    countMark d tallied w = w := by
  have low : ¬w.st.profile.markOn ≤ w.st.level := by omega
  simp [countMark, sampleMark, armed, low]

theorem creep_counts {m : Move} {x : Sample} {s : State} (move : s.trc.move = some m) (creep : m.creepIn = true) (ramp : m.ramp = .none)
    (motion : s.trc.motion = .creepIn) (held : s.resetHeld = false) (loaded : s.trc.roll = .loaded) (armed : s.mkd = .armed)
    (below : (if s.profile.track = 0 then x.track0 else x.track1).toNat < s.profile.markOn) (verify : s.fit.verify = none)
    (endless : s.trc.endPos = none) (room : s.trc.counter < 4194303) :
    ∃ t, exec (.encoderCount .forward x) s = .next t ∧ t.trc.counter = s.trc.counter + 1 ∧ t.trc.move = some m ∧
      t.trc.motion = (if m.target ≤ s.trc.counter + 2 then .decel else .creepIn) := by
  have left : m.target - (s.trc.counter + 1) ≤ 1 ↔ m.target ≤ s.trc.counter + 2 := by omega
  have moves : progress (tallied x s) = if m.target ≤ s.trc.counter + 2 then setMotion .decel (tallied x s) else tallied x s := by
    simp [progress, move, ramp, motion, Motion.moving, creep, left]
  generalize after : (Ctx.start (tallied x s)).upd progress = w
  have st : w.st = if m.target ≤ s.trc.counter + 2 then setMotion .decel (tallied x s) else tallied x s := by
    rw [← after, ← moves]
    rfl
  have trc : w.st.trc = { (tallied x s).trc with motion := if m.target ≤ s.trc.counter + 2 then .decel else .creepIn } := by
    rw [st]
    split
    · simp [setMotion]
    · simp [motion]
  have roll : w.st.trc.roll = .loaded := by simp [trc, loaded]
  have still : w.st.mkd = .armed ∧ w.st.fit.verify = none ∧ w.st.level < w.st.profile.markOn := by
    have read : (tallied x s).level < (tallied x s).profile.markOn := by simpa using below
    rw [st]
    split
    · exact ⟨by simp [armed], by simp [verify], read⟩
    · exact ⟨by simp [armed], by simp [verify], read⟩
  obtain ⟨armed', verify', below'⟩ := still
  have busy : w.st.opportunity = false := opportunity_busy (by rw [trc]; dsimp only; split <;> rfl)
  rw [exec_encoderCount_tallied held loaded endless room, after, countMark_below armed' below', frontierLimit_none verify',
    checkRewindEnd_loaded roll, examine_none busy]
  exact ⟨_, rfl, by simp [trc], by simp [trc, move], by simp [trc]⟩

end Sys2Proof.Machine
end

section
/-! Ramps and bounds at rest: the obligation (R19, R23, R30, R31, R78, R79, R121, R130, R131, R168). -/

namespace Sys2Proof.Machine

section ramps
variable {m : Move} {s : State} (move : s.trc.move = some m) (moving : s.trc.motion.moving = true)
include move moving

theorem exec_stopRampRest_stop (ramp : m.ramp = .stop) (job : m.job ≠ .rewind) :
    exec .stopRampRest s = .next (finish (examine (disposeStopped ((Ctx.start s).upd moveOver)))) := by
  rw [exec_stopRampRest, onStopRampRest, move]
  simp [moving, ramp, job]

theorem exec_stopRampRest_replan (ramp : m.ramp = .replan) (job : m.job ≠ .rewind) :
    exec .stopRampRest s = .next (finish ((Ctx.start s).upd fun s => nextLeg m.legSpeed true m (atRest s))) := by
  rw [exec_stopRampRest, onStopRampRest, move]
  simp [moving, ramp, job]

theorem exec_boundRest_bound (ramp : m.ramp = .bound) (isOpen : m.job.isOpen = true) :
    exec .boundRest s = .next (finish (examine (moveBound (Ctx.start s)))) := by
  rw [exec_boundRest, onBoundRest, move]
  dsimp only
  rw [if_pos ⟨moving, isOpen, by simp [ramp], by simp [atBound, ramp]⟩]

/-! ### Ramps (R30, R31, R78, R131) -/

/-- The granted record waits again, and the grant is none. -/
theorem stopped_record_waits {p : Port} {tag : Byte} (ramp : m.ramp = .stop) (job : m.job ≠ .rewind)
    (grant : s.rqt.grant = .record p tag) (halted : s.rqt.halted = true) :
    ∃ t, exec .stopRampRest s = .next t ∧ t.trc.motion = .idle ∧ t.trc.move = none ∧ t.rqt.grant = .none ∧
      t.rqt.stopReason = .none ∧ t.gtu.inHand = none ∧
      t.rqt.records =
        s.rqt.records.map (fun x => if x.port = p ∧ x.tag = tag then { x with state := .waiting } else x) ∧
      s.sameCourse t := by
  have disposes : disposeStopped ((Ctx.start s).upd moveOver) =
      ((Ctx.start s).upd moveOver).upd fun s => dropInHand { returnGrant s with rqt.stopReason := .none } := by
    simp [disposeStopped, Ctx.start, grant]
  have returned (u : State) (granted : u.rqt.grant = .record p tag) :
      returnGrant u = { setRecState p tag .waiting u with rqt.grant := .none } := by
    simp only [returnGrant, granted]
  rw [exec_stopRampRest_stop move moving ramp job, disposes, examine_none (opportunity_halted (by simp [Ctx.start, halted]))]
  refine ⟨_, rfl, by simp [moveOver], by simp [moveOver], ?_, by simp [dropInHand], by simp [dropInHand], ?_, sameCourse_finish ?_ ?_ ?_ ?_ ?_ ?_ ?_ ?_ ?_⟩
  · simp [Ctx.start, dropInHand, returned _ (show (moveOver s).rqt.grant = .record p tag by simp [grant])]
  · simp [Ctx.start, dropInHand, returned _ (show (moveOver s).rqt.grant = .record p tag by simp [grant]), setRecState]
  all_goals simp [Ctx.start]

theorem ramp_replans (ramp : m.ramp = .replan) (job : m.job = .present) (before : s.trc.counter < m.target - 40) :
    ∃ t n, exec .stopRampRest s = .next t ∧ t.trc.motion = .accel ∧ t.trc.move = some n ∧ n.dir = .forward ∧
      n.ramp = .none ∧ n.target = m.target ∧ n.job = .present ∧ t.trc.epoch = s.trc.epoch ∧
      t.trc.counter = s.trc.counter ∧ t.rqt = s.rqt := by
  have other : ¬s.trc.counter = m.target - 40 := by omega
  have leg : nextLeg m.legSpeed true m (atRest s) = travelLeg m .forward m.legSpeed true (atRest s) := by
    simp [nextLeg, job, approachLeg, atRest, approachPoint, Config.approachMargin, other, before]
  rw [exec_stopRampRest_replan move moving ramp (by simp [job])]
  simp only [Ctx.upd, Ctx.start, leg]
  exact ⟨_, { m with dir := .forward, legSpeed := m.legSpeed, ramp := .none, creepIn := false }, rfl, by simp, by simp [travelLeg],
    rfl, rfl, rfl, job, by simp [atRest], by simp [atRest], by simp [atRest]⟩

section verify
variable {v : Verify} (ramp : m.ramp = .stop) (job : m.job = .verify) (grant : s.rqt.grant = .verify) (verify : s.fit.verify = some v)
include ramp job grant verify

/-- A VERIFY move that matched, or that HALT stopped, is over and its record is discarded. -/
theorem stopped_verify_over (ends : v.hit = true ∨ s.rqt.stopReason = .halt)
    (still : s.rqt.halted = true ∨ s.trc.verified = true ∧ s.rqt.records = [] ∧ s.rqt.run = none) :
    ∃ t, exec .stopRampRest s = .next t ∧ t.trc.motion = .idle ∧ t.trc.move = none ∧ t.rqt.grant = .none ∧
      t.fit.verify = none ∧ s.sameCourse t := by
  have disposes : disposeStopped ((Ctx.start s).upd moveOver) =
      ((Ctx.start s).upd moveOver).upd fun s => { s with rqt.grant := .none, rqt.stopReason := .none, fit.verify := none } := by
    rcases ends with hit | halt
    · simp [disposeStopped, Ctx.start, grant, verify, hit]
    · simp [disposeStopped, Ctx.start, grant, verify, halt]
  have waits : examine (disposeStopped ((Ctx.start s).upd moveOver)) = disposeStopped ((Ctx.start s).upd moveOver) := by
    rcases still with halted | ⟨verified, records, run⟩
    · exact examine_none (opportunity_halted (by simp [Ctx.start, halted]))
    · refine examine_workless ⟨fun r mem => ?_, ?_⟩ ?_
      · rw [disposes] at mem
        simp [Ctx.start, records] at mem
      · rw [disposes]
        simp [State.runWaits, Ctx.start, run]
      · rw [disposes]
        simp [Ctx.start, verified]
  rw [exec_stopRampRest_stop move moving ramp (by simp [job]), waits, disposes]
  refine ⟨_, rfl, by simp, by simp [moveOver], by simp, by simp, sameCourse_finish ?_ ?_ ?_ ?_ ?_ ?_ ?_ ?_ ?_⟩ <;> simp [Ctx.start]

theorem stopped_verify_fails (missed : v.hit = false) (reason : s.rqt.stopReason ≠ .halt) (law : s.trigLaw) :
    ∃ t, exec .stopRampRest s = .next t ∧ s.afterFault t .verifyFail := by
  have disposes : disposeStopped ((Ctx.start s).upd moveOver) =
      takeFault .verifyFail
        (((Ctx.start s).upd moveOver).upd fun s => { s with rqt.grant := .none, rqt.stopReason := .none, fit.verify := none }) := by
    simp [disposeStopped, Ctx.start, grant, verify, missed, reason]
  rw [exec_stopRampRest_stop move moving ramp (by simp [job]), disposes, takeFault_stays]
  refine ⟨_, rfl, (finish_afterFault .verifyFail (by simpa [State.trigLaw, Ctx.start] using law)).of_same ?_ ?_ ?_ ?_ ?_ ?_ ?_ ?_ ?_ ?_ ?_ ?_ ?_⟩
  all_goals simp [Ctx.start]

end verify

/-! ### Bounds (R23, R79, R121, R130, R168) -/

section bound
variable (ramp : m.ramp = .bound)
include ramp

theorem bound_record_notFound {y : Record} (job : m.job = .forward) (grant : s.rqt.grant = .record y.port y.tag)
    (only : s.rqt.records = [y]) (run : s.rqt.run = none) (verified : s.trc.verified = true) :
    ∃ t, exec .boundRest s = .next t ∧ t.trc.motion = .idle ∧ t.trc.move = none ∧ t.rqt.grant = .none ∧
      t.gtu.inHand = none ∧ t.rqt.records = [] ∧
      sends s t y.port (replyMsg y.tag y.work.code (68 :: s.recordResults y)) ∧ s.sameCourse t := by
  have ends : moveBound (Ctx.start s) = completeTag y.port y.tag .notFound (((Ctx.start s).upd moveOver).upd dropInHand) := by
    have granted : ((Ctx.start s).upd moveOver).st.rqt.grant = .record y.port y.tag := by simp [Ctx.start, grant]
    simp only [moveBound, granted]
  rw [exec_boundRest_bound move moving ramp (by simp [job, Job.isOpen]), ends]
  generalize st : ((Ctx.start s).upd moveOver).upd dropInHand = w
  have rqt : w.st.rqt = s.rqt := by simp [← st, Ctx.start]
  have found : w.st.findRecord y.port y.tag = some y := by simp [State.findRecord, rqt, only]
  have counter : w.st.trc.counter = s.trc.counter := by simp [← st, Ctx.start]
  have epoch : w.st.trc.epoch = s.trc.epoch := by simp [← st, Ctx.start]
  have inHand : w.st.gtu.inHand = none := by simp [← st, dropInHand]
  obtain ⟨gone, sent⟩ := completesOnce found .notFound (s := s) (by simp [← st, Ctx.start]) counter epoch
  have waits := examine_completesAlone found (by rw [rqt, only]) (by rw [rqt, run]) (by simpa [← st, Ctx.start] using verified) .notFound
  have keeps : Keeps w.st (finish (completeTag y.port y.tag .notFound w)) := finish_keeps (completeTag_keeps w y.port y.tag .notFound)
  rw [waits] at gone sent ⊢
  refine ⟨_, rfl, by simp [← st], by simp [← st, moveOver_trc], ?_, by simp [inHand], records_empty_of_gone keeps (by rw [rqt, only]) gone,
    sent, sameCourse_finish ?_ ?_ ?_ ?_ ?_ ?_ ?_ ?_ ?_⟩
  · simpa using completeTag_grant_none found (by rw [rqt, grant]) .notFound
  all_goals simp [← st, Ctx.start]

theorem bound_run_complete {x : Run} (job : m.job = .forward) (grant : s.rqt.grant = .run) (run : s.rqt.run = some x)
    (records : s.rqt.records = []) (verified : s.trc.verified = true) :
    ∃ t, exec .boundRest s = .next t ∧ t.trc.motion = .idle ∧ t.trc.move = none ∧ t.rqt.grant = .none ∧
      t.gtu.inHand = none ∧ t.rqt.run = none ∧
      sends s t .a (replyMsg x.tag 4 (73 :: (be 2 x.presented ++ beFrame x.last ++ be 2 x.next
        ++ be 3 (x.remaining.getD 16777215)))) ∧ s.sameCourse t := by
  have ends : moveBound (Ctx.start s) = completeRun .complete (((Ctx.start s).upd moveOver).upd dropInHand) := by
    have granted : ((Ctx.start s).upd moveOver).st.rqt.grant = .run := by simp [Ctx.start, grant]
    simp only [moveBound, granted]
  rw [exec_boundRest_bound move moving ramp (by simp [job, Job.isOpen]), ends]
  generalize st : ((Ctx.start s).upd moveOver).upd dropInHand = w
  have rqt : w.st.rqt = s.rqt := by simp [← st, Ctx.start]
  have inHand : w.st.gtu.inHand = none := by simp [← st, dropInHand]
  have empty := completeRun_run .complete w
  have idle : (completeRun .complete w).st.workless := by
    refine ⟨fun r mem => ?_, by simp [State.runWaits, empty]⟩
    have key := (completeRun_keeps w .complete).keys.subset (List.mem_map_of_mem mem)
    rw [rqt, records] at key
    cases key
  rw [examine_workless idle (by simpa [← st, Ctx.start] using verified)]
  refine ⟨_, rfl, by simp [← st], by simp [← st, moveOver_trc], ?_, by simp [inHand], by simpa using empty,
    sends_finish (by simp [← st, Ctx.start]) (completeRun_sends (by rw [rqt, run]) .complete), sameCourse_finish ?_ ?_ ?_ ?_ ?_ ?_ ?_ ?_ ?_⟩
  · simpa using completeRun_grant_none (by rw [rqt, run]) (by rw [rqt, grant]) .complete
  all_goals simp [← st, Ctx.start]

theorem bound_verify_fails {v : Verify} (job : m.job = .verify) (grant : s.rqt.grant = .verify) (verify : s.fit.verify = some v)
    (missed : v.hit = false) (law : s.trigLaw) : ∃ t, exec .boundRest s = .next t ∧ s.afterFault t .verifyFail := by
  have ends : moveBound (Ctx.start s) = takeFault .verifyFail
      (((Ctx.start s).upd moveOver).upd fun s => { s with rqt.grant := .none, rqt.stopReason := .none, fit.verify := none }) := by
    simp [moveBound, Ctx.start, grant, verify, missed]
  rw [exec_boundRest_bound move moving ramp (by simp [job, Job.isOpen]), ends, takeFault_stays]
  refine ⟨_, rfl, (finish_afterFault .verifyFail (by simpa [State.trigLaw, Ctx.start] using law)).of_same ?_ ?_ ?_ ?_ ?_ ?_ ?_ ?_ ?_ ?_ ?_ ?_ ?_⟩
  all_goals simp [Ctx.start]

end bound

end ramps

/-- Settles O52: a leg at rest goes on by `afterLeg`, a stopped move by `disposeStopped`, and an OPEN move at its bound by
`moveBound`; no opportunity follows where none of the work waits. -/
theorem legsGoOnToSettling : Obligations.LegsGoOnToSettling := by
  refine ⟨fun m s move => ⟨fun ramp travel job there moving => leg_rests_at_approach move ramp travel job there moving,
      fun ramp travel job near moving => jog_rests_in_band move ramp travel job near moving,
      fun creep ramp moving => creep_rests move creep ramp moving,
      fun x creep ramp motion held loaded armed below verify endless room =>
        creep_counts move creep ramp motion held loaded armed below verify endless room⟩,
    fun m s move moving => ⟨fun p tag ramp job grant halted => stopped_record_waits move moving ramp job grant halted,
      fun ramp job before => ramp_replans move moving ramp job before,
      fun v ramp job grant verify => ⟨fun hit verified records run =>
          stopped_verify_over move moving ramp job grant verify (.inl hit) (.inr ⟨verified, records, run⟩),
        fun _ halt halted => stopped_verify_over move moving ramp job grant verify (.inr halt) (.inl halted),
        fun missed reason law => stopped_verify_fails move moving ramp job grant verify missed reason law⟩⟩,
    fun m s move moving ramp => ⟨fun y job grant only run verified => bound_record_notFound move moving ramp job grant only run verified,
      fun x job grant run records verified => bound_run_complete move moving ramp job grant run records verified,
      fun v job grant verify missed law => bound_verify_fails move moving ramp job grant verify missed law⟩⟩

end Sys2Proof.Machine
end

section
/-! A count that is lost while the move settles, and the mark that it samples (R20, R46, R74, R75). -/

namespace Sys2Proof.Machine

/-- A profile whose index speed is 800 and whose mark_off is 100. -/
def slowProfile : Profile :=
  { Profile.blank with
    pitchNominal := 1000, pitchMin := 900, pitchMax := 1100, markOn := 200, markOff := 100, markStrong := 220
    widthMin := 10, widthMax := 60, tolerance := 2, scanSpeed := 500, indexSpeed := 800 }

/-- The run's approach to frame 0 settles at position 0, with a reverse mark in progress. -/
def settlingAtZero : State :=
  { State.reset with
    rqt := { Rqt.reset with run := some ⟨7, 1, 0, 0, none, 0, none, false, none, .granted⟩, grant := .run }
    trc := { Trc.reset with
      roll := .loaded
      profile := some slowProfile
      motion := .settling
      move := some { openMove .present .reverse .creep none with target := 0 } }
    mkd := .inMark ⟨20, .reverse, 210, false, false, false⟩
    fit := ⟨[⟨0, .observed, false, false, false, false, false⟩], .opened, false, 256000, false, none⟩
    gtu := { Gtu.reset with phase := .settling, inHand := some ⟨.run 7, 0, .normal, none, .scan⟩ } }

/-- A reverse count at 900, on the mark still. -/
def lostCount : Sample := ⟨150, 0, 900, true⟩

/-- The lost count ends the move, and the film rests with the speed 0 before the detector samples. -/
theorem lostCount_zeroes_speed :
    (becomeUnverified 2 ((Ctx.start (takeReading lostCount settlingAtZero)).upd (countBuilding .reverse false))).st.trc.speed = 0 := by
  rfl

/-- The mark goes on as not fast, for all that the count measured 900. -/
theorem lostCount_mark : (onEncoderCount .reverse lostCount settlingAtZero).mkd = .inMark ⟨20, .reverse, 210, false, true, false⟩ := by
  rfl

/-- Refutes O38: IN-MARK the field `fast` follows the film's speed, which a count lost at 0 in SETTLING has zeroed by the end of the
move (`lostCount_zeroes_speed`), not the speed of the sample. -/
theorem not_encoderCountMovesTheCounter : ¬Obligations.EncoderCountMovesTheCounter := by
  rintro ⟨-, marks⟩
  obtain ⟨t, ran, continues, -⟩ :=
    (marks .reverse lostCount 150 settlingAtZero rfl rfl rfl).1 ⟨20, .reverse, 210, false, false, false⟩ rfl
  rw [exec_encoderCount] at ran
  cases ran
  have marked := continues rfl (by decide)
  rw [lostCount_mark] at marked
  exact absurd (congrArg (fun d => match d with | .inMark m => m.fast | _ => false) marked) (by decide)

end Sys2Proof.Machine
end

section
/-! The sweep (R91, R92, R98 to R102). -/

namespace Sys2Proof.Machine

/-! ### A sample is recorded (R92, R98) -/

/-- The sweep after a sample of sharpness `k` at position `j`. -/
def Sweep.sampled (sw : Sweep) (j k : Nat) (rest : List Nat) : Sweep :=
  { sw with samples := sw.samples ++ [(j, k)], best := betterSample sw.best j k, next := rest, repeatUsed := false }

/-- The sweep has recorded a sample, and waits for none. -/
def sampledState (u : Sweep) (s : State) : State := { s with fcc.sweep := some u, fcc.sampleTimer := none }

theorem betterSample_some (i v j k : Nat) : betterSample (some (i, v)) j k = some (if v < k then (j, k) else (i, v)) := by
  unfold betterSample
  dsimp only
  split <;> rfl

theorem addSample_more {sw : Sweep} {j k : Nat} {rest : List Nat} (next : sw.next = j :: k :: rest) (n : Nat) (w : Ctx) :
    addSample sw n w = takeSample (w.upd (sampledState (sw.sampled j n (k :: rest)))) := by
  simp only [addSample, next]
  rfl

theorem addSample_last {sw : Sweep} {j : Nat} (next : sw.next = [j]) (n : Nat) (w : Ctx) :
    addSample sw n w = passEnd (sw.sampled j n []) (w.upd (sampledState (sw.sampled j n []))) := by
  simp only [addSample, next]
  rfl

section waits
variable {sw : Sweep} {s : State} (sweep : s.fcc.sweep = some sw) (timer : s.fcc.sampleTimer.isSome = true)
include sweep timer

theorem exec_focusLineArrival_awaited (line : List (BitVec 10)) :
    exec (.focusLineArrival false line) s = .next (finish (addSample sw (sharpness line) (Ctx.start s))) := by
  rw [exec_focusLineArrival, onFocusLineArrival, sweep]
  simp [timer]

theorem sample_taken {j k : Nat} {rest : List Nat} (next : sw.next = j :: k :: rest) (line : List (BitVec 10)) :
    ∃ t u, exec (.focusLineArrival false line) s = .next t ∧ t.fcc.sweep = some u ∧
      u.samples = sw.samples ++ [(j, sharpness line)] ∧ u.next = k :: rest ∧ u.repeatUsed = false ∧
      u.pass = sw.pass ∧ u.frame = sw.frame ∧ u.sector = sw.sector ∧
      (∀ i v, sw.best = some (i, v) → u.best = some (if v < sharpness line then (j, sharpness line) else (i, v))) ∧
      (sw.best = none → u.best = some (j, sharpness line)) ∧
      (s.fcc.stage = .idle → s.gtu.exposure = none → 4 * k ≠ s.fcc.lens →
        t.fcc.stage = .moving ∧ t.fcc.running = some ⟨4 * k, .sample⟩) ∧
      t.fcc.lines = s.fcc.lines ∧ t.fcc.lru = s.fcc.lru ∧ t.fcc.lens = s.fcc.lens ∧ t.trc.counter = s.trc.counter := by
  rw [exec_focusLineArrival_awaited sweep timer, addSample_more next]
  refine ⟨_, sw.sampled j (sharpness line) (k :: rest), rfl, by simp [sampledState], rfl, rfl, rfl, rfl, rfl, rfl, fun i v best => ?_,
    fun fresh => ?_, fun idle free away => ?_, by simp [Ctx.start, sampledState], by simp [Ctx.start, sampledState],
    by simp [Ctx.start, sampledState], by simp [Ctx.start, sampledState]⟩
  · rw [Sweep.sampled, best, betterSample_some]
  · rw [Sweep.sampled, fresh]
    rfl
  · obtain ⟨-, samples⟩ := takeSample_takes (w := (Ctx.start s).upd (sampledState (sw.sampled j (sharpness line) (k :: rest)))) rfl idle free
    simpa using (samples k rfl).1 away

end waits

/-! ### A sweep without a focus value (R91, R99) -/

/-- The lens goes to the default focus, and FOCUS-DEFAULTED latches. -/
theorem sweepDefault_leaves {w : Ctx} (idle : w.st.fcc.stage = .idle) (free : w.st.gtu.exposure = none)
    (away : w.st.profile.defaultFocus ≠ w.st.fcc.lens) (silent : w.occs = []) (sw : Sweep) (reason : Byte) :
    let t := finish (sweepDefault sw reason w)
    t.fcc.sweep = none ∧ t.fcc.sampleTimer = none ∧ t.fcc.stage = .moving ∧
      t.fcc.running = some ⟨w.st.profile.defaultFocus, .final .default⟩ ∧ t.fcc.lines = w.st.fcc.lines ∧ t.fcc.lru = w.st.fcc.lru ∧
      ∀ p, (w.st.slot p .focusDefaulted).enabled = true → ∃ l, (t.slot p .focusDefaulted).latch = some l ∧
        l.data = pad8 ([BitVec.ofNat 8 sw.sector] ++ be 2 sw.frame ++ [reason]) := by
  intro t
  generalize pulsed : pulseAll .focusDefaulted ([BitVec.ofNat 8 sw.sector] ++ be 2 sw.frame ++ [reason])
    (w.upd fun s => { s with fcc.sweep := none, fcc.sampleTimer := none }) = u
  have begins : sweepDefault sw reason w =
      u.upd fun s => { s with fcc.running := some ⟨w.st.profile.defaultFocus, .final .default⟩, fcc.stage := .moving } := by
    rw [sweepDefault, pulsed]
    exact orderLens_begins (by simp [← pulsed, idle]) (by simpa [← pulsed] using away) (by simp [← pulsed, free])
  have same : t = finish (u.upd fun s =>
      { s with fcc.running := some ⟨w.st.profile.defaultFocus, .final .default⟩, fcc.stage := .moving }) := by rw [← begins]
  rw [same]
  refine ⟨by simp [← pulsed], by simp [← pulsed], by simp, by simp, by simp [← pulsed], by simp [← pulsed], fun p enabled => ?_⟩
  have occs : u.occs = [.a, .b, .c].map fun q =>
      ⟨.focusDefaulted, q, pad8 ([BitVec.ofNat 8 sw.sector] ++ be 2 sw.frame ++ [reason])⟩ := by
    simp [← pulsed, pulseAll, silent]
  refine latch_finish (by simpa [← pulsed, State.slot] using enabled) (fun o mem _ _ => ?_) ?_
  · simp only [upd_occs, occs, List.mem_map] at mem
    obtain ⟨q, -, rfl⟩ := mem
    rfl
  · simp only [upd_occs, occs, List.mem_map]
    exact ⟨p, by cases p <;> simp, rfl⟩

/-! ### The end of a pass (R98 to R102) -/

/-- The best sample of a pass that has taken one more of sharpness `k` at position `j` is `top`, at `best`. -/
theorem betterSample_eq {sw : Sweep} {j k best top : Nat}
    (h : sw.best = none ∧ (best, top) = (j, k) ∨
      ∃ i v, sw.best = some (i, v) ∧ (best, top) = if v < k then (j, k) else (i, v)) : betterSample sw.best j k = some (best, top) := by
  rcases h with ⟨fresh, same⟩ | ⟨i, v, held, same⟩
  · rw [fresh, same]
    rfl
  · rw [held, betterSample_some, same]

theorem mem_finePositions {x c q : Nat} (some : 1 ≤ q) : x ∈ finePositions c q ↔ x ≤ 1023 ∧ c < x + q ∧ x < c + q := by
  rw [finePositions, mem_passPositions]
  constructor
  · rintro ⟨small, i, hi, h⟩
    omega
  · rintro ⟨small, low, high⟩
    exact ⟨small, x + q - c - 1, by omega, by omega⟩

section pass
variable {sw : Sweep} {j best top : Nat} {line : List (BitVec 10)} {s : State} (sweep : s.fcc.sweep = some sw)
  (timer : s.fcc.sampleTimer.isSome = true) (next : sw.next = [j]) (idle : s.fcc.stage = .idle) (free : s.gtu.exposure = none)
  (peak : betterSample sw.best j (sharpness line) = some (best, top))
include sweep timer next idle free peak

theorem coarse_pass_fails (coarse : sw.pass = .coarse) (low : top < sw.floor) (away : s.profile.defaultFocus ≠ s.fcc.lens) :
    ∃ t, exec (.focusLineArrival false line) s = .next t ∧ t.fcc.sweep = none ∧ t.fcc.sampleTimer = none ∧
      t.fcc.stage = .moving ∧ t.fcc.running = some ⟨s.profile.defaultFocus, .final .default⟩ ∧
      t.fcc.lines = s.fcc.lines ∧ t.fcc.lru = s.fcc.lru ∧
      ∀ p, (s.slot p .focusDefaulted).enabled = true → ∃ l, (t.slot p .focusDefaulted).latch = some l ∧
        l.data = pad8 ([BitVec.ofNat 8 sw.sector] ++ be 2 sw.frame ++ [0]) := by
  have ends (w : Ctx) : passEnd (sw.sampled j (sharpness line) []) w = sweepDefault (sw.sampled j (sharpness line) []) 0 w := by
    simp [passEnd, Sweep.sampled, peak, coarse, low]
  rw [exec_focusLineArrival_awaited sweep timer, addSample_last next, ends]
  exact ⟨_, rfl, sweepDefault_leaves (w := (Ctx.start s).upd (sampledState (sw.sampled j (sharpness line) []))) idle free away rfl
    (sw.sampled j (sharpness line) []) 0⟩

theorem coarse_pass_succeeds (coarse : sw.pass = .coarse) (high : sw.floor ≤ top) (step : 1 ≤ sw.step) :
    ∃ t u, exec (.focusLineArrival false line) s = .next t ∧ t.fcc.sweep = some u ∧ u.pass = .fine ∧ u.samples = [] ∧
      u.best = none ∧ u.next = u.positions ∧ u.positions.Pairwise (· < ·) ∧
      (∀ x, x ∈ u.positions ↔ x ≤ 1023 ∧ best < x + sw.step ∧ x < best + sw.step) ∧
      u.frame = sw.frame ∧ u.sector = sw.sector ∧ u.step = sw.step ∧ t.fcc.lines = s.fcc.lines ∧
      t.fcc.lru = s.fcc.lru ∧
      (∀ x, u.positions.head? = some x → 4 * x ≠ s.fcc.lens →
        t.fcc.stage = .moving ∧ t.fcc.running = some ⟨4 * x, .sample⟩) := by
  have enough : ¬top < sw.floor := by omega
  have ends (w : Ctx) : passEnd (sw.sampled j (sharpness line) []) w = takeSample (w.upd fun s =>
      { s with fcc.sweep := some { sw.sampled j (sharpness line) [] with
          pass := .fine, positions := finePositions best sw.step, next := finePositions best sw.step, samples := [], best := none } }) := by
    simp [passEnd, Sweep.sampled, peak, coarse, enough]
  rw [exec_focusLineArrival_awaited sweep timer, addSample_last next, ends]
  generalize fine : ({ sw.sampled j (sharpness line) [] with
    pass := .fine, positions := finePositions best sw.step, next := finePositions best sw.step, samples := [], best := none } : Sweep) = u
  refine ⟨_, u, rfl, by simp, by rw [← fine], by rw [← fine], by rw [← fine], by rw [← fine], ?_, fun x => ?_, by rw [← fine]; rfl,
    by rw [← fine]; rfl, by rw [← fine]; rfl, by simp [Ctx.start, sampledState], by simp [Ctx.start, sampledState], fun x head away => ?_⟩
  · rw [← fine]
    exact passPositions_rising (by omega) _
  · rw [← fine]
    exact mem_finePositions step
  · obtain ⟨-, samples⟩ := takeSample_takes (w := ((Ctx.start s).upd (sampledState (sw.sampled j (sharpness line) []))).upd fun s =>
      { s with fcc.sweep := some u }) (sw := u) rfl idle free
    have first : u.next.head? = some x := by
      rw [← head, ← fine]
    simpa using (samples x first).1 away

theorem fine_pass_ends {f : Nat} (fine : sw.pass = .fine)
    (vertex : f = refineFocus s.profile.rounding (sw.samples ++ [(j, sharpness line)]) best top) (away : f ≠ s.fcc.lens) :
    ∃ t, exec (.focusLineArrival false line) s = .next t ∧ t.fcc.sweep = none ∧ t.fcc.sampleTimer = none ∧
      t.fcc.stage = .moving ∧ t.fcc.running = some ⟨f, .final .sweep⟩ ∧
      (∀ n, s.lineOf sw.sector = some n →
        t.fcc.lines = s.fcc.lines.set n
          (if (s.focusLine n).pending then { s.focusLine n with pending := false, value := f, source := .sweep }
            else s.focusLine n) ∧
        t.fcc.lru = n :: s.fcc.lru.filter (· ≠ n)) ∧
      (s.lineOf sw.sector = none →
        t.fcc.lines = s.fcc.lines.set s.victim ⟨true, sw.sector, false, f, .sweep, false⟩ ∧
        t.fcc.lru = s.victim :: s.fcc.lru.filter (· ≠ s.victim)) := by
  generalize sampled : (Ctx.start s).upd (sampledState (sw.sampled j (sharpness line) [])) = w
  have st : w.st = sampledState (sw.sampled j (sharpness line) []) s := by rw [← sampled]; rfl
  have profile : w.st.profile = s.profile := by rw [st]; rfl
  have ends : passEnd (sw.sampled j (sharpness line) []) w = sweepSuccess (sw.sampled j (sharpness line) []) f w := by
    rw [vertex, ← profile]
    simp [passEnd, Sweep.sampled, peak, fine]
  generalize stored : w.upd (fun s => putSector sw.sector
    (fun l => if l.pending then { l with pending := false, value := f, source := .sweep } else l)
    ⟨true, sw.sector, false, f, .sweep, false⟩ { s with fcc.sweep := none, fcc.sampleTimer := none }) = u
  have begins : sweepSuccess (sw.sampled j (sharpness line) []) f w =
      u.upd fun s => { s with fcc.running := some ⟨f, .final .sweep⟩, fcc.stage := .moving } := by
    have same : sweepSuccess (sw.sampled j (sharpness line) []) f w = orderLens ⟨f, .final .sweep⟩ u := by
      rw [← stored]
      rfl
    rw [same]
    exact orderLens_begins (by simp [← stored, st, sampledState, idle]) (by simpa [← stored, st, sampledState] using away)
      (by simp [← stored, st, sampledState, free])
  rw [exec_focusLineArrival_awaited sweep timer, addSample_last next, sampled, ends, begins]
  refine ⟨_, rfl, by simp [← stored], by simp [← stored], by simp, by simp, fun n present => ?_, fun absent => ?_⟩
  · have put : u.st.fcc.lines = s.fcc.lines.set n
          (if (s.focusLine n).pending then { s.focusLine n with pending := false, value := f, source := .sweep } else s.focusLine n) ∧
        u.st.fcc.lru = n :: s.fcc.lru.filter (· ≠ n) := by
      rw [← stored, upd_st, putSector_present (n := n) (by rw [st]; exact present), st]
      exact ⟨rfl, rfl⟩
    simpa using put
  · have put : u.st.fcc.lines = s.fcc.lines.set s.victim ⟨true, sw.sector, false, f, .sweep, false⟩ ∧
        u.st.fcc.lru = s.victim :: s.fcc.lru.filter (· ≠ s.victim) := by
      rw [← stored, upd_st, putSector_absent (by rw [st]; exact absent), st]
      exact ⟨rfl, rfl⟩
    simpa using put

end pass

/-! ### The refined focus value (R101) -/

theorem refineFocus_vertex (mode : Rounding) {l : List (Nat × Nat)} {j0 a b : Nat} (top : Nat) (inner : 0 < j0)
    (before : sampleAt l (j0 - 1) = some a) (after : sampleAt l (j0 + 1) = some b) :
    (refineFocus mode l j0 top : Int) =
      if (a : Int) - 2 * top + b = 0 then 4 * (j0 : Int)
      else max 0 (4 * (j0 : Int) + roundQuot mode (2 * ((a : Int) - b)) ((a : Int) - 2 * top + b)) := by
  have some : ¬j0 = 0 := by omega
  simp only [refineFocus, if_neg some, before, after]
  split
  · simp
  · rw [Int.toNat_eq_max, max_comm]

theorem refineFocus_edge (mode : Rounding) {l : List (Nat × Nat)} {j0 : Nat} (top : Nat) (inner : 0 < j0)
    (missing : sampleAt l (j0 - 1) = none ∨ sampleAt l (j0 + 1) = none) : refineFocus mode l j0 top = 4 * j0 := by
  have some : ¬j0 = 0 := by omega
  simp only [refineFocus, if_neg some]
  rcases missing with before | after
  · rw [before]
  · rw [after]
    split
    · rename_i wrong
      cases wrong
    · rfl

theorem refineFocus_zero (mode : Rounding) (l : List (Nat × Nat)) (top : Nat) : refineFocus mode l 0 top = 0 := by
  simp [refineFocus]

/-- Settles O26: a sample is recorded (`addSample_more`) or ends its pass (`addSample_last`), which fails (`sweepDefault_leaves`), goes
on with the fine pass or stores its vertex. -/
theorem sweepTakesItsSamples : Obligations.SweepTakesItsSamples := by
  refine ⟨fun sw j k rest line s sweep timer next => sample_taken sweep timer next line, fun line s => ?_,
    fun sw s sweep timer => ⟨fun fresh => ?_, fun used idle free away => ?_⟩,
    fun sw j best top line s sweep timer next idle free peak => ⟨fun coarse low away => ?_, fun coarse high _ step => ?_, fun f fine vertex away => ?_⟩,
    fun mode l j0 top a b inner => ⟨refineFocus_vertex mode top inner, refineFocus_edge mode top inner, refineFocus_zero mode l top⟩⟩
  · rw [exec_focusLineArrival, onFocusLineArrival]
    split
    · simp
    · rfl
  · rw [exec_focusSampleTimeout, onFocusSampleTimeout, sweep]
    simp [timer, fresh]
  · rw [exec_focusSampleTimeout, onFocusSampleTimeout, sweep]
    simp only [timer, used, if_true]
    exact ⟨_, rfl, sweepDefault_leaves (w := Ctx.start s) idle free away rfl sw 1⟩
  · exact coarse_pass_fails sweep timer next idle free (betterSample_eq peak) coarse low away
  · exact coarse_pass_succeeds sweep timer next idle free (betterSample_eq peak) coarse high step
  · exact fine_pass_ends sweep timer next idle free (betterSample_eq peak) fine vertex away

end Sys2Proof.Machine
end

section
/-! SUPPORT. The watches under motion starts, orders and corrections (R32, R85). -/

namespace Sys2Proof.Machine

/-- The watches stay, or a motion start or a fault clears all of them. -/
def State.watchesOrClear (s t : State) : Prop := t.gtu.watches = s.gtu.watches ∨ t.gtu.watches = PerPort.all false

namespace State.watchesOrClear
variable {s t u : State}

theorem of_eq (same : t.gtu.watches = s.gtu.watches) : s.watchesOrClear t := .inl same

theorem trans (h : s.watchesOrClear t) (k : t.watchesOrClear u) : s.watchesOrClear u := by
  rcases k with same | clear
  · exact h.imp same.trans same.trans
  · exact .inr clear

/-- What was clear stays clear. -/
theorem clear (h : s.watchesOrClear t) (none : s.gtu.watches = PerPort.all false) : t.gtu.watches = PerPort.all false :=
  h.elim (·.trans none) id

end State.watchesOrClear

/-! ### Orders and grants -/

section orders
variable (s : State)

theorem startMove_watches (m : Move) : s.watchesOrClear (startMove m s) := by
  unfold startMove
  extract_lets u room v
  split
  · exact .inr (by simp [v, u, motionStart])
  · exact .inr (by simp [u, motionStart])

theorem orderMove_watches (m : Move) : s.watchesOrClear (orderMove m s) := by
  unfold orderMove
  split
  · exact .of_eq (by simp)
  · exact startMove_watches s m

theorem orderFrame_watches (g : InHand) : s.watchesOrClear (orderFrame g s) := by
  unfold orderFrame
  split
  · exact orderMove_watches s _
  · split
    · exact orderMove_watches s _
    · split
      · exact orderMove_watches s _
      · exact orderMove_watches s _

theorem handToGate_watches (g : InHand) : s.watchesOrClear (handToGate g s) :=
  .trans (t := { s with gtu.inHand := some g, gtu.phase := .positioning, gtu.heldReport := none }) (.of_eq rfl) (orderFrame_watches _ g)

theorem grantVerify_watches : s.watchesOrClear (grantVerify s) := orderMove_watches _ _

theorem grantRecord_watches (r : Record) : s.watchesOrClear (grantRecord r s) := by
  unfold grantRecord
  dsimp only
  split
  · exact handToGate_watches _ _
  · exact orderMove_watches _ _
  · exact .of_eq rfl

theorem grantRun_watches (r : Run) : s.watchesOrClear (grantRun r s) := handToGate_watches _ _

theorem chooseRecord_watches : s.watchesOrClear (chooseRecord s) := by
  unfold chooseRecord
  split
  · exact grantRecord_watches s _
  · exact .of_eq rfl

theorem chooseWork_watches : s.watchesOrClear (chooseWork s) := by
  unfold chooseWork
  split
  · split
    · split
      · exact chooseRecord_watches (outclassRun s)
      · exact grantRun_watches s _
    · exact chooseRecord_watches s
  · exact chooseRecord_watches s

end orders

theorem examine_watches (w : Ctx) : w.st.watchesOrClear (examine w).st := by
  unfold examine
  extract_lets u
  have cleared : w.st.watchesOrClear u.st := .of_eq (by simp [u])
  split
  · split
    · exact cleared.trans (chooseWork_watches _)
    · split
      · exact cleared.trans (.trans (t := (setVerified 4 u).st) (.of_eq (by simp)) (chooseWork_watches _))
      · exact cleared.trans (grantVerify_watches _)
  · exact .of_eq rfl

/-! ### Stop orders and retargets -/

theorem takeFault_watches (c : Cause) (w : Ctx) : w.st.watchesOrClear (takeFault c w).st := by
  obtain ⟨-, -, -, -, -, -, -, -, -, -, -, -, -, watches, -⟩ := takeFault_fields c w
  exact .inr watches

theorem disposeStopped_watches (w : Ctx) : w.st.watchesOrClear (disposeStopped w).st := by
  unfold disposeStopped
  split
  · exact .of_eq rfl
  · exact .of_eq (by simp)
  · exact .of_eq (by simp)
  · extract_lets hit halted u
    split
    · exact .of_eq rfl
    · exact takeFault_watches _ u

theorem orderStop_watches (r : StopReason) (w : Ctx) : w.st.watchesOrClear (orderStop r w).st := by
  unfold orderStop
  split
  · exact .of_eq rfl
  · split
    · exact .of_eq rfl
    · split
      · exact .of_eq rfl
      · exact .of_eq rfl
      · exact .of_eq rfl
      · exact .of_eq rfl
      · exact .trans (.of_eq (by simp)) (disposeStopped_watches (w.upd fun s => { moveOver s with rqt.stopReason := r }))
      · exact .trans (.of_eq (by simp)) (disposeStopped_watches (w.upd fun s => { s with trc.move := none, rqt.stopReason := r }))
      · exact .of_eq rfl
      · exact .of_eq rfl
      · exact .of_eq rfl
      · exact .of_eq rfl

theorem retarget_watches (job : Job) (t : Nat) (s : State) : s.watchesOrClear (retarget job t s) := by
  unfold retarget
  split
  · exact .of_eq rfl
  · extract_lets target n
    split
    · exact .of_eq rfl
    · split
      · exact .of_eq rfl
      · split
        · split
          · exact .of_eq rfl
          · exact .inr (by simp [motionStart])
        iterate 4
          · split
            · exact .of_eq rfl
            · split
              · exact .of_eq (by simp)
              · exact .of_eq (by simp)
        all_goals exact .of_eq rfl

/-! ### Corrections (R85, R86) -/

theorem correctMoveInFlight_watches (w : Ctx) : w.st.watchesOrClear (correctMoveInFlight w).st := by
  unfold correctMoveInFlight
  split
  · rename_i m g _ _
    extract_lets lost
    have loses : w.st.watchesOrClear (lost w).st := by
      unfold lost
      split
      · exact orderStop_watches _ w
      · split
        · exact retarget_watches _ _ w.st
        · exact orderStop_watches _ w
      all_goals exact .of_eq rfl
    have goes : w.st.watchesOrClear (match w.st.gateTarget g.frame with
        | some t => w.upd (retarget .present t)
        | none => lost w).st := by
      split
      · exact retarget_watches _ _ w.st
      · exact loses
    split
    · exact goes
    · exact goes
    · exact goes
    all_goals exact .of_eq rfl
  · exact .of_eq rfl

theorem correctVerify_watches (w : Ctx) : w.st.watchesOrClear (correctVerify w).st := by
  unfold correctVerify
  split
  · rename_i v _
    split
    · exact .trans (.of_eq (by simp))
        (orderStop_watches .matched (setVerified 4 (w.upd fun s => { s with fit.verify := some { v with hit := true } })))
    · exact .of_eq rfl
  · exact .of_eq rfl

/-- A correction leaves no watch, nor does the opportunity after it. -/
theorem afterCorrection_unwatched (affected : Nat → Bool) (w : Ctx) :
    (finish (examine (afterCorrection affected w))).gtu.watches = PerPort.all false := by
  have cleared : (correctGate affected (w.upd fun s => { s with gtu.watches := PerPort.all false })).st.gtu.watches = PerPort.all false := by
    simp
  have chain := ((correctMoveInFlight_watches _).trans (correctVerify_watches _)).clear cleared
  simpa using (examine_watches (afterCorrection affected w)).clear chain

end Sys2Proof.Machine
end

section
/-! CORRECT (R80 to R86). -/

namespace Sys2Proof.Machine

/-! ### The operands of a CORRECT (R212) -/

theorem numAt_frame {n : Nat} (small : n ≤ 16383) (form : Byte) (rest : List Byte) : numAt (form :: (be 2 n ++ rest)) 1 2 = n := by
  simpa [numAt] using numAt_two (n := n) (by omega) rest

theorem numAt_position {p : Nat} (small : p ≤ 4194303) (form : Byte) (n : Nat) : numAt (form :: (be 2 n ++ be 3 p)) 3 3 = p := by
  simpa [numAt, be_two] using numAt_three (n := p) (by omega)

theorem numAt_lastFrame {b : Nat} (small : b ≤ 16383) (form : Byte) (n : Nat) : numAt (form :: (be 2 n ++ be 2 b)) 3 2 = b := by
  simpa [numAt, be_two] using numAt_two (n := b) (by omega) []

section parse
variable {n p b : Nat} (frame : n ≤ 16383)
include frame

theorem parse_merge : Kind.correct.parse (0 :: be 2 n) = .ok (.correct (.merge n)) := by
  have first : numAt (0#8 :: be 2 n) 1 2 = n := by simpa using numAt_frame frame 0#8 []
  have ok : ¬Config.maxFrame < n := by simp [Config.maxFrame]; omega
  simp [Kind.parse, parseCorrect, byteAt, first, ok]

theorem parse_split (place : p ≤ 4194303) : Kind.correct.parse (1 :: (be 2 n ++ be 3 p)) = .ok (.correct (.split n p)) := by
  have ok : ¬Config.maxFrame < n := by simp [Config.maxFrame]; omega
  have ok' : ¬Config.maxPosition < p := by simp [Config.maxPosition]; omega
  simp [Kind.parse, parseCorrect, byteAt, numAt_frame frame, numAt_position place, ok, ok']

theorem parse_move (place : p ≤ 4194303) : Kind.correct.parse (2 :: (be 2 n ++ be 3 p)) = .ok (.correct (.move n p)) := by
  have ok : ¬Config.maxFrame < n := by simp [Config.maxFrame]; omega
  have ok' : ¬Config.maxPosition < p := by simp [Config.maxPosition]; omega
  simp [Kind.parse, parseCorrect, byteAt, numAt_frame frame, numAt_position place, ok, ok']

theorem parse_clearTaken (last : b ≤ 16383) (order : n ≤ b) :
    Kind.correct.parse (3 :: (be 2 n ++ be 2 b)) = .ok (.correct (.clearTaken n b)) := by
  have ok : ¬Config.maxFrame < n := by simp [Config.maxFrame]; omega
  have ok' : ¬(Config.maxFrame < b ∨ b < n) := by simp [Config.maxFrame]; omega
  simp [Kind.parse, parseCorrect, byteAt, numAt_frame frame, numAt_lastFrame last, ok, ok']

end parse

/-! ### What each form performs -/

section performed
variable {r : Request} {s : State} {n p : Nat} (takes : s.takesNow r) (port : sourcePort r.source ≠ .b) (loaded : s.trc.roll = .loaded)
include takes port loaded

theorem correct_performed (form : Byte) {c : Correction} (length : correctLength (form :: r.body) = true)
    (parsed : Kind.correct.parse (form :: r.body) = .ok (.correct c)) :
    requestArrives 17 { r with body := form :: r.body } s =
      releaseAll (requestEnv 17 r) (perform (requestEnv 17 r) (.correct c) s) := by
  rw [requestArrives_performed 17 .correct (r := { r with body := form :: r.body }) rfl takes (.inr rfl) length
    (decide_eq_true port) (.inl rfl) parsed (rollRefusal_of_loaded nofun loaded) rfl]
  rfl

variable (frame : n ≤ 16383)
include frame

theorem merge_performed (body : r.body = be 2 n) :
    exec (.correctMerge r) s = .next (releaseAll (requestEnv 17 r) (doMerge (requestEnv 17 r) n s)) := by
  rw [exec_correctMerge, correct_performed takes port loaded 0 (by rw [body]; rfl) (by rw [body]; exact parse_merge frame)]
  rfl

theorem split_performed (place : p ≤ 4194303) (body : r.body = be 2 n ++ be 3 p) :
    exec (.correctSplit r) s = .next (releaseAll (requestEnv 17 r) (doSplit (requestEnv 17 r) n p s)) := by
  rw [exec_correctSplit, correct_performed takes port loaded 1 (by rw [body]; rfl) (by rw [body]; exact parse_split frame place)]
  rfl

theorem move_performed (place : p ≤ 4194303) (body : r.body = be 2 n ++ be 3 p) :
    exec (.correctMove r) s = .next (releaseAll (requestEnv 17 r) (doMove (requestEnv 17 r) n p s)) := by
  rw [exec_correctMove, correct_performed takes port loaded 2 (by rw [body]; rfl) (by rw [body]; exact parse_move frame place)]
  rfl

theorem clearTaken_performed {b : Nat} (last : b ≤ 16383) (order : n ≤ b) (body : r.body = be 2 n ++ be 2 b) :
    exec (.correctClearTaken r) s = .next (releaseAll (requestEnv 17 r) (doClearTaken (requestEnv 17 r) n b s)) := by
  rw [exec_correctClearTaken, correct_performed takes port loaded 3 (by rw [body]; rfl) (by rw [body]; exact parse_clearTaken frame last order)]
  rfl

end performed

/-! ### Edits -/

/-- What an edit leaves whatever became of the work in flight; `w` is the part with its answer and the edit. -/
theorem edit_leaves {s : State} {w : Ctx} (affected : Nat → Bool) (p256 : w.st.fit.p256 = s.fit.p256) (splice : w.st.fit.splice = s.fit.splice)
    (trc : w.st.trc = s.trc) (fcc : w.st.fcc = s.fcc) (mkd : w.st.mkd = s.mkd) (rqt : w.st.rqt = s.rqt) :
    let t := finish (examine (afterCorrection affected w))
    t.fit.entries = w.st.fit.entries ∧ t.fit.index = w.st.fit.index ∧ s.afterEdit t := by
  intro t
  have unwatched := afterCorrection_unwatched affected w
  exact ⟨by simp [t], by simp [t], by simp [t, p256], by simp [t, splice], by simp [t, trc], by simp [t, trc], by simp [t, trc], by simp [t, fcc],
    by simp [t, fcc], by simp [t, mkd], fun p => by rw [unwatched]; cases p <;> rfl, by simp [t, rqt], by simp [t, rqt]⟩

theorem afterEdit_releaseAll {s t : State} (e : Env) (edited : s.afterEdit t) : s.afterEdit (releaseAll e t) := by
  simpa [State.afterEdit] using edited

theorem reply_upd (e : Env) (st : Status) (results : List Byte) (f : State → State) (w : Ctx) :
    e.reply st results (w.upd f) = (e.reply st results w).upd f := by
  unfold Env.reply
  split <;> rfl

section edits
variable {e : Env} {n p b : Nat} {s : State} (quiet : s.fit.building = false) (indexed : n < s.fit.entries.length)

theorem indexed_eq (s : State) (n : Nat) : s.indexed n = decide (n < s.fit.entries.length) := rfl

theorem correctReply_fields (e : Env) (w : Ctx) : (correctReply e w).st = w.st := reply_st _ _ _ _

include quiet indexed

theorem doMerge_leaves :
    (doMerge e n s).fit.entries = s.fit.entries.eraseIdx n ∧
      (doMerge e n s).fit.index = (if s.fit.entries.length = 1 then .empty else s.fit.index) ∧ s.afterEdit (doMerge e n s) := by
  have merges : doMerge e n s = finish (examine (afterCorrection (fun m => decide (n ≤ m))
      (correctReply e ((Ctx.start s).upd (mergeEntries n))))) := by
    simp [doMerge, quiet, indexed_eq, indexed]
  obtain ⟨entries, index, edited⟩ := edit_leaves (s := s) (w := correctReply e ((Ctx.start s).upd (mergeEntries n))) (fun m => decide (n ≤ m))
    (by simp [Ctx.start]) (by simp [Ctx.start]) (by simp [Ctx.start]) (by simp [Ctx.start]) (by simp [Ctx.start]) (by simp [Ctx.start])
  rw [← merges] at entries index edited
  have last : (s.fit.entries.eraseIdx n).isEmpty = true ↔ s.fit.entries.length = 1 := by
    rw [List.isEmpty_iff_length_eq_zero, List.length_eraseIdx_of_lt indexed]
    omega
  refine ⟨by simp [entries, mergeEntries, Ctx.start], ?_, edited⟩
  simp only [index, correctReply_fields, mergeEntries, Ctx.start, upd_st, last]

theorem doSplit_leaves (room : s.fit.index ≠ .full) (short : s.fit.entries.length < 16384) (fits : s.splitFits n p = true)
    (verified : s.trc.verified = true) :
    (doSplit e n p s).fit.entries =
        s.fit.entries.take (n + 1) ++ ⟨p, .manual, false, false, false, false, false⟩ :: s.fit.entries.drop (n + 1) ∧
      (doSplit e n p s).fit.index = (if s.fit.index = .opened ∧ s.fit.entries.length = 16383 then .full else s.fit.index) ∧
      s.afterEdit (doSplit e n p s) := by
  generalize answered : correctReply e ((Ctx.start s).upd (splitEntries n p)) = w
  generalize told : (if w.st.fit.index = .full then pulseAll .indexClosed ([1] ++ beFrame w.st.frontier) w else w) = u
  have full : ¬(s.fit.index = .full ∨ Config.maxEntries ≤ s.fit.entries.length) := by
    simp [Config.maxEntries, room]
    omega
  have splits : doSplit e n p s = finish (examine (afterCorrection (fun m => decide (n < m)) u)) := by
    simp only [doSplit, quiet, indexed_eq, indexed, if_neg full, fits, verified]
    rw [← told, ← answered]
    rfl
  have st : u.st = splitEntries n p s := by
    rw [← told, ← answered]
    split
    · exact correctReply_fields e _
    · exact correctReply_fields e _
  obtain ⟨entries, index, edited⟩ := edit_leaves (s := s) (w := u) (fun m => decide (n < m))
    (by simp [st]) (by simp [st]) (by simp [st]) (by simp [st]) (by simp [st]) (by simp [st])
  rw [← splits] at entries index edited
  have inserted : (splitEntries n p s).fit.entries =
      s.fit.entries.take (n + 1) ++ ⟨p, .manual, false, false, false, false, false⟩ :: s.fit.entries.drop (n + 1) :=
    insertIdx_eq_take_append_cons_drop (by omega)
  have filled : s.fit.index = .opened ∧ Config.maxEntries ≤
      (s.fit.entries.insertIdx (n + 1) ⟨p, .manual, false, false, false, false, false⟩).length ↔
      s.fit.index = .opened ∧ s.fit.entries.length = 16383 := by
    have most : Config.maxEntries = 16384 := rfl
    rw [List.length_insertIdx_of_le_length (by omega), most]
    exact and_congr_right fun _ => by omega
  exact ⟨by rw [entries, st, inserted], by simp only [index, st, splitEntries, filled], edited⟩

theorem doMove_leaves (fits : s.moveFits n p = true) :
    (doMove e n p s).fit.entries = s.fit.entries.modify n (fun e => { e with pos := p, kind := .manual, weak := false }) ∧
      (doMove e n p s).fit.index = s.fit.index ∧ s.afterEdit (doMove e n p s) := by
  have moves : doMove e n p s = finish (examine (afterCorrection (fun m => decide (n = m))
      (correctReply e ((Ctx.start s).upd (moveEntry n p))))) := by
    simp [doMove, quiet, indexed_eq, indexed, fits]
  obtain ⟨entries, index, edited⟩ := edit_leaves (s := s) (w := correctReply e ((Ctx.start s).upd (moveEntry n p))) (fun m => decide (n = m))
    (by simp [Ctx.start]) (by simp [Ctx.start]) (by simp [Ctx.start]) (by simp [Ctx.start]) (by simp [Ctx.start]) (by simp [Ctx.start])
  rw [← moves] at entries index edited
  exact ⟨by simp [entries, moveEntry, Ctx.start], by simp [index, Ctx.start], edited⟩

theorem doClearTaken_leaves (last : b < s.fit.entries.length) :
    releaseAll e (doClearTaken e n b s) = State.replied e .done ([s.indexByte] ++ beFrame s.frontier)
      { s with fit.entries := s.fit.entries.mapIdx fun i x => if n ≤ i ∧ i ≤ b then { x with taken := false } else x } := by
  have clears : doClearTaken e n b s = finishQuiet (correctReply e ((Ctx.start s).upd (clearTakenEntries n b))) := by
    simp [doClearTaken, quiet, indexed_eq, indexed, last]
  have results : ([(clearTakenEntries n b s).indexByte] ++ beFrame (clearTakenEntries n b s).frontier) =
      [s.indexByte] ++ beFrame s.frontier := by
    have ended : (clearTakenEntries n b s).indexByte = s.indexByte := rfl
    have frontier : (clearTakenEntries n b s).frontier = s.frontier := by simp [clearTakenEntries, State.frontier]
    rw [ended, frontier]
  have replies : correctReply e ((Ctx.start s).upd (clearTakenEntries n b)) =
      (e.reply .done ([s.indexByte] ++ beFrame s.frontier) (Ctx.start s)).upd (clearTakenEntries n b) := by
    rw [← reply_upd, ← results]
    rfl
  rw [clears, replies]
  exact releaseAll_doneQuiet e _ (clearTakenEntries n b) s

end edits

/-- Settles O18: each form performs its edit (`doMerge_leaves` and its like), and the opportunity after it leaves the index. -/
theorem correctEditsOrRefuses : Obligations.CorrectEditsOrRefuses := by
  refine ⟨fun r n p s takes port indexed short place loaded quiet => ⟨fun body => ?_, fun body room short fits verified => ?_,
    fun body fits => ?_, fun b order last body => ?_⟩, ?_⟩
  · obtain ⟨entries, index, edited⟩ := doMerge_leaves (e := requestEnv 17 r) quiet indexed
    exact ⟨_, merge_performed takes port loaded (by omega) body, by simpa using entries, by simpa using index, afterEdit_releaseAll _ edited⟩
  · obtain ⟨entries, index, edited⟩ := doSplit_leaves (e := requestEnv 17 r) quiet indexed room short fits verified
    exact ⟨_, split_performed takes port loaded (by omega) place body, by simpa using entries, by simpa using index, afterEdit_releaseAll _ edited⟩
  · obtain ⟨entries, index, edited⟩ := doMove_leaves (e := requestEnv 17 r) quiet indexed fits
    exact ⟨_, move_performed takes port loaded (by omega) place body, by simpa using entries, by simpa using index, afterEdit_releaseAll _ edited⟩
  · rw [clearTaken_performed takes port loaded (by omega) (by omega) order body, doClearTaken_leaves quiet indexed last]
  · rintro c r n p rest s form takes port frame place body loaded
    rcases form with ⟨rfl, rfl⟩ | ⟨rfl, rfl⟩ | ⟨rfl, rfl⟩
    · rw [merge_performed takes port loaded frame (by simpa using body)]
      refine ⟨fun busy => ?_, fun quiet beyond => ?_⟩
      · rw [doMerge, if_pos busy, releaseAll_refuse]
      · rw [doMerge, if_neg (by simp [quiet]), if_pos (by simpa [indexed_eq] using beyond), releaseAll_refuse]
    · rw [split_performed takes port loaded frame place body]
      refine ⟨fun busy => ?_, fun quiet beyond => ?_⟩
      · rw [doSplit, if_pos busy, releaseAll_refuse]
      · rw [doSplit, if_neg (by simp [quiet]), if_pos (by simpa [indexed_eq] using beyond), releaseAll_refuse]
    · rw [move_performed takes port loaded frame place body]
      refine ⟨fun busy => ?_, fun quiet beyond => ?_⟩
      · rw [doMove, if_pos busy, releaseAll_refuse]
      · rw [doMove, if_neg (by simp [quiet]), if_pos (by simpa [indexed_eq] using beyond), releaseAll_refuse]

end Sys2Proof.Machine
end

section
/-! SUPPORT. What a port reset leaves of its port (R118, R135, R161, R176, R195, R197). -/

namespace Sys2Proof.Machine

/-! ### Reservations that stay gone -/

/-- A port holds no reservation. -/
def State.unreserved (s : State) (p : Port) : Prop := (s.link p).reserved = 0

section unreserved
variable {p : Port}

theorem complete_unreserved {w : Ctx} (h : w.st.unreserved p) (q : Port) (tag : Byte) (kind : Nat) (o : OutcomeCode) (r : List Byte) :
    (complete q tag kind o r w).st.unreserved p := by
  unfold State.unreserved at *
  by_cases same : q = p
  · subst same
    simp_all [complete]
  · simp_all [complete]

theorem completeRecordOnly_unreserved {w : Ctx} (h : w.st.unreserved p) (r : Record) (o : OutcomeCode) :
    (completeRecordOnly r o w).st.unreserved p := by
  simpa [completeRecordOnly, examineAlmostFull, State.unreserved, removeRecord] using
    complete_unreserved h r.port r.tag r.work.code o (w.st.recordResults r)

theorem examineBarriersN_unreserved (n : Nat) (q : Port) {w : Ctx} (h : w.st.unreserved p) : (examineBarriersN n q w).st.unreserved p := by
  induction n generalizing w with
  | zero => exact h
  | succ n ih =>
    unfold examineBarriersN
    split
    · exact ih (completeRecordOnly_unreserved h _ _)
    · exact h

theorem completeRecord_unreserved {w : Ctx} (h : w.st.unreserved p) (r : Record) (o : OutcomeCode) : (completeRecord r o w).st.unreserved p :=
  examineBarriersN_unreserved _ _ (completeRecordOnly_unreserved h r o)

theorem completeRun_unreserved {w : Ctx} (h : w.st.unreserved p) (o : OutcomeCode) : (completeRun o w).st.unreserved p := by
  refine examineBarriersN_unreserved _ _ ?_
  unfold completeRunOnly
  split
  · exact h
  · rename_i r _
    exact complete_unreserved h .a r.tag 4 o (runResults r)

theorem completeEach_unreserved (o : OutcomeCode) (l : List Record) {w : Ctx} (h : w.st.unreserved p) : (completeEach o l w).st.unreserved p := by
  induction l generalizing w with
  | nil => exact h
  | cons r l ih => exact ih (completeRecord_unreserved h r o)

theorem clearUnreachable_unreserved {w : Ctx} (h : w.st.unreserved p) : (clearUnreachable w).st.unreserved p := by
  unfold clearUnreachable
  extract_lets u o l
  have chosen : u.st.unreserved p := by
    unfold u
    split
    · simpa [State.unreserved] using h
    · exact h
  split
  · split
    · exact completeEach_unreserved _ _ (completeRun_unreserved (completeEach_unreserved _ _ chosen) _)
    · exact completeEach_unreserved _ _ chosen
  · exact completeEach_unreserved _ _ chosen

theorem examine_unreserved {w : Ctx} (h : w.st.unreserved p) : (examine w).st.unreserved p := by
  unfold examine
  extract_lets u
  have cleared : u.st.unreserved p := clearUnreachable_unreserved h
  split
  · split
    · simpa [State.unreserved] using cleared
    · split
      · simpa [State.unreserved] using cleared
      · simpa [State.unreserved] using cleared
  · exact h

end unreserved

/-! ### The settings of the sources -/

theorem latchOne_settings (o : Occ) (s : State) (p : Port) (k : EventSource) :
    ((latchOne o s).slot p k).enabled = (s.slot p k).enabled ∧ ((latchOne o s).slot p k).falling = (s.slot p k).falling := by
  rw [latchOne_slot]
  split <;> exact ⟨rfl, rfl⟩

theorem foldl_latchOne_settings (l : List Occ) (s : State) (p : Port) (k : EventSource) :
    ((l.foldl (fun s o => latchOne o s) s).slot p k).enabled = (s.slot p k).enabled ∧
      ((l.foldl (fun s o => latchOne o s) s).slot p k).falling = (s.slot p k).falling := by
  induction l generalizing s with
  | nil => exact ⟨rfl, rfl⟩
  | cons o l ih =>
    obtain ⟨enabled, falling⟩ := ih (latchOne o s)
    obtain ⟨enabled', falling'⟩ := latchOne_settings o s p k
    exact ⟨enabled.trans enabled', falling.trans falling'⟩

/-- The latches at the end of a command leave the enables and polarities. -/
theorem finish_settings (w : Ctx) (p : Port) (k : EventSource) :
    ((finish w).slot p k).enabled = (w.st.slot p k).enabled ∧ ((finish w).slot p k).falling = (w.st.slot p k).falling := by
  rw [finish_slot]
  obtain ⟨enabled, falling⟩ := foldl_latchOne_settings (sortOccs w.occs) (queueAll w.sends w.st) p k
  rw [queueAll_slot] at enabled falling
  exact ⟨enabled, falling⟩

/-! ### A stop order with no grant -/

theorem disposeStopped_ungranted {w : Ctx} (none : w.st.rqt.grant = .none) :
    disposeStopped w = w.upd fun s => { s with rqt.stopReason := .none } := by
  simp only [disposeStopped, none]

/-- A stop order with no grant leaves all but the transport, the stop reason and the building flag. -/
theorem orderStop_ungranted {w : Ctx} (none : w.st.rqt.grant = .none) (r : StopReason) :
    ∃ f : State → State, orderStop r w = w.upd f ∧ (f w.st).lnk = w.st.lnk ∧ (f w.st).ntu = w.st.ntu ∧ (f w.st).gtu = w.st.gtu ∧
      (f w.st).rqt.records = w.st.rqt.records ∧ (f w.st).rqt.run = w.st.rqt.run := by
  unfold orderStop
  split
  · exact ⟨id, rfl, rfl, rfl, rfl, rfl, rfl⟩
  · rename_i m _
    split
    · exact ⟨id, rfl, rfl, rfl, rfl, rfl, rfl⟩
    · split
      iterate 4 exact ⟨_, rfl, rfl, rfl, rfl, rfl, rfl⟩
      · rw [disposeStopped_ungranted (by simpa using none)]
        exact ⟨fun s => { moveOver s with rqt.stopReason := .none }, rfl, by simp, by simp, by simp, by simp, by simp⟩
      · rw [disposeStopped_ungranted (by simpa using none)]
        exact ⟨fun s => { s with trc.move := .none, rqt.stopReason := .none }, rfl, rfl, rfl, rfl, rfl, rfl⟩
      iterate 4 exact ⟨id, rfl, rfl, rfl, rfl, rfl, rfl⟩

/-- The work of a grant whose holder is gone leaves the links, the sources, the table and the presentation. -/
theorem endGrantWork_ungranted {w : Ctx} (none : w.st.rqt.grant = .none) :
    ∃ f : State → State, endGrantWork w = w.upd f ∧ (f w.st).lnk = w.st.lnk ∧ (f w.st).ntu = w.st.ntu ∧
      (f w.st).rqt.records = w.st.rqt.records ∧ (f w.st).rqt.run = w.st.rqt.run ∧
      (f w.st).gtu.watches = w.st.gtu.watches ∧ (f w.st).gtu.presentation = w.st.gtu.presentation ∧
      (f w.st).gtu.exposure = w.st.gtu.exposure ∧ (f w.st).gtu.inHand = .none := by
  unfold endGrantWork
  dsimp only
  split
  · exact ⟨fun s => abandonLookup (dropInHand s), rfl, by simp, by simp, by simp, by simp, by simp, by simp, by simp, by simp [dropInHand]⟩
  · obtain ⟨f, same, lnk, ntu, gtu, records, run⟩ := orderStop_ungranted (w := w.upd dropInHand) (by simpa using none) .none
    rw [same]
    simp only [upd_st] at lnk ntu gtu records run
    exact ⟨fun s => f (dropInHand s), rfl, lnk.trans (by simp), ntu.trans (by simp), records.trans (by simp), run.trans (by simp),
      by rw [gtu]; simp, by rw [gtu]; simp, by rw [gtu]; simp, by rw [gtu]; rfl⟩

/-! ### The gate without the port -/

/-- Nothing at the gate belongs to a port. -/
structure State.GateFreeOf (s : State) (p : Port) : Prop where
  watch : s.gtu.watches.get p = false
  shown : ∀ x, s.gtu.presentation = some x → x.holder.port ≠ p
  inHand : ∀ g, s.gtu.inHand = some g → g.holder.port ≠ p

section free
variable {p : Port}

theorem State.GateFreeOf.of_same {s t : State} (h : s.GateFreeOf p) (watches : t.gtu.watches = s.gtu.watches)
    (presentation : t.gtu.presentation = s.gtu.presentation) (inHand : t.gtu.inHand = s.gtu.inHand) : t.GateFreeOf p :=
  ⟨by rw [watches, h.watch], fun x hx => h.shown x (presentation ▸ hx), fun g hg => h.inHand g (inHand ▸ hg)⟩

theorem makePresentation_free {w : Ctx} (h : w.st.GateFreeOf p) (src : FocusSource) : (makePresentation src w).st.GateFreeOf p := by
  cases hand : w.st.gtu.inHand with
  | none =>
    have same : makePresentation src w = w := by simp only [makePresentation, hand]
    rwa [same]
  | some g =>
    have other := h.inHand g hand
    have gtu := makePresentation_gtu src hand
    refine ⟨?_, fun x hx => ?_, fun g' hg => ?_⟩
    · simp [gtu, h.watch, other]
    · rw [gtu] at hx
      cases hx
      exact other
    · rw [gtu] at hg
      cases hg

theorem focusReady_free {w : Ctx} (h : w.st.GateFreeOf p) (src : FocusSource) : (focusReady src w).st.GateFreeOf p := by
  unfold focusReady
  split
  · split
    · exact h.of_same rfl rfl rfl
    · exact makePresentation_free h src
  · exact h

theorem lensDone_free {w : Ctx} (h : w.st.GateFreeOf p) (purpose : LensPurpose) : (lensDone purpose w).st.GateFreeOf p := by
  cases purpose with
  | sample =>
    unfold lensDone
    dsimp only
    split
    · exact h.of_same rfl rfl rfl
    · exact h
  | final src => exact focusReady_free h src
  | dropped => exact h

theorem orderLens_free {w : Ctx} (h : w.st.GateFreeOf p) (mv : LensMove) : (orderLens mv w).st.GateFreeOf p := by
  unfold orderLens
  split
  · exact h.of_same rfl rfl rfl
  · split
    · exact lensDone_free h _
    · split
      · exact h.of_same rfl rfl rfl
      · exact h.of_same rfl rfl rfl

theorem beginHeld_free {w : Ctx} (h : w.st.GateFreeOf p) : (beginHeld w).st.GateFreeOf p := by
  unfold beginHeld
  split
  · exact h
  · split
    · exact orderLens_free (w := w.upd fun s => { s with fcc.held := none }) (h.of_same rfl rfl rfl) _
    · exact h

theorem resetExposure_free {w : Ctx} (h : w.st.GateFreeOf p) (q : Port) : (resetExposure q w).st.GateFreeOf p := by
  unfold resetExposure
  split
  · split
    · dsimp only
      have dropped : (w.upd dropExposure).st.GateFreeOf p := h.of_same rfl rfl rfl
      refine beginHeld_free ?_
      split
      · exact focusReady_free (w := (w.upd dropExposure).upd fun s => { s with gtu.heldReport := none }) (dropped.of_same rfl rfl rfl) _
      · exact dropped
    · exact h
  · exact h

theorem resetExposure_exposure (p : Port) (w : Ctx) : ∀ x, (resetExposure p w).st.gtu.exposure = some x → x.port ≠ p := by
  intro x
  unfold resetExposure
  split
  · rename_i y exposure
    split
    · simp only [beginHeld_frame]
      split
      · simp [dropExposure]
      · simp [dropExposure]
    · intro hx
      rw [exposure] at hx
      cases hx
      assumption
  · rename_i none
    intro hx
    rw [none] at hx
    cases hx

end free

end Sys2Proof.Machine
end

section
/-! A port reset: RESET-LINK and a break (R118, R135, R161, R176, R186, R195, R197, R208). -/

namespace Sys2Proof.Machine

/-! ### The port's work leaves -/

/-- The port is cleared but for what its exposure held up. -/
structure State.PortGone (s u : State) (p : Port) : Prop where
  lnk : u.lnk = s.lnk.set p (resetLinkState (s.link p))
  sources : u.ntu.ports = s.ntu.ports.set p (PerSource.all EventSlot.reset)
  records : u.rqt.records = s.rqt.records.filter fun r => decide (r.port ≠ p)
  run : u.rqt.run = if p = .a then none else s.rqt.run
  watches : u.gtu.watches = s.gtu.watches.set p false
  exposure : u.gtu.exposure = s.gtu.exposure
  free : u.GateFreeOf p

/-- The port's link, sources, table work, presentation and watch are gone; its grant's work goes on. -/
def portRemoved (p : Port) (s : State) : State :=
  { resetPresentation p (removePortWork p (resetSources p (s.setLink p (resetLinkState (s.link p))))) with
    gtu.watches := s.gtu.watches.set p false }

theorem portCleared_removed (p : Port) (w : Ctx) : portCleared p w =
    resetExposure p ((if w.st.grantOf p then endGrantWork (w.upd (portRemoved p)) else w.upd (portRemoved p)).upd settleAlmostFull) := by
  unfold portCleared
  dsimp only
  congr 3

theorem resetPresentation_shown {p : Port} {s : State} : ∀ x, (resetPresentation p s).gtu.presentation = some x → x.holder.port ≠ p := by
  intro x
  unfold resetPresentation
  split
  · rename_i y shown
    split
    · intro hx
      cases hx
    · intro hx
      rw [shown] at hx
      cases hx
      assumption
  · rename_i none
    intro hx
    rw [none] at hx
    cases hx

theorem removed_gone {p : Port} {w : Ctx} (law : w.st.gateLaw) : ∃ f : State → State,
    (if w.st.grantOf p then endGrantWork (w.upd (portRemoved p)) else w.upd (portRemoved p)) = w.upd f ∧ w.st.PortGone (f w.st) p := by
  obtain ⟨-, -, named, -⟩ := law
  have shown : ∀ x, (portRemoved p w.st).gtu.presentation = some x → x.holder.port ≠ p := resetPresentation_shown
  have grant : (portRemoved p w.st).rqt.grant = if w.st.grantOf p then .none else w.st.rqt.grant := by
    simp only [portRemoved, resetPresentation_frame]
    rfl
  cases held : w.st.grantOf p with
  | true =>
    rw [held, if_pos rfl] at grant
    obtain ⟨f, same, lnk, ntu, records, run, watches, presentation, exposure, inHand⟩ :=
      endGrantWork_ungranted (w := w.upd (portRemoved p)) grant
    simp only [upd_st] at lnk ntu records run watches presentation exposure inHand
    refine ⟨fun s => f (portRemoved p s), by rw [if_pos rfl, same]; rfl, ?_, ?_, ?_, ?_, ?_, ?_, ?_, fun x hx => ?_, fun g hg => ?_⟩
    · rw [lnk]
      simp [portRemoved, State.setLink]
    · rw [ntu]
      simp [portRemoved, resetSources]
    · rw [records]
      simp [portRemoved, removePortWork]
    · rw [run]
      simp [portRemoved, removePortWork]
    · rw [watches]
      rfl
    · rw [exposure]
      simp [portRemoved]
    · rw [watches]
      simp [portRemoved]
    · exact shown x (presentation ▸ hx)
    · rw [inHand] at hg
      cases hg
  | false =>
    refine ⟨portRemoved p, by simp, ?_, ?_, ?_, ?_, rfl, ?_, ?_, shown, fun g hg => ?_⟩
    · simp [portRemoved, State.setLink]
    · simp [portRemoved, resetSources]
    · simp [portRemoved, removePortWork]
    · simp [portRemoved, removePortWork]
    · simp [portRemoved]
    · simp [portRemoved]
    · have hand : w.st.gtu.inHand = some g := by simpa [portRemoved] using hg
      have port := names_port rfl (named g hand) p
      rw [held, eq_comm, decide_eq_false_iff_not] at port
      exact port

/-! ### What a port reset leaves -/

theorem link_of_set {s : State} {lnk : PerPort Link} {q : Port} {l : Link} (same : s.lnk = lnk.set q l) (p : Port) :
    s.link p = if q = p then l else lnk.get p := by
  unfold State.link
  rw [same, PerPort.get_set]

section reset
variable {p : Port} {w : Ctx}

/-- A port reset ends as the opportunity after the exposure's end leaves it. -/
theorem portReset_removed (law : w.st.gateLaw) : ∃ f : State → State,
    portReset p w = examine (resetExposure p (w.upd fun s => settleAlmostFull (f s))) ∧ w.st.PortGone (f w.st) p := by
  obtain ⟨f, same, gone⟩ := removed_gone (p := p) law
  refine ⟨f, ?_, gone⟩
  rw [portReset_eq, portCleared_removed, same]
  rfl

theorem watchesOrClear_get {s t : State} (h : s.watchesOrClear t) (none : s.gtu.watches.get p = false) : t.gtu.watches.get p = false := by
  rcases h with same | clear
  · rw [same, none]
  · rw [clear]
    cases p <;> rfl

/-- What a port reset leaves of its port, whatever follows it. -/
theorem portReset_clears (law : w.st.gateLaw) :
    let t := finish (portReset p w)
    (∀ r ∈ t.rqt.records, r.port ≠ p) ∧ (p = .a → t.rqt.run = none) ∧
      (∀ k, (t.slot p k).enabled = true ∧ (t.slot p k).falling = false) ∧
      (∀ q k, q ≠ p → (t.slot q k).enabled = (w.st.slot q k).enabled ∧ (t.slot q k).falling = (w.st.slot q k).falling) ∧
      t.gtu.watches.get p = false ∧ (∀ x, t.gtu.presentation = some x → x.holder.port ≠ p) ∧
      (∀ x, t.gtu.exposure = some x → x.port ≠ p) ∧ (t.link p).reserved = 0 := by
  intro t
  obtain ⟨f, same, gone⟩ := portReset_removed (p := p) law
  generalize start : (w.upd fun s => settleAlmostFull (f s)) = u at same
  have rqt : u.st.rqt = (f w.st).rqt := by rw [← start]; rfl
  have lnk : u.st.lnk = (f w.st).lnk := by rw [← start]; rfl
  have ports : u.st.ntu.ports = (f w.st).ntu.ports := by rw [← start]; rfl
  have free : u.st.GateFreeOf p := by
    rw [← start]
    exact gone.free.of_same rfl rfl rfl
  have exposed := resetExposure_exposure p u
  have freed := resetExposure_free free p
  have keeps := (resetExposure_keeps u p).trans (examine_keeps (resetExposure p u))
  have slots (q : Port) (k : EventSource) : (portReset p w).st.slot q k = if p = q then EventSlot.reset else w.st.slot q k := by
    have all : (portReset p w).st.ntu.ports = w.st.ntu.ports.set p (PerSource.all EventSlot.reset) := by
      rw [same]
      simp [ports, gone.sources]
    unfold State.slot
    rw [all, PerPort.get_set]
    split
    · cases k <;> rfl
    · rfl
  have none : (u.st.link p).reserved = 0 := by
    rw [State.link, lnk, gone.lnk, PerPort.get_set, if_pos rfl]
    rfl
  have unreserved : ((portReset p w).st.link p).reserved = 0 := by
    rw [same]
    exact examine_unreserved (w := resetExposure p u) (by simpa [State.unreserved] using none)
  refine ⟨?_, fun a => ?_, fun k => ?_, fun q k other => ?_, ?_, ?_, ?_, by simpa [t] using unreserved⟩
  · refine State.noneOf_of_keeps (s := u.st) (by simpa only [t, same] using finish_keeps keeps) fun x mem port => ?_
    rw [rqt, gone.records] at mem
    exact absurd port (by simpa using (List.mem_filter.mp mem).2)
  · have empty : u.st.rqt.run = .none := by rw [rqt, gone.run, if_pos a]
    simpa [t, same] using run_none_of_keeps keeps empty
  · obtain ⟨enabled, falling⟩ := finish_settings (portReset p w) p k
    rw [slots, if_pos rfl] at enabled falling
    exact ⟨enabled, falling⟩
  · obtain ⟨enabled, falling⟩ := finish_settings (portReset p w) q k
    rw [slots, if_neg (Ne.symm other)] at enabled falling
    exact ⟨enabled, falling⟩
  · have watch := watchesOrClear_get (examine_watches (resetExposure p u)) freed.watch
    simpa [t, same] using watch
  · simpa [t, same] using freed.shown
  · simpa [t, same] using exposed

end reset

end Sys2Proof.Machine
end

section
/-! A port reset, whole (O14): what it leaves of the other blocks, its end while HALTED, and its two forms. -/

namespace Sys2Proof.Machine

/-! ### The link at the end of a command without an occurrence -/

theorem queueAll_link (p : Port) : ∀ (l : List (Port × OutMsg)) (s : State),
    (queueAll l s).link p = { s.link p with outbox := (s.link p).outbox ++ messagesFor p l }
  | [], s => by simp [queueAll, messagesFor]
  | x :: l, s => by
    have ih := queueAll_link p l (queueMsg x.1 x.2 s)
    have one : (queueMsg x.1 x.2 s).link p =
        { s.link p with outbox := (s.link p).outbox ++ messagesFor p [x] } := by
      unfold queueMsg State.setLink State.link
      rw [PerPort.get_set]
      split
      · rename_i here
        simp [messagesFor, here]
      · rename_i other
        simp [messagesFor, other]
    rw [queueAll, List.foldl_cons, ← queueAll, ih, one, show x :: l = [x] ++ l from rfl, messagesFor_append]
    simp

theorem releaseWaiting_link (p : Port) (s : State) :
    (releaseWaiting s).link p = { s.link p with released := ((releaseWaiting s).link p).released } := by
  obtain ⟨released, same, -⟩ := releaseWaiting_eq s
  rw [same]
  cases p <;> rfl

theorem releaseWaiting_released {p : Port} {s : State} (empty : (s.link p).inbox = []) :
    ((releaseWaiting s).link p).released = (s.link p).released := by
  cases p with
  | c => rw [releaseWaiting_of_empty (by simpa [State.link, PerPort.get] using empty)]
  | a | b =>
    obtain ⟨released, same, -⟩ := releaseWaiting_eq s
    rw [same]
    rfl

section ending
variable {w : Ctx}

/-- Without an occurrence a command ends by queueing its messages, and what follows leaves the links but for a released mark. -/
theorem finish_quiet (none : w.occs = []) : ∃ s, finish w = releaseWaiting s ∧ s.lnk = (queueAll w.sends w.st).lnk := by
  have nothing : sortOccs w.occs = [] := by rw [none]; rfl
  refine ⟨_, rfl, ?_⟩
  simp [latchAll, nothing]

theorem finish_link (none : w.occs = []) (p : Port) : (finish w).link p =
    { w.st.link p with
      outbox := (w.st.link p).outbox ++ messagesFor p w.sends
      released := ((finish w).link p).released } := by
  obtain ⟨s, same, lnk⟩ := finish_quiet none
  rw [same, releaseWaiting_link]
  rw [show s.link p = (queueAll w.sends w.st).link p by simp [State.link, lnk], queueAll_link]

theorem finish_released (none : w.occs = []) {p : Port} (empty : (w.st.link p).inbox = []) :
    ((finish w).link p).released = (w.st.link p).released := by
  obtain ⟨s, same, lnk⟩ := finish_quiet none
  have link : s.link p = (queueAll w.sends w.st).link p := by simp [State.link, lnk]
  rw [same, releaseWaiting_released (by rw [link, queueAll_link]; exact empty), link, queueAll_link]

end ending

theorem messagesFor_other {p : Port} {l : List (Port × OutMsg)} (others : ∀ x ∈ l, x.1 ≠ p) : messagesFor p l = [] := by
  simpa [messagesFor] using others

/-! ### A port reset while HALTED -/

section halted
variable {p : Port} {w : Ctx}

/-- While HALTED and with no exposure nothing follows a port reset. -/
theorem portReset_alone (law : w.st.gateLaw) (halted : w.st.rqt.halted = true) (unexposed : w.st.gtu.exposure = none) :
    ∃ f : State → State, portReset p w = w.upd (fun s => settleAlmostFull (f s)) ∧ w.st.PortGone (f w.st) p := by
  obtain ⟨f, same, gone⟩ := portReset_removed (p := p) law
  have stays : resetExposure p (w.upd fun s => settleAlmostFull (f s)) = w.upd fun s => settleAlmostFull (f s) := by
    have none : (w.upd fun s => settleAlmostFull (f s)).st.gtu.exposure = none := by simp [gone.exposure, unexposed]
    simp only [resetExposure, none]
  have halt : (portReset p w).st.rqt.halted = true := by simp [halted]
  refine ⟨f, ?_, gone⟩
  rw [same, stays] at halt ⊢
  rw [examine_none (opportunity_halted (by simpa using halt))]

/-- A port reset while HALTED clears the latches and the link of its port and leaves the other ports. -/
theorem portReset_halted (law : w.st.gateLaw) (quiet : w.occs = []) (own : ∀ x ∈ w.sends, x.1 = p)
    (halted : w.st.rqt.halted = true) (unexposed : w.st.gtu.exposure = none) :
    let t := finish (portReset p w)
    (t.rqt.records = w.st.rqt.records.filter (fun r => decide (r.port ≠ p)) ∧ (p ≠ .a → t.rqt.run = w.st.rqt.run) ∧
      t.ntu.levels.queueAlmostFull = decide (28 ≤ t.rqt.records.length) ∧
      (∀ k, t.slot p k = ⟨true, false, none⟩) ∧
      ∀ q, q ≠ p →
        t.link q = { w.st.link q with released := (t.link q).released } ∧
        t.gtu.watches.get q = w.st.gtu.watches.get q ∧ ∀ k, t.slot q k = w.st.slot q k) ∧
      t.link p = { resetLinkState (w.st.link p) with outbox := messagesFor p w.sends } := by
  intro t
  obtain ⟨f, same, gone⟩ := portReset_alone (p := p) law halted unexposed
  have silent : (portReset p w).occs = [] := by rw [same]; exact quiet
  have sends : (portReset p w).sends = w.sends := by rw [same]; rfl
  have lnk : (portReset p w).st.lnk = w.st.lnk.set p (resetLinkState (w.st.link p)) := by rw [same]; simp [gone.lnk]
  have slots (q : Port) (k : EventSource) : t.slot q k = if p = q then EventSlot.reset else w.st.slot q k := by
    have all : t.ntu.ports = w.st.ntu.ports.set p (PerSource.all EventSlot.reset) := by
      simp only [t, finish_ntu silent]
      rw [same]
      simp [gone.sources]
    unfold State.slot
    rw [all, PerPort.get_set]
    split
    · cases k <;> rfl
    · rfl
  refine ⟨⟨?_, fun other => ?_, ?_, fun k => by rw [slots, if_pos rfl]; rfl, fun q other => ⟨?_, ?_, fun k => ?_⟩⟩, ?_⟩
  · simp [t, same, gone.records]
  · simp [t, same, gone.run, other]
  · simp only [t, finish_frame]
    rw [same]
    rfl
  · have others : messagesFor q w.sends = [] := messagesFor_other fun x mem port => other ((own x mem).symm.trans port).symm
    simp only [t]
    rw [finish_link silent q, sends, others, link_of_set lnk q, if_neg (Ne.symm other)]
    simp [State.link]
  · simp [t, same, gone.watches, PerPort.get_set, Ne.symm other]
  · rw [slots, if_neg (Ne.symm other)]
  · have link : (portReset p w).st.link p = resetLinkState (w.st.link p) := by rw [link_of_set lnk p, if_pos rfl]
    simp only [t]
    rw [finish_link silent p, finish_released silent (by rw [link]; rfl), link, sends]
    rfl

end halted

/-! ### What a port reset leaves, whole -/

section after
variable {p : Port} {w : Ctx}

theorem portReset_link (law : w.st.gateLaw) :
    let l := (finish (portReset p w)).link p
    l.rx = .idle ∧ l.part = none ∧ l.inbox = [] ∧ l.txFifo = [] ∧ l.rdyMode = .auto ∧ l.threshold = 32 ∧ l.ctsGating = false ∧
      l.gap = 0 ∧ l.outstanding = [] ∧ l.cts = (w.st.link p).cts ∧ l.awaitMark = false := by
  obtain ⟨f, same, gone⟩ := portReset_removed (p := p) law
  have link : (f w.st).lnk.get p = resetLinkState (w.st.link p) := by rw [gone.lnk, PerPort.get_set, if_pos rfl]
  simp [State.link, same, link, resetLinkState, Link.reset]

theorem portReset_after (law : w.st.gateLaw) (quiet : w.occs = []) (own : ∀ x ∈ w.sends, x.1 = p) :
    w.st.afterPortReset (finish (portReset p w)) p := by
  obtain ⟨records, run, slots, others, watch, shown, exposed, reserved⟩ := portReset_clears (p := p) law
  obtain ⟨rx, part, inbox, txFifo, rdyMode, threshold, ctsGating, gap, outstanding, cts, -⟩ := portReset_link (p := p) law
  refine ⟨records, run, slots, others, watch, shown, exposed, rx, part, inbox, reserved, txFifo, rdyMode, threshold, ctsGating, gap,
    outstanding, cts, by simp, by simp, by simp, by simp, by simp, by simp, by simp, by simp, by simp, by simp, fun halted unexposed => ?_⟩
  exact (portReset_halted law quiet own halted unexposed).1

theorem resetExposure_grows : w.Grows [.presented] (resetExposure p w) := by
  unfold resetExposure
  split
  · split
    · dsimp only
      split
      · exact (((upd_grows w _).trans (upd_grows _ _)).trans (focusReady_grows (loud := [.presented]) (by simp) _ _)).trans (beginHeld_grows (loud := [.presented]) (by simp) _)
      · exact (upd_grows _ _).trans (beginHeld_grows (loud := [.presented]) (by simp) _)
    · exact .refl w
  · exact .refl w

/-- What a request sent before a port reset stays the first message. -/
theorem portReset_first (law : w.st.gateLaw) {x : Port × OutMsg} (sent : w.sends = [x]) : ∃ more, (portReset p w).sends = x :: more := by
  obtain ⟨f, same, -⟩ := portReset_removed (p := p) law
  have grows : (w.upd fun s => settleAlmostFull (f s)).Grows [.presented] (portReset p w) := by
    rw [same]
    exact resetExposure_grows.trans (examine_grows _)
  exact grows.first sent

theorem portReset_outbox (law : w.st.gateLaw) : ((portReset p w).st.link p).outbox = [] := by
  obtain ⟨f, same, gone⟩ := portReset_removed (p := p) law
  have link : (f w.st).lnk.get p = resetLinkState (w.st.link p) := by rw [gone.lnk, PerPort.get_set, if_pos rfl]
  simp [State.link, same, link, resetLinkState, Link.reset]

/-- The released mark, and on the port the wait for mark, do not count in what a port reset leaves. -/
theorem State.afterPortReset.of_marks {s t u : State} (h : s.afterPortReset t p) (rqt : u.rqt = t.rqt) (ntu : u.ntu = t.ntu)
    (gtu : u.gtu = t.gtu) (trc : u.trc = t.trc) (fit : u.fit = t.fit) (fcc : u.fcc = t.fcc)
    (here : u.link p = { t.link p with awaitMark := (u.link p).awaitMark, released := (u.link p).released })
    (others : ∀ q, q ≠ p → u.link q = { t.link q with released := (u.link q).released }) : s.afterPortReset u p := by
  unfold State.afterPortReset State.slot at h ⊢
  rw [rqt, ntu, gtu, trc, fit, fcc, here]
  obtain ⟨records, run, slots, settings, watch, shown, exposed, rx, part, inbox, reserved, txFifo, rdyMode, threshold, ctsGating, gap,
    outstanding, cts, arrival, halt, roll, counter, endPos, overrun, entries, p256, lines, lru, whole⟩ := h
  refine ⟨records, run, slots, settings, watch, shown, exposed, rx, part, inbox, reserved, txFifo, rdyMode, threshold, ctsGating, gap,
    outstanding, cts, arrival, halt, roll, counter, endPos, overrun, entries, p256, lines, lru, fun halted unexposed => ?_⟩
  obtain ⟨records', run', level, latches, rest⟩ := whole halted unexposed
  refine ⟨records', run', level, latches, fun q other => ?_⟩
  obtain ⟨link, left⟩ := rest q other
  refine ⟨?_, left⟩
  rw [others q other, link]

end after

/-! ### RESET-LINK -/

theorem releaseAll_link (e : Env) (s : State) (p : Port) :
    (releaseAll e s).link p = { s.link p with
      released := if e.port = .c ∧ e.bc = false ∧ p = .c then (s.link p).outbox.length else (s.link p).released } := by
  unfold releaseAll
  split
  · rename_i h
    cases p <;> simp [h, State.link, PerPort.get]
  · rename_i h
    simp only [not_and] at h
    rw [if_neg fun ⟨c, bc, _⟩ => h c bc]

/-- The answer of a RESET-LINK goes to its port, and nowhere as broadcast. -/
theorem reply_sends (e : Env) (st : Status) (res : List Byte) (s : State) :
    (e.reply st res (Ctx.start s)).sends = if e.bc then [] else [(e.port, replyMsg e.tag e.code (st.code :: res))] := by
  unfold Env.reply
  split <;> simp [Ctx.start]

theorem source_c_iff (src : Source) : (sourcePort src = .c ∧ sourceBroadcast src = false) ↔ src = .c := by
  cases src <;> simp [sourcePort, sourceBroadcast]

theorem resetLink_resets {r : Request} {s : State} (takes : s.takesNow r) (body : r.body = []) (law : s.gateLaw) :
    ∃ t, exec (.resetLink r) s = .next t ∧ s.afterPortReset t (sourcePort r.source) ∧
      (t.link (sourcePort r.source)).awaitMark = false ∧
      (sourceBroadcast r.source = false → ∃ more, (t.link (sourcePort r.source)).outbox = replyMsg r.tag 27 [1] :: more) ∧
      (s.rqt.halted = true → s.gtu.exposure = none →
        t.link (sourcePort r.source) =
          { Link.reset with
            cts := (s.link (sourcePort r.source)).cts
            txLine := (s.link (sourcePort r.source)).txLine
            outbox := if sourceBroadcast r.source then [] else [replyMsg r.tag 27 [1]]
            released := if r.source = .c then 1 else 0 }) := by
  rw [exec_resetLink, exec_plain 27 .resetLink rfl takes body rfl rfl rfl rfl rfl rfl]
  refine ⟨_, rfl, ?_⟩
  simp only [perform, doResetLink]
  generalize he : requestEnv 27 r = e
  have port : e.port = sourcePort r.source := by rw [← he]; rfl
  have bc : e.bc = sourceBroadcast r.source := by rw [← he]; rfl
  have sends : (e.reply .done [] (Ctx.start s)).sends = if sourceBroadcast r.source then [] else [(e.port, replyMsg r.tag 27 [1])] := by
    rw [reply_sends, bc, ← he]
    rfl
  rw [← port]
  generalize hw : e.reply .done [] (Ctx.start s) = w
  rw [hw] at sends
  have st : w.st = s := by rw [← hw]; simp [Ctx.start]
  have quiet : w.occs = [] := by rw [← hw]; simp [Ctx.start]
  have own : ∀ x ∈ w.sends, x.1 = e.port := by
    rw [sends]
    split <;> simp
  subst st
  have after := portReset_after law quiet own
  refine ⟨?_, ?_, fun answered => ?_, fun halted unexposed => ?_⟩
  · refine after.of_marks (by simp) (by simp) (by simp) (by simp) (by simp) (by simp) ?_ fun q _ => ?_
    · rw [releaseAll_link]
    · rw [releaseAll_link]
  · rw [releaseAll_link]
    exact (portReset_link law).2.2.2.2.2.2.2.2.2.2
  · obtain ⟨notices, outbox, -⟩ := finish_outbox (portReset e.port w) e.port
    obtain ⟨more, first⟩ := portReset_first law (w := w) (p := e.port) (x := (e.port, replyMsg r.tag 27 [1])) (by rw [sends, answered]; rfl)
    rw [releaseAll_link, outbox, portReset_outbox law, first]
    exact ⟨_, by rw [show (e.port, replyMsg r.tag 27 [1]) :: more = [(e.port, replyMsg r.tag 27 [1])] ++ more from rfl,
      messagesFor_append, messagesFor_same]; rfl⟩
  · have link := (portReset_halted law quiet own halted unexposed).2
    rw [releaseAll_link, link, sends, bc]
    cases source : r.source <;>
      simp [port, source, sourcePort, sourceBroadcast, resetLinkState, Link.reset, messagesFor]

/-! ### A break -/

theorem lineBreak_resets {p : Port} {s : State} (free : s.resetHeld = false) (marking : (s.link p).awaitMark = false) (law : s.gateLaw) :
    ∃ t, exec (.lineBreak p) s = .next t ∧ s.afterPortReset t p ∧ (t.link p).awaitMark = true ∧
      (s.rqt.halted = true → s.gtu.exposure = none →
        t.link p = { Link.reset with cts := (s.link p).cts, txLine := (s.link p).txLine, awaitMark := true }) ∧
      (∀ b, exec (.receiveByte p b) t = .next t) ∧ exec (.stopBitAtSpace p) t = .next t := by
  have taken : breakTaken p s = (finish (portReset p (Ctx.start s))).setLink p
      { (finish (portReset p (Ctx.start s))).link p with awaitMark := true } := by
    unfold breakTaken
    rw [free, marking]
    rfl
  rw [exec_lineBreak, onLineBreak, taken]
  have law' : (Ctx.start s).st.gateLaw := law
  have after : s.afterPortReset (finish (portReset p (Ctx.start s))) p := portReset_after law' rfl nofun
  generalize hu : finish (portReset p (Ctx.start s)) = u at after
  have here : (u.setLink p { u.link p with awaitMark := true }).link p = { u.link p with awaitMark := true } := by
    simp [State.link, State.setLink]
  have waits : ((u.setLink p { u.link p with awaitMark := true }).link p).awaitMark = true := by rw [here]
  refine ⟨_, rfl, ?_, waits, fun halted unexposed => ?_, fun b => ?_, ?_⟩
  · refine after.of_marks rfl rfl rfl rfl rfl rfl (by rw [here]) fun q other => ?_
    simp [State.link, State.setLink, PerPort.get_set, Ne.symm other]
  · have link := (portReset_halted (w := Ctx.start s) (p := p) law' rfl nofun halted unexposed).2
    rw [here, ← hu, link]
    rfl
  · simp only [exec_receiveByte, onReceiveByte, receive, waits, Bool.or_true, if_true]
  · simp only [exec_stopBitAtSpace, onStopBitAtSpace, spaceAtStop, waits, Bool.or_true, if_true]

/-- Settles O14: the port's link, sources and work are set to their reset values at once, and what follows — the end of its
exposure and a grant opportunity — moves none of them; while HALTED and with no exposure nothing follows. -/
theorem portResetClearsThePort : Obligations.PortResetClearsThePort :=
  ⟨fun _ _ takes body law => resetLink_resets takes body law, fun _ _ free marking law => lineBreak_resets free marking law⟩

end Sys2Proof.Machine
end

section
/-! The operands of PRESENT, RUN and LOAD (R5 to R7, R112, R162, R209, R212, R214, R219). -/

namespace Sys2Proof.Machine

/-! ### PRESENT and RUN -/

section present
variable {f n h : Nat} {c m : Byte} (frame : f ≤ 16383)
include frame

theorem numAt_head (rest : List Byte) : numAt (be 2 f ++ rest) 0 2 = f := numAt_two (by omega) rest

/-- Check 5 of a PRESENT of an existing frame number with a mode that is known. -/
theorem parsePresent_ok {rest : List Byte} {mode : FocusMode} (known : focusMode ((byteAt (be 2 f ++ rest) 3).getD 0) = some mode) :
    Kind.present.parse (be 2 f ++ rest) =
      .ok (.present f (byteAt (be 2 f ++ rest) 2) mode (holdAt (be 2 f ++ rest) 4)) := by
  simp only [Kind.parse, parsePresent, numAt_head frame, known]
  rw [if_neg (by simp [Config.maxFrame]; omega)]

theorem parseRun_ok {rest : List Byte} (known : (byteAt (be 2 f ++ rest) 5).getD 0 ≤ 1) :
    Kind.run.parse (be 2 f ++ rest) =
      .ok (.run f (numAt (be 2 f ++ rest) 2 2) (min ((byteAt (be 2 f ++ rest) 4).getD 1) 1)
        (decide ((byteAt (be 2 f ++ rest) 5).getD 0 = 1)) (holdAt (be 2 f ++ rest) 6)) := by
  simp only [Kind.parse, parseRun, numAt_head frame]
  rw [if_neg (by simp [Config.maxFrame]; omega), if_neg (by omega)]

end present

theorem focusMode_of_le {m : Byte} (known : m.toNat ≤ 1) : focusMode m.toNat = some (if m.toNat = 1 then .hold else .normal) := by
  interval_cases m.toNat <;> rfl

theorem holdAt_end {pre : List Byte} {h : Nat} (small : h < 65536) :
    holdAt (pre ++ be 2 h) pre.length = some (max 100 (min h 60000)) := by
  have num : numAt (pre ++ be 2 h) pre.length 2 = h := by simpa [numAt] using numAt_two small []
  unfold holdAt
  rw [num, if_pos (by simp [be_two]), clampNat_eq _ _ _ (by omega)]

theorem operandsOfPresent {f h : Nat} {c m : Byte} (frame : f ≤ 16383) (small : h < 65536) (mode : m.toNat ≤ 1) :
    Kind.present.parse (be 2 f) = .ok (.present f none .normal none) ∧
    Kind.present.parse (be 2 f ++ [c]) = .ok (.present f (some c.toNat) .normal none) ∧
    Kind.present.parse (be 2 f ++ [c, m]) =
      .ok (.present f (some c.toNat) (if m.toNat = 1 then .hold else .normal) none) ∧
    Kind.present.parse (be 2 f ++ [c, m] ++ be 2 h) =
      .ok (.present f (some c.toNat) (if m.toNat = 1 then .hold else .normal) (some (max 100 (min h 60000)))) := by
  have hold : holdAt (be 2 f ++ ([c, m] ++ be 2 h)) 4 = some (max 100 (min h 60000)) := by
    simpa [be_two] using holdAt_end (pre := be 2 f ++ [c, m]) small
  refine ⟨?_, ?_, ?_, ?_⟩
  · rw [← List.append_nil (be 2 f), parsePresent_ok frame (mode := .normal) (by simp [be_two, byteAt, focusMode])]
    simp [be_two, byteAt, holdAt]
  · rw [parsePresent_ok frame (mode := .normal) (by simp [be_two, byteAt, focusMode])]
    simp [be_two, byteAt, holdAt]
  · rw [parsePresent_ok frame (by simpa [be_two, byteAt] using focusMode_of_le mode)]
    simp [be_two, byteAt, holdAt]
  · rw [List.append_assoc, parsePresent_ok frame (by simpa [be_two, byteAt] using focusMode_of_le mode), hold]
    simp [be_two, byteAt]

theorem operandsOfRun {f n h : Nat} {c m : Byte} (frame : f ≤ 16383) (count : n < 65536) (small : h < 65536) (mode : m.toNat ≤ 1) :
    Kind.run.parse (be 2 f ++ be 2 n) = .ok (.run f n 1 false none) ∧
    Kind.run.parse (be 2 f ++ be 2 n ++ [c]) = .ok (.run f n (min c.toNat 1) false none) ∧
    Kind.run.parse (be 2 f ++ be 2 n ++ [c, m]) = .ok (.run f n (min c.toNat 1) (decide (m.toNat = 1)) none) ∧
    Kind.run.parse (be 2 f ++ be 2 n ++ [c, m] ++ be 2 h) =
      .ok (.run f n (min c.toNat 1) (decide (m.toNat = 1)) (some (max 100 (min h 60000)))) := by
  have hold : holdAt (be 2 f ++ (be 2 n ++ ([c, m] ++ be 2 h))) 6 = some (max 100 (min h 60000)) := by
    simpa [be_two] using holdAt_end (pre := be 2 f ++ (be 2 n ++ [c, m])) small
  have num (rest : List Byte) : numAt (be 2 f ++ (be 2 n ++ rest)) 2 2 = n := by
    simpa [numAt, be_two] using numAt_two count rest
  simp only [List.append_assoc]
  refine ⟨?_, ?_, ?_, ?_⟩
  · rw [← List.append_nil (be 2 n), parseRun_ok frame (by simp [be_two, byteAt]), num]
    simp [be_two, byteAt, holdAt]
  · rw [parseRun_ok frame (by simp [be_two, byteAt]), num]
    simp [be_two, byteAt, holdAt]
  · rw [parseRun_ok frame (by simpa [be_two, byteAt] using mode), num]
    simp [be_two, byteAt, holdAt]
  · rw [parseRun_ok frame (by simpa [be_two, byteAt] using mode), num, hold]
    simp [be_two, byteAt]

/-! ### The profile of a field list -/

/-- The rounding is stored as its code (R5). -/
theorem roundingField (l : List (Nat × List Byte)) :
    ((loadProfile l).fields.getD 14 (0, 0, 0, 0, 0)).2.1 = clampNat 0 1 (fieldRaw l 15 0) := by
  have flag := (clampNat_between (lo := 0) (hi := 1) (by omega) (fieldRaw l 15 0)).2
  by_cases up : clampNat 0 1 (fieldRaw l 15 0) = 0
  · have rounding : (loadProfile l).rounding = .halfUp := by simp only [loadProfile, up, if_true]
    simp [Profile.fields, rounding, up]
  · have rounding : (loadProfile l).rounding = .halfEven := by simp only [loadProfile, up, if_false]
    simp [Profile.fields, rounding]
    omega

/-- Every field of a profile after the clamps: its number as given or its default, brought into its range (R6). -/
theorem loadProfile_fields (l : List (Nat × List Byte)) : ∀ x ∈ (loadProfile l).fields,
    x.2.1 = clampNat x.2.2.2.1 x.2.2.2.2 (fieldRaw l x.1 x.2.2.1) ∧ x.2.2.2.1 ≤ x.2.2.2.2 := by
  have span : 8 ≤ (loadProfile l).sweepSpan := (clampNat_between (lo := 8) (hi := 256) (by omega) (fieldRaw l 17 64)).1
  have low : (loadProfile l).tensionLow ≤ 255 := (clampNat_between (lo := 0) (hi := 255) (by omega) (fieldRaw l 21 80)).2
  have rounding := roundingField l
  simp only [Profile.fields, List.forall_mem_cons]
  refine ⟨⟨rfl, ?_⟩, ⟨rfl, ?_⟩, ⟨rfl, ?_⟩, ⟨rfl, ?_⟩, ⟨rfl, ?_⟩, ⟨rfl, ?_⟩, ⟨rfl, ?_⟩, ⟨rfl, ?_⟩, ⟨rfl, ?_⟩, ⟨rfl, ?_⟩, ⟨rfl, ?_⟩,
    ⟨rfl, ?_⟩, ⟨rfl, ?_⟩, ⟨rfl, ?_⟩, ⟨rounding, ?_⟩, ⟨rfl, ?_⟩, ⟨rfl, ?_⟩, ⟨rfl, ?_⟩, ⟨rfl, ?_⟩, ⟨rfl, ?_⟩, ⟨rfl, ?_⟩, ⟨rfl, ?_⟩, nofun⟩ <;>
    omega

theorem fields_numbers (p : Profile) : p.fields.map (·.1) = [1, 2, 3, 4, 5, 6, 7, 8, 9, 10, 11, 12, 13, 14, 15, 16, 17, 18, 19, 20, 21, 22] := rfl

/-- The fields of a profile whose given or default value is not the one stored. -/
def changedFields (l : List (Nat × List Byte)) (p : Profile) : List (Nat × Nat × Nat × Nat × Nat) :=
  p.fields.filter fun x => decide (fieldRaw l x.1 x.2.2.1 ≠ x.2.1)

/-- A field's number where its given or default value is not the one stored. -/
def changedNumber (l : List (Nat × List Byte)) (x : Nat × Nat × Nat × Nat × Nat) : List Nat :=
  if fieldRaw l x.1 x.2.2.1 = x.2.1 then [] else [x.1]

theorem changedNumbers_filter (l : List (Nat × List Byte)) : ∀ fields : List (Nat × Nat × Nat × Nat × Nat),
    fields.flatMap (changedNumber l) = (fields.filter fun x => decide (fieldRaw l x.1 x.2.2.1 ≠ x.2.1)).map (·.1)
  | [] => rfl
  | x :: fields => by
    rw [List.flatMap_cons, changedNumbers_filter l fields]
    by_cases same : fieldRaw l x.1 x.2.2.1 = x.2.1 <;> simp [changedNumber, same]

theorem clampedList_eq (l : List (Nat × List Byte)) (p : Profile) : clampedList l p =
    (if 32 < ((fieldBytes l 0).getD []).length then [0] else []) ++ (changedFields l p).map (·.1) := by
  have listed : clampedList l p = p.fields.foldl (fun before x => before ++ changedNumber l x)
      (if 32 < ((fieldBytes l 0).getD []).length then [0] else []) := rfl
  rw [listed, List.foldl_append_eq_append, ← List.flatMap_def, changedNumbers_filter]
  rfl

theorem changedFields_numbers (l : List (Nat × List Byte)) (p : Profile) :
    ((changedFields l p).map (·.1)).Sublist [1, 2, 3, 4, 5, 6, 7, 8, 9, 10, 11, 12, 13, 14, 15, 16, 17, 18, 19, 20, 21, 22] := by
  rw [← fields_numbers p]
  exact List.filter_sublist.map _

section clamped
variable {l : List (Nat × List Byte)} {p : Profile}

theorem mem_clampedList {n : Nat} : n ∈ clampedList l p ↔
    (n = 0 ∧ 32 < ((fieldBytes l 0).getD []).length) ∨ n ∈ (changedFields l p).map (·.1) := by
  rw [clampedList_eq, List.mem_append]
  refine or_congr ?_ Iff.rfl
  split <;> simp [*]

/-- The numbers of the fields tell them apart. -/
theorem mem_changedFields {n stored raw low high : Nat} (mem : (n, stored, raw, low, high) ∈ p.fields) :
    n ∈ (changedFields l p).map (·.1) ↔ fieldRaw l n raw ≠ stored := by
  constructor
  · intro listed
    obtain ⟨x, changed, number⟩ := List.mem_map.mp listed
    obtain ⟨other, differs⟩ := List.mem_filter.mp changed
    have nodup : (p.fields.map (·.1)).Nodup := by
      rw [fields_numbers]
      decide
    have same := List.inj_on_of_nodup_map nodup other mem number
    subst same
    simpa using differs
  · intro differs
    exact List.mem_map.mpr ⟨_, List.mem_filter.mpr ⟨mem, by simpa using differs⟩, rfl⟩

theorem changedFields_bound {n : Nat} (mem : n ∈ (changedFields l p).map (·.1)) : 1 ≤ n ∧ n ≤ 22 := by
  have listed := (changedFields_numbers l p).subset mem
  simp only [List.mem_cons, List.not_mem_nil, or_false] at listed
  omega

theorem clampedList_rising : (clampedList l p).Pairwise (· < ·) := by
  have numbers : ((changedFields l p).map (·.1)).Pairwise (· < ·) := List.Pairwise.sublist (changedFields_numbers l p) (by decide)
  rw [clampedList_eq]
  split
  · refine List.pairwise_cons.mpr ⟨fun n mem => ?_, numbers⟩
    have := changedFields_bound mem
    omega
  · exact numbers

end clamped

/-! ### Check 5 of a LOAD -/

theorem inconsistent_eq_none {p : Profile} : inconsistent p = none ↔
    (p.pitchMin ≤ p.pitchNominal ∧ p.pitchNominal ≤ p.pitchMax) ∧ p.markOff < p.markOn ∧ p.widthMin ≤ p.widthMax := by
  unfold inconsistent
  split_ifs <;> simp <;> omega

/-- A LOAD that check 5 passes stores the profile of its fields, whose values are consistent. -/
theorem parseLoad_ok {body : List Byte} {p : Profile} {clamped : List Nat} (h : parseLoad body = .ok (.load p clamped)) :
    inconsistent p = none ∧ ∃ l, p = loadProfile l := by
  unfold parseLoad at h
  dsimp only at h
  repeat' split at h
  all_goals cases h
  exact ⟨by assumption, _, rfl⟩

theorem labelChar_printable (b : Byte) : 32 ≤ (labelChar b).toNat ∧ (labelChar b).toNat ≤ 126 := by
  unfold labelChar
  split
  · assumption
  · decide

theorem loadedProfile {body : List Byte} {p : Profile} {clamped : List Nat} (h : parseLoad body = .ok (.load p clamped)) :
    p.label.length ≤ 32 ∧ (∀ b ∈ p.label, 32 ≤ b.toNat ∧ b.toNat ≤ 126) ∧ p.track ≤ 1 ∧
    64 ≤ p.pitchMin ∧ p.pitchMin ≤ p.pitchNominal ∧ p.pitchNominal ≤ p.pitchMax ∧ p.pitchMax ≤ 4000 ∧
    1 ≤ p.markOff ∧ p.markOff < p.markOn ∧ p.markOn ≤ 255 ∧ p.markStrong ≤ 255 ∧
    1 ≤ p.widthMin ∧ p.widthMin ≤ p.widthMax ∧ p.widthMax ≤ 1000 ∧ p.gateOffset ≤ 8000 ∧
    1 ≤ p.tolerance ∧ p.tolerance ≤ 20 ∧ 500 ≤ p.scanSpeed ∧ p.scanSpeed ≤ 8000 ∧
    2000 ≤ p.indexSpeed ∧ p.indexSpeed ≤ 20000 ∧ p.window ≤ p.pitchMin / 4 ∧ p.defaultFocus ≤ 4095 ∧
    8 ≤ p.sweepSpan ∧ p.sweepSpan ≤ 256 ∧ 1 ≤ p.coarseStep ∧ p.coarseStep ≤ 32 ∧ p.coarseStep ≤ p.sweepSpan ∧
    p.contrastFloor ≤ 134217728 ∧ 100 ≤ p.holdTime ∧ p.holdTime ≤ 60000 ∧ p.tensionLow ≤ p.tensionHigh ∧
    p.tensionHigh ≤ 255 := by
  obtain ⟨consistent, l, rfl⟩ := parseLoad_ok h
  obtain ⟨pitches, marks, widths⟩ := inconsistent_eq_none.mp consistent
  have ranges : ∀ x ∈ (loadProfile l).fields, x.2.2.2.1 ≤ x.2.1 ∧ x.2.1 ≤ x.2.2.2.2 := fun x mem => by
    obtain ⟨stored, ordered⟩ := loadProfile_fields l x mem
    rw [stored]
    exact clampNat_between ordered _
  have label : (loadProfile l).label.length ≤ 32 := by simp [loadProfile]
  have printable : ∀ b ∈ (loadProfile l).label, 32 ≤ b.toNat ∧ b.toNat ≤ 126 := fun b mem => by
    obtain ⟨c, -, rfl⟩ := List.mem_map.mp mem
    exact labelChar_printable c
  refine ⟨label, printable, ?_⟩
  generalize loadProfile l = p at *
  simp only [Profile.fields, List.forall_mem_cons] at ranges
  omega

/-! ### The body of a field list -/

theorem fieldFits_width {n : Nat} {v : List Byte} (fits : fieldFits n v) (positive : n ≠ 0) : n ≤ 22 ∧ v.length = fieldWidth n := by
  unfold fieldFits at fits
  rw [if_neg positive] at fits
  obtain ⟨le, length⟩ := fits
  refine ⟨le, length.trans ?_⟩
  interval_cases n <;> rfl

/-- A field list is read back from its body. -/
theorem fieldEntries_loadBody : ∀ (l : List (Nat × List Byte)) (k : Nat), (∀ x ∈ l, fieldFits x.1 x.2) → (loadBody l).length ≤ k →
    fieldEntries k (loadBody l) = some l
  | [], k, _, _ => by
    unfold fieldEntries loadBody
    cases k <;> rfl
  | (n, v) :: l, 0, _, room => by
    unfold loadBody at room
    split at room <;> simp at room
  | (n, v) :: l, k + 1, fits, room => by
    obtain ⟨here, rest⟩ := List.forall_mem_cons.mp fits
    unfold loadBody at room ⊢
    by_cases label : n = 0
    · subst label
      have small : v.length ≤ 255 := here
      have count : (BitVec.ofNat 8 v.length).toNat = v.length := by simp; omega
      have ih := fieldEntries_loadBody l k rest (by simp at room; omega)
      simp [fieldEntries, count, ih]
    · obtain ⟨le, width⟩ := fieldFits_width here label
      have number : (BitVec.ofNat 8 n).toNat = n := by simp; omega
      have positive : BitVec.ofNat 8 n ≠ 0#8 := fun zero => label (by rw [← number, zero]; rfl)
      have ih := fieldEntries_loadBody l k rest (by simp [label] at room; omega)
      simp [fieldEntries, label, positive, number, ← width, ih]

theorem firstRepeat_none : ∀ (l seen : List Nat), l.Pairwise (· ≠ ·) → (∀ n ∈ l, n ∉ seen) → firstRepeat seen l = none
  | [], _, _, _ => rfl
  | n :: l, seen, distinct, fresh => by
    obtain ⟨here, rest⟩ := List.pairwise_cons.mp distinct
    unfold firstRepeat
    rw [if_neg (fresh n (by simp))]
    refine firstRepeat_none l (n :: seen) rest fun m mem => ?_
    rw [List.mem_cons, not_or]
    exact ⟨(here m mem).symm, fresh m (by simp [mem])⟩

theorem missingField_none {l : List (Nat × List Byte)} (given : ∀ n, 2 ≤ n → n ≤ 10 → n ∈ l.map (·.1)) : missingField l = none := by
  unfold missingField
  rw [List.find?_eq_none]
  intro n mem
  have range : 2 ≤ n ∧ n ≤ 10 := by
    simp only [List.mem_cons, List.not_mem_nil, or_false] at mem
    omega
  obtain ⟨x, listed, number⟩ := List.mem_map.mp (given n range.1 range.2)
  have found : (l.find? fun x => decide (x.1 = n)).isSome := List.find?_isSome.mpr ⟨x, listed, by simpa using number⟩
  simp only [fieldBytes, Option.isNone_map, Bool.not_eq_true, Option.isNone_eq_false_iff]
  exact found

/-- Check 5 of a LOAD whose fields are known, fit, and are each given once (R5 to R7). -/
theorem parse_loadBody {l : List (Nat × List Byte)} (fits : ∀ x ∈ l, fieldFits x.1 x.2) (distinct : (l.map (·.1)).Pairwise (· ≠ ·))
    (given : ∀ n, 2 ≤ n → n ≤ 10 → n ∈ l.map (·.1)) {p : Profile} (profile : loadProfile l = p) :
    Kind.load.parse (loadBody l) =
      if ¬(p.pitchMin ≤ p.pitchNominal ∧ p.pitchNominal ≤ p.pitchMax) then .error ⟨.badParam, 4, 0⟩
      else if ¬p.markOff < p.markOn then .error ⟨.badParam, 4, 1⟩
      else if ¬p.widthMin ≤ p.widthMax then .error ⟨.badParam, 4, 2⟩
      else .ok (.load p (clampedList l p)) := by
  have known : ((l.map (·.1)).find? fun n => decide (22 < n)) = none := by
    rw [List.find?_eq_none]
    intro n mem
    obtain ⟨x, listed, rfl⟩ := List.mem_map.mp mem
    have le : x.1 ≤ 22 := by
      by_cases label : x.1 = 0
      · omega
      · exact (fieldFits_width (fits x listed) label).1
    simpa using le
  have fields : loadFields (loadBody l) = some l := fieldEntries_loadBody l _ fits (Nat.le_refl _)
  have pitches : (p.pitchNominal < p.pitchMin ∨ p.pitchMax < p.pitchNominal) ↔
      ¬(p.pitchMin ≤ p.pitchNominal ∧ p.pitchNominal ≤ p.pitchMax) := by omega
  have marks : p.markOn ≤ p.markOff ↔ ¬p.markOff < p.markOn := by omega
  have widths : p.widthMax < p.widthMin ↔ ¬p.widthMin ≤ p.widthMax := by omega
  simp only [Kind.parse, parseLoad, fields, Option.getD_some, known, firstRepeat_none _ [] distinct (by simp), missingField_none given,
    profile, inconsistent, pitches, marks, widths]
  split_ifs <;> rfl

/-- Settles O33: a frame number of two bytes reads back; the fields of a LOAD are read back from its body, and each is clamped
into a range that is not empty. -/
theorem operandsOfLoadPresentAndRun : Obligations.OperandsOfLoadPresentAndRun := by
  refine ⟨fun f n h c m frame count small mode => ?_, fun body p clamped ok => loadedProfile ok, fun l fits distinct given => ?_⟩
  · obtain ⟨bare, classed, moded, held⟩ := operandsOfPresent (c := c) frame small mode
    exact ⟨bare, classed, moded, held, operandsOfRun frame count small mode⟩
  · refine ⟨loadProfile l, clampedList l (loadProfile l), fun n stored raw low high mem => ⟨?_, ?_⟩, rfl, ?_, fun n mem => ?_,
      clampedList_rising, parse_loadBody fits distinct given rfl⟩
    · obtain ⟨value, ordered⟩ := loadProfile_fields l _ mem
      exact value.trans ((clampNat_eq _ _ _ ordered).trans (by rw [min_comm]; rfl))
    · have numbered : n ∈ (loadProfile l).fields.map (·.1) := List.mem_map.mpr ⟨_, mem, rfl⟩
      have positive : n ≠ 0 := by
        rintro rfl
        simp [fields_numbers] at numbered
      rw [mem_clampedList, mem_changedFields mem]
      simp only [positive, false_and, false_or]
      rfl
    · rw [mem_clampedList]
      constructor
      · rintro (⟨-, long⟩ | changed)
        · exact long
        · exact absurd (changedFields_bound changed).1 (by omega)
      · exact fun long => .inl ⟨rfl, long⟩
    · rcases mem_clampedList.mp mem with ⟨rfl, -⟩ | changed
      · omega
      · exact (changedFields_bound changed).2

end Sys2Proof.Machine
end

section
/-! The outbox, the transmitter and the receiver of a link (R179 to R188, R191, R192). -/

namespace Sys2Proof.Machine

/-! ### Replacing a link -/

section links
variable {p : Port} {s : State}

@[simp] theorem link_setLink (l : Link) : (s.setLink p l).link p = l := by simp [State.link]

@[simp] theorem setLink_setLink (l m : Link) : (s.setLink p l).setLink p m = s.setLink p m := by
  cases p <;> rfl

/-- A new link of a port whose decoder has nothing before it leaves port C with nothing to examine. -/
theorem setLink_waiting {l : Link} (empty : s.lnk.c.inbox = []) (here : l.inbox = []) : (s.setLink p l).lnk.c.inbox = [] := by
  cases p with
  | a | b => exact empty
  | c => exact here

/-- With nothing in the receive FIFO the decoder only examines what waits on port C. -/
theorem drain_empty (empty : (s.link p).inbox = []) : drain p s = releaseWaiting s := by
  unfold drain
  rw [empty]
  rfl

theorem drain_stays (empty : (s.link p).inbox = []) (waits : s.lnk.c.inbox = []) : drain p s = s := by
  rw [drain_empty empty, releaseWaiting_of_empty waits]

/-! ### The outbox and the transmitter (R188, R191, R192) -/

theorem headMoves_iff {m : OutMsg} : s.headMoves p m = true ↔
    (s.link p).txFifo.length + (framed s.unitAddress m).length ≤ 256 ∧ (p = .c → 0 < (s.link p).released) := by
  simp only [State.headMoves, Bool.and_eq_true, Bool.or_eq_true, decide_eq_true_eq, ne_eq, ← imp_iff_not_or]
  exact Iff.rfl

theorem moveHead_moves {m : OutMsg} {rest : List OutMsg} (held : s.resetHeld = false) (head : (s.link p).outbox = m :: rest)
    (room : (s.link p).txFifo.length + (framed s.unitAddress m).length ≤ 256) (released : p = .c → 0 < (s.link p).released) :
    moveHead p s = drain p (s.setLink p { s.link p with
      outbox := rest
      released := (s.link p).released - 1
      txFifo := (s.link p).txFifo ++ framed s.unitAddress m }) := by
  simp only [moveHead, head, held, headMoves_iff.mpr ⟨room, released⟩, Bool.not_false, Bool.and_self, if_true]

theorem moveHead_waits {m : OutMsg} {rest : List OutMsg} (head : (s.link p).outbox = m :: rest)
    (stuck : 256 < (s.link p).txFifo.length + (framed s.unitAddress m).length ∨ (p = .c ∧ (s.link p).released = 0)) :
    moveHead p s = s := by
  have waits : s.headMoves p m = false := by
    rw [Bool.eq_false_iff, ne_eq, headMoves_iff]
    rintro ⟨room, released⟩
    rcases stuck with full | ⟨c, unreleased⟩
    · omega
    · exact absurd (released c) (by omega)
  simp only [moveHead, head, waits, Bool.and_false, Bool.false_eq_true, if_false]

theorem sendCharacter_sends {b : Byte} {rest : List Byte} (held : s.resetHeld = false) (head : (s.link p).txFifo = b :: rest)
    (sends : (s.link p).ctsGating = false ∨ (s.link p).cts = true) :
    sendCharacter p s = s.setLink p { s.link p with txFifo := rest, txLine := some b, driving := decide (p = .c ∧ rest ≠ []) } := by
  have gate : ((s.link p).ctsGating && !(s.link p).cts) = false := by
    rcases sends with off | active
    · rw [off, Bool.false_and]
    · rw [active, Bool.not_true, Bool.and_false]
  have drives : (decide (p = .c) && !rest.isEmpty) = decide (p = .c ∧ rest ≠ []) := by cases rest <;> simp
  simp only [sendCharacter, held, head, gate, drives, Bool.false_eq_true, if_false]

/-- Settles O15: a head that moves frees its place for the decoder, which with nothing waiting does nothing. -/
theorem outboxTransmitterAndLines : Obligations.OutboxTransmitterAndLines := by
  refine ⟨⟨fun p m rest s held head room released => ?_, fun p m rest s held head empty waits => ⟨fun room released => ?_, fun stuck => ?_⟩,
    fun p s held => ⟨fun b rest head sends => ?_, fun b rest head gating cts => ?_, fun none => ?_⟩⟩,
    fun p s => ⟨fun waits => ?_, fun marking => ?_⟩, fun p active s => rfl⟩
  · exact congrArg Host.Outcome.next (moveHead_moves held head room released)
  · refine congrArg Host.Outcome.next ((moveHead_moves held head room released).trans (drain_stays ?_ (setLink_waiting waits empty)))
    rw [link_setLink]
    exact empty
  · exact congrArg Host.Outcome.next (moveHead_waits head stuck)
  · exact congrArg Host.Outcome.next (sendCharacter_sends held head sends)
  · refine congrArg Host.Outcome.next ?_
    simp only [onTransmitCharacter, sendCharacter, held, head, gating, cts, Bool.not_false, Bool.and_self, if_true,
      Bool.false_eq_true, if_false]
  · refine congrArg Host.Outcome.next ?_
    simp only [onTransmitCharacter, sendCharacter, held, none, Bool.false_eq_true, if_false]
  · exact congrArg Host.Outcome.next (if_pos waits)
  · exact congrArg Host.Outcome.next (if_neg (by rw [marking]; decide))

/-! ### Link errors (R183 to R185) -/

/-- What a link error does before it is reported (R183). -/
def linkErred (p : Port) (c : LinkCause) (rx : RxState) (s : State) : State :=
  s.setLink p { s.link p with part := none, rx := rx, flags := (s.link p).flags.latch c }

theorem linkError_eq (c : LinkCause) (rx : RxState) :
    linkError p c rx s = releaseWaiting (latchOne ⟨.linkError, p, pad8 [c.code]⟩ (linkErred p c rx s)) := rfl

theorem latchOne_link (o : Occ) (q : Port) (t : State) : ∃ outbox missed, (latchOne o t).link q =
    { t.link q with outbox := outbox, flags := { (t.link q).flags with noticesMissed := missed } } := by
  by_cases enabled : (t.slot o.port o.source).enabled = true
  · rw [latchOne_of_enabled enabled, offerNotice_link, setSlot_link, setSlot_link]
    split
    · rename_i here
      obtain ⟨rfl, -⟩ := here
      split
      · exact ⟨_, true, rfl⟩
      · exact ⟨_, _, rfl⟩
    · exact ⟨_, _, rfl⟩
  · exact ⟨(t.link q).outbox, (t.link q).flags.noticesMissed, by simp only [latchOne, if_neg enabled]⟩

theorem linkError_link (c : LinkCause) (rx : RxState) : ∃ outbox missed released, (linkError p c rx s).link p =
    { s.link p with
      part := none, rx := rx, outbox := outbox, released := released
      flags := { (s.link p).flags.latch c with noticesMissed := missed } } := by
  obtain ⟨outbox, missed, latched⟩ := latchOne_link ⟨.linkError, p, pad8 [c.code]⟩ p (linkErred p c rx s)
  refine ⟨outbox, missed, ((linkError p c rx s).link p).released, ?_⟩
  rw [linkError_eq, releaseWaiting_link, latched]
  simp only [linkErred, link_setLink]

theorem linkError_slot (c : LinkCause) (rx : RxState) (enabled : (s.slot p .linkError).enabled = true) :
    ∃ l, ((linkError p c rx s).slot p .linkError).latch = some l ∧ l.data = pad8 [c.code] := by
  have reported : ((linkError p c rx s).slot p .linkError) =
      ((linkErred p c rx s).slot p .linkError).latched (pad8 [c.code]) := by
    rw [linkError_eq, show ∀ t : State, (releaseWaiting t).slot p .linkError = t.slot p .linkError from fun t => by simp [State.slot],
      latchOne_slot]
    exact if_pos ⟨rfl, rfl, enabled⟩
  rw [reported]
  exact ⟨_, rfl, rfl⟩

/-- A link error of a part that differs only in the fields that the error sets, or in flags it latches too, is one of the part. -/
theorem linkError_after {t : State} {c : LinkCause} {rx : RxState} {l : Link} (arrived : t = s.setLink p l)
    (inbox : l.inbox = (s.link p).inbox) (flags : l.flags.latch c = (s.link p).flags.latch c) :
    s.afterLinkError (linkError p c rx t) p c ∧ ((linkError p c rx t).link p).rx = rx := by
  subst arrived
  obtain ⟨outbox, missed, released, link⟩ := linkError_link (p := p) (s := s.setLink p l) c rx
  refine ⟨⟨by rw [link], by rw [link, link_setLink]; exact inbox, by simp, by simp, by simp, by simp, by simp, by simp, by simp,
    ⟨missed, by rw [link, link_setLink, ← flags]⟩, fun enabled => linkError_slot c rx enabled⟩, by rw [link]⟩

theorem setLink_same (s : State) (p : Port) : s.setLink p (s.link p) = s := by
  cases p <;> rfl

theorem linkError_here (c : LinkCause) (rx : RxState) (s : State) (p : Port) :
    s.afterLinkError (linkError p c rx s) p c ∧ ((linkError p c rx s).link p).rx = rx :=
  linkError_after (setLink_same s p).symm rfl rfl

/-- The receiver's timers and the decoder's examination of port C do not count in what a link error leaves. -/
theorem State.afterLinkError.of_receiver {t u : State} {c : LinkCause} (h : s.afterLinkError t p c) (part : (u.link p).part = (t.link p).part)
    (inbox : (u.link p).inbox = (t.link p).inbox) (flags : (u.link p).flags = (t.link p).flags) (rqt : u.rqt = t.rqt)
    (trc : u.trc = t.trc) (fit : u.fit = t.fit) (fcc : u.fcc = t.fcc) (gtu : u.gtu = t.gtu) (mkd : u.mkd = t.mkd) (ntu : u.ntu = t.ntu) :
    s.afterLinkError u p c := by
  unfold State.afterLinkError State.slot at h ⊢
  rw [part, inbox, flags, rqt, trc, fit, fcc, gtu, mkd, ntu]
  exact h

theorem State.afterLinkError.restarted {t : State} {c : LinkCause} (h : s.afterLinkError t p c) :
    s.afterLinkError (restartTimers p t) p c := by
  refine h.of_receiver ?_ ?_ ?_ ?_ ?_ ?_ ?_ ?_ ?_ ?_ <;> simp

theorem State.afterLinkError.released {t : State} {c : LinkCause} (h : s.afterLinkError t p c) :
    s.afterLinkError (releaseWaiting t) p c := by
  refine h.of_receiver ?_ ?_ ?_ ?_ ?_ ?_ ?_ ?_ ?_ ?_ <;> simp

/-! ### The receiver's timers (R183, R184) -/

theorem restartTimers_resync (resync : (s.link p).rx = .resync) :
    restartTimers p s = s.setLink p { s.link p with byteTimer := none, resyncTimer := some 0 } := by
  unfold restartTimers
  simp only [resync]

theorem restartTimers_idle (idle : (s.link p).rx = .idle) :
    restartTimers p s = s.setLink p { s.link p with byteTimer := none, resyncTimer := none } := by
  unfold restartTimers
  simp only [idle]

theorem restartTimers_inFrame {f : RxFrame} (frame : (s.link p).rx = .inFrame f) :
    restartTimers p s = s.setLink p { s.link p with byteTimer := some 0, resyncTimer := none } := by
  unfold restartTimers
  simp only [frame]

theorem restartTimers_awaitNext (await : (s.link p).rx = .awaitNext) :
    restartTimers p s = s.setLink p { s.link p with byteTimer := some 0, resyncTimer := none } := by
  unfold restartTimers
  simp only [await]

end links

end Sys2Proof.Machine
end

section
/-! The ends of a message on the line, its errors, and the end of a stored frame (R183 to R186). -/

namespace Sys2Proof.Machine

section receiver
variable {p : Port} {s t : State}

/-! ### A link error and the timers -/

theorem restarted_idle {c : LinkCause} (after : s.afterLinkError t p c ∧ (t.link p).rx = .idle) :
    s.afterLinkError (restartTimers p t) p c ∧ ((restartTimers p t).link p).rx = .idle ∧
      ((restartTimers p t).link p).byteTimer = none := by
  obtain ⟨erred, idle⟩ := after
  refine ⟨erred.restarted, ?_⟩
  rw [restartTimers_idle idle, link_setLink]
  exact ⟨idle, rfl⟩

theorem restarted_resync {c : LinkCause} (after : s.afterLinkError t p c ∧ (t.link p).rx = .resync) :
    s.afterLinkError (restartTimers p t) p c ∧ ((restartTimers p t).link p).rx = .resync ∧
      ((restartTimers p t).link p).resyncTimer = some 0 := by
  obtain ⟨erred, resync⟩ := after
  refine ⟨erred.restarted, ?_⟩
  rw [restartTimers_resync resync, link_setLink]
  exact ⟨resync, rfl⟩

theorem restarted_inFrame {c : LinkCause} {f : RxFrame} (after : s.afterLinkError t p c ∧ (t.link p).rx = .inFrame f) :
    s.afterLinkError (restartTimers p t) p c ∧ ((restartTimers p t).link p).rx = .inFrame f ∧
      ((restartTimers p t).link p).byteTimer = some 0 := by
  obtain ⟨erred, frame⟩ := after
  refine ⟨erred.restarted, ?_⟩
  rw [restartTimers_inFrame frame, link_setLink]
  exact ⟨frame, rfl⟩

/-! ### Time and noise (R183, R184, R186) -/

theorem setRx_resync : ((setRx p .resync s).link p).rx = .resync := by
  unfold setRx
  rw [link_setLink]

section timeout
variable (held : s.resetHeld = false) (ready : s.rdy p = true)
include held ready

theorem byteTimerExpires_inFrame {f : RxFrame} (frame : (s.link p).rx = .inFrame f) : byteTimerExpires p s =
    restartTimers p (if f.stored then linkError p (f.cause .timeout) .idle s else setRx p .idle s) := by
  simp only [byteTimerExpires, held, ready, frame, Bool.not_true, Bool.or_self, Bool.false_eq_true, if_false]

theorem byteTimerExpires_awaitNext (await : (s.link p).rx = .awaitNext) :
    byteTimerExpires p s = restartTimers p (linkError p .timeout .idle s) := by
  simp only [byteTimerExpires, held, ready, await, Bool.not_true, Bool.or_self, Bool.false_eq_true, if_false]

theorem byteTimeout_ends :
    (∀ f, (s.link p).rx = .inFrame f → f.stored = false →
      ∃ t, exec (.byteTimeout p) s = .next t ∧ (t.link p).rx = .idle ∧ (t.link p).byteTimer = none ∧
        (t.link p).flags = (s.link p).flags ∧ t.ntu = s.ntu ∧ t.rqt = s.rqt ∧ t.trc = s.trc) ∧
    (∀ f, (s.link p).rx = .inFrame f → f.stored = true →
      ∃ t, exec (.byteTimeout p) s = .next t ∧ s.afterLinkError t p (if f.overrun then .overrun else .timeout) ∧
        (t.link p).rx = .idle ∧ (t.link p).byteTimer = none) ∧
    ((s.link p).rx = .awaitNext →
      ∃ t, exec (.byteTimeout p) s = .next t ∧ s.afterLinkError t p .timeout ∧ (t.link p).rx = .idle ∧
        (t.link p).byteTimer = none) := by
  refine ⟨fun f frame skipped => ?_, fun f frame stored => ?_, fun await => ?_⟩
  · refine ⟨_, congrArg Host.Outcome.next (byteTimerExpires_inFrame held ready frame), ?_⟩
    rw [skipped, if_neg (by decide), restartTimers_idle (by simp only [setRx, link_setLink]), setRx, link_setLink, setLink_setLink,
      link_setLink]
    exact ⟨rfl, rfl, rfl, rfl, rfl, rfl⟩
  · refine ⟨_, congrArg Host.Outcome.next (byteTimerExpires_inFrame held ready frame), ?_⟩
    rw [stored, if_pos rfl]
    exact restarted_idle (linkError_here _ _ s p)
  · exact ⟨_, congrArg Host.Outcome.next (byteTimerExpires_awaitNext held ready await), restarted_idle (linkError_here _ _ s p)⟩

end timeout

section space
variable (held : s.resetHeld = false) (marking : (s.link p).awaitMark = false)
include held marking

theorem stopBitAtSpace_ends :
    (∀ f, (s.link p).rx = .inFrame f → f.stored = true →
      ∃ t, exec (.stopBitAtSpace p) s = .next t ∧ s.afterLinkError t p (if f.overrun then .overrun else .frame) ∧
        (t.link p).rx = .resync ∧ (t.link p).resyncTimer = some 0) ∧
    ((s.link p).rx = .awaitNext →
      ∃ t, exec (.stopBitAtSpace p) s = .next t ∧ s.afterLinkError t p .frame ∧ (t.link p).rx = .resync) ∧
    ((s.link p).rx = .idle →
      ∃ t, exec (.stopBitAtSpace p) s = .next t ∧ (t.link p).rx = .resync ∧ (t.link p).resyncTimer = some 0 ∧
        (t.link p).flags = (s.link p).flags ∧ t.ntu = s.ntu) := by
  refine ⟨fun f frame stored => ?_, fun await => ?_, fun idle => ?_⟩
  · have ends : spaceAtStop p s = restartTimers p (linkError p (f.cause .frame) .resync s) := by
      simp only [spaceAtStop, held, marking, frame, stored, Bool.or_self, Bool.false_eq_true, if_false, if_true]
    exact ⟨_, congrArg Host.Outcome.next ends, restarted_resync (linkError_here _ _ s p)⟩
  · have ends : spaceAtStop p s = restartTimers p (linkError p .frame .resync s) := by
      simp only [spaceAtStop, held, marking, await, Bool.or_self, Bool.false_eq_true, if_false]
    obtain ⟨after, resync, -⟩ := restarted_resync (linkError_here .frame .resync s p)
    exact ⟨_, congrArg Host.Outcome.next ends, after, resync⟩
  · have ends : spaceAtStop p s = restartTimers p (setRx p .resync s) := by
      simp only [spaceAtStop, held, marking, idle, Bool.or_self, Bool.false_eq_true, if_false]
    refine ⟨_, congrArg Host.Outcome.next ends, ?_⟩
    rw [restartTimers_resync setRx_resync, setRx, link_setLink, setLink_setLink, link_setLink]
    exact ⟨rfl, rfl, rfl, rfl⟩

end space

theorem resyncEnds_idle (resync : (s.link p).rx = .resync) :
    exec (.resyncEnd p) s = .next (s.setLink p { s.link p with rx := .idle, byteTimer := none, resyncTimer := none }) := by
  refine congrArg Host.Outcome.next ?_
  simp only [onResyncEnd, resyncEnds, resync]
  rw [restartTimers_idle (by simp only [setRx, link_setLink]), setRx, link_setLink, setLink_setLink]

/-! ### A byte of a stored frame (R183, R185) -/

section stored
variable {f : RxFrame} {b : Byte}

/-- The link once a stored frame has taken a byte. -/
def storedLink (l : Link) (f : RxFrame) (b : Byte) : Link :=
  { l with rx := .inFrame (f.take l.rxFull b), flags := if l.rxFull then l.flags.latch .overrun else l.flags }

theorem storeByte_eq : storeByte p f b s = s.setLink p (storedLink (s.link p) f b) := rfl

@[simp] theorem take_len (full : Bool) : (f.take full b).len = f.len := by
  unfold RxFrame.take
  split <;> rfl

@[simp] theorem take_seen (full : Bool) : (f.take full b).seen = f.seen + 1 := by
  unfold RxFrame.take
  split <;> rfl

theorem take_lost {full : Bool} (lost : f.overrun = true ∨ full = true) :
    f.take full b = { f with seen := f.seen + 1, bytes := f.bytes ++ [b], overrun := true } := by
  unfold RxFrame.take
  rw [if_pos (by simpa using lost)]

theorem take_room (kept : f.overrun = false) :
    f.take false b = { f with seen := f.seen + 1, bytes := f.bytes ++ [b], inFifo := f.inFifo + 1 } := by
  unfold RxFrame.take
  rw [kept]
  rfl

theorem rxFull_iff (l : Link) : l.rxFull = true ↔ 256 ≤ l.rxBytes := decide_eq_true_iff

theorem rxFull_eq_false {l : Link} (room : l.rxBytes < 256) : l.rxFull = false := decide_eq_false (by simpa [Config.fifoBytes] using room)

theorem byteArrives_stored (frame : (s.link p).rx = .inFrame f) (stored : f.stored = true) (later : 2 ≤ f.seen) : byteArrives p b s =
    if f.len + 2 ≤ f.seen + 1 then frameEnd p (f.take (s.link p).rxFull b) (s.setLink p (storedLink (s.link p) f b))
    else s.setLink p (storedLink (s.link p) f b) := by
  have notLen : f.seen ≠ 1 := by omega
  simp only [byteArrives, frame, frameByte, if_neg notLen, stored, if_true, storeByte_eq, link_setLink]
  simp only [storedLink, take_len, take_seen]

/-- The last byte of a stored frame that fails a check is the link error of that check. -/
theorem frameEnd_fails {c : LinkCause} (fault : frameFault (f.take (s.link p).rxFull b) (s.link p).part = some c)
    (lost : (s.link p).rxFull = true → c = .overrun) :
    let t := frameEnd p (f.take (s.link p).rxFull b) (s.setLink p (storedLink (s.link p) f b))
    s.afterLinkError t p c ∧ (t.link p).rx = .idle := by
  have fault' : frameFault (f.take (s.link p).rxFull b) (storedLink (s.link p) f b).part = some c := fault
  simp only [frameEnd, link_setLink, fault']
  refine linkError_after rfl rfl ?_
  simp only [storedLink]
  split
  · rename_i full
    rw [lost full]
    rfl
  · rfl

/-! ### The checks of a frame (R183, R185) -/

variable {g : RxFrame} {part : Option Partial}

theorem frameFault_overrun (lost : g.overrun = true) : frameFault g part = some .overrun := if_pos lost

section kept
variable (kept : g.overrun = false)
include kept

theorem frameFault_check (sum : byteSum g.bytes ≠ 0) : frameFault g part = some .check := by
  unfold frameFault
  rw [kept]
  exact if_pos sum

theorem frameFault_frame (sum : byteSum g.bytes = 0)
    (bad : 128 ≤ (g.bytes.getD 3 0).toNat ∨ (g.bytes.getD 1 0).getLsbD 6 ≠ g.continuing ∨
      g.continuing = true ∧ ∃ m, part = some m ∧ (m.tag ≠ g.bytes.getD 2 0 ∨ m.kind ≠ g.bytes.getD 3 0 ∨ 4 ≤ m.frames)) :
    frameFault g part = some .frame := by
  simp only [frameFault, kept, sum, Bool.false_eq_true, if_false, ne_eq, not_true_eq_false]
  split
  · rfl
  · rename_i kind
    split
    · rfl
    · rename_i flag
      obtain ⟨continuing, m, rfl, differs⟩ := (bad.resolve_left kind).resolve_left flag
      exact if_pos ⟨continuing, differs⟩

theorem frameFault_none (sum : byteSum g.bytes = 0) (kind : (g.bytes.getD 3 0).toNat < 128)
    (flag : (g.bytes.getD 1 0).getLsbD 6 = g.continuing)
    (goesOn : g.continuing = true → ∀ m, part = some m → m.tag = g.bytes.getD 2 0 ∧ m.kind = g.bytes.getD 3 0 ∧ m.frames < 4) :
    frameFault g part = none := by
  simp only [frameFault, kept, sum, flag, Bool.false_eq_true, if_false, ne_eq, not_true_eq_false, if_neg (Nat.not_le.mpr kind)]
  cases part with
  | none => rfl
  | some m =>
    refine if_neg ?_
    rintro ⟨continuing, differs⟩
    obtain ⟨tag, kind, frames⟩ := goesOn continuing m rfl
    rcases differs with h | h | h
    · exact h tag
    · exact h kind
    · omega

end kept

/-- A frame that passes and is not the last waits for the next (R183). -/
theorem frameEnd_more (passes : frameFault g (s.link p).part = none) (more : (g.bytes.getD 1 0).getLsbD 7 = true) :
    frameEnd p g s = s.setLink p { s.link p with rx := .awaitNext, part := some (joinFrame g (s.link p).part) } := by
  simp only [frameEnd, passes, more, if_true]

theorem frameEnd_last (passes : frameFault g (s.link p).part = none) (last : (g.bytes.getD 1 0).getLsbD 7 = false) {m : Partial}
    (joined : m = joinFrame g (s.link p).part) :
    frameEnd p g s = s.setLink p { s.link p with
      rx := .idle, part := none, inbox := (s.link p).inbox ++ [⟨m.broadcast, m.tag, m.kind, m.body, m.inFifo⟩] } := by
  subst joined
  simp only [frameEnd, passes, last, Bool.false_eq_true, if_false]

end stored

/-! ### A byte that leaves nothing for the decoder (R182) -/

section byte
variable {b : Byte} (held : s.resetHeld = false) (marking : (s.link p).awaitMark = false)
include held marking

theorem receive_taken : receive p b s = drain p (restartTimers p (byteArrives p b s)) := by
  simp only [receive, held, marking, Bool.or_self, Bool.false_eq_true, if_false]

theorem receive_quiet (arrives : byteArrives p b s = t) (empty : (t.link p).inbox = []) :
    receive p b s = releaseWaiting (restartTimers p t) := by
  rw [receive_taken held marking, arrives, drain_empty (by simpa using empty)]

/-- With nothing waiting on port C either, a byte that puts the link does only that, and restarts the timers. -/
theorem receive_puts {l m : Link} (arrives : byteArrives p b s = s.setLink p l) (empty : l.inbox = []) (waits : s.lnk.c.inbox = [])
    (timers : restartTimers p (s.setLink p l) = s.setLink p m) (same : m.inbox = l.inbox) : receive p b s = s.setLink p m := by
  rw [receive_quiet held marking arrives (by rw [link_setLink]; exact empty), timers,
    releaseWaiting_of_empty (setLink_waiting waits (by rw [same, empty]))]

/-- A byte that ends in a link error leaves what the error does. -/
theorem receive_errs {c : LinkCause} {rx : RxState} (arrives : byteArrives p b s = t)
    (after : s.afterLinkError t p c ∧ (t.link p).rx = rx) (empty : (s.link p).inbox = []) :
    ∃ u, exec (.receiveByte p b) s = .next u ∧ s.afterLinkError u p c ∧ (u.link p).rx = ((restartTimers p t).link p).rx ∧
      (u.link p).byteTimer = ((restartTimers p t).link p).byteTimer ∧
      (u.link p).resyncTimer = ((restartTimers p t).link p).resyncTimer := by
  obtain ⟨erred, -⟩ := after
  obtain ⟨-, inbox, -⟩ := id erred
  refine ⟨_, congrArg Host.Outcome.next (receive_quiet held marking arrives (inbox.trans empty)), erred.restarted.released, ?_, ?_, ?_⟩ <;>
    rw [releaseWaiting_link]

theorem receive_errs_idle {c : LinkCause} (arrives : byteArrives p b s = t) (after : s.afterLinkError t p c ∧ (t.link p).rx = .idle)
    (empty : (s.link p).inbox = []) :
    ∃ u, exec (.receiveByte p b) s = .next u ∧ s.afterLinkError u p c ∧ (u.link p).rx = .idle ∧ (u.link p).byteTimer = none := by
  obtain ⟨u, ends, erred, rx, timer, -⟩ := receive_errs held marking arrives after empty
  obtain ⟨-, idle, none⟩ := restarted_idle after
  exact ⟨u, ends, erred, rx.trans idle, timer.trans none⟩

/-! ### Bytes outside a frame (R179, R182, R183) -/

theorem receive_resync (empty : (s.link p).inbox = []) (resync : (s.link p).rx = .resync) :
    ∃ t, exec (.receiveByte p b) s = .next t ∧ (t.link p).rx = .resync ∧ (t.link p).resyncTimer = some 0 ∧
      (t.link p).flags = (s.link p).flags ∧ t.ntu = s.ntu ∧ t.rqt = s.rqt := by
  have arrives : byteArrives p b s = s := by simp only [byteArrives, resync]
  refine ⟨_, congrArg Host.Outcome.next (receive_quiet held marking arrives empty), ?_⟩
  rw [releaseWaiting_link, restartTimers_resync resync, link_setLink]
  exact ⟨resync, rfl, rfl, by simp, by simp⟩

theorem receive_evenParity (empty : (s.link p).inbox = []) (idle : (s.link p).rx = .idle)
    (even : ((List.range 8).countP fun i => b.getLsbD i) % 2 = 0) :
    ∃ t f, exec (.receiveByte p b) s = .next t ∧ s.afterLinkError t p .parity ∧ (t.link p).rx = .inFrame f ∧
      f.stored = false ∧ f.seen = 1 ∧ (t.link p).byteTimer = some 0 := by
  have parity : oddParity b = false := by simp [oddParity, even]
  have arrives : byteArrives p b s = linkError p .parity (.inFrame skippedFrame) s := by
    simp only [byteArrives, idle, addressArrives, parity, Bool.not_false, if_true]
  have after := linkError_here .parity (.inFrame skippedFrame) s p
  obtain ⟨u, ends, erred, rx, timer, -⟩ := receive_errs held marking arrives after empty
  obtain ⟨-, frame, running⟩ := restarted_inFrame after
  exact ⟨u, skippedFrame, ends, erred, rx.trans frame, rfl, rfl, timer.trans running⟩

/-! ### The last byte of a stored frame (R183, R185, R188) -/

section last
variable {f : RxFrame} (frame : (s.link p).rx = .inFrame f) (stored : f.stored = true) (empty : (s.link p).inbox = [])
  (later : 2 ≤ f.seen) (last : f.len + 2 ≤ f.seen + 1)
include frame stored empty later last

theorem receive_lastByte_fails {c : LinkCause} (fault : frameFault (f.take (s.link p).rxFull b) (s.link p).part = some c)
    (lost : (s.link p).rxFull = true → c = .overrun) :
    ∃ u, exec (.receiveByte p b) s = .next u ∧ s.afterLinkError u p c ∧ (u.link p).rx = .idle ∧ (u.link p).byteTimer = none :=
  receive_errs_idle held marking ((byteArrives_stored frame stored later).trans (if_pos last)) (frameEnd_fails fault lost) empty

section kept
variable {g : RxFrame} (room : (s.link p).rxBytes < 256) (taken : f.take false b = g) (passes : frameFault g (s.link p).part = none)
include room taken passes

omit held marking empty passes in
theorem byteArrives_last : byteArrives p b s = frameEnd p g (s.setLink p { s.link p with rx := .inFrame g }) := by
  rw [byteArrives_stored frame stored later, if_pos last]
  simp only [storedLink, rxFull_eq_false room, taken, Bool.false_eq_true, if_false]

theorem receive_lastByte_more (waits : s.lnk.c.inbox = []) (more : (g.bytes.getD 1 0).getLsbD 7 = true) :
    exec (.receiveByte p b) s = .next (s.setLink p { s.link p with
      rx := .awaitNext, part := some (joinFrame g (s.link p).part), byteTimer := some 0, resyncTimer := none }) := by
  have arrives := byteArrives_last frame stored later last room taken
  rw [frameEnd_more (by rw [link_setLink]; exact passes) more, link_setLink, setLink_setLink] at arrives
  refine congrArg Host.Outcome.next (receive_puts held marking arrives empty waits ?_ rfl)
  rw [restartTimers_awaitNext (by rw [link_setLink]), link_setLink, setLink_setLink]

theorem receive_lastByte_whole {m : Partial} (joined : m = joinFrame g (s.link p).part) (whole : (g.bytes.getD 1 0).getLsbD 7 = false) :
    exec (.receiveByte p b) s = .next (drain p (s.setLink p { s.link p with
      rx := .idle, part := none, inbox := [⟨m.broadcast, m.tag, m.kind, m.body, m.inFifo⟩], byteTimer := none, resyncTimer := none })) := by
  have arrives := byteArrives_last frame stored later last room taken
  rw [frameEnd_last (m := m) (by rw [link_setLink]; exact passes) whole (by rw [link_setLink]; exact joined), link_setLink,
    setLink_setLink, empty, List.nil_append] at arrives
  refine congrArg Host.Outcome.next ((receive_taken held marking).trans (congrArg (drain p) ?_))
  rw [arrives, restartTimers_idle (by rw [link_setLink]), link_setLink, setLink_setLink]

end kept

end last

end byte

/-- The last byte of a stored frame, by the checks of R183. -/
theorem receive_frameEnd {b : Byte} {f g : RxFrame} (held : s.resetHeld = false) (marking : (s.link p).awaitMark = false)
    (empty : (s.link p).inbox = []) (waits : s.lnk.c.inbox = []) (frame : (s.link p).rx = .inFrame f) (stored : f.stored = true)
    (later : 2 ≤ f.seen) (last : f.len + 2 ≤ f.seen + 1)
    (grown : g = { f with seen := f.seen + 1, bytes := f.bytes ++ [b], inFifo := f.inFifo + 1 }) (kept : f.overrun = false)
    (room : (s.link p).rxBytes < 256) :
    (byteSum g.bytes ≠ 0 →
      ∃ t, exec (.receiveByte p b) s = .next t ∧ s.afterLinkError t p .check ∧ (t.link p).rx = .idle ∧
        (t.link p).byteTimer = none) ∧
    (byteSum g.bytes = 0 →
      (128 ≤ (g.bytes.getD 3 0).toNat ∨ (g.bytes.getD 1 0).getLsbD 6 ≠ f.continuing ∨
        f.continuing = true ∧ (∃ m, (s.link p).part = some m ∧
          (m.tag ≠ g.bytes.getD 2 0 ∨ m.kind ≠ g.bytes.getD 3 0 ∨ 4 ≤ m.frames)) →
        ∃ t, exec (.receiveByte p b) s = .next t ∧ s.afterLinkError t p .frame ∧ (t.link p).rx = .idle ∧
          (t.link p).byteTimer = none) ∧
      ((g.bytes.getD 3 0).toNat < 128 → (g.bytes.getD 1 0).getLsbD 6 = f.continuing →
        (f.continuing = true → ∀ m, (s.link p).part = some m →
          m.tag = g.bytes.getD 2 0 ∧ m.kind = g.bytes.getD 3 0 ∧ m.frames < 4) →
        ((g.bytes.getD 1 0).getLsbD 7 = true →
          exec (.receiveByte p b) s =
            .next (s.setLink p { s.link p with
              rx := .awaitNext
              part := some (joinFrame g (s.link p).part)
              byteTimer := some 0
              resyncTimer := none })) ∧
        (∀ m, m = joinFrame g (s.link p).part → (g.bytes.getD 1 0).getLsbD 7 = false →
          exec (.receiveByte p b) s =
            .next (drain p (s.setLink p { s.link p with
              rx := .idle
              part := none
              inbox := [⟨m.broadcast, m.tag, m.kind, m.body, m.inFifo⟩]
              byteTimer := none
              resyncTimer := none }))))) := by
  have taken : f.take false b = g := (take_room kept).trans grown.symm
  have keeps : g.overrun = false := by rw [grown]; exact kept
  have continues : g.continuing = f.continuing := by rw [grown]
  have full := rxFull_eq_false room
  have fails {c : LinkCause} (fault : frameFault g (s.link p).part = some c) :=
    receive_lastByte_fails held marking frame stored empty later last (b := b) (c := c) (by rw [full, taken]; exact fault)
      (fun lost => absurd (full.symm.trans lost) (by decide))
  refine ⟨fun sum => fails (frameFault_check keeps sum), fun sum => ⟨fun bad => ?_, fun kind flag goesOn => ⟨fun more => ?_, fun m joined whole => ?_⟩⟩⟩
  · exact fails (frameFault_frame keeps sum (by rw [continues]; exact bad))
  · exact receive_lastByte_more held marking frame stored empty later last room taken
      (frameFault_none keeps sum kind (by rw [continues, flag]) (by rw [continues]; exact goesOn)) waits more
  · exact receive_lastByte_whole held marking frame stored empty later last room taken
      (frameFault_none keeps sum kind (by rw [continues, flag]) (by rw [continues]; exact goesOn)) joined whole

end receiver

/-- Settles O16: each end is one link error or none, and the receiver's timers follow its state. -/
theorem receiverEndsAndErrors : Obligations.ReceiverEndsAndErrors := by
  refine ⟨⟨fun p s held ready => byteTimeout_ends held ready, fun p s held unready => ?_,
    fun p s held marking => stopBitAtSpace_ends held marking, fun p s resync => resyncEnds_idle resync⟩,
    fun p b s held marking empty => ⟨receive_resync held marking empty, receive_evenParity held marking empty⟩,
    fun p b f g s held marking empty waits frame stored later last grown => ⟨fun lost => ?_, fun kept room => ?_⟩⟩
  · refine congrArg Host.Outcome.next ?_
    simp only [onByteTimeout, byteTimerExpires, held, unready, Bool.not_false, Bool.or_true, if_true]
  · have lost' : f.overrun = true ∨ (s.link p).rxFull = true := lost.imp_right (rxFull_iff _).mpr
    exact receive_lastByte_fails held marking frame stored empty later last
      (frameFault_overrun (by rw [take_lost lost'])) (fun _ => rfl)
  · exact receive_frameEnd held marking empty waits frame stored later last grown kept room

end Sys2Proof.Machine
end

section
/-! A framed request message is received as the message it frames (R179 to R183, R188). -/

namespace Sys2Proof.Machine

/-! ### The address byte of a unit (R179) -/

theorem addressByte_odd : ∀ u : BitVec 7, oddParity (addressByte u) = true := by decide

theorem addressByte_address : ∀ u : BitVec 7, addressOf (addressByte u) = u := by decide

theorem takenAs_unit {u : BitVec 7} (p : Port) (own : u ≠ 127) : takenAs p u (addressByte u) = some false := by
  have addressed : ¬u = Config.broadcastAddress := own
  unfold takenAs
  rw [addressByte_address, if_neg addressed, if_pos rfl]

section bytes
variable {p : Port} {b : Byte} {s : State} (held : s.resetHeld = false) (marking : (s.link p).awaitMark = false)
  (empty : (s.link p).inbox = []) (waits : s.lnk.c.inbox = [])
include held marking empty waits

/-! ### The bytes of a frame (R182 to R185) -/

/-- A byte that a frame takes is stored, and the byte timer restarts. -/
theorem receive_stores {f : RxFrame} (arrives : byteArrives p b s = s.setLink p (storedLink (s.link p) f b)) :
    exec (.receiveByte p b) s =
      .next (s.setLink p { storedLink (s.link p) f b with byteTimer := some 0, resyncTimer := none }) := by
  refine congrArg Host.Outcome.next (receive_puts held marking arrives empty waits ?_ rfl)
  rw [restartTimers_inFrame (by rw [link_setLink, storedLink]), link_setLink, setLink_setLink]

/-- A frame takes a byte for which the receive FIFO has room. -/
theorem receive_keeps {f g : RxFrame} (arrives : byteArrives p b s = s.setLink p (storedLink (s.link p) f b))
    (room : (s.link p).rxBytes < 256) (taken : f.take false b = g) :
    exec (.receiveByte p b) s =
      .next (s.setLink p { s.link p with rx := .inFrame g, byteTimer := some 0, resyncTimer := none }) := by
  rw [receive_stores held marking empty waits arrives]
  simp only [storedLink, rxFull_eq_false room, taken, Bool.false_eq_true, if_false]

theorem receive_address (rx : (s.link p).rx = .idle ∧ (s.link p).part = none ∨
      (s.link p).rx = .awaitNext ∧ ∃ m, (s.link p).part = some m ∧ m.broadcast = false)
    (own : s.unitAddress ≠ 127) (room : (s.link p).rxBytes < 256) :
    exec (.receiveByte p (addressByte s.unitAddress)) s =
      .next (s.setLink p { s.link p with
        rx := .inFrame ⟨true, false, (s.link p).part.isSome, 1, 0, [addressByte s.unitAddress], 1, false⟩
        byteTimer := some 0, resyncTimer := none }) := by
  refine receive_keeps held marking empty waits (f := ⟨true, false, (s.link p).part.isSome, 0, 0, [], 0, false⟩) ?_ room rfl
  rcases rx with ⟨idle, part⟩ | ⟨await, m, part, addressed⟩
  · simp only [byteArrives, idle, addressArrives, addressByte_odd, takenAs_unit p own, part, Bool.not_true, Bool.false_eq_true, if_false]
    rfl
  · simp only [byteArrives, await, addressArrives, addressByte_odd, takenAs_unit p own, part, addressed, Bool.not_true, Bool.false_eq_true,
      if_false, if_true]
    rfl

section inFrame
variable {f : RxFrame} (frame : (s.link p).rx = .inFrame f)
include frame

section stored
variable (stored : f.stored = true)
include stored

omit held marking empty waits in
theorem byteArrives_length (first : f.seen = 1) (low : 3 ≤ b.toNat % 64) (high : b.toNat % 64 ≤ 60) :
    byteArrives p b s = s.setLink p (storedLink (s.link p) { f with len := b.toNat % 64 } b) := by
  have inRange : ¬(b.toNat % 64 < 3 ∨ 60 < b.toNat % 64) := by omega
  simp only [byteArrives, frame, frameByte, first, stored, if_true, if_neg inRange]
  rfl

theorem receive_length (first : f.seen = 1) (kept : f.overrun = false) (room : (s.link p).rxBytes < 256) (low : 3 ≤ b.toNat % 64)
    (high : b.toNat % 64 ≤ 60) :
    exec (.receiveByte p b) s =
      .next (s.setLink p { s.link p with
        rx := .inFrame { f with seen := 2, len := b.toNat % 64, bytes := f.bytes ++ [b], inFifo := f.inFifo + 1 }
        byteTimer := some 0
        resyncTimer := none }) := by
  refine receive_keeps held marking empty waits (byteArrives_length frame stored first low high) room ?_
  exact (take_room (f := { f with len := b.toNat % 64 }) kept).trans (by simp [first])

omit waits in
/-- LEN out of its range ends the frame in RESYNC. -/
theorem receive_badLength (first : f.seen = 1) (bad : b.toNat % 64 < 3 ∨ 60 < b.toNat % 64) :
    ∃ t, exec (.receiveByte p b) s = .next t ∧ (t.link p).rx = .resync ∧ (t.link p).resyncTimer = some 0 ∧
      s.afterLinkError t p (if f.overrun = true ∨ 256 ≤ (s.link p).rxBytes then .overrun else .frame) := by
  let f' := { f with len := b.toNat % 64 }
  have cause : (f.take (s.link p).rxFull b).cause .frame = if f.overrun = true ∨ 256 ≤ (s.link p).rxBytes then .overrun else .frame := by
    by_cases lost : f.overrun = true ∨ 256 ≤ (s.link p).rxBytes
    · rw [if_pos lost, take_lost (lost.imp_right (rxFull_iff _).mpr)]
      rfl
    · obtain ⟨kept, room⟩ := not_or.mp lost
      rw [if_neg lost, rxFull_eq_false (by omega), take_room (by simpa using kept)]
      exact if_neg kept
  have arrives : byteArrives p b s =
      linkError p ((f.take (s.link p).rxFull b).cause .frame) .resync (s.setLink p (storedLink (s.link p) f' b)) := by
    simp only [byteArrives, frame, frameByte, if_pos first, if_pos stored, if_pos bad]
    rfl
  have flags : ((storedLink (s.link p) f' b).flags).latch ((f.take (s.link p).rxFull b).cause .frame) =
      (s.link p).flags.latch ((f.take (s.link p).rxFull b).cause .frame) := by
    simp only [storedLink]
    split
    · rename_i full
      rw [cause, if_pos (.inr ((rxFull_iff _).mp full))]
      rfl
    · rfl
  have after := linkError_after (s := s) (p := p) (rx := .resync) (l := storedLink (s.link p) f' b) rfl rfl flags
  obtain ⟨u, ends, erred, rx, -, timer⟩ := receive_errs held marking arrives after empty
  obtain ⟨-, resync, running⟩ := restarted_resync after
  exact ⟨u, ends, rx.trans resync, timer.trans running, cause ▸ erred⟩

section within
variable (later : 2 ≤ f.seen) (more : f.seen + 1 < f.len + 2)
include later more

omit held marking empty waits in
theorem byteArrives_within : byteArrives p b s = s.setLink p (storedLink (s.link p) f b) := by
  rw [byteArrives_stored frame stored later, if_neg (by omega)]

theorem receive_within (kept : f.overrun = false) (room : (s.link p).rxBytes < 256) :
    exec (.receiveByte p b) s =
      .next (s.setLink p { s.link p with
        rx := .inFrame { f with seen := f.seen + 1, bytes := f.bytes ++ [b], inFifo := f.inFifo + 1 }
        byteTimer := some 0
        resyncTimer := none }) :=
  receive_keeps held marking empty waits (byteArrives_within frame stored later more) room (take_room kept)

theorem receive_overruns (full : 256 ≤ (s.link p).rxBytes) :
    exec (.receiveByte p b) s =
      .next (s.setLink p { s.link p with
        rx := .inFrame { f with seen := f.seen + 1, bytes := f.bytes ++ [b], overrun := true }
        flags := { (s.link p).flags with overrun := true }
        byteTimer := some 0
        resyncTimer := none }) := by
  rw [receive_stores held marking empty waits (byteArrives_within frame stored later more)]
  simp only [storedLink, (rxFull_iff _).mpr full, take_lost (.inr rfl), if_true, LinkFlags.latch]

theorem receive_lost (lost : f.overrun = true) (room : (s.link p).rxBytes < 256) :
    exec (.receiveByte p b) s =
      .next (s.setLink p { s.link p with
        rx := .inFrame { f with seen := f.seen + 1, bytes := f.bytes ++ [b] }
        byteTimer := some 0
        resyncTimer := none }) := by
  refine receive_keeps held marking empty waits (byteArrives_within frame stored later more) room ?_
  rw [take_lost (.inl lost), ← lost]

end within

end stored

theorem receive_skipped (skipped : f.stored = false) (later : 2 ≤ f.seen) (more : f.seen + 1 < f.len + 2) :
    exec (.receiveByte p b) s =
      .next (s.setLink p { s.link p with
        rx := .inFrame { f with seen := f.seen + 1 }, byteTimer := some 0, resyncTimer := none }) := by
  have notLen : f.seen ≠ 1 := by omega
  have goesOn : ¬f.len + 2 ≤ f.seen + 1 := by omega
  have arrives : byteArrives p b s = s.setLink p { s.link p with rx := .inFrame { f with seen := f.seen + 1 } } := by
    simp only [byteArrives, frame, frameByte, if_neg notLen, skipped, Bool.false_eq_true, if_false, if_neg goesOn, setRx]
  refine congrArg Host.Outcome.next (receive_puts held marking arrives empty waits ?_ rfl)
  rw [restartTimers_inFrame (by rw [link_setLink]), link_setLink, setLink_setLink]

end inFrame

end bytes

end Sys2Proof.Machine
end

section
/-! The frames of a request message, one after another (R180, R181, R183, R188). -/

namespace Sys2Proof.Machine

/-! ### Bytes one after another -/

/-- A part that has received bytes, one after another. -/
def received (p : Port) (l : List Byte) (s : State) : State := l.foldl (fun s b => receive p b s) s

theorem execAll_received (p : Port) : ∀ (l : List Byte) (s : State), execAll (l.map (Instr.receiveByte p)) s = .next (received p l s)
  | [], _ => rfl
  | b :: l, s => execAll_received p l (receive p b s)

theorem received_append (p : Port) (l m : List Byte) (s : State) : received p (l ++ m) s = received p m (received p l s) :=
  List.foldl_append

theorem receive_of_exec {p : Port} {b : Byte} {s t : State} (step : exec (.receiveByte p b) s = .next t) : receive p b s = t :=
  Host.Outcome.next.inj step

/-- A unit with an address of its own listens on a port on which nothing waits for the decoder. -/
structure State.Listens (s : State) (p : Port) : Prop where
  held : s.resetHeld = false
  marking : (s.link p).awaitMark = false
  empty : (s.link p).inbox = []
  waits : s.lnk.c.inbox = []
  own : s.unitAddress ≠ 127

section
variable {p : Port} {s : State}

theorem State.Listens.setLink (h : s.Listens p) {l : Link} (marking : l.awaitMark = false) (empty : l.inbox = []) :
    (s.setLink p l).Listens p where
  held := h.held
  marking := by rw [link_setLink, marking]
  empty := by rw [link_setLink, empty]
  waits := setLink_waiting h.waits empty
  own := h.own

/-! ### Within a frame (R182, R183) -/

/-- The part in a frame. -/
def framing (p : Port) (f : RxFrame) (s : State) : State :=
  s.setLink p { s.link p with rx := .inFrame f, byteTimer := some 0, resyncTimer := none }

theorem framing_link (f : RxFrame) :
    (framing p f s).link p = { s.link p with rx := .inFrame f, byteTimer := some 0, resyncTimer := none } := link_setLink _

theorem framing_setLink (f : RxFrame) (l : Link) : (framing p f s).setLink p l = s.setLink p l := setLink_setLink _ _

theorem framing_listens (h : s.Listens p) (f : RxFrame) : (framing p f s).Listens p := h.setLink h.marking h.empty

/-- The bytes of the message in progress that are in the receive FIFO (R185). -/
def partSize (part : Option Partial) : Nat := (part.map (·.inFifo)).getD 0

theorem framing_rxBytes (h : s.Listens p) (f : RxFrame) : ((framing p f s).link p).rxBytes = partSize (s.link p).part + f.inFifo := by
  have empty := h.empty
  rw [framing_link]
  simp only [Link.rxBytes, Link.partBytes, empty, List.map_nil, List.sum_nil, Nat.zero_add, partSize]
  cases (s.link p).part <;> rfl

theorem received_within (h : s.Listens p) : ∀ (l : List Byte) (f : RxFrame), f.stored = true → f.overrun = false → 2 ≤ f.seen →
    f.seen + l.length < f.len + 2 → partSize (s.link p).part + f.inFifo + l.length ≤ 256 →
    received p l (framing p f s) =
      framing p { f with seen := f.seen + l.length, bytes := f.bytes ++ l, inFifo := f.inFifo + l.length } s
  | [], f, _, _, _, _, _ => by simp [received]
  | b :: l, f, stored, kept, later, more, room => by
    simp only [List.length_cons] at more room
    have here := framing_listens h f
    have step : receive p b (framing p f s) =
        framing p { f with seen := f.seen + 1, bytes := f.bytes ++ [b], inFifo := f.inFifo + 1 } s := by
      refine receive_of_exec ((receive_within here.held here.marking here.empty here.waits (f := f) (by rw [framing_link]) stored later
        (by omega) kept (by rw [framing_rxBytes h]; omega)).trans ?_)
      rw [framing_setLink, framing_link, framing]
    have rest := received_within h l { f with seen := f.seen + 1, bytes := f.bytes ++ [b], inFifo := f.inFifo + 1 } stored kept
      (Nat.le_succ_of_le later) (by simp only; omega) (by simp only; omega)
    rw [show received p (b :: l) (framing p f s) = received p l (receive p b (framing p f s)) from rfl, step, rest]
    simp [Nat.add_comm l.length, Nat.add_assoc]

/-! ### The bytes of LEN and of the sum (R180) -/

/-- LEN of a frame with a count, a CONTINUATION flag and a MORE flag. -/
def lenByte (n : Nat) (continuation more : Bool) : Byte :=
  BitVec.ofNat 8 (n + (if continuation then 64 else 0) + if more then 128 else 0)

theorem lenByte_fields : ∀ (n : Fin 64) (continuation more : Bool), (lenByte n continuation more).toNat % 64 = n ∧
    (lenByte n continuation more).getLsbD 6 = continuation ∧ (lenByte n continuation more).getLsbD 7 = more := by decide

theorem byteSum_closed (l : List Byte) : byteSum (l ++ [0 - byteSum l]) = 0 := by
  simp [byteSum, List.foldl_append]

/-- A frame but for its sum. -/
def frameHead (u : BitVec 7) (tag kind : Byte) (continuation more : Bool) (body : List Byte) : List Byte :=
  [addressByte u, lenByte (body.length + 3) continuation more, tag, kind] ++ body

theorem frameBytes_eq (u : BitVec 7) (tag kind : Byte) (continuation more : Bool) (body : List Byte) :
    frameBytes u tag kind continuation more body =
      frameHead u tag kind continuation more body ++ [0 - byteSum (frameHead u tag kind continuation more body)] := rfl

/-! ### A frame (R181, R183) -/

/-- The receiver stands before a frame of a message of which `frames` frames with `body` have come: IDLE before the first, and
AWAIT-NEXT before another. -/
def State.Awaits (s : State) (p : Port) (tag kind : Byte) (body : List Byte) (frames size : Nat) : Prop :=
  ((s.link p).rx = .idle ∧ (s.link p).part = none ∧ body = [] ∧ frames = 0 ∧ size = 0) ∨
    ((s.link p).rx = .awaitNext ∧ (s.link p).part = some ⟨false, tag, kind, body, frames, size⟩)

section frame
variable {tag kind : Byte} {body chunk : List Byte} {frames size : Nat}

theorem awaits_partSize (h : s.Awaits p tag kind body frames size) : partSize (s.link p).part = size := by
  rcases h with ⟨-, part, -, -, rfl⟩ | ⟨-, part⟩ <;> rw [part] <;> rfl

theorem awaits_rxBytes (listens : s.Listens p) (h : s.Awaits p tag kind body frames size) : (s.link p).rxBytes = size := by
  have empty := listens.empty
  rcases h with ⟨rx, part, -, -, rfl⟩ | ⟨rx, part⟩ <;>
    simp only [Link.rxBytes, Link.partBytes, empty, rx, part, List.map_nil, List.sum_nil, Nat.zero_add, Nat.add_zero]

/-- The frame that the receiver holds before the sum of a frame arrives. -/
def heldFrame (u : BitVec 7) (tag kind : Byte) (continuation more : Bool) (body : List Byte) : RxFrame :=
  ⟨true, false, continuation, body.length + 4, body.length + 3, frameHead u tag kind continuation more body, body.length + 4, false⟩

theorem received_frameHead (listens : s.Listens p) (awaits : s.Awaits p tag kind body frames size) (short : chunk.length ≤ 57)
    (room : size + chunk.length + 5 ≤ 256) (more : Bool) :
    received p (frameHead s.unitAddress tag kind (s.link p).part.isSome more chunk) s =
      framing p (heldFrame s.unitAddress tag kind (s.link p).part.isSome more chunk) s := by
  generalize continues : (s.link p).part.isSome = cont
  obtain ⟨count, -, -⟩ := lenByte_fields ⟨chunk.length + 3, by omega⟩ cont more
  simp only at count
  have rx : (s.link p).rx = .idle ∧ (s.link p).part = none ∨
      (s.link p).rx = .awaitNext ∧ ∃ m, (s.link p).part = some m ∧ m.broadcast = false := by
    rcases awaits with ⟨idle, part, -⟩ | ⟨await, part⟩
    · exact .inl ⟨idle, part⟩
    · exact .inr ⟨await, _, part, rfl⟩
  have first : receive p (addressByte s.unitAddress) s =
      framing p ⟨true, false, cont, 1, 0, [addressByte s.unitAddress], 1, false⟩ s := by
    refine receive_of_exec ((receive_address listens.held listens.marking listens.empty listens.waits rx listens.own
      (by rw [awaits_rxBytes listens awaits]; omega)).trans ?_)
    rw [continues, framing]
  have second : receive p (lenByte (chunk.length + 3) cont more) (framing p ⟨true, false, cont, 1, 0, [addressByte s.unitAddress], 1, false⟩ s) =
      framing p ⟨true, false, cont, 2, chunk.length + 3, [addressByte s.unitAddress, lenByte (chunk.length + 3) cont more], 2, false⟩ s := by
    have here := framing_listens listens ⟨true, false, cont, 1, 0, [addressByte s.unitAddress], 1, false⟩
    refine receive_of_exec ((receive_length here.held here.marking here.empty here.waits
      (f := ⟨true, false, cont, 1, 0, [addressByte s.unitAddress], 1, false⟩) (by rw [framing_link]) rfl rfl rfl
      (by rw [framing_rxBytes listens, awaits_partSize awaits]; simp only; omega) (by rw [count]; omega) (by rw [count]; omega)).trans ?_)
    rw [framing_setLink, framing_link, framing, count]
    rfl
  have rest := received_within listens (tag :: kind :: chunk)
    ⟨true, false, cont, 2, chunk.length + 3, [addressByte s.unitAddress, lenByte (chunk.length + 3) cont more], 2, false⟩ rfl rfl
    (by simp) (by simp; omega) (by rw [awaits_partSize awaits]; simp; omega)
  rw [show received p (frameHead s.unitAddress tag kind cont more chunk) s =
    received p (tag :: kind :: chunk) (receive p (lenByte (chunk.length + 3) cont more) (receive p (addressByte s.unitAddress) s)) from rfl,
    first, second, rest]
  simp only [heldFrame, List.length_cons]
  congr 2 <;> omega

/-- The message once a further frame has come. -/
def joined (tag kind : Byte) (body chunk : List Byte) (frames size : Nat) : Partial :=
  ⟨false, tag, kind, body ++ chunk, frames + 1, size + (chunk.length + 5)⟩

/-- The frame with its sum passes every check (R183). -/
theorem heldFrame_passes (awaits : s.Awaits p tag kind body frames size) (short : chunk.length ≤ 57) (request : kind.toNat < 128)
    (few : frames < 4) {more : Bool} {g : RxFrame} {u : BitVec 7}
    (taken : (heldFrame u tag kind (s.link p).part.isSome more chunk).take false
      (0 - byteSum (frameHead u tag kind (s.link p).part.isSome more chunk)) = g) :
    frameFault g (s.link p).part = none ∧ joinFrame g (s.link p).part = joined tag kind body chunk frames size ∧
      (g.bytes.getD 1 0).getLsbD 7 = more := by
  obtain ⟨-, flag, last⟩ := lenByte_fields ⟨chunk.length + 3, by omega⟩ (s.link p).part.isSome more
  simp only at flag last
  have bytes : g.bytes = frameHead u tag kind (s.link p).part.isSome more chunk ++
      [0 - byteSum (frameHead u tag kind (s.link p).part.isSome more chunk)] := by rw [← taken]; rfl
  have len : g.len = chunk.length + 3 := by rw [← taken]; rfl
  have continues : g.continuing = (s.link p).part.isSome := by rw [← taken]; rfl
  have broadcast : g.broadcast = false := by rw [← taken]; rfl
  have count : g.inFifo = chunk.length + 5 := by rw [← taken]; rfl
  have tagByte : g.bytes.getD 2 0 = tag := by rw [bytes]; rfl
  have kindByte : g.bytes.getD 3 0 = kind := by rw [bytes]; rfl
  have lengthByte : g.bytes.getD 1 0 = lenByte (chunk.length + 3) (s.link p).part.isSome more := by rw [bytes]; rfl
  have content : (g.bytes.drop 4).take (g.len - 3) = chunk := by
    rw [bytes, len]
    simp [frameHead]
  refine ⟨frameFault_none (by rw [← taken]; rfl) (by rw [bytes, byteSum_closed]) (by rw [kindByte]; exact request)
    (by rw [lengthByte, continues, flag]) fun _ m hm => ?_, ?_, by rw [lengthByte, last]⟩
  · rw [tagByte, kindByte]
    rcases awaits with ⟨-, part, -⟩ | ⟨-, part⟩
    · rw [part] at hm
      cases hm
    · rw [part] at hm
      cases hm
      exact ⟨rfl, rfl, few⟩
  · unfold joinFrame
    rw [content, tagByte, kindByte, broadcast, count]
    rcases awaits with ⟨-, part, rfl, rfl, rfl⟩ | ⟨-, part⟩
    · rw [part]
      simp [joined]
    · rw [part]
      rfl

section ends
variable (listens : s.Listens p) (awaits : s.Awaits p tag kind body frames size) (short : chunk.length ≤ 57)
  (request : kind.toNat < 128) (few : frames < 4) (room : size + chunk.length + 5 ≤ 256)
include listens awaits short request few room

/-- A frame with MORE set leaves the receiver before the next. -/
theorem received_frame_more : received p (frameBytes s.unitAddress tag kind (s.link p).part.isSome true chunk) s =
    s.setLink p { s.link p with
      rx := .awaitNext, part := some (joined tag kind body chunk frames size), byteTimer := some 0, resyncTimer := none } := by
  rw [frameBytes_eq, received_append, received_frameHead listens awaits short room]
  have here := framing_listens listens (heldFrame s.unitAddress tag kind (s.link p).part.isSome true chunk)
  obtain ⟨passes, join, more⟩ := heldFrame_passes (u := s.unitAddress) (more := true) awaits short request few rfl
  refine (receive_of_exec (receive_lastByte_more here.held here.marking (by rw [framing_link]) rfl here.empty
    (by simp only [heldFrame]; omega) (Nat.le_refl _) (by rw [framing_rxBytes listens, awaits_partSize awaits]; simp only [heldFrame]; omega)
    rfl (by rw [framing_link]; exact passes) here.waits more)).trans ?_
  rw [framing_setLink, framing_link, join]

/-- The last frame leaves the message for the decoder. -/
theorem received_frame_last : received p (frameBytes s.unitAddress tag kind (s.link p).part.isSome false chunk) s =
    drain p (s.setLink p { s.link p with
      rx := .idle, part := none, inbox := [⟨false, tag, kind, body ++ chunk, size + (chunk.length + 5)⟩]
      byteTimer := none, resyncTimer := none }) := by
  rw [frameBytes_eq, received_append, received_frameHead listens awaits short room]
  have here := framing_listens listens (heldFrame s.unitAddress tag kind (s.link p).part.isSome false chunk)
  obtain ⟨passes, join, last⟩ := heldFrame_passes (u := s.unitAddress) (more := false) awaits short request few rfl
  refine (receive_of_exec (receive_lastByte_whole here.held here.marking (by rw [framing_link]) rfl here.empty
    (by simp only [heldFrame]; omega) (Nat.le_refl _) (by rw [framing_rxBytes listens, awaits_partSize awaits]; simp only [heldFrame]; omega)
    rfl (by rw [framing_link]; exact passes) rfl last)).trans ?_
  rw [framing_setLink, framing_link, join]
  rfl

end ends

end frame

/-! ### A message (R181) -/

theorem messageSize_one {body : List Byte} (short : body.length ≤ 57) : messageSize body = body.length + 5 := by
  unfold messageSize
  omega

theorem messageSize_drop {body : List Byte} (long : 57 < body.length) : messageSize body = 62 + messageSize (body.drop 57) := by
  unfold messageSize
  rw [List.length_drop]
  omega

theorem received_message {tag kind : Byte} (request : kind.toNat < 128) (n : Nat) (rest body : List Byte) (frames size : Nat) {s : State}
    (listens : s.Listens p) (awaits : s.Awaits p tag kind body frames size) (fuel : rest.length < n)
    (bound : rest.length ≤ 57 * (4 - frames)) (few : frames < 4) (room : size + messageSize rest ≤ 256) :
    received p (messageFrames s.unitAddress tag kind n (s.link p).part.isSome rest) s =
      drain p (s.setLink p { s.link p with
        rx := .idle, part := none, inbox := [⟨false, tag, kind, body ++ rest, size + messageSize rest⟩]
        byteTimer := none, resyncTimer := none }) := by
  induction n generalizing rest body frames size s with
  | zero => exact absurd fuel (Nat.not_lt_zero _)
  | succ n ih =>
    unfold messageFrames
    by_cases short : rest.length ≤ 57
    · rw [messageSize_one short] at room ⊢
      rw [if_pos (show rest.length ≤ Config.frameBody from short)]
      exact received_frame_last listens awaits short request few (by omega)
    · rw [messageSize_drop (by omega)] at room ⊢
      rw [if_neg (show ¬rest.length ≤ Config.frameBody from short), received_append]
      have taken : (rest.take Config.frameBody).length = 57 := by
        rw [List.length_take]
        exact Nat.min_eq_left (by simp only [Config.frameBody]; omega)
      rw [received_frame_more listens awaits (by omega) request few (by omega)]
      generalize there : { s.link p with
        rx := .awaitNext, part := some (joined tag kind body (rest.take Config.frameBody) frames size), byteTimer := some 0,
        resyncTimer := none } = l
      have part : (l.part.isSome) = true := by rw [← there]; rfl
      have dropped : (rest.drop Config.frameBody).length = rest.length - 57 := List.length_drop
      have next := ih (rest.drop Config.frameBody) (body ++ rest.take Config.frameBody) (frames + 1) (size + 62)
        (s := s.setLink p l) (listens.setLink (by rw [← there]; exact listens.marking) (by rw [← there]; exact listens.empty))
        (.inr ⟨by rw [link_setLink, ← there], by rw [link_setLink, ← there, joined, taken]⟩) (by omega) (by omega) (by omega)
        (by simpa [Nat.add_assoc, Config.frameBody] using room)
      rw [link_setLink, part] at next
      refine next.trans ?_
      rw [setLink_setLink, ← there, List.append_assoc, List.take_append_drop, Nat.add_assoc]
      rfl

end

/-- Settles O17: the first part byte by byte; the second by the frames of the message, each of which leaves the receiver before the
next or the message to the decoder. -/
theorem framedMessageIsReceived : Obligations.FramedMessageIsReceived := by
  refine ⟨fun p b s held marking empty waits => ⟨fun idle part own byte room => ?_, fun f frame stored first kept room low high => ?_,
    fun f frame stored first bad => ?_, fun f frame stored later more => ⟨?_, ?_, ?_⟩, fun f frame skipped later more => ?_⟩,
    fun p tag kind body s request short held own marking idle part empty waits => ?_⟩
  · have none : (s.link p).part.isSome = false := by rw [part]; rfl
    rw [byte, receive_address held marking empty waits (.inl ⟨idle, part⟩) own room, none]
  · exact receive_length held marking empty waits frame stored first kept room low high
  · exact receive_badLength held marking empty frame stored first bad
  · exact receive_within held marking empty waits frame stored later more
  · exact receive_overruns held marking empty waits frame stored later more
  · exact receive_lost held marking empty waits frame stored later more
  · exact receive_skipped held marking empty waits frame skipped later more
  · have clear : s.lnk.c.inbox = [] := by
      rcases waits with rfl | clear
      · exact empty
      · exact clear
    have size : messageSize body ≤ 256 := by
      unfold messageSize
      omega
    have whole := received_message (p := p) (tag := tag) request (body.length + 1) body [] 0 0 (s := s) ⟨held, marking, empty, clear, own⟩
      (.inl ⟨idle, part, rfl, rfl, rfl⟩) (by omega) (by omega) (by omega) (by omega)
    have none : (s.link p).part.isSome = false := by rw [part]; rfl
    rw [none] at whole
    rw [execAll_received, framed, whole, List.nil_append, Nat.zero_add]
    rw [← idle, ← part]


end Sys2Proof.Machine
end

section
/-! SUPPORT. The grant opportunity: its choice, its grants and the moves that they order (R76, R77, R119 to R127, R139). -/

namespace Sys2Proof.Machine

/-! ### What an opportunity comes to (R119 to R122) -/

section opportunity
variable {w : Ctx}

/-- With every waiting frame within reach an opportunity clears nothing. -/
theorem clearUnreachable_none (reach : ∀ r ∈ w.st.rqt.records, w.st.unreachable r = false)
    (run : ∀ x, w.st.rqt.run = some x → x.skipTaken = false ∧ x.next < 16384 ∧ w.st.indexShut = false) : clearUnreachable w = w := by
  have reachable : w.st.rqt.records.filter w.st.unreachable = [] := List.filter_eq_nil_iff.mpr fun r hr => by simp [reach r hr]
  have same : (w.st.rqt.run.map fun r => if r.skipTaken then { r with next := skipTaken w.st.fit.entries r.next } else r) =
      w.st.rqt.run := by
    cases hx : w.st.rqt.run with
    | none => rfl
    | some x =>
      obtain ⟨skip, -, -⟩ := run x hx
      rw [Option.map_some, skip]
      rfl
  have chosen : chooseRunFrame w.st = w.st := by rw [chooseRunFrame, same]
  have stays : (if w.st.runWaits then w.upd chooseRunFrame else w) = w := by
    split
    · simp only [Ctx.upd, chosen]
    · rfl
  have exhausted : w.st.runExhausted = false := by
    cases hx : w.st.rqt.run with
    | none => simp only [State.runExhausted, hx]
    | some x =>
      obtain ⟨-, next, opened⟩ := run x hx
      have some_left : x.next ≠ 16384 := by omega
      simp [State.runExhausted, hx, opened, Config.maxEntries, some_left]
  simp only [clearUnreachable, stays, reachable, exhausted, Bool.and_false, Bool.false_eq_true, if_false]
  split <;> rfl

variable (taken : w.st.opportunity = true) (clear : clearUnreachable w = w)
include taken clear

theorem examine_chooses (verified : w.st.trc.verified = true) : examine w = w.upd chooseWork := by
  simp only [examine, taken, clear, verified, if_true]

theorem examine_verifies (unverified : w.st.trc.verified = false) (anchor : w.st.noAnchor = false) : examine w = w.upd grantVerify := by
  simp only [examine, taken, clear, unverified, anchor, if_true, if_false, Bool.false_eq_true]

theorem examine_anchorless (unverified : w.st.trc.verified = false) (none : w.st.noAnchor = true) :
    examine w = (setVerified 4 w).upd chooseWork := by
  simp only [examine, taken, clear, unverified, none, if_true, if_false, Bool.false_eq_true]

end opportunity

/-! ### The choice among the records (R123, R124) -/

/-- A member that is better than every other is kept. -/
theorem foldl_keepBest_best {α : Type} {better : α → α → Bool} {x : α} : ∀ {l : List α} {init : Option α},
    (∀ b ∈ l, b = x ∨ better x b = true ∧ better b x = false) → (∀ b, init = some b → b = x ∨ better x b = true) →
    (x ∈ l ∨ init = some x) → l.foldl (keepBest better) init = some x
  | [], _, _, _, held => by simpa using held
  | y :: l, init, best, start, held => by
    obtain ⟨here, rest⟩ := List.forall_mem_cons.mp best
    refine foldl_keepBest_best (init := keepBest better init y) rest (fun b kept => ?_) ?_
    · cases init with
      | none =>
        cases kept
        exact here.imp_right And.left
      | some a =>
        rw [keepBest] at kept
        split at kept <;> cases kept
        · exact here.imp_right And.left
        · exact start _ rfl
    · by_cases same : y = x
      · right
        subst same
        cases init with
        | none => rfl
        | some a =>
          rcases start a rfl with rfl | preferred
          · rw [keepBest]
            split <;> rfl
          · rw [keepBest, if_pos preferred]
      · rcases held with mem | first
        · exact .inl ((List.mem_cons.mp mem).resolve_left (Ne.symm same))
        · right
          rw [first, keepBest, if_neg]
          rw [(here.resolve_left same).2]
          decide

theorem older_asymm {a b : BitVec 32} (h : older a b = true) : older b a = false := by
  simp only [older, decide_eq_true_eq, decide_eq_false_iff_not] at h ⊢
  bv_omega

section chosen
variable {s : State} {r b : Record}

theorem ahead_iff (t : Nat) : s.ahead t = true ↔ s.liesAhead t := by
  unfold State.ahead State.liesAhead
  cases s.trc.travelDir <;> simp

theorem prefers_of_comesBefore (first : s.comesBefore r b) : s.prefers r b = true ∧ s.prefers b r = false := by
  unfold State.comesBefore at first
  simp only [← ahead_iff] at first
  unfold State.prefers
  dsimp only
  rcases first with ⟨ahead, behind⟩ | ⟨same, near | ⟨equal, age⟩⟩
  · simp [ahead, Bool.not_eq_true _ ▸ behind]
  · have eq : s.ahead (s.seekTarget r) = s.ahead (s.seekTarget b) := Bool.eq_iff_iff.mpr same
    rw [if_pos eq, if_pos eq.symm]
    simp only [Bool.or_eq_true, Bool.or_eq_false_iff, Bool.and_eq_false_iff, decide_eq_true_eq, decide_eq_false_iff_not]
    exact ⟨.inl near, by omega, .inl (by omega)⟩
  · have eq : s.ahead (s.seekTarget r) = s.ahead (s.seekTarget b) := Bool.eq_iff_iff.mpr same
    rw [if_pos eq, if_pos eq.symm]
    simp only [equal, lt_irrefl, older_asymm age, age]
    simp

theorem topClass_eq (mem : r ∈ s.rqt.records) (candidate : r.candidate = true)
    (top : ∀ b ∈ s.rqt.records, b.candidate = true → b.cls ≤ r.cls) : s.topClass = r.cls := by
  have listed : r.cls ∈ (s.rqt.records.filter Record.candidate).map (·.cls) :=
    List.mem_map.mpr ⟨r, List.mem_filter.mpr ⟨mem, candidate⟩, rfl⟩
  have fold : s.topClass = ((s.rqt.records.filter Record.candidate).map (·.cls)).foldr max 0 := List.foldl_eq_foldr
  rw [fold]
  refine Nat.le_antisymm (List.max_le_of_forall_le _ _ fun n hn => ?_) (List.le_max_of_le' 0 listed (Nat.le_refl _))
  obtain ⟨b, hb, rfl⟩ := List.mem_map.mp hn
  exact top b (List.mem_filter.mp hb).1 (List.mem_filter.mp hb).2

/-- The record of the highest class that comes before every other of its class is chosen. -/
theorem chosen_of_first (mem : r ∈ s.rqt.records) (candidate : r.candidate = true)
    (first : ∀ b ∈ s.rqt.records, b.candidate = true → b.cls < r.cls ∨ b.cls = r.cls ∧ (b = r ∨ s.comesBefore r b)) :
    s.chosen = some r := by
  have top : s.topClass = r.cls := topClass_eq mem candidate fun b hb waits => by
    rcases first b hb waits with lower | ⟨same, -⟩ <;> omega
  rw [chosen_eq]
  refine foldl_keepBest_best (fun b hb => ?_) nofun (.inl (mem_topCandidates.mpr ⟨mem, candidate, top.symm⟩))
  obtain ⟨listed, waits, cls⟩ := mem_topCandidates.mp hb
  rcases first b listed waits with lower | ⟨-, same | before⟩
  · omega
  · exact .inl same
  · exact .inr (prefers_of_comesBefore before)

end chosen

end Sys2Proof.Machine
end

section
/-! SUPPORT. Grants and the moves that they order (R24, R25, R42, R77, R125 to R127, R139, R166). -/

namespace Sys2Proof.Machine

/-! ### Grants and passes (R125, R126, R166) -/

section grants
variable {s : State} {r : Record}

theorem grantRecord_rqt (r : Record) (s : State) : (grantRecord r s).rqt.grant = .record r.port r.tag ∧ (grantRecord r s).rqt.run = s.rqt.run ∧
    (grantRecord r s).rqt.records = s.rqt.records.map fun b => if b.port = r.port ∧ b.tag = r.tag then { b with state := .granted } else b := by
  unfold grantRecord
  dsimp only
  split <;> simp [setRecState]

theorem passOver_afterPass (c : Nat) {b : Record} (waits : b.state = .waiting) : passOver c b = b.afterPass c := by
  unfold passOver Record.afterPass
  by_cases other : b.work = .barrier ∨ b.cls ≠ c
  · rw [if_pos other, if_neg]
    simp only [Record.candidate, waits, decide_true, Bool.true_and, Bool.and_eq_true, decide_eq_true_eq, not_and]
    exact fun work => other.resolve_left work
  · obtain ⟨work, cls⟩ := not_or.mp other
    have cls' : b.cls = c := not_not.mp cls
    rw [if_neg other, if_pos (by simp [Record.candidate, waits, work, cls'])]
    by_cases few : b.passes ≤ 6
    · rw [if_pos few, if_pos (by omega)]
    · rw [if_neg few, if_neg (by omega)]
      split <;> rfl

theorem passOver_granted (c : Nat) (b : Record) : passOver c { b with state := .granted } = { b with state := .granted } := by
  unfold passOver
  rw [if_neg]
  simp [Record.candidate]

/-- A grant among waiting records leaves the granted one GRANTED, and the others passed over. -/
theorem grantRecord_passed (distinct : distinctBy (fun r : Record => (r.port, r.tag)) s.rqt.records) (mem : r ∈ s.rqt.records) (waits : ∀ b ∈ s.rqt.records, b.state = .waiting) :
    (addPasses r.cls (grantRecord r s)).rqt.records =
      s.rqt.records.map fun b => if b = r then { b with state := .granted } else b.afterPass r.cls := by
  obtain ⟨-, -, records⟩ := grantRecord_rqt r s
  rw [addPasses, records, List.map_map]
  refine List.map_congr_left fun b hb => ?_
  have named : b.port = r.port ∧ b.tag = r.tag ↔ b = r := by
    refine ⟨fun ⟨port, tag⟩ => List.inj_on_of_nodup_map distinct hb mem (by rw [port, tag]), ?_⟩
    rintro rfl
    exact ⟨rfl, rfl⟩
  simp only [Function.comp_apply, named]
  split
  · exact passOver_granted _ _
  · exact passOver_afterPass _ (waits b hb)

theorem grantRun_rqt {x : Run} (taken : s.rqt.run = some x) : (grantRun x s).rqt.grant = .run ∧
    (grantRun x s).rqt.run = some { x with state := .granted } := by
  simp [grantRun, setRunState, taken]

theorem addPasses_waiting (c : Nat) (waits : ∀ b ∈ s.rqt.records, b.state = .waiting) :
    (addPasses c s).rqt.records = s.rqt.records.map (Record.afterPass c) :=
  List.map_congr_left fun b hb => passOver_afterPass c (waits b hb)

/-! ### The choice of an opportunity (R122, R124, R166) -/

theorem chooseRecord_chosen (first : s.chosen = some r) : chooseRecord s = addPasses r.cls (grantRecord r s) := by
  simp only [chooseRecord, first]

theorem chooseWork_runless (run : s.rqt.run = none) : chooseWork s = chooseRecord s := by
  simp only [chooseWork, run]

theorem chooseWork_run {x : Run} (run : s.rqt.run = some x) (waits : s.runWaits = true) (top : s.outclassed x.cls = false) :
    chooseWork s = addPasses x.cls (grantRun x s) := by
  simp only [chooseWork, run, waits, top, if_true, Bool.false_eq_true, if_false]

theorem chooseWork_outclassed {x : Run} (run : s.rqt.run = some x) (waits : s.runWaits = true) (outclassed : s.outclassed x.cls = true) :
    chooseWork s = chooseRecord (outclassRun s) := by
  simp only [chooseWork, run, waits, outclassed, if_true]

end grants

/-! ### The orders of GTU (R127, R139) -/

section orders
variable {s : State} {g : InHand}

theorem orderFrame_indexed {t : Nat} (target : s.gateTarget g.frame = some t) :
    orderFrame g s = orderMove (targetMove .present t g.speed) s := by
  simp only [orderFrame, target]

theorem orderFrame_empty (target : s.gateTarget g.frame = none) (frontier : s.frontierPos = none) :
    orderFrame g s = orderMove (openMove .forward .forward .index none) s := by
  simp only [orderFrame, target, frontier]

theorem orderFrame_below {l : Nat} (target : s.gateTarget g.frame = none) (frontier : s.frontierPos = some l) (below : s.trc.counter < l) :
    orderFrame g s = orderMove (openMove .forward .forward .shuttle (some (l, .index))) s := by
  simp only [orderFrame, target, frontier, if_pos below]

theorem orderFrame_back {l : Nat} (target : s.gateTarget g.frame = none) (frontier : s.frontierPos = some l) (past : l ≤ s.trc.counter) :
    orderFrame g s = orderMove (targetMove .returnL l .shuttle) s := by
  simp only [orderFrame, target, frontier, if_neg (Nat.not_lt.mpr past)]

/-- The part as a PRESENT that it grants is handed to the gate. -/
def presentHanded (r : Record) (g : InHand) (s : State) : State :=
  { setRecState r.port r.tag .granted s with
    rqt.grant := .record r.port r.tag
    rqt.stopReason := .none
    gtu.inHand := some g
    gtu.phase := .positioning
    gtu.heldReport := none }

theorem grantRecord_present {r : Record} {n : Nat} {mode : FocusMode} {hold : Option Nat} (work : r.work = .present n mode hold) :
    grantRecord r s = orderFrame ⟨.record r.port r.tag, n, mode, hold, .shuttle⟩
      (presentHanded r ⟨.record r.port r.tag, n, mode, hold, .shuttle⟩ s) := by
  simp only [grantRecord, work, handToGate, presentHanded]

theorem presentHanded_fields (r : Record) (g : InHand) (s : State) :
    (presentHanded r g s).trc = s.trc ∧ (presentHanded r g s).fit = s.fit ∧ (presentHanded r g s).fcc = s.fcc ∧
      (presentHanded r g s).gtu.inHand = some g ∧ (presentHanded r g s).gtu.phase = .positioning ∧
      (presentHanded r g s).gtu.watches = s.gtu.watches := ⟨rfl, rfl, rfl, rfl, rfl, rfl⟩

end orders

/-! ### Starting a move (R23 to R25, R32, R42) -/

section start
variable {s : State} {m : Move}

theorem orderMove_parked (parked : s.trc.motion = .parked) : (orderMove m s).trc.motion = .waking ∧ (orderMove m s).trc.move = some m ∧
    (orderMove m s).trc.timers.wake = some 0 ∧ (orderMove m s).trc.epoch = s.trc.epoch ∧ (orderMove m s).gtu = s.gtu := by
  simp [orderMove, parked, setMotion]

theorem orderMove_started (awake : s.trc.motion ≠ .parked) : orderMove m s = startMove m s := by
  simp only [orderMove, if_neg awake]

/-- A motion start advances the epoch and clears every watch (R32). -/
theorem startMove_epoch (m : Move) (s : State) : (startMove m s).trc.epoch = s.trc.epoch + 1 ∧ (startMove m s).gtu.watches = PerPort.all false := by
  unfold startMove
  dsimp only
  split <;> simp [motionStart]

theorem approachLeg_move (cls : SpeedClass) (b : Bool) (m : Move) (s : State) : ∃ n, (approachLeg cls b m s).trc.move = some n ∧
    n.job = m.job ∧ n.target = m.target ∧ n.speed = m.speed := by
  unfold approachLeg
  dsimp only
  split
  · unfold startCreep
    split
    · exact ⟨_, rfl, rfl, rfl, rfl⟩
    · exact ⟨_, rfl, rfl, rfl, rfl⟩
  · split <;> exact ⟨_, rfl, rfl, rfl, rfl⟩

/-- A move to a target begins with the leg to its approach point. -/
theorem startMove_approach (job : m.job = .present ∨ m.job = .returnL) : startMove m s =
    approachLeg m.speed true { m with target := min m.target s.posBound } { motionStart s with trc.speed := 0 } := by
  unfold startMove nextLeg
  dsimp only
  rcases job with job | job <;> rw [job] <;> rfl

theorem startMove_target (job : m.job = .present ∨ m.job = .returnL) : ∃ n, (startMove m s).trc.move = some n ∧
    n.job = m.job ∧ n.target = min m.target s.posBound ∧ n.speed = m.speed := by
  rw [startMove_approach job]
  exact approachLeg_move _ _ _ _

theorem approachLeg_ahead {cls : SpeedClass} {b : Bool} (ahead : s.trc.counter < m.target - 40) :
    approachLeg cls b m s = travelLeg m .forward cls b s := by
  have away : s.trc.counter ≠ approachPoint m.target := ne_of_lt ahead
  have ahead' : s.trc.counter < approachPoint m.target := ahead
  simp only [approachLeg, if_neg away, if_pos ahead']

theorem approachLeg_behind {cls : SpeedClass} {b : Bool} (behind : m.target - 40 < s.trc.counter) :
    approachLeg cls b m s = travelLeg m .reverse cls b s := by
  have away : s.trc.counter ≠ approachPoint m.target := ne_of_gt behind
  have behind' : ¬s.trc.counter < approachPoint m.target := not_lt_of_gt behind
  simp only [approachLeg, if_neg away, if_neg behind']

theorem startMove_towards (job : m.job = .present ∨ m.job = .returnL) (ahead : s.trc.counter < min m.target s.posBound - 40) :
    (startMove m s).trc.motion = .accel ∧ (startMove m s).trc.travelDir = .forward ∧
      ∃ n, (startMove m s).trc.move = some n ∧ n.dir = .forward := by
  rw [startMove_approach job, approachLeg_ahead (by exact ahead)]
  exact ⟨rfl, rfl, _, rfl, rfl⟩

theorem startMove_back (job : m.job = .present ∨ m.job = .returnL) (behind : min m.target s.posBound - 40 < s.trc.counter) :
    (startMove m s).trc.motion = .accel ∧ (startMove m s).trc.travelDir = .reverse ∧
      ∃ n, (startMove m s).trc.move = some n ∧ n.dir = .reverse := by
  rw [startMove_approach job, approachLeg_behind (by exact behind)]
  exact ⟨rfl, rfl, _, rfl, rfl⟩

/-- The counts left to the bound that an OPEN move runs towards (R23). -/
def State.roomIn (s : State) (d : Dir) : Nat :=
  match d with
  | .forward => s.posBound - s.trc.counter
  | .reverse => s.trc.counter

/-- A change of speed lies ahead of the film on a forward move. -/
def Move.changeAhead (m : Move) (counter : Nat) : Prop :=
  ∀ l second, m.change = some (l, second) → m.dir = .forward ∧ counter < l

theorem progressChange_rest {l : Nat} {second : SpeedClass} (still : s.trc.speed = 0) (forward : m.dir = .forward)
    (ahead : s.trc.counter < l) : (progressChange m l second s).trc.move = s.trc.move ∧
      (progressChange m l second s).trc.travelDir = s.trc.travelDir ∧
      (0 < s.classSpeed m.legSpeed → progressChange m l second s = s) := by
  have remains : remainingTo m.dir s.trc.counter l ≠ 0 := by
    rw [forward]
    simp only [remainingTo]
    omega
  simp only [progressChange, still, if_neg remains, Nat.not_lt_zero, false_and, if_false]
  split
  · rename_i reached
    exact ⟨rfl, rfl, fun fast => absurd reached.2 (by omega)⟩
  · exact ⟨rfl, rfl, fun _ => rfl⟩

section bound
variable (room : s.roomIn m.dir ≠ 0) (still : s.trc.speed = 0)
include room still

theorem progressOpen_change {l : Nat} {second : SpeedClass} (change : m.change = some (l, second)) :
    progressOpen m s = progressChange m l second s := by
  have far : ¬s.roomIn m.dir ≤ stopDistance s.trc.speed := by
    rw [still]
    exact fun h => room (Nat.le_zero.mp h)
  unfold State.roomIn at far
  unfold progressOpen
  cases dir : m.dir <;> simp only [dir] at far ⊢ <;> simp only [if_neg far, change]

theorem progressOpen_plain (change : m.change = none) : progressOpen m s =
    if s.trc.motion = .accel ∧ s.classSpeed m.legSpeed ≤ s.trc.speed then setMotion .cruise s else s := by
  have far : ¬s.roomIn m.dir ≤ stopDistance s.trc.speed := by
    rw [still]
    exact fun h => room (Nat.le_zero.mp h)
  unfold State.roomIn at far
  unfold progressOpen
  cases dir : m.dir <;> simp only [dir] at far ⊢ <;> simp only [if_neg far, change]

end bound

theorem progressOpen_bound (room : s.roomIn m.dir = 0) :
    (progressOpen m s).trc.move = some { m with ramp := .bound } := by
  have near : s.roomIn m.dir ≤ stopDistance s.trc.speed := by rw [room]; exact Nat.zero_le _
  unfold State.roomIn at near
  unfold progressOpen
  cases dir : m.dir <;> simp only [dir] at near ⊢ <;> simp only [if_pos near]

/-- An OPEN move at rest keeps its course; only at its bound it begins to ramp. -/
theorem progressOpen_rest (move : s.trc.move = some m) (still : s.trc.speed = 0) (change : m.changeAhead s.trc.counter) :
    ∃ n, (progressOpen m s).trc.move = some n ∧ n.job = m.job ∧ n.dir = m.dir ∧ n.speed = m.speed ∧ n.change = m.change ∧
      (s.roomIn m.dir ≠ 0 → (progressOpen m s).trc.travelDir = s.trc.travelDir ∧
        (m.change ≠ none → 0 < s.classSpeed m.legSpeed → progressOpen m s = s)) := by
  by_cases room : s.roomIn m.dir = 0
  · exact ⟨_, progressOpen_bound room, rfl, rfl, rfl, rfl, fun far => absurd room far⟩
  · cases changes : m.change with
    | none =>
      rw [progressOpen_plain room still changes]
      split
      · exact ⟨m, move, rfl, rfl, rfl, changes, fun _ => ⟨rfl, fun h => absurd rfl h⟩⟩
      · exact ⟨m, move, rfl, rfl, rfl, changes, fun _ => ⟨rfl, fun h => absurd rfl h⟩⟩
    | some c =>
      obtain ⟨l, second⟩ := c
      obtain ⟨forward, ahead⟩ := change l second changes
      obtain ⟨same, dir, stays⟩ := progressChange_rest (second := second) still forward ahead
      rw [progressOpen_change room still changes]
      exact ⟨m, same.trans move, rfl, rfl, rfl, changes, fun _ => ⟨dir, fun _ fast => stays fast⟩⟩

/-- An OPEN move as it starts. -/
def openStarted (m : Move) : Move := { m with legSpeed := m.speed, ramp := .none }

/-- The part as an OPEN move starts, before its progress is examined (R23, R32). -/
def openStart (m : Move) (s : State) : State :=
  { setMotion .accel (motionStart s) with
    trc.move := some (openStarted m)
    trc.travelDir := if (motionStart s).roomIn m.dir = 0 then s.trc.travelDir else m.dir
    trc.speed := 0 }

theorem startMove_opens (opens : m.job.isOpen = true) : startMove m s = progress (openStart m s) := by
  obtain ⟨job, target, dir, speed, legSpeed, change, ramp, retried, creepIn⟩ := m
  unfold startMove
  simp only [opens, if_true]
  cases dir <;> rfl

/-- The start of an OPEN move, its course kept; with room before its bound the film goes its way. -/
theorem startMove_open (opens : m.job.isOpen = true) (fresh : m.creepIn = false) (change : m.changeAhead s.trc.counter) :
    ∃ n, (startMove m s).trc.move = some n ∧ n.job = m.job ∧ n.dir = m.dir ∧ n.speed = m.speed ∧ n.change = m.change ∧
      (s.roomIn m.dir ≠ 0 → (startMove m s).trc.travelDir = m.dir ∧
        (m.change ≠ none → 0 < s.classSpeed m.speed → (startMove m s).trc.motion = .accel)) := by
  have open' : progress (openStart m s) = progressOpen (openStarted m) (openStart m s) := by
    have ramp : ¬((openStarted m).ramp ≠ .none ∨ (openStart m s).trc.motion.moving = false) := by
      simp [openStarted, openStart, setMotion, Motion.moving]
    have creep : ¬(openStarted m).creepIn = true := by simp [openStarted, fresh]
    unfold progress
    rw [show (openStart m s).trc.move = some (openStarted m) from rfl]
    simp only [if_neg ramp, if_neg creep]
    rw [show (openStarted m).job = m.job from rfl]
    cases job : m.job <;> rw [job] at opens <;> simp [Job.isOpen] at opens
  obtain ⟨n, move, job, dir, speed, changes, far⟩ := progressOpen_rest (m := openStarted m) (s := openStart m s) rfl rfl change
  rw [startMove_opens opens, open']
  refine ⟨n, move, job, dir, speed, changes, fun room => ?_⟩
  obtain ⟨travel, stays⟩ := far room
  refine ⟨travel.trans (if_neg room), fun changing fast => ?_⟩
  rw [stays changing fast]
  rfl

end start

end Sys2Proof.Machine
end

section
/-! Grant opportunities of a PRESENT and of a RESUME (R76, R77, R119 to R127). -/

namespace Sys2Proof.Machine

/-! ### An accepted PRESENT -/

section present
variable {r : Request} {f : Nat} {cls : Option Nat} {mode : FocusMode} {hold : Option Nat} {s : State}

/-- The record of an accepted PRESENT, once it is GRANTED or while it waits. -/
def presentRecord (r : Request) (f : Nat) (cls : Option Nat) (mode : FocusMode) (hold : Option Nat) (s : State) (x : RecState) : Record :=
  ⟨sourcePort r.source, r.tag, .present f mode hold,
    min (cls.getD (defaultClass (sourcePort r.source))) (defaultClass (sourcePort r.source)), 0, s.rqt.arrival, x⟩

/-- The grant in hand of an accepted PRESENT. -/
def presentHand (r : Request) (f : Nat) (mode : FocusMode) (hold : Option Nat) : InHand :=
  ⟨.record (sourcePort r.source) r.tag, f, mode, hold, .shuttle⟩

/-- The command of an accepted PRESENT, its record made. -/
def presentedCtx (r : Request) (f : Nat) (cls : Option Nat) (mode : FocusMode) (hold : Option Nat) (s : State) : Ctx :=
  makeRecord (requestEnv 3 r) (.present f mode hold) (presentRecord r f cls mode hold s .waiting).cls
    ((requestEnv 3 r).reply .accepted
      ([BitVec.ofNat 8 (presentRecord r f cls mode hold s .waiting).cls] ++ be 2 (hold.getD 0))
      ((Ctx.start s).upd (reserve (requestEnv 3 r).port)))

theorem presentedCtx_made (records : s.rqt.records = []) :
    let w := presentedCtx r f cls mode hold s
    w.st.rqt.records = [presentRecord r f cls mode hold s .waiting] ∧ w.st.rqt.run = s.rqt.run ∧ w.st.opportunity = s.opportunity ∧
      w.st.trc = { s.trc with timers := w.st.trc.timers } ∧ w.st.fit = s.fit ∧ w.st.gtu = s.gtu ∧ w.st.fcc = s.fcc := by
  intro w
  generalize hu : (requestEnv 3 r).reply .accepted
    ([BitVec.ofNat 8 (presentRecord r f cls mode hold s .waiting).cls] ++ be 2 (hold.getD 0))
    ((Ctx.start s).upd (reserve (requestEnv 3 r).port)) = u
  have st : u.st = reserve (requestEnv 3 r).port s := by rw [← hu]; simp
  have made : w = makeRecord (requestEnv 3 r) (.present f mode hold) (presentRecord r f cls mode hold s .waiting).cls u := by rw [← hu]; rfl
  obtain ⟨rqt, -, trc⟩ := makeRecord_made (e := requestEnv 3 r) (.present f mode hold) (presentRecord r f cls mode hold s .waiting).cls st
  rw [made]
  refine ⟨?_, ?_, makeRecord_opportunity _ _ _ st, trc, by simp [st], by simp [st], by simp [st]⟩
  · rw [rqt, records]
    rfl
  · rw [rqt]

/-- A PRESENT that finds an opportunity and no other work is handed to the gate, from a part that is as before but for its record. -/
theorem present_granted (takes : s.takesNow r) (single : sourceBroadcast r.source = false) (length : Kind.present.lengthOk r.body = true)
    (parsed : Kind.present.parse r.body = .ok (.present f cls mode hold)) (tagFree : s.tagInUse (sourcePort r.source) r.tag = false)
    (free : s.opportunity = true) (records : s.rqt.records = []) (run : s.rqt.run = none) (verified : s.trc.verified = true)
    (reach : s.indexed f = true ∨ s.indexShut = false) :
    ∃ (w : Ctx) (v : State), exec (.present r) s = .next (releaseAll (requestEnv 3 r) (finish w)) ∧
      w.st.trc = (orderFrame (presentHand r f mode hold) v).trc ∧ w.st.gtu = (orderFrame (presentHand r f mode hold) v).gtu ∧
      w.st.fit = (orderFrame (presentHand r f mode hold) v).fit ∧ w.st.fcc = s.fcc ∧
      w.st.rqt.records = [presentRecord r f cls mode hold s .granted] ∧ w.st.rqt.grant = .record (sourcePort r.source) r.tag ∧
      v.trc = { s.trc with timers := v.trc.timers } ∧ v.fit = s.fit ∧ v.gtu.inHand = some (presentHand r f mode hold) ∧
      v.gtu.phase = .positioning ∧ v.gtu.watches = s.gtu.watches := by
  have loaded : s.trc.roll = .loaded := by
    simp only [State.opportunity, Bool.and_eq_true, decide_eq_true_eq] at free
    exact free.1.1.1.1.1
  have room : capacityRefusal .present (sourcePort r.source) s = none := by
    simp [capacityRefusal, State.portRecords, records, Config.maxPortRecords, Config.maxRecords]
  have performed := requestArrives_performed 3 .present rfl takes (.inl single) length rfl (.inr tagFree) parsed
    (rollRefusal_of_loaded nofun loaded) room
  obtain ⟨made, kept, taken, trc, fit, gtu, fcc⟩ := presentedCtx_made (r := r) (f := f) (cls := cls) (mode := mode) (hold := hold) records
  have runs : exec (.present r) s =
      .next (releaseAll (requestEnv 3 r) (finish (examine (presentedCtx r f cls mode hold s)))) := by
    rw [exec_present, performed]
    rfl
  rw [runs]
  generalize presentedCtx r f cls mode hold s = w at *
  have runless : w.st.rqt.run = none := kept.trans run
  have clear : clearUnreachable w = w := by
    refine clearUnreachable_none (fun x hx => ?_) fun x hx => by rw [runless] at hx; cases hx
    rw [made, List.mem_singleton] at hx
    subst hx
    simp only [State.unreachable, presentRecord, State.indexed, State.indexShut, fit]
    rcases reach with inside | opened
    · simp only [State.indexed, decide_eq_true_eq] at inside
      simp [inside]
    · simp only [State.indexShut] at opened
      simp [opened]
  have first : w.st.chosen = some (presentRecord r f cls mode hold s .waiting) := by
    refine chosen_of_first (by rw [made]; exact List.mem_singleton_self _) rfl fun b hb _ => ?_
    rw [made, List.mem_singleton] at hb
    exact .inr ⟨by rw [hb], .inl hb⟩
  have chooses : examine w = w.upd chooseWork :=
    examine_chooses (taken.trans free) clear (by rw [trc]; exact verified)
  have granted : chooseWork w.st = addPasses (presentRecord r f cls mode hold s .waiting).cls
      (orderFrame (presentHand r f mode hold)
        (presentHanded (presentRecord r f cls mode hold s .waiting) (presentHand r f mode hold) w.st)) := by
    rw [chooseWork_runless runless, chooseRecord_chosen first, grantRecord_present rfl]
    rfl
  have distinct : distinctBy (fun r : Record => (r.port, r.tag)) w.st.rqt.records := by simp [distinctBy, made]
  have passed := grantRecord_passed (r := presentRecord r f cls mode hold s .waiting) distinct (by rw [made]; exact List.mem_singleton_self _)
    fun b hb => by
      rw [made, List.mem_singleton] at hb
      rw [hb]
      rfl
  rw [grantRecord_present rfl] at passed
  refine ⟨examine w, presentHanded (presentRecord r f cls mode hold s .waiting) (presentHand r f mode hold) w.st, rfl, ?_⟩
  rw [chooses]
  simp only [upd_st, granted]
  refine ⟨by simp, by simp, by simp, ?_, ?_, ?_, trc, fit, rfl, rfl, ?_⟩
  · simpa [presentHanded, setRecState] using fcc
  · refine passed.trans ?_
    rw [made]
    simp [presentRecord]
  · simp [presentHanded, presentRecord]
  · rw [(presentHanded_fields _ _ _).2.2.2.2.2, gtu]

theorem gateTarget_of_same {v : State} (trc : v.trc = { s.trc with timers := v.trc.timers }) (fit : v.fit = s.fit) (n : Nat) :
    v.gateTarget n = s.gateTarget n := by
  unfold State.gateTarget State.gateTargetOf State.clampPos State.posBound State.profile
  rw [trc, fit]

theorem frontierPos_of_same {v : State} (fit : v.fit = s.fit) : v.frontierPos = s.frontierPos := by
  unfold State.frontierPos
  rw [fit]

theorem gateTarget_bounded {n t : Nat} (target : s.gateTarget n = some t) : t ≤ s.posBound := by
  obtain ⟨e, -, rfl⟩ := Option.map_eq_some_iff.mp target
  exact Nat.min_le_right _ _

theorem gateTarget_indexed {n t : Nat} (target : s.gateTarget n = some t) : s.indexed n = true := by
  obtain ⟨e, entry, -⟩ := Option.map_eq_some_iff.mp target
  obtain ⟨inside, -⟩ := List.getElem?_eq_some_iff.mp entry
  simpa [State.indexed] using inside

/-- A grant in hand on its way stays POSITIONING (R140). -/
theorem finish_phase_positioning {w : Ctx} (phase : w.st.gtu.phase = .positioning) (away : w.st.trc.motion ≠ .settling) :
    (finish w).gtu.phase = .positioning := by
  have synced : ∀ s : State, s.gtu.phase = .positioning → s.trc.motion ≠ .settling → (syncPhase s).gtu.phase = .positioning := by
    intro s phase away
    unfold syncPhase
    cases hand : s.gtu.inHand with
    | none => exact phase
    | some g =>
      simp only [phase, away, decide_false, Bool.false_and, Bool.false_eq_true, if_false]
  rw [finish]
  simpa using synced (latchAll w.occs (queueAll w.sends w.st)) (by simpa using phase) (by simpa using away)

theorem present_indexed {tn : Nat} (takes : s.takesNow r) (single : sourceBroadcast r.source = false)
    (length : Kind.present.lengthOk r.body = true) (parsed : Kind.present.parse r.body = .ok (.present f cls mode hold))
    (tagFree : s.tagInUse (sourcePort r.source) r.tag = false) (free : s.opportunity = true) (records : s.rqt.records = [])
    (run : s.rqt.run = none) (verified : s.trc.verified = true) (target : s.gateTarget f = some tn) :
    ∃ t rec m, exec (.present r) s = .next t ∧ t.rqt.records = [rec] ∧ rec.port = sourcePort r.source ∧
      rec.tag = r.tag ∧ rec.work = .present f mode hold ∧ rec.state = .granted ∧
      t.rqt.grant = .record (sourcePort r.source) r.tag ∧
      t.gtu.inHand = some ⟨.record (sourcePort r.source) r.tag, f, mode, hold, .shuttle⟩ ∧
      t.trc.move = some m ∧ m.job = .present ∧ m.target = tn ∧ m.speed = .shuttle ∧
      (s.trc.motion = .idle → t.trc.epoch = s.trc.epoch + 1 ∧ (∀ p, t.gtu.watches.get p = false)) ∧
      (s.trc.motion = .idle → s.trc.counter < tn - 40 → t.trc.motion = .accel ∧ m.dir = .forward ∧
        t.trc.travelDir = .forward ∧ t.gtu.phase = .positioning) ∧
      (s.trc.motion = .idle → tn - 40 < s.trc.counter → t.trc.motion = .accel ∧ m.dir = .reverse ∧
        t.trc.travelDir = .reverse ∧ t.gtu.phase = .positioning) ∧
      (s.trc.motion = .parked → t.trc.motion = .waking ∧ t.trc.timers.wake = some 0 ∧ t.trc.epoch = s.trc.epoch ∧
        t.gtu.watches = s.gtu.watches ∧ t.gtu.phase = .positioning) ∧
      t.trc.counter = s.trc.counter ∧ t.fit.entries = s.fit.entries ∧ t.fcc = s.fcc := by
  obtain ⟨w, v, runs, trc, gtu, fit, fcc, made, grant, vtrc, vfit, hand, phase, watches⟩ :=
    present_granted takes single length parsed tagFree free records run verified (.inl (gateTarget_indexed target))
  have there : v.gateTarget (presentHand r f mode hold).frame = some tn := (gateTarget_of_same vtrc vfit f).trans target
  have counter : v.trc.counter = s.trc.counter := by rw [vtrc]
  have motion : v.trc.motion = s.trc.motion := by rw [vtrc]
  have epoch : v.trc.epoch = s.trc.epoch := by rw [vtrc]
  have bounded : min tn v.posBound = tn := Nat.min_eq_left (gateTarget_bounded there)
  rw [orderFrame_indexed there, show (presentHand r f mode hold).speed = .shuttle from rfl] at trc gtu fit
  have still : w.st.gtu.phase = .positioning := by rw [gtu]; simpa using phase
  have inHand : (finish w).gtu.inHand = some (presentHand r f mode hold) := by simpa [gtu] using hand
  have stays : (finish w).trc.counter = s.trc.counter ∧ (finish w).fit.entries = s.fit.entries ∧ (finish w).fcc = s.fcc := by
    simp [trc, fit, fcc, counter, vfit]
  obtain ⟨same, entries, focus⟩ := stays
  have free' : s.trc.motion = .idle ∨ s.trc.motion = .parked := by
    simp only [State.opportunity, Bool.and_eq_true, decide_eq_true_eq] at free
    obtain ⟨⟨⟨⟨⟨-, motion⟩, -⟩, -⟩, -⟩, -⟩ := free
    cases h : s.trc.motion <;> simp [h, Motion.free] at motion <;> simp
  rcases free' with idle | parked
  · have awake : v.trc.motion ≠ .parked := by rw [motion, idle]; decide
    rw [orderMove_started awake] at trc gtu
    obtain ⟨m, move, job, aim, speed⟩ := startMove_target (s := v) (m := targetMove .present tn .shuttle) (.inl rfl)
    obtain ⟨next, clear⟩ := startMove_epoch (targetMove .present tn .shuttle) v
    have toward {n : Move} {d : Dir} (hn : (startMove (targetMove .present tn .shuttle) v).trc.move = some n) (dir : n.dir = d) : m.dir = d := by
      cases move.symm.trans hn
      exact dir
    refine ⟨_, presentRecord r f cls mode hold s .granted, m, runs, by simpa using made, rfl, rfl, rfl, rfl, by simpa using grant,
      by simpa [presentHand] using inHand, by simp [trc, move], job, aim.trans bounded, speed, fun _ => ⟨by simp [trc, next, epoch], fun p => ?_⟩,
      fun _ ahead => ?_, fun _ behind => ?_, fun parked => absurd (idle.symm.trans parked) (by decide), by simpa using same,
      by simpa using entries, by simpa using focus⟩
    · simp [gtu, clear]
    · obtain ⟨accel, travel, n, hn, dir⟩ := startMove_towards (s := v) (m := targetMove .present tn .shuttle) (.inl rfl)
        (by rw [counter]; exact bounded.symm ▸ ahead)
      refine ⟨by simp [trc, accel], toward hn dir, by simp [trc, travel], ?_⟩
      simpa using finish_phase_positioning still (by rw [trc, accel]; decide)
    · obtain ⟨accel, travel, n, hn, dir⟩ := startMove_back (s := v) (m := targetMove .present tn .shuttle) (.inl rfl)
        (by rw [counter]; exact bounded.symm ▸ behind)
      refine ⟨by simp [trc, accel], toward hn dir, by simp [trc, travel], ?_⟩
      simpa using finish_phase_positioning still (by rw [trc, accel]; decide)
  · obtain ⟨waking, move, wake, epoch', gtu'⟩ := orderMove_parked (m := targetMove .present tn .shuttle) (motion.trans parked)
    have timer : (finish w).trc.timers.wake = some 0 := by
      rw [finish_timers]
      simp [syncTimers, trc, waking, wake]
    refine ⟨_, presentRecord r f cls mode hold s .granted, _, runs, by simpa using made, rfl, rfl, rfl, rfl, by simpa using grant,
      by simpa [presentHand] using inHand, by simp [trc, move]; rfl, rfl, rfl, rfl, fun idle => absurd (idle.symm.trans parked) (by decide),
      fun idle => absurd (idle.symm.trans parked) (by decide), fun idle => absurd (idle.symm.trans parked) (by decide),
      fun _ => ⟨by simp [trc, waking], by simpa using timer, by simp [trc, epoch', epoch], by simp [gtu, gtu', watches], ?_⟩,
      by simpa using same, by simpa using entries, by simpa using focus⟩
    simpa using finish_phase_positioning still (by rw [trc, waking]; decide)

end present

end Sys2Proof.Machine
end

section
/-! The index-forward move of a PRESENT (R127), and the opportunity that a RESUME makes (R76, R77, R121 to R125). -/

namespace Sys2Proof.Machine

section unindexed
variable {r : Request} {f : Nat} {cls : Option Nat} {mode : FocusMode} {hold : Option Nat} {s : State}
  (takes : s.takesNow r) (single : sourceBroadcast r.source = false) (length : Kind.present.lengthOk r.body = true)
  (parsed : Kind.present.parse r.body = .ok (.present f cls mode hold)) (tagFree : s.tagInUse (sourcePort r.source) r.tag = false)
  (free : s.opportunity = true) (idle : s.trc.motion = .idle) (records : s.rqt.records = []) (run : s.rqt.run = none)
  (verified : s.trc.verified = true) (beyond : s.fit.entries.length ≤ f)
include takes single length parsed tagFree free idle records run verified beyond

/-- A PRESENT of a frame that is not indexed, with the index not shut, orders the index-forward move. -/
theorem present_unindexed (opened : s.indexShut = false) : ∃ (w : Ctx) (v : State),
    exec (.present r) s = .next (releaseAll (requestEnv 3 r) (finish w)) ∧
      w.st.trc = (orderFrame (presentHand r f mode hold) v).trc ∧ w.st.rqt.grant = .record (sourcePort r.source) r.tag ∧
      v.gateTarget f = none ∧ v.frontierPos = s.frontierPos ∧ v.trc = { s.trc with timers := v.trc.timers } ∧ v.trc.motion ≠ .parked := by
  obtain ⟨w, v, runs, trc, -, -, -, -, grant, vtrc, vfit, -⟩ :=
    present_granted takes single length parsed tagFree free records run verified (.inr opened)
  refine ⟨w, v, runs, trc, grant, ?_, frontierPos_of_same vfit, vtrc, by rw [vtrc]; simp [idle]⟩
  rw [gateTarget_of_same vtrc vfit]
  simp [State.gateTarget, List.getElem?_eq_none_iff.mpr beyond]

theorem present_beyond_frontier {l : Nat} (opened : s.fit.index = .opened) (frontier : s.frontierPos = some l) :
    ∃ t m, exec (.present r) s = .next t ∧ t.rqt.grant = .record (sourcePort r.source) r.tag ∧ t.trc.move = some m ∧
      t.trc.epoch = s.trc.epoch + 1 ∧ m.speed = .shuttle ∧
      (s.trc.counter < l → s.trc.counter < s.trc.endPos.getD 4194303 →
        m.job = .forward ∧ m.dir = .forward ∧ m.change = some (l, .index) ∧ t.trc.motion = .accel ∧
        t.trc.travelDir = .forward) ∧
      (l ≤ s.trc.counter → m.job = .returnL ∧ m.target = min l (s.trc.endPos.getD 4194303)) := by
  obtain ⟨w, v, runs, trc, grant, target, front, vtrc, awake⟩ :=
    present_unindexed takes single length parsed tagFree free idle records run verified beyond (by simp [State.indexShut, opened])
  rw [frontier] at front
  have counter : v.trc.counter = s.trc.counter := by rw [vtrc]
  have epoch : v.trc.epoch = s.trc.epoch := by rw [vtrc]
  have bound : v.posBound = s.trc.endPos.getD 4194303 := by
    unfold State.posBound
    rw [vtrc]
    rfl
  by_cases below : s.trc.counter < l
  · rw [orderFrame_below target front (counter ▸ below), orderMove_started awake] at trc
    obtain ⟨next, -⟩ := startMove_epoch (openMove .forward .forward .shuttle (some (l, .index))) v
    obtain ⟨m, move, job, dir, speed, change, goes⟩ := startMove_open (s := v) (m := openMove .forward .forward .shuttle (some (l, .index)))
      rfl rfl fun l' second h => by
        cases h
        exact ⟨rfl, counter ▸ below⟩
    refine ⟨_, m, runs, by simpa using grant, by simp [trc, move], by simp [trc, next, epoch], speed, fun _ room => ?_,
      fun past => absurd below (Nat.not_lt.mpr past)⟩
    obtain ⟨travel, accel⟩ := goes (show v.posBound - v.trc.counter ≠ 0 by rw [bound, counter]; omega)
    have fast := accel nofun (by simp [State.classSpeed, openMove, Config.shuttleSpeed])
    exact ⟨job, dir, change, by simp [trc, fast], by simpa [trc, openMove] using travel⟩
  · rw [orderFrame_back target front (counter ▸ Nat.not_lt.mp below), orderMove_started awake] at trc
    obtain ⟨next, -⟩ := startMove_epoch (targetMove .returnL l .shuttle) v
    obtain ⟨m, move, job, aim, speed⟩ := startMove_target (s := v) (m := targetMove .returnL l .shuttle) (.inr rfl)
    exact ⟨_, m, runs, by simpa using grant, by simp [trc, move], by simp [trc, next, epoch], speed, fun h => absurd h below,
      fun _ => ⟨job, aim.trans (by rw [bound]; rfl)⟩⟩

theorem present_first_frame (empty : s.fit.index = .empty) (nothing : s.fit.entries = []) :
    ∃ t m, exec (.present r) s = .next t ∧ t.rqt.grant = .record (sourcePort r.source) r.tag ∧ t.trc.move = some m ∧
      t.trc.epoch = s.trc.epoch + 1 ∧ m.job = .forward ∧ m.dir = .forward ∧ m.speed = .index ∧ m.change = none := by
  obtain ⟨w, v, runs, trc, grant, target, front, vtrc, awake⟩ :=
    present_unindexed takes single length parsed tagFree free idle records run verified beyond (by simp [State.indexShut, empty])
  have epoch : v.trc.epoch = s.trc.epoch := by rw [vtrc]
  rw [orderFrame_empty target (front.trans (by simp [State.frontierPos, nothing])), orderMove_started awake] at trc
  obtain ⟨next, -⟩ := startMove_epoch (openMove .forward .forward .index none) v
  obtain ⟨m, move, job, dir, speed, change, -⟩ := startMove_open (s := v) (m := openMove .forward .forward .index none) rfl rfl nofun
  exact ⟨_, m, runs, by simpa using grant, by simp [trc, move], by simp [trc, next, epoch], job, dir, speed, change⟩

end unindexed

/-! ### The opportunity that a RESUME makes -/

section resume
variable {r : Request} {s : State}

/-- With a roll LOADED a RESUME clears HALTED and examines the opportunity. -/
theorem resume_examines (takes : s.takesNow r) (port : sourcePort r.source = .c) (body : r.body = []) (loaded : s.trc.roll = .loaded) :
    exec (.resume r) s = .next (releaseAll (requestEnv 15 r) (finish (examine (resumedCtx r s)))) := by
  rw [exec_resume_performed takes port body, resumeRewind_other (by simp [resumedCtx_st, loaded])]

/-- The state of a RESUME is as before but for HALTED and its level. -/
def resumed (s : State) : State := { s with rqt.halted := false, ntu.levels := s.ntu.levels.set .halted false }

section ungranted
variable (grants : s.grantLaw) (free : s.rqt.grant = .none)
include grants free

theorem waiting_of_ungranted : ∀ b ∈ s.rqt.records, b.state = .waiting := fun b hb => by
  obtain ⟨-, named, -⟩ := grants
  by_contra busy
  have := (named b hb).mp busy
  rw [free] at this
  cases this

theorem runWaits_of_ungranted {x : Run} (run : s.rqt.run = some x) : s.runWaits = true := by
  obtain ⟨-, -, -, named, -⟩ := grants
  have idle := (named x run).not.mpr (by rw [free]; exact nofun)
  simp only [State.runWaits, run, decide_eq_true_eq]
  cases state : x.state <;> simp [state] at idle ⊢

end ungranted

/-- The premises of a RESUME that makes an opportunity for what waits. -/
structure State.Resumes (s : State) (r : Request) : Prop where
  takes : s.takesNow r
  port : sourcePort r.source = .c
  body : r.body = []
  table : s.tableLaw
  grants : s.grantLaw
  loaded : s.trc.roll = .loaded
  free : s.trc.motion = .idle ∨ s.trc.motion = .parked
  phase : s.gtu.phase = .idle
  exposure : s.gtu.exposure = none
  ungranted : s.rqt.grant = .none
  opened : s.indexShut = false
  reach : ∀ x, s.rqt.run = some x → x.skipTaken = false ∧ x.next < 16384

section
variable (h : s.Resumes r)
include h

theorem State.Resumes.opportunity : (resumedCtx r s).st.opportunity = true := by
  have free : s.trc.motion.free = true := by rcases h.free with idle | parked <;> rw [‹s.trc.motion = _›] <;> rfl
  simp [resumedCtx_st, State.opportunity, h.loaded, free, h.phase, h.exposure, h.ungranted]

theorem State.Resumes.clear : clearUnreachable (resumedCtx r s) = resumedCtx r s := by
  have opened : (resumedCtx r s).st.indexShut = false := by rw [resumedCtx_st]; exact h.opened
  refine clearUnreachable_none (fun x _ => ?_) fun x hx => ?_
  · unfold State.unreachable
    rw [opened]
    cases x.work <;> simp
  · rw [resumedCtx_st] at hx
    obtain ⟨skip, next⟩ := h.reach x hx
    exact ⟨skip, next, opened⟩

/-- With the position verified a RESUME has the arbiter choose. -/
theorem resume_chooses (verified : s.trc.verified = true) :
    ∃ w : Ctx, exec (.resume r) s = .next (releaseAll (requestEnv 15 r) (finish w)) ∧ w.st = chooseWork (resumed s) := by
  refine ⟨_, resume_examines h.takes h.port h.body h.loaded, ?_⟩
  rw [examine_chooses h.opportunity h.clear (by simp [resumedCtx_st, verified]), upd_st, resumedCtx_st]
  rfl

theorem resume_grants_run {x : Run} (verified : s.trc.verified = true) (run : s.rqt.run = some x)
    (top : ∀ b ∈ s.rqt.records, b.work ≠ .barrier → b.cls ≤ x.cls) :
    ∃ t, exec (.resume r) s = .next t ∧ t.rqt.grant = .run ∧ t.rqt.run = some { x with state := .granted } ∧
      t.rqt.records = s.rqt.records.map (Record.afterPass x.cls) ∧ t.rqt.halted = false := by
  obtain ⟨w, runs, st⟩ := resume_chooses h verified
  have outclassed : (resumed s).outclassed x.cls = false := by
    simp only [State.outclassed, resumed, List.any_eq_false]
    intro b hb
    simp only [Bool.and_eq_true, decide_eq_true_eq, not_and, Nat.not_lt]
    exact fun busy => top b hb busy.2
  have choice : chooseWork (resumed s) = addPasses x.cls (grantRun x (resumed s)) :=
    chooseWork_run run (runWaits_of_ungranted h.grants h.ungranted run) outclassed
  obtain ⟨grant, granted⟩ := grantRun_rqt (s := resumed s) run
  have passed := addPasses_waiting (s := grantRun x (resumed s)) x.cls fun b hb =>
    waiting_of_ungranted h.grants h.ungranted b (by simpa [resumed] using hb)
  rw [choice] at st
  refine ⟨_, runs, by simp [st, grant], by simp [st, granted], ?_, by simp [st, resumed]⟩
  rw [← st] at passed
  simpa [resumed] using passed

/-- The record that comes first is granted, whatever state the run is left in. -/
theorem chooseRecord_grants {u : State} {w : Record} (records : u.rqt.records = s.rqt.records) (trc : u.trc = s.trc) (fit : u.fit = s.fit)
    (mem : w ∈ s.rqt.records) (work : w.work ≠ .barrier)
    (first : ∀ b ∈ s.rqt.records, b.work ≠ .barrier → b.cls < w.cls ∨ b.cls = w.cls ∧ (b = w ∨ s.comesBefore w b)) :
    (chooseRecord u).rqt.grant = .record w.port w.tag ∧ (chooseRecord u).rqt.records =
      s.rqt.records.map fun b => if b = w then { b with state := .granted } else b.afterPass w.cls := by
  have waits := waiting_of_ungranted h.grants h.ungranted
  have seek (b : Record) : u.seekTarget b = s.seekTarget b := by
    unfold State.seekTarget State.gateTarget State.gateTargetOf State.estimate State.frontierPos State.frontier State.clampPos State.posBound
      State.profile
    rw [trc, fit]
  have before (b : Record) (h : s.comesBefore w b) : u.comesBefore w b := by
    unfold State.comesBefore State.liesAhead at h ⊢
    rw [seek, seek, trc]
    exact h
  have candidate : w.candidate = true := by simp [Record.candidate, waits w mem, work]
  have chosen : u.chosen = some w := chosen_of_first (records ▸ mem) candidate fun b hb candidate => by
    simp only [Record.candidate, Bool.and_eq_true, decide_eq_true_eq] at candidate
    exact (first b (records ▸ hb) candidate.2).imp_right fun ⟨cls, rest⟩ => ⟨cls, rest.imp_right (before b)⟩
  obtain ⟨-, -, distinct, -⟩ := h.table
  rw [chooseRecord_chosen chosen, grantRecord_passed (records ▸ distinct) (records ▸ mem) (records ▸ waits), records]
  obtain ⟨grant, -, -⟩ := grantRecord_rqt w u
  exact ⟨by simpa using grant, rfl⟩

theorem resume_grants_record {w : Record} (verified : s.trc.verified = true) (mem : w ∈ s.rqt.records) (work : w.work ≠ .barrier)
    (first : ∀ b ∈ s.rqt.records, b.work ≠ .barrier → b.cls < w.cls ∨ b.cls = w.cls ∧ (b = w ∨ s.comesBefore w b))
    (above : ∀ x, s.rqt.run = some x → x.cls < w.cls) :
    ∃ t, exec (.resume r) s = .next t ∧ t.rqt.grant = .record w.port w.tag ∧
      t.rqt.records = s.rqt.records.map (fun b => if b = w then { b with state := .granted } else b.afterPass w.cls) ∧
      t.rqt.run = s.rqt.run.map (fun x => if x.state = .ready then { x with state := .suspended } else x) ∧
      t.rqt.halted = false := by
  obtain ⟨c, runs, st⟩ := resume_chooses h verified
  have choice : chooseWork (resumed s) = chooseRecord (outclassRun (resumed s)) := by
    cases run : s.rqt.run with
    | none =>
      have same : outclassRun (resumed s) = resumed s := by simp [outclassRun, resumed, run]
      rw [chooseWork_runless (by exact run), same]
    | some x =>
      refine chooseWork_outclassed (x := x) run (runWaits_of_ungranted h.grants h.ungranted run) ?_
      exact List.any_eq_true.mpr ⟨w, mem, by
        simp [waiting_of_ungranted h.grants h.ungranted w mem, work, above x run]⟩
  obtain ⟨grant, records⟩ := chooseRecord_grants h (u := outclassRun (resumed s)) rfl rfl rfl mem work first
  rw [choice] at st
  refine ⟨_, runs, by simp [st, grant], by simp [st, records], ?_, by simp [st, resumed]⟩
  simp [st, outclassRun, resumed]

omit h in
/-- The VERIFY move goes forward to the frontier limit up to L + G, and in reverse to 0 beyond it (R76, R77). -/
theorem grantVerify_towards {l : Nat} {d : Dir} {e : LimitKind} (frontier : s.frontierPos = some l)
    (way : s.trc.counter ≤ l + s.profile.gateOffset ∧ d = .forward ∧ e = .frontier ∨
      l + s.profile.gateOffset < s.trc.counter ∧ d = .reverse ∧ e = .zero) :
    grantVerify s = orderMove (openMove .verify d .index none)
      { s with rqt.grant := .verify, rqt.stopReason := .none, fit.verify := some ⟨d, e, false⟩ } := by
  unfold grantVerify
  rw [frontier]
  rcases way with ⟨near, rfl, rfl⟩ | ⟨far, rfl, rfl⟩
  · simp only [near, decide_true, if_true]
  · simp only [Nat.not_le.mpr far, decide_false, Bool.false_eq_true, if_false]

theorem resume_verifies_towards {l : Nat} {d : Dir} {e : LimitKind} (unverified : s.trc.verified = false)
    (anchor : ∃ e ∈ s.fit.entries, e.kind ≠ .filled) (frontier : s.frontierPos = some l)
    (way : s.trc.counter ≤ l + s.profile.gateOffset ∧ d = .forward ∧ e = .frontier ∨
      l + s.profile.gateOffset < s.trc.counter ∧ d = .reverse ∧ e = .zero) :
    ∃ t m, exec (.resume r) s = .next t ∧ t.rqt.grant = .verify ∧ t.rqt.records = s.rqt.records ∧
      t.rqt.run = s.rqt.run ∧ t.trc.verified = false ∧ t.trc.move = some m ∧ m.job = .verify ∧ m.speed = .index ∧
      m.dir = d ∧ t.fit.verify = some ⟨d, e, false⟩ ∧
      (s.trc.motion = .idle → t.trc.epoch = s.trc.epoch + 1) ∧
      (s.trc.motion = .parked → t.trc.motion = .waking ∧ t.trc.epoch = s.trc.epoch) := by
  have anchored : (resumedCtx r s).st.noAnchor = false := by
    obtain ⟨x, mem, kind⟩ := anchor
    rw [resumedCtx_st]
    simp only [State.noAnchor, Bool.not_eq_false', List.any_eq_true]
    exact ⟨x, mem, by simp [Entry.isAnchor, kind]⟩
  have runs := resume_examines h.takes h.port h.body h.loaded
  rw [examine_verifies h.opportunity h.clear (by simp [resumedCtx_st, unverified]) anchored] at runs
  generalize hw : (resumedCtx r s).upd grantVerify = w at runs
  generalize hu : ({ resumed s with rqt.grant := .verify, rqt.stopReason := .none, fit.verify := some ⟨d, e, false⟩ } : State) = u
  have st : w.st = orderMove (openMove .verify d .index none) u := by
    rw [← hw, upd_st, resumedCtx_st, ← hu]
    exact grantVerify_towards (s := resumed s) frontier way
  have trc : u.trc = s.trc := by rw [← hu]; rfl
  have kept : (releaseAll (requestEnv 15 r) (finish w)).rqt.grant = .verify ∧
      (releaseAll (requestEnv 15 r) (finish w)).rqt.records = s.rqt.records ∧ (releaseAll (requestEnv 15 r) (finish w)).rqt.run = s.rqt.run ∧
      (releaseAll (requestEnv 15 r) (finish w)).trc.verified = false ∧
      (releaseAll (requestEnv 15 r) (finish w)).fit.verify = some ⟨d, e, false⟩ := by
    simp [st, unverified, ← hu, resumed]
  obtain ⟨grant, records, run, verified, verify⟩ := kept
  rcases h.free with idle | parked
  · have begins : w.st = startMove (openMove .verify d .index none) u := by
      rw [st, orderMove_started (by rw [trc, idle]; decide)]
    obtain ⟨m, move, job, dir, speed, -⟩ := startMove_open (s := u) (m := openMove .verify d .index none) rfl rfl nofun
    obtain ⟨next, -⟩ := startMove_epoch (openMove .verify d .index none) u
    exact ⟨_, m, runs, grant, records, run, verified, by simp [begins, move], job, speed, dir, verify,
      fun _ => by simp [begins, next, trc], fun parked => absurd (idle.symm.trans parked) (by decide)⟩
  · obtain ⟨waking, move, -, epoch, -⟩ := orderMove_parked (s := u) (m := openMove .verify d .index none) (by rw [trc, parked])
    exact ⟨_, _, runs, grant, records, run, verified, by simp [st, move]; rfl, rfl, rfl, rfl, verify,
      fun idle => absurd (idle.symm.trans parked) (by decide), fun _ => ⟨by simp [st, waking], by simp [st, epoch, trc]⟩⟩

theorem resume_verifies {l : Nat} (unverified : s.trc.verified = false) (anchor : ∃ e ∈ s.fit.entries, e.kind ≠ .filled)
    (frontier : s.frontierPos = some l) :
    ∃ t m, exec (.resume r) s = .next t ∧ t.rqt.grant = .verify ∧ t.rqt.records = s.rqt.records ∧
      t.rqt.run = s.rqt.run ∧ t.trc.verified = false ∧ t.trc.move = some m ∧ m.job = .verify ∧ m.speed = .index ∧
      (s.trc.counter ≤ l + s.profile.gateOffset → m.dir = .forward ∧ t.fit.verify = some ⟨.forward, .frontier, false⟩) ∧
      (l + s.profile.gateOffset < s.trc.counter → m.dir = .reverse ∧ t.fit.verify = some ⟨.reverse, .zero, false⟩) ∧
      (s.trc.motion = .idle → t.trc.epoch = s.trc.epoch + 1) ∧
      (s.trc.motion = .parked → t.trc.motion = .waking ∧ t.trc.epoch = s.trc.epoch) := by
  by_cases near : s.trc.counter ≤ l + s.profile.gateOffset
  · obtain ⟨t, m, runs, grant, records, run, verified, move, job, speed, dir, verify, idle, parked⟩ :=
      resume_verifies_towards h unverified anchor frontier (.inl ⟨near, rfl, rfl⟩)
    exact ⟨t, m, runs, grant, records, run, verified, move, job, speed, fun _ => ⟨dir, verify⟩,
      fun far => absurd near (Nat.not_le.mpr far), idle, parked⟩
  · obtain ⟨t, m, runs, grant, records, run, verified, move, job, speed, dir, verify, idle, parked⟩ :=
      resume_verifies_towards h unverified anchor frontier (.inr ⟨Nat.not_le.mp near, rfl, rfl⟩)
    exact ⟨t, m, runs, grant, records, run, verified, move, job, speed, fun h => absurd h near, fun _ => ⟨dir, verify⟩, idle, parked⟩

theorem resume_anchorless (unverified : s.trc.verified = false) (filled : ∀ e ∈ s.fit.entries, e.kind = .filled)
    (records : s.rqt.records = []) (run : s.rqt.run = none) :
    ∃ t, exec (.resume r) s = .next t ∧ t.trc.verified = true ∧ t.ntu.levels.unverified = false ∧
      t.rqt.grant = .none ∧ t.trc.motion = s.trc.motion ∧ t.trc.epoch = s.trc.epoch ∧
      t.gtu.watches = s.gtu.watches := by
  have anchorless : (resumedCtx r s).st.noAnchor = true := by
    rw [resumedCtx_st]
    simp only [State.noAnchor, Bool.not_eq_true', List.any_eq_false]
    intro e he
    simp [Entry.isAnchor, filled e he]
  have idle : (setVerified 4 (resumedCtx r s)).st.workless :=
    ⟨by simp [resumedCtx_st, records], by simp [State.runWaits, resumedCtx_st, run]⟩
  have verifies : examine (resumedCtx r s) = setVerified 4 (resumedCtx r s) := by
    rw [examine_anchorless h.opportunity h.clear (by simp [resumedCtx_st, unverified]) anchorless]
    simp only [Ctx.upd, chooseWork_workless idle]
  refine ⟨_, resume_examines h.takes h.port h.body h.loaded, ?_⟩
  rw [verifies]
  simp [resumedCtx_st, setVerified, Levels.set, h.ungranted]

end

/-! ### Where a record seeks (R123) -/

theorem clampPos_int (s : State) (x : Int) : (s.clampPos x : Int) = max 0 (min ((s.trc.endPos.getD 4194303 : Nat) : Int) x) := by
  simp only [State.clampPos, State.posBound, Config.maxPosition]
  omega

end resume

/-- Settles O46: the opportunity clears nothing, and the arbiter's choice and the orders of its grant follow; a VERIFY move begins
before any choice. -/
theorem opportunityGrantsThePresent : Obligations.OpportunityGrantsThePresent := by
  refine ⟨fun r f tn cls mode hold s takes single length parsed tagFree free records run verified target =>
      present_indexed takes single length parsed tagFree free records run verified target,
    fun r f cls mode hold s takes single length parsed tagFree free idle records run verified beyond =>
      ⟨fun l => present_beyond_frontier takes single length parsed tagFree free idle records run verified beyond,
        present_first_frame takes single length parsed tagFree free idle records run verified beyond⟩,
    fun r s takes port body table grants loaded free phase exposure ungranted opened reach => ?_,
    fun r s => ⟨fun n mode hold t work target => ?_, fun n mode hold e work target estimate => ?_, fun d work => ?_⟩⟩
  · have h : s.Resumes r := ⟨takes, port, body, table, grants, loaded, free, phase, exposure, ungranted, opened, reach⟩
    exact ⟨fun x => resume_grants_run h, fun w => resume_grants_record h, fun l => resume_verifies h, resume_anchorless h⟩
  · simp only [State.seekTarget, work, target]
  · simp only [State.seekTarget, work, target, estimate]
    exact clampPos_int s _
  · simp only [State.seekTarget, work]
    exact clampPos_int s _

end Sys2Proof.Machine
end

section
/-! SUPPORT. A moving film: what keeps it moving, with its building flag, and what gives its move no stop order (R21, R24, R30, R63). -/

namespace Sys2Proof.Machine

/-- The film moves, and the building flag is the one before. -/
def State.runsOn (s t : State) : Prop := t.trc.motion.moving = true ∧ t.fit.building = s.fit.building

/-- No stop order is in force. -/
def State.unstopped (s : State) : Prop := ∀ m, s.trc.move = some m → m.ramp ≠ .stop

theorem State.runsOn.trans {s t u : State} (first : s.runsOn t) (next : t.runsOn u) : s.runsOn u :=
  ⟨next.1, next.2.trans first.2⟩

theorem setMotion_runsOn {x : Motion} (moves : x.moving = true) (s : State) : s.runsOn (setMotion x s) :=
  ⟨moves, by simp [setMotion, moves]⟩

theorem creepPhase_runsOn (t : Nat) (s : State) : s.runsOn (creepPhase t s) := by
  unfold creepPhase
  split <;> exact setMotion_runsOn rfl s

theorem State.unstopped.of_same {s t : State} (unstopped : s.unstopped) (same : t.trc.move = s.trc.move) : t.unstopped := by
  unfold State.unstopped
  rwa [same]

theorem unstopped_of_move {s : State} {m : Move} (move : s.trc.move = some m) (ramp : m.ramp ≠ .stop) : s.unstopped := by
  intro n moved
  rw [move] at moved
  cases moved
  exact ramp

/-! ### Progress along a leg (R24) -/

section progress
variable {m : Move} {s : State} (moving : s.trc.motion.moving = true)
include moving

theorem runsOn_refl : s.runsOn s := ⟨moving, rfl⟩

theorem progressTo_runsOn (e : Nat) : s.runsOn (progressTo m e s) := by
  unfold progressTo
  split
  · exact runsOn_refl moving
  · split
    · exact setMotion_runsOn rfl s
    · split
      · exact setMotion_runsOn rfl s
      · exact runsOn_refl moving

theorem progressChange_runsOn (cp : Nat) (second : SpeedClass) : s.runsOn (progressChange m cp second s) := by
  unfold progressChange
  dsimp only
  split
  · split <;> exact setMotion_runsOn rfl s
  · split
    · exact setMotion_runsOn rfl s
    · split
      · exact setMotion_runsOn rfl s
      · exact runsOn_refl moving

theorem progressOpen_runsOn : s.runsOn (progressOpen m s) := by
  unfold progressOpen
  extract_lets room u
  split
  · exact setMotion_runsOn rfl s
  · split
    · exact progressChange_runsOn moving _ _
    · split
      · exact setMotion_runsOn rfl s
      · exact runsOn_refl moving

theorem leaveDecel_runsOn (cls : SpeedClass) : s.runsOn (leaveDecel cls s) := by
  unfold leaveDecel
  split
  · split <;> exact setMotion_runsOn rfl s
  · exact runsOn_refl moving

theorem rephase_runsOn (e : Nat) : s.runsOn (rephase m e s) := by
  unfold rephase
  split
  · exact leaveDecel_runsOn moving _
  · exact setMotion_runsOn rfl s

theorem rephaseOpen_runsOn : s.runsOn (rephaseOpen m s) := by
  have left := leaveDecel_runsOn moving m.legSpeed
  exact left.trans (progressOpen_runsOn (s := { leaveDecel m.legSpeed s with trc.move := some { m with ramp := .none } }) left.1)

theorem retargetTravel_runsOn : s.runsOn (retargetTravel m s) := by
  unfold retargetTravel
  extract_lets a c ahead n u
  split
  · exact rephase_runsOn (s := { s with trc.move := some n }) moving a
  · exact setMotion_runsOn rfl s

omit moving in
theorem retargetCreep_runsOn : s.runsOn (retargetCreep m s) := by
  unfold retargetCreep
  split
  · exact creepPhase_runsOn _ _
  · exact setMotion_runsOn rfl s

theorem progress_runsOn : s.runsOn (progress s) := by
  unfold progress
  split
  · exact runsOn_refl moving
  · split
    · exact runsOn_refl moving
    · split
      · split
        · exact setMotion_runsOn rfl s
        · exact runsOn_refl moving
      · split
        · exact progressTo_runsOn moving _
        · exact progressTo_runsOn moving _
        · exact progressTo_runsOn moving _
        · exact progressOpen_runsOn moving
        · exact progressOpen_runsOn moving
        · split
          · exact setMotion_runsOn rfl s
          · exact runsOn_refl moving

theorem rephaseLeg_runsOn (raised : Bool) : s.runsOn (rephaseLeg raised s) := by
  unfold rephaseLeg
  split
  · exact runsOn_refl moving
  · split
    · exact runsOn_refl moving
    · split
      · unfold rephaseCreep
        split
        · exact retargetCreep_runsOn
        · exact creepPhase_runsOn _ _
      · split
        · exact rephase_runsOn moving _
        · exact rephase_runsOn moving _
        · exact rephase_runsOn moving _
        · exact rephaseOpen_runsOn moving
        · exact rephaseOpen_runsOn moving
        · exact runsOn_refl moving

theorem applyCorrection_runsOn (d : Int) : s.runsOn (applyCorrection d s) := by
  unfold applyCorrection
  exact ⟨(rephaseLeg_runsOn (by exact moving) _).1, (rephaseLeg_runsOn (by exact moving) _).2⟩

theorem retarget_runsOn (job : Job) (t : Nat) : s.runsOn (retarget job t s) := by
  unfold retarget
  split
  · exact runsOn_refl moving
  · extract_lets t' n
    split
    · exact runsOn_refl moving
    · split
      · exact ⟨moving, rfl⟩
      · split
        · rename_i settling
          simp [settling, Motion.moving] at moving
        case _ | _ | _ | _ =>
          split
          · exact ⟨moving, rfl⟩
          · split
            · exact retargetCreep_runsOn
            · exact retargetTravel_runsOn moving
        all_goals exact ⟨moving, rfl⟩

end progress

/-! ### Stop orders of a moving film (R31) -/

section stops
variable {w : Ctx} (moving : w.st.trc.motion.moving = true)
include moving

/-- A stop order finds no move to stop, or begins the ramp of the one in flight. -/
theorem orderStop_cases (r : StopReason) : orderStop r w = w ∨ ∃ m, orderStop r w = w.upd (rampToStop m r) := by
  cases move : w.st.trc.move with
  | none => exact .inl (by simp only [orderStop, move])
  | some m =>
    by_cases stopped : m.ramp = .stop
    · exact .inl (by simp only [orderStop, move, if_pos stopped])
    · exact .inr ⟨m, orderStop_moving move stopped moving r⟩

theorem orderStop_runsOn (r : StopReason) : w.st.runsOn (orderStop r w).st := by
  rcases orderStop_cases moving r with same | ⟨m, ramps⟩
  · simpa only [same] using runsOn_refl moving
  · rw [ramps]
    exact ⟨by simp [Motion.moving], by simp⟩

theorem orderStop_speed (r : StopReason) : (orderStop r w).st.trc.speed = w.st.trc.speed := by
  rcases orderStop_cases moving r with same | ⟨m, ramps⟩
  · rw [same]
  · simp [ramps]

theorem preempt_runsOn : w.st.runsOn (preempt w).st := by
  unfold preempt
  split
  · split
    · split
      · exact orderStop_runsOn moving _
      · exact runsOn_refl moving
    · exact runsOn_refl moving
  · exact runsOn_refl moving
  · exact runsOn_refl moving
  · exact runsOn_refl moving

theorem announce_runsOn (lo hi : Nat) : w.st.runsOn (announce lo hi w).st := by
  unfold announce
  split
  · split
    · exact runsOn_refl moving
    · split
      · split
        · exact retarget_runsOn moving _ _
        · exact runsOn_refl moving
      · exact preempt_runsOn moving
  · exact runsOn_refl moving

/-- A completion before a stop order leaves the film to it. -/
theorem orderStop_after_runsOn {v : Ctx} (motion : v.st.trc.motion = w.st.trc.motion) (building : v.st.fit.building = w.st.fit.building)
    (r : StopReason) : w.st.runsOn (orderStop r v).st :=
  State.runsOn.trans (t := v.st) ⟨by rwa [motion], building⟩ (orderStop_runsOn (by rwa [motion]) r)

theorem forwardLost_runsOn (o : OutcomeCode) : w.st.runsOn (forwardLost o w).st := by
  unfold forwardLost
  split
  · split
    · exact runsOn_refl moving
    · split
      · exact orderStop_after_runsOn moving (by simp) (by simp) _
      · split
        · exact runsOn_refl moving
        · exact orderStop_after_runsOn moving (by simp) (by simp) _
      · exact runsOn_refl moving
      · exact runsOn_refl moving
  · exact runsOn_refl moving

/-- A position that becomes unverified stops no film at once. -/
theorem becomeUnverified_moves (reason : Byte) :
    (becomeUnverified reason w).st.trc.motion.moving = true ∧ (becomeUnverified reason w).st.trc.speed = w.st.trc.speed := by
  unfold becomeUnverified
  split
  · generalize lost : setLevel .unverified true _ _ = v
    have moving' : v.st.trc.motion.moving = true := by simp [← lost, moving]
    have speed : v.st.trc.speed = w.st.trc.speed := by simp [← lost]
    have stops : (orderStop .unverified v).st.trc.motion.moving = true ∧ (orderStop .unverified v).st.trc.speed = w.st.trc.speed :=
      ⟨(orderStop_runsOn moving' _).1, (orderStop_speed moving' _).trans speed⟩
    unfold unverifiedGrant
    split
    · exact ⟨moving', speed⟩
    · exact ⟨moving', speed⟩
    case _ | _ =>
      split
      · simp [moving', speed]
      · split
        · split
          case _ | _ | _ => exact stops
          case _ | _ | _ => exact ⟨moving', speed⟩
        · exact ⟨moving', speed⟩
  · exact ⟨moving, rfl⟩

theorem frontierLimit_runsOn (d : Dir) (tallied : Bool) : w.st.runsOn (frontierLimit d tallied w).st := by
  unfold frontierLimit
  dsimp only
  split
  · split
    · exact orderStop_runsOn moving _
    · exact runsOn_refl moving
  · exact runsOn_refl moving

end stops

/-! ### What gives no stop order -/

section unstopped
variable {m : Move} {s : State} (unstopped : s.unstopped)
include unstopped

theorem progressTo_unstopped (e : Nat) : (progressTo m e s).unstopped := by
  unfold progressTo
  split
  · exact unstopped
  · split
    · exact unstopped
    · split <;> exact unstopped

theorem progressChange_unstopped (ramp : m.ramp ≠ .stop) (cp : Nat) (second : SpeedClass) : (progressChange m cp second s).unstopped := by
  unfold progressChange
  dsimp only
  split
  · exact unstopped_of_move rfl ramp
  · split
    · exact unstopped
    · split <;> exact unstopped

theorem progressOpen_unstopped (ramp : m.ramp ≠ .stop) : (progressOpen m s).unstopped := by
  unfold progressOpen
  extract_lets room u
  split
  · exact unstopped_of_move rfl nofun
  · split
    · exact progressChange_unstopped unstopped ramp _ _
    · split <;> exact unstopped

theorem progress_unstopped : (progress s).unstopped := by
  unfold progress
  split
  · exact unstopped
  · rename_i m move
    split
    · exact unstopped
    · split
      · split <;> exact unstopped
      · split
        · exact progressTo_unstopped unstopped _
        · exact progressTo_unstopped unstopped _
        · exact progressTo_unstopped unstopped _
        · exact progressOpen_unstopped unstopped (unstopped m move)
        · exact progressOpen_unstopped unstopped (unstopped m move)
        · split <;> exact unstopped

theorem rephase_unstopped (e : Nat) : (rephase m e s).unstopped := by
  unfold rephase leaveDecel
  split
  · split <;> exact unstopped
  · exact unstopped

omit unstopped in
theorem rephaseOpen_unstopped : (rephaseOpen m s).unstopped :=
  progressOpen_unstopped (unstopped_of_move rfl nofun) nofun

theorem rephaseCreep_unstopped (raised : Bool) (move : s.trc.move = some m) : (rephaseCreep raised m s).unstopped := by
  have ramp := unstopped m move
  unfold rephaseCreep retargetCreep
  split
  · split
    · exact unstopped_of_move rfl ramp
    · exact unstopped_of_move rfl nofun
  · exact unstopped

theorem rephaseLeg_unstopped (raised : Bool) : (rephaseLeg raised s).unstopped := by
  unfold rephaseLeg
  split
  · exact unstopped
  · rename_i m move
    split
    · exact unstopped
    · split
      · exact rephaseCreep_unstopped unstopped _ move
      · split
        · exact rephase_unstopped unstopped _
        · exact rephase_unstopped unstopped _
        · exact rephase_unstopped unstopped _
        · exact rephaseOpen_unstopped
        · exact rephaseOpen_unstopped
        · exact unstopped

theorem applyCorrection_unstopped (d : Int) : (applyCorrection d s).unstopped := by
  unfold applyCorrection
  exact rephaseLeg_unstopped (by exact unstopped) _

end unstopped

end Sys2Proof.Machine
end

section
/-! SUPPORT. A count of a moving film: how a mark begins, and the frontier limit (R46, R47, R77). -/

namespace Sys2Proof.Machine

/-! ### The count before the marks -/

/-- The part after a count and what it makes of the building flag and of the position, before the move and the marks. -/
def counted (d : Dir) (x : Sample) (s : State) : Ctx :=
  let c := countStep d (takeReading x s)
  let w := (Ctx.start c.1).upd (countBuilding d c.2.tallied)
  if c.2.lost ∧ w.st.trc.roll = .loaded then becomeUnverified 2 w else w

/-- Whether a count is tallied. -/
def tallies (d : Dir) (x : Sample) (s : State) : Bool := (countStep d (takeReading x s)).2.tallied

theorem exec_encoderCount_counted {d : Dir} {x : Sample} {s : State} (held : s.resetHeld = false) (loaded : s.trc.roll = .loaded) :
    exec (.encoderCount d x) s =
      .next (finish (examine (checkRewindEnd (frontierLimit d (tallies d x s)
        (countMark d (tallies d x s) ((counted d x s).upd progress)))))) := by
  rw [exec_encoderCount, onEncoderCount, if_neg (by simp [held]), if_neg (by simp [loaded])]
  rfl

/-- A count is tallied if and only if it moves the counter (R22, R23). -/
theorem countStep_tallied (d : Dir) (s : State) : (countStep d s).2.tallied = decide ((countStep d s).1.trc.counter ≠ s.trc.counter) := by
  cases d with
  | forward =>
    unfold countStep
    dsimp only
    split <;> split <;> simp
  | reverse =>
    unfold countStep
    dsimp only
    split
    · simp
    · split
      · simp only [ne_eq]
        rw [eq_comm, decide_eq_true_eq]
        omega
      · simp

@[simp] theorem takeReading_level (x : Sample) (s : State) :
    (takeReading x s).level = (if s.profile.track = 0 then x.track0 else x.track1).toNat := by
  simp only [State.level, State.selectedTrack, State.profile, takeReading]
  exact (apply_ite BitVec.toNat _ _ _).symm

section counts
variable {d : Dir} {x : Sample} {s : State}

theorem counted_counter : (counted d x s).st.trc.counter = (countStep d (takeReading x s)).1.trc.counter := by
  unfold counted
  dsimp only
  split <;> simp

theorem counted_tallies : tallies d x s = decide ((counted d x s).st.trc.counter ≠ s.trc.counter) := by
  rw [counted_counter, tallies, countStep_tallied]
  simp

theorem counted_keeps : (counted d x s).st.mkd = s.mkd ∧ (counted d x s).st.trc.profile = s.trc.profile ∧
    (counted d x s).st.pins = (takeReading x s).pins ∧ (counted d x s).st.trc.roll = s.trc.roll := by
  unfold counted
  dsimp only
  split <;> simp

theorem counted_moves (moving : s.trc.motion.moving = true) :
    (counted d x s).st.trc.motion.moving = true ∧ (counted d x s).st.trc.speed = x.speed := by
  have read : (takeReading x s).trc.speed = x.speed := rfl
  unfold counted
  extract_lets c w
  have moving' : w.st.trc.motion.moving = true := by simp [w, c, moving]
  have speed : w.st.trc.speed = x.speed := by simp [w, c, read]
  split
  · obtain ⟨moves, same⟩ := becomeUnverified_moves moving' 2
    exact ⟨moves, same.trans speed⟩
  · exact ⟨moving', speed⟩

end counts

/-! ### The end of a count -/

/-- After the marks a count of a moving film with a roll LOADED has only the frontier limit to look at. -/
theorem count_ends {w : Ctx} (loaded : w.st.trc.roll = .loaded) (moving : w.st.trc.motion.moving = true) (d : Dir) (tallied : Bool) :
    finish (examine (checkRewindEnd (frontierLimit d tallied w))) = finish (frontierLimit d tallied w) := by
  have moves := (frontierLimit_runsOn moving d tallied).1
  rw [checkRewindEnd_loaded (by simpa using loaded), examine_none (opportunity_busy ?_)]
  rcases (moving_iff _).mp moves with h | h | h | h <;> simp [h, Motion.free]

/-! ### A mark begins (R46, R47) -/

/-- The mark that begins with the sample just taken. -/
def newMark (d : Dir) (tallied : Bool) (s : State) : Mark :=
  { first := s.trc.counter, dir := d, peak := s.level, fast := decide (s.profile.indexSpeed < s.trc.speed),
    untallied := !tallied, building := s.fit.building }

theorem countMark_above {w : Ctx} (armed : w.st.mkd = .armed) (above : w.st.profile.markOn ≤ w.st.level) (d : Dir) (tallied : Bool) :
    countMark d tallied w = w.upd fun s => { s with mkd := .inMark (newMark d tallied s) } := by
  simp only [countMark, sampleMark, armed, if_pos above]
  rfl

theorem armed_counts {s : State} (d : Dir) (x : Sample) (held : s.resetHeld = false) (loaded : s.trc.roll = .loaded) (armed : s.mkd = .armed)
    (moving : s.trc.motion.moving = true) :
    ∃ t, exec (.encoderCount d x) s = .next t ∧
      (s.profile.markOn ≤ (if s.profile.track = 0 then x.track0 else x.track1).toNat →
        t.mkd = .inMark
          { first := t.trc.counter
            dir := d
            peak := (if s.profile.track = 0 then x.track0 else x.track1).toNat
            fast := decide (s.profile.indexSpeed < x.speed)
            untallied := decide (t.trc.counter = s.trc.counter)
            building := t.fit.building }) ∧
      ((if s.profile.track = 0 then x.track0 else x.track1).toNat < s.profile.markOn → t.mkd = .armed) := by
  obtain ⟨mkd, profile, pins, roll⟩ := counted_keeps (d := d) (x := x) (s := s)
  obtain ⟨moves, speed⟩ := counted_moves (d := d) (x := x) moving
  have tallied := counted_tallies (d := d) (x := x) (s := s)
  rw [exec_encoderCount_counted held loaded]
  generalize after : (counted d x s).upd progress = w
  have runs : w.st.trc.motion.moving = true := by
    rw [← after]
    exact (progress_runsOn moves).1
  have armed' : w.st.mkd = .armed := by simp [← after, mkd, armed]
  have profile' : w.st.profile = s.profile := by simp [← after, State.profile, profile]
  have level : w.st.level = (if s.profile.track = 0 then x.track0 else x.track1).toNat := by
    rw [← takeReading_level]
    simp [← after, State.level, State.selectedTrack, State.profile, profile, pins]
  have loaded' : w.st.trc.roll = .loaded := by simp [← after, roll, loaded]
  have speed' : w.st.trc.speed = x.speed := by simp [← after, speed]
  have tallied' : (!tallies d x s) = decide (w.st.trc.counter = s.trc.counter) := by simp [tallied, ← after]
  by_cases above : s.profile.markOn ≤ (if s.profile.track = 0 then x.track0 else x.track1).toNat
  · rw [countMark_above armed' (by rwa [profile', level])]
    generalize begins : w.upd _ = v
    have mark : v.st.mkd = .inMark (newMark d (tallies d x s) w.st) := by simp [← begins]
    have runs' : v.st.trc.motion.moving = true := by simp [← begins, runs]
    obtain ⟨-, building⟩ := frontierLimit_runsOn runs' d (tallies d x s)
    rw [count_ends (by simp [← begins, loaded']) runs']
    refine ⟨_, rfl, fun _ => ?_, fun below => absurd above (by omega)⟩
    have counter : v.st.trc.counter = w.st.trc.counter := by simp [← begins]
    have flag : v.st.fit.building = w.st.fit.building := by simp [← begins]
    simp [mark, newMark, building, counter, flag, profile', level, speed', tallied']
  · rw [countMark_below armed' (by rw [profile', level]; omega), count_ends loaded' runs]
    exact ⟨_, rfl, fun more => absurd more above, fun _ => by simp [armed']⟩

/-! ### The frontier limit (R77) -/

theorem verify_meets_limit {v : Verify} {m : Move} {l : Nat} {x : Sample} {s : State} (held : s.resetHeld = false)
    (loaded : s.trc.roll = .loaded) (armed : s.mkd = .armed)
    (below : (if s.profile.track = 0 then x.track0 else x.track1).toNat < s.profile.markOn) (verify : s.fit.verify = some v)
    (limit : v.limit = .frontier) (hit : v.hit = false) (frontier : s.frontierPos = some l) (move : s.trc.move = some m)
    (ramp : m.ramp ≠ .stop) (job : m.job = .verify) (moving : s.trc.motion.moving = true) (endless : s.trc.endPos = none)
    (room : s.trc.counter < 4194303)
    (past : (s.fit.p256 : Int) < 128 * ((s.trc.counter : Int) + 1 - l - (s.profile.gateOffset : Int))) :
    ∃ t n, exec (.encoderCount .forward x) s = .next t ∧ t.trc.motion = .decel ∧ t.trc.move = some n ∧ n.ramp = .stop ∧
      t.rqt.stopReason = .limit ∧ t.trc.verified = s.trc.verified ∧ t.fit.verify = some v := by
  rw [exec_encoderCount_tallied held loaded endless room]
  generalize after : (Ctx.start (tallied x s)).upd progress = w
  have runs : w.st.trc.motion.moving = true := by
    rw [← after]
    exact (progress_runsOn (s := tallied x s) (by simpa using moving)).1
  have unstopped : w.st.unstopped := by
    rw [← after]
    exact progress_unstopped (unstopped_of_move (m := m) (by simpa using move) ramp)
  obtain ⟨n, moves, -⟩ : ∃ n, w.st.trc.move = some n ∧ n.job = .verify := by
    have same : w.st.job = some .verify := by
      rw [← after, ← job]
      exact (progress_job (tallied x s)).trans (job_of_move (by simpa using move))
    simpa [State.job] using same
  have armed' : w.st.mkd = .armed := by simp [← after, armed]
  have below' : w.st.level < w.st.profile.markOn := by
    have read : (tallied x s).level < (tallied x s).profile.markOn := by simpa using below
    simpa [← after, State.level, State.selectedTrack, State.profile] using read
  have loaded' : w.st.trc.roll = .loaded := by simp [← after, loaded]
  have verify' : w.st.fit.verify = some v := by simp [← after, verify]
  have frontier' : w.st.frontierPos = some l := by
    simpa [← after, State.frontierPos] using frontier
  have passed : (w.st.fit.p256 : Int) < 128 * ((w.st.trc.counter : Int) - l - (w.st.profile.gateOffset : Int)) := by
    have profile : (tallied x s).profile = s.profile := by simp
    have same : w.st.profile = s.profile := by simp [← after, State.profile]
    have counter : w.st.trc.counter = s.trc.counter + 1 := by simp [← after]
    have p256 : w.st.fit.p256 = s.fit.p256 := by simp [← after]
    rw [same, counter, p256]
    simpa using past
  have stops : frontierLimit .forward true w = w.upd (rampToStop n .limit) := by
    rw [← orderStop_moving moves (unstopped n moves) runs]
    simp only [frontierLimit, verify', frontier']
    exact if_pos ⟨trivial, trivial, limit, hit, passed⟩
  rw [countMark_below armed' below', count_ends loaded' runs, stops]
  exact ⟨_, { n with ramp := .stop }, rfl, by simp, by simp, rfl, by simp, by simp [← after], by simp [verify']⟩

end Sys2Proof.Machine
end

section
/-! SUPPORT. The entries that a sighting builds: frame 0, and the frames of a gap (R49, R50, R55, R59, R61, R62). -/

namespace Sys2Proof.Machine

/-! ### The entries that are made (R62 to R64) -/

theorem spliceFirst_getElem? (pending : Bool) (l : List Entry) (n : Nat) :
    (spliceFirst pending l)[n]? = l[n]?.map fun e => { e with spliceBefore := e.spliceBefore || (decide (n = 0) && pending) } := by
  cases l with
  | nil => rfl
  | cons e rest =>
    cases n with
    | zero => cases pending <;> simp [spliceFirst]
    | succ n => simp [spliceFirst]

theorem spliceFirst_length (pending : Bool) (l : List Entry) : (spliceFirst pending l).length = l.length := by
  cases l <;> rfl

theorem spliceFirst_append (pending : Bool) {l : List Entry} (some' : l ≠ []) (k : List Entry) :
    spliceFirst pending (l ++ k) = spliceFirst pending l ++ k := by
  cases l with
  | nil => exact absurd rfl some'
  | cons e rest => rfl

section made
variable {new : List Entry} {p256 : Nat} {s : State}

theorem makeEntries_entries (new : List Entry) (p256 : Nat) (s : State) :
    (makeEntries new p256 s).fit.entries =
      s.fit.entries ++ spliceFirst s.fit.splice (new.take (16384 - s.fit.entries.length)) := by
  simp only [makeEntries]
  split <;> simp [Config.maxEntries]

theorem makeEntries_length (new : List Entry) (p256 : Nat) (s : State) : (makeEntries new p256 s).fit.entries.length =
    s.fit.entries.length + min (16384 - s.fit.entries.length) new.length := by
  rw [makeEntries_entries, List.length_append, spliceFirst_length, List.length_take]

theorem makeEntries_building (new : List Entry) (p256 : Nat) (s : State) : (makeEntries new p256 s).fit.building =
    (s.fit.building && !decide (16384 ≤ (makeEntries new p256 s).fit.entries.length)) := by
  simp only [makeEntries]
  split <;> simp [Config.maxEntries]

/-- The pending splice goes to the first entry that is made. -/
theorem makeEntries_splice (some' : new ≠ []) (room : s.fit.entries.length < 16384) : (makeEntries new p256 s).fit.splice = false := by
  have made : (new.take (16384 - s.fit.entries.length)).isEmpty = false := by
    obtain ⟨e, rest, rfl⟩ := List.exists_cons_of_ne_nil some'
    obtain ⟨n, count⟩ := Nat.exists_eq_add_of_lt room
    have more : 16384 - s.fit.entries.length = n + 1 := by omega
    rw [more]
    rfl
  have left : (makeEntries new p256 s).fit.splice = (s.fit.splice && (new.take (16384 - s.fit.entries.length)).isEmpty) := by
    simp only [makeEntries]
    split <;> simp [Config.maxEntries]
  rw [left, made, Bool.and_false]

/-- Entries that run past the last frame move no estimate. -/
theorem makeEntries_cut (room : s.fit.entries.length < 16384) (past : 16384 < s.fit.entries.length + new.length) : (makeEntries new p256 s).fit.p256 = s.fit.p256 := by
  have cut : (new.take (16384 - s.fit.entries.length)).length ≠ new.length := by
    rw [List.length_take]
    omega
  have cut' : (new.take (Config.maxEntries - s.fit.entries.length)).length ≠ new.length := cut
  simp only [makeEntries, if_neg cut']
  split <;> simp

end made

/-! ### What follows on them (R62, R63) -/

section built
variable {w : Ctx} {new : List Entry} {p256 : Nat}

theorem buildEntries_runsOn (moving : w.st.trc.motion.moving = true) (new : List Entry) (p256 : Nat) :
    (makeEntries new p256 w.st).runsOn (buildEntries new p256 w).st := by
  have moving' : (makeEntries new p256 w.st).trc.motion.moving = true := by simp [moving]
  unfold buildEntries
  extract_lets lo u count hi v x
  have announced : u.st.runsOn v.st := announce_runsOn moving' lo hi
  have noticed : u.st.runsOn x.st := by
    unfold x
    split
    · simpa using announced
    · exact announced
  split
  · exact runsOn_refl moving'
  · split
    · have lost := forwardLost_runsOn (w := pulseAll .indexClosed ([1] ++ be 2 hi) x) (by rw [pulseAll_st]; exact noticed.1) .outOfIndex
      rw [pulseAll_st] at lost
      exact noticed.trans lost
    · exact noticed

theorem buildEntries_index : (buildEntries new p256 w).st.fit.index =
    if 16384 ≤ (makeEntries new p256 w.st).fit.entries.length then .full else .opened := by
  obtain ⟨-, index, -⟩ := buildEntries_same (w := w) new p256
  rw [index, makeEntries_index]

/-- The entry that fills the index is announced on every port. -/
theorem buildEntries_closes (room : w.st.fit.entries.length < 16384) (fills : 16384 ≤ w.st.fit.entries.length + new.length) (p : Port) :
    (⟨.indexClosed, p, pad8 [1, 63, 255]⟩ : Occ) ∈ (buildEntries new p256 w).occs := by
  have length := makeEntries_length new p256 w.st
  have all : (makeEntries new p256 w.st).fit.entries.length = 16384 := by omega
  have full : (makeEntries new p256 w.st).fit.index = .full := by
    rw [makeEntries_index, if_pos (by omega)]
  unfold buildEntries
  simp only [Ctx.upd, all, full, if_pos]
  rw [if_neg (by omega)]
  refine (forwardLost_grows (loud := []) _ _).mem_occs ?_
  cases p <;> simp [pulseAll, be]

end built

/-! ### A gap (R59, R61, R62) -/

/-- The entries of a gap of `k` frames from `l` on: the filled ones, and the one at the mark. -/
def gapEntries (mode : Rounding) (l k : Nat) (i : Int) (centre : Nat) (weak : Bool) : List Entry :=
  (List.range (k - 1)).map (fun j : Nat => filledEntry ((l : Int) + roundQuot mode (((j : Int) + 1) * i) (k : Int)).toNat) ++
    [observedEntry centre weak false]

theorem buildSighting_gap {g : Sighting} {l k : Nat} {i : Int} {w : Ctx} (frontier : w.st.frontierPos = some l)
    (interval : i = (g.centre : Int) - l) (estimate : 0 < w.st.fit.p256) (gap : 3 * (w.st.fit.p256 : Int) < 512 * i)
    (frames : (k : Int) = roundQuot w.st.profile.rounding (256 * i) (w.st.fit.p256 : Int)) (few : k ≤ 16) :
    buildSighting g w = buildEntries (gapEntries w.st.profile.rounding l k i g.centre g.weak)
      (clampP256 w.st.profile ((w.st.fit.p256 : Int) +
        roundQuot w.st.profile.rounding (256 * i - (k : Int) * (w.st.fit.p256 : Int)) (8 * (k : Int)))) w := by
  subst interval
  simp only [buildSighting, frontier, ← frames, Int.toNat_natCast]
  rw [if_neg (by omega), if_neg (by omega), if_pos few]
  simp [gapEntries, ← List.map_eq_flatMap, Function.comp_def]

section gaps
variable {mode : Rounding} {l k : Nat} {i : Int} {centre : Nat} {weak : Bool}

theorem gapEntries_length (two : 2 ≤ k) : (gapEntries mode l k i centre weak).length = k := by
  simp only [gapEntries, List.length_append, List.length_map, List.length_range, List.length_singleton]
  omega

theorem gapEntries_filled {j : Nat} (one : 1 ≤ j) (before : j < k) : (gapEntries mode l k i centre weak)[j - 1]? =
    some ⟨((l : Int) + roundQuot mode ((j : Int) * i) (k : Int)).toNat, .filled, false, false, false, false, false⟩ := by
  have place : ((j - 1 : Nat) : Int) + 1 = j := by omega
  rw [gapEntries, List.getElem?_append_left (by simp; omega)]
  simp [show j - 1 < k - 1 by omega, filledEntry, place]

theorem gapEntries_fills (two : 2 ≤ k) :
    (List.range (k - 1)).map (fun j : Nat => filledEntry ((l : Int) + roundQuot mode (((j : Int) + 1) * i) (k : Int)).toNat) ≠ [] := by
  simp
  omega

end gaps

theorem gap_builds {g : Sighting} {l k : Nat} {i : Int} {s : State} (frontier : s.frontierPos = some l)
    (interval : i = (g.centre : Int) - l) (estimate : 0 < s.fit.p256) (gap : 3 * (s.fit.p256 : Int) < 512 * i)
    (frames : (k : Int) = roundQuot s.profile.rounding (256 * i) (s.fit.p256 : Int)) (few : k ≤ 16)
    (room : s.fit.entries.length < 16384) (moving : s.trc.motion.moving = true) :
    ∃ w t, buildSighting g (Ctx.start s) = w ∧ w.st = t ∧ t.trc.counter = s.trc.counter ∧ t.fit.splice = false ∧
      t.fit.entries.take s.fit.entries.length = s.fit.entries ∧
      (∀ j, 1 ≤ j → j < k → s.fit.entries.length + j ≤ 16384 →
        t.fit.entries[s.fit.entries.length + j - 1]? =
          some ⟨((l : Int) + roundQuot s.profile.rounding ((j : Int) * i) (k : Int)).toNat, .filled, false, false,
            decide (j = 1) && s.fit.splice, false, false⟩) ∧
      (s.fit.entries.length + k ≤ 16384 →
        t.fit.entries.length = s.fit.entries.length + k ∧
        t.fit.entries.getLast? = some ⟨g.centre, .observed, g.weak, false, false, false, false⟩ ∧
        t.fit.p256 =
          clampNat (256 * s.profile.pitchMin) (256 * s.profile.pitchMax)
            ((s.fit.p256 : Int) +
              roundQuot s.profile.rounding (256 * i - (k : Int) * (s.fit.p256 : Int)) (8 * (k : Int))).toNat) ∧
      (16384 < s.fit.entries.length + k → t.fit.entries.length = 16384 ∧ t.fit.p256 = s.fit.p256) ∧
      (16384 ≤ s.fit.entries.length + k → t.fit.index = .full ∧ t.fit.building = false ∧
        ∀ p, (⟨.indexClosed, p, pad8 [1, 63, 255]⟩ : Occ) ∈ w.occs) ∧
      (s.fit.entries.length + k < 16384 → t.fit.index = .opened ∧ t.fit.building = s.fit.building) := by
  have two : 2 ≤ k := by
    have two' := two_le_frames (mode := s.profile.rounding) (i := i) (est := s.fit.p256) (by omega) gap
    omega
  rw [buildSighting_gap (w := Ctx.start s) frontier interval estimate gap frames few]
  generalize new' : gapEntries _ _ _ _ _ _ = new
  generalize est : clampP256 _ _ = p256
  have count : new.length = k := by rw [← new', gapEntries_length two]
  have nonempty : new ≠ [] := List.ne_nil_of_length_pos (by omega)
  obtain ⟨entries, updated, splice⟩ := buildEntries_fit new p256 (Ctx.start s)
  have made := makeEntries_entries new p256 s
  have length := makeEntries_length new p256 s
  have index := buildEntries_index (w := Ctx.start s) (new := new) (p256 := p256)
  obtain ⟨-, building⟩ := buildEntries_runsOn (w := Ctx.start s) moving new p256
  have flag := makeEntries_building new p256 s
  refine ⟨_, _, rfl, rfl, by simp, splice.trans (makeEntries_splice nonempty room), ?_, fun j one before inside => ?_, fun fits => ?_,
    fun past => ?_, fun fills => ?_, fun fits => ?_⟩
  · rw [entries, start_st, made, List.take_left]
  · rw [entries, start_st, made, List.getElem?_append_right (by omega), show s.fit.entries.length + j - 1 - s.fit.entries.length = j - 1 by omega,
      spliceFirst_getElem?, List.getElem?_take_of_lt (by omega), ← new', gapEntries_filled one before]
    simp [show j - 1 = 0 ↔ j = 1 by omega]
  · obtain ⟨all, estimate', -⟩ := makeEntries_of_room (new := new) (s := s) p256 (by simpa [count, Config.maxEntries] using fits)
    have last : (makeEntries new p256 s).fit.entries.getLast? = some (observedEntry g.centre g.weak false) := by
      rw [all, ← new', gapEntries, spliceFirst_append _ (gapEntries_fills two), ← List.append_assoc, List.getLast?_concat]
    refine ⟨by rw [entries, start_st, length]; omega, by rw [entries]; exact last, ?_⟩
    rw [updated, start_st, estimate', ← est]
    rfl
  · exact ⟨by rw [entries, start_st, length]; omega, updated.trans (makeEntries_cut room (by rw [start_st]; omega))⟩
  · refine ⟨by rw [index, if_pos (by rw [start_st, length]; omega)], ?_, buildEntries_closes room (by rw [start_st, count]; exact fills)⟩
    rw [building, start_st, flag]
    simp [length]
    omega
  · refine ⟨by rw [index, if_neg (by rw [start_st, length]; omega)], ?_⟩
    rw [building, start_st, flag]
    simp [length]
    omega

end Sys2Proof.Machine
end

section
/-! SUPPORT. The mark that makes frame 0 (R48 to R50, R55). -/

namespace Sys2Proof.Machine

/-- The sighting of a usable forward mark that ends at `c` (R49, R50). -/
def forwardSighting (p : Profile) (m : Mark) (c : Nat) : Sighting :=
  ⟨(roundQuot p.rounding ((m.first + c : Nat) : Int) 2).toNat, c - m.first, m.peak, decide (m.peak < p.markStrong), m.dir, m.building⟩

theorem endMark_forward {p : Profile} {m : Mark} {c : Nat} (fast : m.fast = false) (untallied : m.untallied = false) (order : m.first ≤ c)
    (least : p.widthMin ≤ c - m.first) (most : c - m.first ≤ p.widthMax) : endMark p m c = some (forwardSighting p m c) := by
  simp only [endMark, Nat.min_eq_left order, Nat.max_eq_right order]
  exact if_pos ⟨least, most, fast, untallied⟩

/-- The trailing edge of a usable mark is a sighting, with the detector ARMED (R48). -/
theorem countMark_ends {d : Dir} {m : Mark} {g : Sighting} {w : Ctx} (mark : w.st.mkd = .inMark m) (same : m.dir = d)
    (below : w.st.level < w.st.profile.markOff) (usable : endMark w.st.profile m w.st.trc.counter = some g)
    (inside : w.st.trc.overrun = 0) (tallied : Bool) :
    countMark d tallied w = takeSighting g (w.upd fun s => { s with mkd := .armed }) := by
  have low : ¬w.st.profile.markOff ≤ w.st.level := by omega
  simp only [countMark, sampleMark, mark, same, ne_eq, not_true_eq_false, if_false, if_neg low, usable, inside, lt_irrefl]
  rfl

/-- A forward sighting with the building flag and an index that is not shut is built. -/
theorem takeSighting_builds {g : Sighting} {w : Ctx} (verify : w.st.fit.verify = none) (flag : w.st.fit.building = true)
    (building : g.building = true) (forward : g.dir = .forward) (shut : w.st.indexShut = false) :
    takeSighting g w = buildSighting g w := by
  simp [takeSighting, verify, flag, building, forward, shut]

theorem buildSighting_first {g : Sighting} {w : Ctx} (empty : w.st.fit.entries = []) :
    buildSighting g w = buildEntries [observedEntry g.centre g.weak false] w.st.fit.p256 w := by
  have nowhere : w.st.frontierPos = none := by simp [State.frontierPos, empty]
  simp only [buildSighting, nowhere]

theorem first_mark_builds {m : Mark} {x : Sample} {s : State} (held : s.resetHeld = false) (loaded : s.trc.roll = .loaded)
    (mark : s.mkd = .inMark m) (forward : m.dir = .forward) (fast : m.fast = false) (untallied : m.untallied = false)
    (building : m.building = true) (moving : s.trc.motion.moving = true) (verified : s.trc.verified = true) (inside : s.trc.overrun = 0)
    (endless : s.trc.endPos = none) (room : s.trc.counter < 4194303) (index : s.fit.index = .empty) (empty : s.fit.entries = [])
    (verify : s.fit.verify = none)
    (below : (if s.profile.track = 0 then x.track0 else x.track1).toNat < s.profile.markOff) (order : m.first ≤ s.trc.counter + 1)
    (least : s.profile.widthMin ≤ s.trc.counter + 1 - m.first) (most : s.trc.counter + 1 - m.first ≤ s.profile.widthMax) :
    ∃ t, exec (.encoderCount .forward x) s = .next t ∧
      t.fit.entries =
        [⟨(roundQuot s.profile.rounding ((m.first + (s.trc.counter + 1) : Nat) : Int) 2).toNat, .observed,
          decide (m.peak < s.profile.markStrong), false, s.fit.splice, false, false⟩] ∧
      t.fit.index = .opened ∧ t.fit.p256 = s.fit.p256 ∧ t.fit.splice = false ∧ t.mkd = .armed ∧
      t.trc.counter = s.trc.counter + 1 := by
  have flagged : (tallied x s).fit.building = true := by
    simp [tallied, countBuilding, takeReading, index, moving, verified]
  obtain ⟨runs, flag⟩ := progress_runsOn (s := tallied x s) (by simpa using moving)
  rw [exec_encoderCount_tallied held loaded endless room]
  generalize after : (Ctx.start (tallied x s)).upd progress = w
  have st : w.st = progress (tallied x s) := by rw [← after]; rfl
  have profile : w.st.profile = s.profile := by simp [st, State.profile]
  have counter : w.st.trc.counter = s.trc.counter + 1 := by simp [st]
  have level : w.st.level = (if s.profile.track = 0 then x.track0 else x.track1).toNat := by
    have read : (tallied x s).level = (if s.profile.track = 0 then x.track0 else x.track1).toNat := by simp
    simpa [st, State.level, State.selectedTrack, State.profile] using read
  have usable : endMark w.st.profile m w.st.trc.counter = some (forwardSighting s.profile m (s.trc.counter + 1)) := by
    rw [profile, counter]
    exact endMark_forward fast untallied order least most
  rw [countMark_ends (by simp [st, mark]) forward (by rw [profile, level]; exact below) usable (by simp [st, inside])]
  generalize armed : w.upd _ = u
  have ust : u.st = { progress (tallied x s) with mkd := .armed } := by rw [← armed, ← st]; rfl
  have open' : u.st.indexShut = false := by simp [ust, State.indexShut, index]
  rw [takeSighting_builds (by simp [ust, verify]) (by rw [ust]; exact flag.trans flagged) building forward open',
    buildSighting_first (by simp [ust, empty])]
  obtain ⟨b, built, entries, -, -, splice, estimate⟩ := buildEntries_observed (forwardSighting s.profile m (s.trc.counter + 1)).centre
    (forwardSighting s.profile m (s.trc.counter + 1)).weak false u.st.fit.p256 (w := u) (by simp [ust, empty, Config.maxEntries])
  obtain ⟨goes, -⟩ := buildEntries_runsOn (w := u) (by rw [ust]; exact runs)
    [observedEntry (forwardSighting s.profile m (s.trc.counter + 1)).centre (forwardSighting s.profile m (s.trc.counter + 1)).weak false]
    u.st.fit.p256
  rw [count_ends (by simp [ust, loaded]) goes]
  refine ⟨_, rfl, ?_, ?_, ?_, ?_, by simp [ust], by simp [ust]⟩
  · simp only [finish_frame, frontierLimit_frame, built, entries]
    simp [ust, empty, forwardSighting]
  · simp only [finish_frame, frontierLimit_frame, buildEntries_index]
    rw [if_neg]
    simp [makeEntries_length, ust, empty]
  · simp only [finish_frame, frontierLimit_frame, built, estimate]
    simp [ust]
  · simp only [finish_frame, frontierLimit_frame, built, splice]

end Sys2Proof.Machine
end

section
/-! SUPPORT. Re-sync and VERIFY: what a sighting that is not built does (R69 to R74, R78). -/

namespace Sys2Proof.Machine

/-! ### Which way a sighting goes -/

section way
variable {g : Sighting} {w : Ctx}

theorem takeSighting_resync (verify : w.st.fit.verify = none) (verified : w.st.trc.verified = true)
    (other : w.st.fit.building = false ∨ g.building = false ∨ g.dir = .reverse ∨ w.st.fit.index = .full ∨ w.st.fit.index = .closed) :
    takeSighting g w = resync g w := by
  have unbuilt : (w.st.fit.building && g.building && decide (g.dir = .forward) && !w.st.indexShut) = false := by
    rcases other with h | h | h | h | h <;> simp [h, State.indexShut]
  simp [takeSighting, verify, verified, unbuilt]

theorem takeSighting_discards (verify : w.st.fit.verify = none) (unverified : w.st.trc.verified = false)
    (unbuilt : w.st.fit.building = false) : takeSighting g w = w := by
  simp [takeSighting, verify, unverified, unbuilt]

theorem takeSighting_verifies {v : Verify} (verify : w.st.fit.verify = some v) (hit : v.hit = false) :
    takeSighting g w = verifySighting v g w := by
  simp [takeSighting, verify, hit]

end way

/-! ### The nearest entry (R70, R78) -/

theorem absDiff_natAbs (a b : Nat) : absDiff a b = ((a : Int) - b).natAbs := by
  unfold absDiff
  omega

theorem nearestEntry_of_nearestIs {s : State} {ok : Entry → Bool} {c n : Nat} {e : Entry} (nearest : s.nearestIs ok c n e) :
    nearestEntry ok (fun e => absDiff c e.pos) s.fit.entries 0 none = some (n, ((c : Int) - e.pos).natAbs) := by
  obtain ⟨there, admitted, least⟩ := nearest
  rw [← absDiff_natAbs]
  exact nearestEntry_eq_some.mpr ⟨⟨e, there, admitted, rfl⟩, least⟩

/-- The correction of a sighting whose mark lies `d` from its entry (R71). -/
def corrected (d : Int) (s : State) : State := { applyCorrection (-d) s with trc.slip := 0 }

theorem resync_nearest {g : Sighting} {n : Nat} {e : Entry} {w : Ctx} (nearest : w.st.nearestIs (fun _ => true) g.centre n e) :
    resync g w =
      if ((g.centre : Int) - e.pos).natAbs ≤ w.st.profile.window then
        if e.isAnchor then w.upd (corrected ((g.centre : Int) - e.pos)) else w.upd (confirmEntry n g)
      else if 512 * ((g.centre : Int) - e.pos).natAbs < w.st.fit.p256 then slipAt n ((g.centre : Int) - e.pos) w
      else w := by
  have found := nearestEntry_of_nearestIs nearest
  obtain ⟨there, -⟩ := nearest
  simp only [resync, found, there]
  rfl

theorem resync_empty {g : Sighting} {w : Ctx} (empty : w.st.fit.entries = []) : resync g w = w := by
  simp [resync, empty, nearestEntry]

/-! ### The three classes (R71 to R74) -/

theorem applyCorrection_counter (d : Int) (s : State) : (applyCorrection d s).trc.counter = s.clampPos ((s.trc.counter : Int) + d) := by
  simp [applyCorrection]

section classes
variable {n : Nat} {d : Int} {s : State}

theorem corrected_fields (d : Int) (s : State) :
    ((corrected d s).trc.counter : Int) = max 0 (min ((s.trc.endPos.getD 4194303 : Nat) : Int) (s.trc.counter - d)) ∧
    (corrected d s).trc.slip = 0 ∧ (corrected d s).trc.verified = s.trc.verified ∧ (corrected d s).trc.epoch = s.trc.epoch ∧
    (corrected d s).fit.entries = s.fit.entries ∧ (corrected d s).gtu = s.gtu ∧ (corrected d s).rqt = s.rqt := by
  refine ⟨?_, rfl, by simp [corrected], by simp [corrected], by simp [corrected], by simp [corrected], by simp [corrected]⟩
  rw [Int.sub_eq_add_neg, ← clampPos_int, ← applyCorrection_counter]
  rfl

theorem clearBelow_iff {m : Nat} : s.clearBelow n m = true ↔
    ∀ b, 0 < n → s.fit.entries[n - 1]? = some b → b.pos + (s.profile.pitchMin + 1) / 2 ≤ m := by
  cases n with
  | zero => simp [State.clearBelow]
  | succ k =>
    cases at' : s.fit.entries[k]? with
    | none => simp [State.clearBelow, at']
    | some b =>
      simp only [State.clearBelow, State.minGap, at', Nat.add_sub_cancel, Nat.succ_pos, true_imp_iff, Option.some.injEq, forall_eq']
      exact decide_eq_true_iff

theorem clearAbove_iff {m : Nat} : s.clearAbove n m = true ↔
    ∀ b, s.fit.entries[n]? = some b → m + (s.profile.pitchMin + 1) / 2 ≤ b.pos := by
  cases at' : s.fit.entries[n]? with
  | none => simp [State.clearAbove, at']
  | some b =>
    simp only [State.clearAbove, State.minGap, at', Option.some.injEq, forall_eq']
    exact decide_eq_true_iff

theorem modify_eq_set {l : List Entry} {e : Entry} (there : l[n]? = some e) (f : Entry → Entry) : l.modify n f = l.set n (f e) := by
  obtain ⟨inside, rfl⟩ := List.getElem?_eq_some_iff.mp there
  refine List.ext_getElem? fun j => ?_
  rw [List.getElem?_modify, List.getElem?_set]
  by_cases same : n = j
  · subst same
    simp [inside]
  · simp [same]

theorem confirmEntry_clear {g : Sighting} {e : Entry} (there : s.fit.entries[n]? = some e) (below : s.clearBelow n g.centre = true)
    (above : s.clearAbove (n + 1) g.centre = true) :
    (confirmEntry n g s).fit.entries = s.fit.entries.set n { e with pos := g.centre, kind := .observed, weak := g.weak } ∧
    (confirmEntry n g s).trc.counter = s.trc.counter ∧ (confirmEntry n g s).trc.slip = s.trc.slip ∧
    (confirmEntry n g s).trc.verified = s.trc.verified := by
  refine ⟨?_, by simp, by simp, by simp⟩
  simp only [confirmEntry, below, above, Bool.and_self, if_true, retargetConfirmed_frame]
  exact modify_eq_set there fun e => { e with pos := g.centre, kind := .observed, weak := g.weak }

theorem confirmEntry_crowded {g : Sighting} (crowded : s.clearBelow n g.centre = false ∨ s.clearAbove (n + 1) g.centre = false) :
    confirmEntry n g s = s := by
  rcases crowded with h | h <;> simp [confirmEntry, h]

end classes

/-! ### The position lost (R73, R75) -/

/-- The position is unverified, with no slip counted and no building. -/
def State.adrift (s : State) : Prop :=
  s.trc.verified = false ∧ s.trc.slip = 0 ∧ s.fit.building = false ∧ s.ntu.levels.unverified = true

/-- What is known of the position stays: whether it is verified, the slips and their level; and no building begins. -/
def State.samePosition (s t : State) : Prop :=
  t.trc.verified = s.trc.verified ∧ t.trc.slip = s.trc.slip ∧ t.ntu.levels.unverified = s.ntu.levels.unverified ∧
  (s.fit.building = false → t.fit.building = false)

theorem State.samePosition.refl (s : State) : s.samePosition s := ⟨rfl, rfl, rfl, id⟩

theorem State.samePosition.trans {s t u : State} (first : s.samePosition t) (next : t.samePosition u) : s.samePosition u := by
  obtain ⟨verified, slip, level, building⟩ := first
  obtain ⟨verified', slip', level', building'⟩ := next
  exact ⟨verified'.trans verified, slip'.trans slip, level'.trans level, building' ∘ building⟩

theorem State.adrift.of_same {s t : State} (h : s.adrift) (same : s.samePosition t) : t.adrift := by
  obtain ⟨unverified, none', idle, up⟩ := h
  obtain ⟨verified, slip, level, building⟩ := same
  exact ⟨verified.trans unverified, slip.trans none', building idle, level.trans up⟩

/-- A stop order takes no fault: it stops no VERIFY move that has not matched. -/
def State.calm (s : State) : Prop := s.rqt.grant = .verify → ∃ v, s.fit.verify = some v ∧ v.hit = true

theorem disposeStopped_position {w : Ctx} (calm : w.st.calm) : w.st.samePosition (disposeStopped w).st := by
  unfold disposeStopped
  split
  · exact .refl _
  · exact ⟨by simp, by simp, by simp, fun h => by simp [h]⟩
  · exact ⟨by simp, by simp, by simp, fun h => by simp [h]⟩
  case _ granted =>
    obtain ⟨v, verify, hit⟩ := calm granted
    simp only [verify, hit, Bool.true_or, if_true]
    exact ⟨rfl, rfl, rfl, id⟩

theorem setMotion_position (x : Motion) (s : State) : s.samePosition (setMotion x s) := ⟨rfl, rfl, rfl, fun h => by simp [setMotion, h]⟩

theorem orderStop_position {w : Ctx} (calm : w.st.calm) (r : StopReason) : w.st.samePosition (orderStop r w).st := by
  unfold orderStop
  split
  · exact .refl _
  · split
    · exact .refl _
    · split
      case _ | _ | _ | _ => exact setMotion_position .decel w.st
      · exact (setMotion_position .idle w.st).trans (disposeStopped_position (w := w.upd fun s => { moveOver s with rqt.stopReason := r })
          (by simpa [State.calm] using calm))
      · exact disposeStopped_position (w := w.upd fun s => { s with trc.move := none, rqt.stopReason := r }) calm
      all_goals exact .refl _

theorem unverifiedGrant_adrift {w : Ctx} (h : w.st.adrift) : (unverifiedGrant w).st.adrift := by
  unfold unverifiedGrant
  split
  · exact h
  · exact h
  case _ granted | _ granted =>
    have stops : (orderStop .unverified w).st.adrift := h.of_same (orderStop_position (fun other => by simp [granted] at other) _)
    split
    · exact h.of_same ⟨by simp, by simp, by simp, fun idle => by simp [idle]⟩
    · split
      · split
        case _ | _ | _ => exact stops
        all_goals exact h
      · exact h

theorem becomeUnverified_adrift {w : Ctx} (verified : w.st.trc.verified = true) (reason : Byte) : (becomeUnverified reason w).st.adrift := by
  unfold becomeUnverified
  rw [if_pos verified]
  refine unverifiedGrant_adrift ?_
  rw [setLevel_st]
  exact ⟨rfl, rfl, rfl, rfl⟩

/-! ### Slips (R73) -/

theorem slipAt_announces (n : Nat) (d : Int) (w : Ctx) (p : Port) :
    (⟨.slip, p, pad8 (be 2 n ++ beInt 2 d ++ be 2 (w.st.trc.slip + 1))⟩ : Occ) ∈ (slipAt n d w).occs := by
  have grows (u : Ctx) : u.Grows [] (becomeUnverified 1 u) := becomeUnverified_grows u 1
  unfold slipAt
  extract_lets k u
  have told : (⟨.slip, p, pad8 (be 2 n ++ beInt 2 d ++ be 2 k)⟩ : Occ) ∈ u.occs := by
    cases p <;> simp [u, pulseAll]
  split
  · exact (grows u).mem_occs told
  · exact told

theorem slipAt_few {n : Nat} {d : Int} {w : Ctx} (few : w.st.trc.slip < 2) :
    (slipAt n d w).st = { w.st with trc.slip := w.st.trc.slip + 1 } := by
  simp only [slipAt]
  rw [if_neg (by omega), pulseAll_st]
  rfl

theorem slipAt_third {n : Nat} {d : Int} {w : Ctx} (verified : w.st.trc.verified = true) (many : 2 ≤ w.st.trc.slip) :
    (slipAt n d w).st.adrift := by
  simp only [slipAt]
  rw [if_pos (by omega)]
  exact becomeUnverified_adrift (by simpa using verified) 1

/-! ### VERIFY (R78) -/

theorem verifySighting_far {v : Verify} {g : Sighting} {n : Nat} {e : Entry} {w : Ctx} (nearest : w.st.nearestIs Entry.isAnchor g.centre n e)
    (far : w.st.fit.p256 ≤ 512 * ((g.centre : Int) - e.pos).natAbs) : verifySighting v g w = w := by
  have found := nearestEntry_of_nearestIs nearest
  obtain ⟨there, -⟩ := nearest
  simp only [verifySighting, found, there]
  exact if_neg (by omega)

theorem verifySighting_anchorless {v : Verify} {g : Sighting} {w : Ctx} (filled : ∀ e ∈ w.st.fit.entries, e.kind = .filled) :
    verifySighting v g w = w := by
  have nothing := (nearestEntry_eq_none (ok := Entry.isAnchor) (dist := fun e => absDiff g.centre e.pos) (l := w.st.fit.entries)).mpr
    fun e mem => by simp [Entry.isAnchor, filled e mem]
  simp only [verifySighting, nothing]

/-- The part after a hit of a VERIFY move, before its stop order. -/
def verifiedAt (v : Verify) (d : Int) (w : Ctx) : Ctx :=
  setVerified 3 (w.upd fun s => { corrected d s with fit.verify := some { v with hit := true } })

theorem verifySighting_near {v : Verify} {g : Sighting} {n : Nat} {e : Entry} {w : Ctx} (nearest : w.st.nearestIs Entry.isAnchor g.centre n e)
    (near : 512 * ((g.centre : Int) - e.pos).natAbs < w.st.fit.p256) :
    verifySighting v g w = orderStop .matched (verifiedAt v ((g.centre : Int) - e.pos) w) := by
  have found := nearestEntry_of_nearestIs nearest
  obtain ⟨there, -⟩ := nearest
  simp only [verifySighting, found, there]
  rw [if_pos near]
  simp only [verifiedAt, corrected, Int.neg_sub]

theorem verifiedAt_fields (v : Verify) (d : Int) (w : Ctx) :
    (verifiedAt v d w).st.trc.verified = true ∧ (verifiedAt v d w).st.trc.slip = 0 ∧
    (verifiedAt v d w).st.ntu.levels.unverified = false ∧ (verifiedAt v d w).st.fit.verify = some { v with hit := true } ∧
    (verifiedAt v d w).st.trc.counter = (corrected d w.st).trc.counter ∧ (verifiedAt v d w).st.fit.entries = w.st.fit.entries ∧
    (verifiedAt v d w).st.trc.move = (applyCorrection (-d) w.st).trc.move ∧
    (verifiedAt v d w).st.trc.motion = (applyCorrection (-d) w.st).trc.motion := by
  refine ⟨by simp [verifiedAt, setVerified], by simp [verifiedAt, corrected], ?_, by simp [verifiedAt], by simp [verifiedAt], by simp [verifiedAt, corrected],
    by simp [verifiedAt, corrected], by simp [verifiedAt, corrected]⟩
  simp only [verifiedAt, setVerified, setLevel_st]
  rfl

/-- A hit verifies the position at its correction. -/
theorem verify_hits (v : Verify) (d : Int) (s : State) :
    let t := (orderStop .matched (verifiedAt v d (Ctx.start s))).st
    t.trc.verified = true ∧ t.trc.slip = 0 ∧ t.ntu.levels.unverified = false ∧
    (t.trc.counter : Int) = max 0 (min ((s.trc.endPos.getD 4194303 : Nat) : Int) (s.trc.counter - d)) ∧
    t.fit.entries = s.fit.entries := by
  obtain ⟨verified, slip, level, verify, counter, entries, -⟩ := verifiedAt_fields v d (Ctx.start s)
  obtain ⟨verified', slip', level', -⟩ :=
    orderStop_position (w := verifiedAt v d (Ctx.start s)) (fun _ => ⟨_, verify, rfl⟩) .matched
  obtain ⟨place, -⟩ := corrected_fields d s
  refine ⟨verified'.trans verified, slip'.trans slip, level'.trans level, ?_, by simpa using entries⟩
  rw [← place]
  simpa using counter

/-- A hit of a moving film gives the stop order MATCHED. -/
theorem verify_hit_stops {m : Move} {s : State} (move : s.trc.move = some m) (ramp : m.ramp ≠ .stop) (job : m.job = .verify)
    (moving : s.trc.motion.moving = true) (v : Verify) (d : Int) :
    let t := (orderStop .matched (verifiedAt v d (Ctx.start s))).st
    t.fit.verify = some { v with hit := true } ∧ t.trc.motion = .decel ∧ t.rqt.stopReason = .matched ∧
      ∃ n, t.trc.move = some n ∧ n.ramp = .stop ∧ n.job = .verify := by
  obtain ⟨-, -, -, verify, -, -, moves, motion⟩ := verifiedAt_fields v d (Ctx.start s)
  have unstopped := applyCorrection_unstopped (unstopped_of_move move ramp) (-d)
  obtain ⟨n, going, kind⟩ : ∃ n, (applyCorrection (-d) s).trc.move = some n ∧ n.job = .verify := by
    have same : (applyCorrection (-d) s).job = some .verify := by rw [applyCorrection_job, job_of_move move, job]
    simpa [State.job] using same
  rw [orderStop_moving (moves.trans going) (unstopped n going) (by rw [motion]; exact (applyCorrection_runsOn moving _).1)]
  exact ⟨by simp [verify], by simp, by simp, { n with ramp := .stop }, by simp, rfl, kind⟩

end Sys2Proof.Machine
end

section
/-! Sightings (R46 to R50, R55, R59 to R62, R69 to R78), and O39. -/

namespace Sys2Proof.Machine

section resync
variable {g : Sighting} {n : Nat} {e : Entry} {d : Int} {s : State}
  (resyncs : takeSighting g (Ctx.start s) = resync g (Ctx.start s)) (nearest : s.nearestIs (fun _ => true) g.centre n e)
  (away : d = (g.centre : Int) - e.pos)
include resyncs nearest away

theorem sighting_matches_anchor (verified : s.trc.verified = true) (near : d.natAbs ≤ s.profile.window) (anchor : e.kind ≠ .filled) :
    ∃ t, (takeSighting g (Ctx.start s)).st = t ∧
      (t.trc.counter : Int) = max 0 (min ((s.trc.endPos.getD 4194303 : Nat) : Int) (s.trc.counter - d)) ∧
      t.trc.slip = 0 ∧ t.trc.verified = true ∧ t.trc.epoch = s.trc.epoch ∧ t.fit.entries = s.fit.entries ∧
      t.gtu = s.gtu ∧ t.rqt = s.rqt := by
  subst away
  obtain ⟨counter, slip, same, epoch, entries, gtu, rqt⟩ := corrected_fields ((g.centre : Int) - e.pos) s
  rw [resyncs, resync_nearest nearest, if_pos (by exact near), if_pos (by simp [Entry.isAnchor, anchor])]
  exact ⟨_, rfl, counter, slip, same.trans verified, epoch, entries, gtu, rqt⟩

theorem sighting_matches_filled (near : d.natAbs ≤ s.profile.window) (filled : e.kind = .filled) :
    takeSighting g (Ctx.start s) = (Ctx.start s).upd (confirmEntry n g) := by
  subst away
  rw [resyncs, resync_nearest nearest, if_pos (by exact near), if_neg (by simp [Entry.isAnchor, filled])]

theorem sighting_slips (far : s.profile.window < d.natAbs) (near : 512 * d.natAbs < s.fit.p256) :
    takeSighting g (Ctx.start s) = slipAt n d (Ctx.start s) := by
  subst away
  rw [resyncs, resync_nearest nearest, if_neg (by exact not_le.mpr far), if_pos (by exact near)]

theorem sighting_discarded (out : s.profile.window < d.natAbs) (far : s.fit.p256 ≤ 512 * d.natAbs) :
    takeSighting g (Ctx.start s) = Ctx.start s := by
  subst away
  rw [resyncs, resync_nearest nearest, if_neg (by exact not_le.mpr out), if_neg (by exact not_lt.mpr far)]

theorem filled_confirmed (verified : s.trc.verified = true) (near : d.natAbs ≤ s.profile.window) (filled : e.kind = .filled)
    (below : ∀ b, 0 < n → s.fit.entries[n - 1]? = some b → b.pos + (s.profile.pitchMin + 1) / 2 ≤ g.centre)
    (above : ∀ b, s.fit.entries[n + 1]? = some b → g.centre + (s.profile.pitchMin + 1) / 2 ≤ b.pos) :
    ∃ t, (takeSighting g (Ctx.start s)).st = t ∧
      t.fit.entries = s.fit.entries.set n { e with pos := g.centre, kind := .observed, weak := g.weak } ∧
      t.trc.counter = s.trc.counter ∧ t.trc.slip = s.trc.slip ∧ t.trc.verified = true := by
  rw [sighting_matches_filled resyncs nearest away near filled]
  obtain ⟨entries, counter, slip, same⟩ := confirmEntry_clear nearest.1 (clearBelow_iff.mpr below) (clearAbove_iff.mpr above)
  exact ⟨_, rfl, entries, counter, slip, same.trans verified⟩

theorem filled_crowded (near : d.natAbs ≤ s.profile.window) (filled : e.kind = .filled)
    (crowded : (∃ b, 0 < n ∧ s.fit.entries[n - 1]? = some b ∧ g.centre < b.pos + (s.profile.pitchMin + 1) / 2) ∨
      (∃ b, s.fit.entries[n + 1]? = some b ∧ b.pos < g.centre + (s.profile.pitchMin + 1) / 2)) :
    takeSighting g (Ctx.start s) = Ctx.start s := by
  have stays : confirmEntry n g s = s := by
    refine confirmEntry_crowded ?_
    rcases crowded with ⟨b, some', there, close⟩ | ⟨b, there, close⟩
    · refine .inl (Bool.eq_false_iff.mpr fun clear => ?_)
      exact absurd (clearBelow_iff.mp clear b some' there) (by omega)
    · refine .inr (Bool.eq_false_iff.mpr fun clear => ?_)
      exact absurd (clearAbove_iff.mp clear b there) (by omega)
  rw [sighting_matches_filled resyncs nearest away near filled]
  exact congrArg (Ctx.mk · [] []) stays

theorem slip_counts (verified : s.trc.verified = true) (out : s.profile.window < d.natAbs) (near : 512 * d.natAbs < s.fit.p256) :
    ∃ w t, takeSighting g (Ctx.start s) = w ∧ w.st = t ∧ t.trc.counter = s.trc.counter ∧ t.fit.entries = s.fit.entries ∧
      (∀ p, (⟨.slip, p, pad8 (be 2 n ++ beInt 2 d ++ be 2 (s.trc.slip + 1))⟩ : Occ) ∈ w.occs) ∧
      (s.trc.slip < 2 → t.trc.slip = s.trc.slip + 1 ∧ t.trc.verified = true ∧ t.rqt = s.rqt ∧ t.gtu = s.gtu) ∧
      (2 ≤ s.trc.slip → t.trc.slip = 0 ∧ t.trc.verified = false ∧ t.fit.building = false ∧ t.ntu.levels.unverified = true) := by
  rw [sighting_slips resyncs nearest away out near]
  refine ⟨_, _, rfl, rfl, by simp, by simp, slipAt_announces n d (Ctx.start s), fun few => ?_, fun many => ?_⟩
  · rw [slipAt_few (w := Ctx.start s) few]
    exact ⟨rfl, verified, rfl, rfl⟩
  · obtain ⟨unverified, cleared, idle, level⟩ := slipAt_third (n := n) (d := d) (w := Ctx.start s) verified many
    exact ⟨cleared, unverified, idle, level⟩

end resync

/-- Settles O39: a mark begins with its count (`armed_counts`), the first mark and a gap build entries (`first_mark_builds`,
`gap_builds`), other sightings go by the distance of the nearest entry (`resync_nearest`), and a VERIFY move ends at a hit
(`verify_hit_stops`) or at its limit (`verify_meets_limit`). -/
theorem sightingsBuildConfirmAndCorrect : Obligations.SightingsBuildConfirmAndCorrect := by
  refine ⟨fun d x s held loaded armed moving => armed_counts d x held loaded armed moving,
    fun m x s held loaded mark forward fast untallied building moving verified inside endless room index empty verify below order
      least most => first_mark_builds held loaded mark forward fast untallied building moving verified inside endless room index empty
        verify below order least most,
    fun g l k i s _ frontier interval estimate gap frames few room moving =>
      gap_builds frontier interval estimate gap frames few room moving,
    fun g s verify => ⟨fun verified other => ?_, fun unverified unbuilt => takeSighting_discards verify unverified unbuilt⟩,
    ⟨fun g v s verify hit => ⟨fun n e d nearest away => ?_, fun filled => ?_⟩,
    fun v m l x s held loaded armed below verify limit hit frontier move ramp job moving endless room past =>
      verify_meets_limit held loaded armed below verify limit hit frontier move ramp job moving endless room past⟩⟩
  · have resyncs := takeSighting_resync (g := g) (w := Ctx.start s) verify verified other
    refine ⟨fun empty => resyncs.trans (resync_empty empty), fun n e d nearest away => ⟨?_, ?_, ?_, ?_⟩⟩
    · exact sighting_matches_anchor resyncs nearest away verified
    · exact fun near filled => ⟨filled_confirmed resyncs nearest away verified near filled, filled_crowded resyncs nearest away near filled⟩
    · exact slip_counts resyncs nearest away verified
    · exact sighting_discarded resyncs nearest away
  · rw [takeSighting_verifies (w := Ctx.start s) verify hit]
    subst away
    refine ⟨fun near => ?_, verifySighting_far (w := Ctx.start s) nearest⟩
    rw [verifySighting_near (w := Ctx.start s) nearest near]
    obtain ⟨verified, slip, level, counter, entries⟩ := verify_hits v ((g.centre : Int) - e.pos) s
    exact ⟨_, rfl, verified, slip, level, counter, entries, fun m move ramp job moving => verify_hit_stops move ramp job moving v _⟩
  · rw [takeSighting_verifies (w := Ctx.start s) verify hit]
    exact verifySighting_anchorless filled

end Sys2Proof.Machine
end
